-- ==== Sys2Proof/Config.lean ====
section
/-! DEFINITION. What the spec gives no value for, as constants without a body: the keys that are fused or derived from fuses
(R429 to R431), what is measured, the times of gated work, what other modules of a set answer and add, page-table roots that firmware
registered, and the engine state of replay words. Nothing in Lean can evaluate them or prove a value of them. -/

namespace Sys2Proof.Config

/-- R429: the fused vendor public key of ECDSA, its two coordinates (log 7, DESIGN CHOICE). -/
opaque vendorKey : Nat × Nat

/-- R429: the fused vendor public key of LMS, 48 bytes (log 7, DESIGN CHOICE). -/
opaque vendorLms : List Byte

/-- R431: the per-message secret number of a quote's signature (log 7, DESIGN CHOICE). -/
opaque quoteNonce : Nat → Nat

/-- R402: what a cluster's crazing monitors have measured by a tick: RODELTA, SLACK, how many measurements since boot (log 3, DESIGN CHOICE). -/
opaque crazing : Nat → Nat → Nat → Nat × Nat × Nat

/-- R361: the cones that the activity counters and the fabric attribute to a launch's tasks in the 10 µs before a tick
(log 65, DESIGN CHOICE). -/
opaque launchEnergy : Nat → Nat → Nat

/-- IEEE 754-2019 leaves open whether a fused multiply-add of 0, an infinity and a quiet NaN signals invalid, and R88
follows it: the model takes whichever this constant says (log 8, DESIGN CHOICE). -/
opaque fmaQuietInvalid : Bool

/-- How many ticks a request takes to its home beyond one: the spec fixes no time for gated work (log 4, DESIGN CHOICE). -/
opaque homeDelay : Nat → Nat

/-- How many ticks an answer takes back to its issuer beyond one (log 4, DESIGN CHOICE). -/
opaque responseDelay : Nat → Nat

/-- How many ticks a page walk takes beyond one (log 4, DESIGN CHOICE). -/
opaque walkDelay : Nat → Nat

/-- R242: the OP code of a kind of request: the spec gives no codes (log 60, DESIGN CHOICE). -/
opaque opCode : Nat → Byte

/-- R242: the kind of request an OP code names, 0 for none (log 60, DESIGN CHOICE). -/
opaque opKind : Byte → Nat

/-- R242: the size code of a number of bytes (log 60, DESIGN CHOICE). -/
opaque sizeCode : Nat → BitVec 4

/-- R242: how many bytes a size code names (log 60, DESIGN CHOICE). -/
opaque sizeOf : BitVec 4 → Nat

/-- R242: a slot's auxiliary bytes for the fields it carries: the spec gives their places to none (log 60, DESIGN CHOICE). -/
opaque auxBits : List Nat → BitVec 96

/-- R242: field `i` of a slot's auxiliary bytes (log 60, DESIGN CHOICE). -/
opaque auxField : BitVec 96 → Nat → Nat

/-- R327: which of the ports to a module a target is reached through (log 59, DESIGN CHOICE). -/
opaque portPick : Nat → Nat → Nat

/-- R319: a packet is lost with a link that fails (log 59, DESIGN CHOICE). -/
opaque lostWith : Nat → Nat → Bool

/-- R318: the error of a formation's measurement of the set root's TICK (log 31, DEDUCED). -/
opaque offsetError : Nat → Int

/-- R430: the private key that the device derives from its fused secret (log 7, DESIGN CHOICE). -/
opaque identityKey : Nat

/-- Byte `i` of what a request to another module of the connected set reads there (log 11, DESIGN CHOICE). -/
opaque peerByte : Nat → Nat → Byte

/-- The cause, 0 when performed, with which another module answers a request (log 11, DESIGN CHOICE). -/
opaque peerCause : Nat → Byte

/-- How another module's NMU answers a lock packet: a grant (0), a cause, BUSY, PARK or CANCELLED (log 11, DESIGN CHOICE). -/
opaque peerLock : Nat → Nat

/-- What the participants on other modules add to a monitor's total at a level-5 barrier (log 11, DESIGN CHOICE). -/
opaque peerSum : Nat → Nat → Int

/-- Whether those participants closed a monitor (0), and whether what they add carries SPEC (1) or OVF (2) (log 11, DESIGN CHOICE). -/
opaque peerFlag : Nat → Nat → Nat → Bool

/-- The lowest CID among the participants on other modules of a level-5 phase (log 11, DESIGN CHOICE). -/
opaque peerCid : Nat → Nat

/-- R243: the PA of the page-table root of an address space for which the state lists none (log 17, DESIGN CHOICE). -/
opaque tableRoot : Nat → Nat

/-- R359: how many ticks beyond one pass from a launch's admission to the release of its start barrier (log 4, DESIGN CHOICE). -/
opaque startDelay : Nat → Nat

/-- R363: where in its home site, in sectors, firmware has reserved a core's save block (log 63, DESIGN CHOICE). -/
opaque saveBlock : Nat → Nat

/-- R364, R366: the origin, column and row, at which the controller seats again a launch whose tasks are all swapped out, by the
origin it had (log 63, DESIGN CHOICE). -/
opaque regionPick : Nat → Nat → Nat → Nat × Nat

/-- R369: what is written as the launch id of a request that gives no launch (log 45, DEDUCED). -/
opaque noLaunchId : Nat → Word

/-- R380: words 21 to 31 of a replay entry, engine state in a form the spec does not lay out: by entry and word (log 14, DESIGN CHOICE). -/
opaque engineState : Nat → Nat → Word

/-- R413: how many records of a die's trace FIFO the debug agent copies in a cycle that ends at a tick (log 37, DESIGN CHOICE). -/
opaque traceTaken : Nat → Nat → Nat

/-- R413: the PA of the buffer that host software has named for a die's trace records, none for none (log 37, DESIGN CHOICE). -/
opaque traceBuffer : Nat → Option Nat

/-- R413: the 32 bytes of a trace record, by its fields: the spec gives their places to none (log 37, DESIGN CHOICE). -/
opaque traceBytes : List Nat → BitVec 256

end Sys2Proof.Config
end

