-- ==== Sys2Proof/Syntax.lean ====
section
/-! DEFINITION. The instructions of the K400: one constructor for each row of spec/opcode_table.json, in the table's order
(the rows without operands last: Lean's runtime numbers only the first 245 constructors that have any).
Rows that a word encodes carry that word's fields under the spec's names; rows of engine entries act on the head of
an engine's queue; event rows carry what identifies the thing they happen to. -/

namespace Sys2Proof

/-- What the loader's environment supplies for an image load, because the image's layout (R352) gives no place for it:
the base VA it chooses (R354 step 2), the data image's size, each symbol of the symbol table (an offset in `.data`, or the number of
the global name it is imported by), the image's `.global` names (number, whether the value is an offset in `.data`, value),
the `.data` bytes, the circuit slices (die, words), the VA the loaded image is published at, whether there
is space for it, and how many entries the equivalence-point table has. -/
structure ImageParts where
  base : Nat
  dataSize : Nat
  symbols : List (Bool × Nat)
  exports : List (Nat × Bool × Nat)
  data : List (BitVec 8)
  slices : List (Nat × List (BitVec 32))
  va : Nat
  space : Bool
  points : Nat
deriving DecidableEq, Repr

/-- One constructor for each row of the opcode table. -/
inductive Instr where
  /-- ADD (R109): Adds two scalar registers, with wrapping, 32-bit or saturating forms selected by subop. -/
  | add (sd : BitVec 5) (sa : BitVec 5) (sb : BitVec 5) (g : BitVec 4) (u : BitVec 2)
  /-- SUB (R109): Subtracts two scalar registers, with wrapping, 32-bit or saturating forms. -/
  | sub (sd : BitVec 5) (sa : BitVec 5) (sb : BitVec 5) (g : BitVec 4) (u : BitVec 2)
  /-- MUL (R109): Writes the low 64 bits, or the sign-extended low 32 bits, of a product. -/
  | mul (sd : BitVec 5) (sa : BitVec 5) (sb : BitVec 5) (g : BitVec 4) (u : BitVec 1)
  /-- MULH (R109): Writes the high 64 bits of a signed, unsigned or mixed 128-bit product. -/
  | mulh (sd : BitVec 5) (sa : BitVec 5) (sb : BitVec 5) (g : BitVec 4) (u : BitVec 2)
  /-- DIV (R110): Divides with truncation toward zero; division by zero gives all ones and no fault. -/
  | div (sd : BitVec 5) (sa : BitVec 5) (sb : BitVec 5) (g : BitVec 4) (u : BitVec 1)
  /-- REM (R110): Writes the remainder of a truncating division, with the dividend's sign. -/
  | rem (sd : BitVec 5) (sa : BitVec 5) (sb : BitVec 5) (g : BitVec 4) (u : BitVec 1)
  /-- AND (R109): Bitwise AND of two scalar registers. -/
  | and (sd : BitVec 5) (sa : BitVec 5) (sb : BitVec 5) (g : BitVec 4)
  /-- OR (R109): Bitwise OR of two scalar registers. -/
  | or (sd : BitVec 5) (sa : BitVec 5) (sb : BitVec 5) (g : BitVec 4)
  /-- XOR (R109): Bitwise XOR of two scalar registers. -/
  | xor (sd : BitVec 5) (sa : BitVec 5) (sb : BitVec 5) (g : BitVec 4)
  /-- SHL (R109): Shifts left by a register amount, 64- or 32-bit. -/
  | shl (sd : BitVec 5) (sa : BitVec 5) (sb : BitVec 5) (g : BitVec 4) (u : BitVec 1)
  /-- SHR (R109): Logical right shift by a register amount. -/
  | shr (sd : BitVec 5) (sa : BitVec 5) (sb : BitVec 5) (g : BitVec 4) (u : BitVec 1)
  /-- SRA (R109): Arithmetic right shift by a register amount. -/
  | sra (sd : BitVec 5) (sa : BitVec 5) (sb : BitVec 5) (g : BitVec 4) (u : BitVec 1)
  /-- MIN (R109): Writes the smaller of two registers, signed or unsigned. -/
  | min (sd : BitVec 5) (sa : BitVec 5) (sb : BitVec 5) (g : BitVec 4) (u : BitVec 1)
  /-- MAX (R109): Writes the larger of two registers, signed or unsigned. -/
  | max (sd : BitVec 5) (sa : BitVec 5) (sb : BitVec 5) (g : BitVec 4) (u : BitVec 1)
  /-- CLZ (R109): Counts leading zeros of a 64- or 32-bit value. -/
  | clz (sd : BitVec 5) (sa : BitVec 5) (g : BitVec 4) (u : BitVec 1)
  /-- POPC (R109): Counts set bits of a 64- or 32-bit value. -/
  | popc (sd : BitVec 5) (sa : BitVec 5) (g : BitVec 4) (u : BitVec 1)
  /-- SEL (R111): Selects sa or sb according to a named predicate. -/
  | sel (sd : BitVec 5) (sa : BitVec 5) (sb : BitVec 5) (g : BitVec 4) (n : BitVec 3)
  /-- CMP (R112): Compares two registers and writes the result to a predicate. -/
  | cmp (pd : BitVec 3) (sa : BitVec 5) (sb : BitVec 5) (g : BitVec 4) (w : BitVec 1) (cond : BitVec 3)
  /-- PLOG (R113): Combines two predicates by a logical operation into a third. -/
  | plog (pd : BitVec 3) (pa : BitVec 3) (pb : BitVec 3) (g : BitVec 4) (op : BitVec 5)
  /-- ADDI (R114): Adds a sign-extended 10-bit immediate to a register. -/
  | addi (sd : BitVec 5) (sa : BitVec 5) (g : BitVec 4) (imm : BitVec 10)
  /-- ANDI (R114): ANDs a register with a sign-extended immediate. -/
  | andi (sd : BitVec 5) (sa : BitVec 5) (g : BitVec 4) (imm : BitVec 10)
  /-- ORI (R114): ORs a register with a zero-extended immediate. -/
  | ori (sd : BitVec 5) (sa : BitVec 5) (g : BitVec 4) (imm : BitVec 10)
  /-- XORI (R114): XORs a register with a zero-extended immediate. -/
  | xori (sd : BitVec 5) (sa : BitVec 5) (g : BitVec 4) (imm : BitVec 10)
  /-- SHLI (R114): Shifts left by an immediate amount. -/
  | shli (sd : BitVec 5) (sa : BitVec 5) (g : BitVec 4) (w : BitVec 1) (amt : BitVec 6)
  /-- SHRI (R114): Logical right shift by an immediate amount. -/
  | shri (sd : BitVec 5) (sa : BitVec 5) (g : BitVec 4) (w : BitVec 1) (amt : BitVec 6)
  /-- SRAI (R114): Arithmetic right shift by an immediate amount. -/
  | srai (sd : BitVec 5) (sa : BitVec 5) (g : BitVec 4) (w : BitVec 1) (amt : BitVec 6)
  /-- CMPI (R115): Compares a register with an immediate into a predicate. -/
  | cmpi (cond : BitVec 2) (pd : BitVec 3) (sa : BitVec 5) (g : BitVec 4) (imm : BitVec 10)
  /-- LHI (R116): Loads a 19-bit immediate shifted left by 10, sign-extended. -/
  | lhi (sd : BitVec 5) (imm : BitVec 19)
  /-- FADD (R118): Floating addition in FP64 or FP32 with one rounding. -/
  | fadd (sd : BitVec 5) (sa : BitVec 5) (sb : BitVec 5) (g : BitVec 4) (p : BitVec 1) (rm : BitVec 3)
  /-- FSUB (R118): Floating subtraction with one rounding. -/
  | fsub (sd : BitVec 5) (sa : BitVec 5) (sb : BitVec 5) (g : BitVec 4) (p : BitVec 1) (rm : BitVec 3)
  /-- FMUL (R118): Floating multiplication with one rounding. -/
  | fmul (sd : BitVec 5) (sa : BitVec 5) (sb : BitVec 5) (g : BitVec 4) (p : BitVec 1) (rm : BitVec 3)
  /-- FDIV (R118): Floating division with one rounding. -/
  | fdiv (sd : BitVec 5) (sa : BitVec 5) (sb : BitVec 5) (g : BitVec 4) (p : BitVec 1) (rm : BitVec 3)
  /-- FSQRT (R118): Floating square root with one rounding. -/
  | fsqrt (sd : BitVec 5) (sa : BitVec 5) (g : BitVec 4) (p : BitVec 1) (rm : BitVec 3)
  /-- FMA (R118): Fused multiply-add sa·sb + sd with one rounding. -/
  | fma (sd : BitVec 5) (sa : BitVec 5) (sb : BitVec 5) (g : BitVec 4) (p : BitVec 1) (rm : BitVec 3)
  /-- FMIN (R119): Floating minimum under the NaN rules of R88. -/
  | fmin (sd : BitVec 5) (sa : BitVec 5) (sb : BitVec 5) (g : BitVec 4) (p : BitVec 1)
  /-- FMAX (R119): Floating maximum under the NaN rules of R88. -/
  | fmax (sd : BitVec 5) (sa : BitVec 5) (sb : BitVec 5) (g : BitVec 4) (p : BitVec 1)
  /-- FCMP (R119): Floating comparison written to a predicate. -/
  | fcmp (pd : BitVec 3) (sa : BitVec 5) (sb : BitVec 5) (g : BitVec 4) (p : BitVec 1) (cond : BitVec 3)
  /-- FCVT (R120): Converts between element formats under R86, optionally RTZ or stochastic. -/
  | fcvt (sd : BitVec 5) (sa : BitVec 5) (sto : BitVec 1) (dst : BitVec 4) (g : BitVec 4) (rtz : BitVec 1) (src : BitVec 4)
  /-- BR (R121): Branches to PC plus a signed offset after one delay word. -/
  | br (g : BitVec 4) (off : BitVec 20)
  /-- CALL (R121): Branches after one delay word and writes the link register. -/
  | call (g : BitVec 4) (off : BitVec 20)
  /-- JR (R122): Jumps to a register target after one delay word, writing a link. -/
  | jr (sd : BitVec 5) (sa : BitVec 5) (g : BitVec 4)
  /-- LOOP (R124): Starts a zero-overhead loop with a register count. -/
  | loop (l : BitVec 2) (sa : BitVec 5) (g : BitVec 4) (b : BitVec 10)
  /-- LOOPI (R124): Starts a zero-overhead loop with an immediate count. -/
  | loopi (l : BitVec 2) (c : BitVec 9) (b : BitVec 10)
  /-- LBRK (R125): Deactivates a loop level and its nested levels and branches past its body. -/
  | lbrk (l : BitVec 2) (g : BitVec 4)
  /-- CSRR (R126): Reads a CSR into a register. -/
  | csrr (sd : BitVec 5) (g : BitVec 4) (csr : BitVec 10)
  /-- CSRW (R126): Writes a CSR under the access code of each field. -/
  | csrw (sa : BitVec 5) (g : BitVec 4) (csr : BitVec 10)
  /-- CSRX (R126): Atomically reads the old CSR value and writes a new one. -/
  | csrx (sd : BitVec 5) (sa : BitVec 5) (g : BitVec 4) (csr : BitVec 10)
  /-- IDLE (R127): Holds issue for a register plus immediate count of cycles. -/
  | idle (sa : BitVec 5) (g : BitVec 4) (n : BitVec 10)
  /-- LDS (R137): Loads a naturally aligned quantity from the pool into a register. -/
  | lds (sd : BitVec 5) (sa : BitVec 5) (g : BitVec 4) (sz : BitVec 3) (off : BitVec 7)
  /-- STS (R137): Stores a register quantity into the pool. -/
  | sts (sd : BitVec 5) (sa : BitVec 5) (g : BitVec 4) (sz : BitVec 2) (off : BitVec 7)
  /-- AMO (R138): Atomic read-modify-write of a pool word as one bank access. -/
  | amo (sd : BitVec 5) (sa : BitVec 5) (sb : BitVec 5) (g : BitVec 4) (w : BitVec 1) (op : BitVec 4)
  /-- AMOCAS (R139): Atomic compare-and-swap of a pool word. -/
  | amocas (sd : BitVec 5) (sa : BitVec 5) (sbh : BitVec 4) (g : BitVec 4) (w : BitVec 1)
  /-- RLD (R141): Sends a remote pool read to another core of the module. -/
  | rld (sd : BitVec 5) (sa : BitVec 5) (g : BitVec 4) (sz : BitVec 2)
  /-- RST (R141): Sends a remote pool write to another core of the module. -/
  | rst (sd : BitVec 5) (sa : BitVec 5) (sb : BitVec 5) (g : BitVec 4) (sz : BitVec 2)
  /-- RAMO (R141): Sends a remote atomic operation to another core's pool. -/
  | ramo (sd : BitVec 5) (sa : BitVec 5) (sb : BitVec 5) (g : BitVec 4) (w : BitVec 1) (op : BitVec 4)
  /-- RAMOCAS (R141): Sends a remote compare-and-swap to another core's pool. -/
  | ramocas (sd : BitVec 5) (sa : BitVec 5) (sbh : BitVec 4) (g : BitVec 4) (w : BitVec 1)
  /-- VADD (R181): Adds vector positions under the mask. -/
  | vadd (vd : BitVec 5) (va : BitVec 5) (vb : BitVec 5) (bs : BitVec 1) (mask : BitVec 3) (ty : BitVec 2) (idle : BitVec 2)
  /-- VSUB (R181): Subtracts vector positions. -/
  | vsub (vd : BitVec 5) (va : BitVec 5) (vb : BitVec 5) (bs : BitVec 1) (mask : BitVec 3) (ty : BitVec 2) (idle : BitVec 2)
  /-- VMUL (R181): Multiplies vector positions. -/
  | vmul (vd : BitVec 5) (va : BitVec 5) (vb : BitVec 5) (bs : BitVec 1) (mask : BitVec 3) (ty : BitVec 2) (idle : BitVec 2)
  /-- VFMA (R181): Fused multiply-add of vector positions into vd. -/
  | vfma (vd : BitVec 5) (va : BitVec 5) (vb : BitVec 5) (bs : BitVec 1) (mask : BitVec 3) (ty : BitVec 2) (idle : BitVec 2)
  /-- VMIN (R181): Elementwise minimum. -/
  | vmin (vd : BitVec 5) (va : BitVec 5) (vb : BitVec 5) (bs : BitVec 1) (mask : BitVec 3) (ty : BitVec 2) (idle : BitVec 2)
  /-- VMAX (R181): Elementwise maximum. -/
  | vmax (vd : BitVec 5) (va : BitVec 5) (vb : BitVec 5) (bs : BitVec 1) (mask : BitVec 3) (ty : BitVec 2) (idle : BitVec 2)
  /-- VABS (R181): Elementwise absolute value. -/
  | vabs (vd : BitVec 5) (va : BitVec 5) (mask : BitVec 3) (ty : BitVec 2) (idle : BitVec 2)
  /-- VNEG (R181): Elementwise negation. -/
  | vneg (vd : BitVec 5) (va : BitVec 5) (mask : BitVec 3) (ty : BitVec 2) (idle : BitVec 2)
  /-- VAND (R181): Elementwise bitwise AND. -/
  | vand (vd : BitVec 5) (va : BitVec 5) (vb : BitVec 5) (bs : BitVec 1) (mask : BitVec 3) (ty : BitVec 2) (idle : BitVec 2)
  /-- VOR (R181): Elementwise bitwise OR. -/
  | vor (vd : BitVec 5) (va : BitVec 5) (vb : BitVec 5) (bs : BitVec 1) (mask : BitVec 3) (ty : BitVec 2) (idle : BitVec 2)
  /-- VXOR (R181): Elementwise bitwise XOR. -/
  | vxor (vd : BitVec 5) (va : BitVec 5) (vb : BitVec 5) (bs : BitVec 1) (mask : BitVec 3) (ty : BitVec 2) (idle : BitVec 2)
  /-- VANDN (R181): Elementwise a AND NOT b. -/
  | vandn (vd : BitVec 5) (va : BitVec 5) (vb : BitVec 5) (bs : BitVec 1) (mask : BitVec 3) (ty : BitVec 2) (idle : BitVec 2)
  /-- VSHL (R181): Elementwise left shift of integers. -/
  | vshl (vd : BitVec 5) (va : BitVec 5) (vb : BitVec 5) (bs : BitVec 1) (mask : BitVec 3) (ty : BitVec 2) (idle : BitVec 2)
  /-- VSHR (R181): Elementwise logical right shift. -/
  | vshr (vd : BitVec 5) (va : BitVec 5) (vb : BitVec 5) (bs : BitVec 1) (mask : BitVec 3) (ty : BitVec 2) (idle : BitVec 2)
  /-- VSRA (R181): Elementwise arithmetic right shift. -/
  | vsra (vd : BitVec 5) (va : BitVec 5) (vb : BitVec 5) (bs : BitVec 1) (mask : BitVec 3) (ty : BitVec 2) (idle : BitVec 2)
  /-- VCMP (R183): Compares positions and writes the result bits into a mask. -/
  | vcmp (cond : BitVec 2) (md : BitVec 3) (va : BitVec 5) (vb : BitVec 5) (bs : BitVec 1) (mask : BitVec 3) (ty : BitVec 2) (idle : BitVec 2)
  /-- VSEL (R181): Selects a or b by the nonzero pattern of vd. -/
  | vsel (vd : BitVec 5) (va : BitVec 5) (vb : BitVec 5) (bs : BitVec 1) (mask : BitVec 3) (ty : BitVec 2) (idle : BitVec 2)
  /-- VCVT (R186): Converts lanes between formats by a conversion code, optionally stochastic. -/
  | vcvt (vd : BitVec 5) (va : BitVec 5) (code : BitVec 5) (bs : BitVec 1) (mask : BitVec 3) (idle : BitVec 2)
  /-- VRINT (R187): Rounds positions to integral values in the same format. -/
  | vrint (vd : BitVec 5) (va : BitVec 5) (mask : BitVec 3) (ty : BitVec 2) (idle : BitVec 2)
  /-- VRCP (R188): Correctly rounded reciprocal of each position. -/
  | vrcp (vd : BitVec 5) (va : BitVec 5) (mask : BitVec 3) (ty : BitVec 2) (idle : BitVec 2)
  /-- VRSQ (R188): Correctly rounded reciprocal square root. -/
  | vrsq (vd : BitVec 5) (va : BitVec 5) (mask : BitVec 3) (ty : BitVec 2) (idle : BitVec 2)
  /-- VEXP2 (R188): Correctly rounded power of two. -/
  | vexp2 (vd : BitVec 5) (va : BitVec 5) (mask : BitVec 3) (ty : BitVec 2) (idle : BitVec 2)
  /-- VLOG2 (R188): Correctly rounded base-2 logarithm. -/
  | vlog2 (vd : BitVec 5) (va : BitVec 5) (mask : BitVec 3) (ty : BitVec 2) (idle : BitVec 2)
  /-- VRED (R189): Reduces all positions in a fixed tree order into position 0. -/
  | vred (vd : BitVec 5) (va : BitVec 5) (op : BitVec 3) (mask : BitVec 3) (ty : BitVec 2) (idle : BitVec 2)
  /-- VSCAN (R189): Inclusive scan of positions in a fixed order. -/
  | vscan (vd : BitVec 5) (va : BitVec 5) (op : BitVec 3) (mask : BitVec 3) (ty : BitVec 2) (idle : BitVec 2)
  /-- VPERM (R190): Permutes positions of va by indices in vb. -/
  | vperm (vd : BitVec 5) (va : BitVec 5) (vb : BitVec 5) (bs : BitVec 1) (mask : BitVec 3) (ty : BitVec 2) (idle : BitVec 2)
  /-- VROT (R190): Rotates positions of va by a scalar count. -/
  | vrot (vd : BitVec 5) (va : BitVec 5) (sb : BitVec 5) (mask : BitVec 3) (ty : BitVec 2) (idle : BitVec 2)
  /-- VLANE (R190): Broadcasts one position of va to all active positions. -/
  | vlane (vd : BitVec 5) (va : BitVec 5) (sb : BitVec 5) (mask : BitVec 3) (ty : BitVec 2) (idle : BitVec 2)
  /-- VPACK (R191): Narrows positions of two registers, or packs TF6 codes. -/
  | vpack (vd : BitVec 5) (va : BitVec 5) (vb : BitVec 5) (bs : BitVec 1) (mask : BitVec 3) (ty : BitVec 2) (idle : BitVec 2)
  /-- VUNPACK (R191): Widens one half of a register, or unpacks TF6 codes. -/
  | vunpack (vd : BitVec 5) (va : BitVec 5) (h : BitVec 1) (mask : BitVec 3) (ty : BitVec 2) (idle : BitVec 2)
  /-- VMOV (R181): Copies va into vd at active positions. -/
  | vmov (vd : BitVec 5) (va : BitVec 5) (mask : BitVec 3) (ty : BitVec 2) (idle : BitVec 2)
  /-- VMOV_BROADCAST (R181): Broadcasts a scalar register into vd at active positions. -/
  | vmovBroadcast (vd : BitVec 5) (sb : BitVec 5) (mask : BitVec 3) (ty : BitVec 2) (idle : BitVec 2)
  /-- VMLOG (R184): Combines two whole masks into a third. -/
  | vmlog (md : BitVec 3) (ma : BitVec 3) (mb : BitVec 3) (op : BitVec 2) (idle : BitVec 2)
  /-- VMPOP (R185): Writes the exclusive prefix count of a mask. -/
  | vmpop (vd : BitVec 5) (ma : BitVec 3) (mask : BitVec 3) (ty : BitVec 2) (idle : BitVec 2)
  /-- VDOT2 (R182): Two-term dot product per lane accumulated into vd. -/
  | vdot2 (vd : BitVec 5) (va : BitVec 5) (vb : BitVec 5) (bs : BitVec 1) (mask : BitVec 3) (ty : BitVec 2) (idle : BitVec 2)
  /-- VLD (R192): Loads a whole register image from a pool address. -/
  | vld (vd : BitVec 5) (sa : BitVec 5) (k : BitVec 5) (mask : BitVec 3) (ty : BitVec 2) (idle : BitVec 2)
  /-- VST (R192): Stores a whole register image to a pool address. -/
  | vst (vd : BitVec 5) (sa : BitVec 5) (k : BitVec 5) (mask : BitVec 3) (ty : BitVec 2) (idle : BitVec 2)
  /-- VGATH (R193): Gathers elements from per-position pool offsets. -/
  | vgath (vd : BitVec 5) (sa : BitVec 5) (vb : BitVec 5) (mask : BitVec 3) (ty : BitVec 2) (idle : BitVec 2)
  /-- VSCAT (R193): Scatters elements to per-position pool offsets. -/
  | vscat (vd : BitVec 5) (sa : BitVec 5) (vb : BitVec 5) (mask : BitVec 3) (ty : BitVec 2) (idle : BitVec 2)
  /-- PATCH_AND_ISSUE (R52): Builds a working copy of a template with pending amendments and places it in an engine queue. -/
  | patchAndIssue (eng : BitVec 3) (t : BitVec 6) (fld : BitVec 5) (val : BitVec 16)
  /-- AMEND (R53): Appends a field amendment to an engine's pending list. -/
  | amend (eng : BitVec 3) (fld : BitVec 5) (val : BitVec 16)
  /-- LI (R117): Loads a wide immediate, or its high half, into a register. -/
  | li (sd : BitVec 5) (h : BitVec 1) (hi : BitVec 16) (lo : BitVec 32)
  /-- JMPF (R123): Jumps to a 13-bit target without a delay word. -/
  | jmpf (tgt : BitVec 13)
  /-- CALLF (R123): Calls a 13-bit target without a delay word, writing a link. -/
  | callf (sd : BitVec 5) (tgt : BitVec 13)
  /-- TDEF (R149): Copies a template image from the pool into a template slot. -/
  | tdef (eng : BitVec 3) (t : BitVec 6) (sa : BitVec 5) (off : BitVec 19)
  /-- TREAD (R149): Copies a template slot's image into the pool. -/
  | tread (eng : BitVec 3) (t : BitVec 6) (sa : BitVec 5) (off : BitVec 19)
  /-- QDEF (R159): Writes one word of a stream register. -/
  | qdef (q : BitVec 4) (w : BitVec 3) (sa : BitVec 5) (imm : BitVec 32)
  /-- QREAD (R159): Reads one word of a stream register. -/
  | qread (sd : BitVec 5) (q : BitVec 4) (w : BitVec 3)
  /-- RDEF (R162): Defines an operand ring and resets its stages. -/
  | rdef (ring : BitVec 3) (prod : BitVec 3) (cons : BitVec 3) (cnt : BitVec 4) (size : BitVec 10) (base : BitVec 15)
  /-- WHL_SLOT (R169): Defines a wheel slot's engine, template, flags and strided fields. -/
  | whlSlot (slot : BitVec 5) (eng : BitVec 3) (t : BitVec 6) (fo : BitVec 1) (lo : BitVec 1) (k : BitVec 3) (fa : BitVec 5) (fb : BitVec 5)
  /-- WHL_STRIDE (R169): Sets a per-level stride of a wheel slot field. -/
  | whlStride (slot : BitVec 5) (ab : BitVec 1) (lvl : BitVec 3) (v : BitVec 16)
  /-- WHL_COUNT (R169): Sets a wheel level count, also while running. -/
  | whlCount (lvl : BitVec 3) (c : BitVec 16)
  /-- WHL_LEN (R169): Sets the number of wheel slots in use. -/
  | whlLen (n : BitVec 6)
  /-- WHLGO (R170): Starts the wheel running over its nested levels. -/
  | whlgo (sa : BitVec 5) (lvl : BitVec 3)
  /-- LAUNCH (R369): Sends a launch request for a graph node or launch record to the anchor controller. -/
  | launch (sa : BitVec 5) (addr : BitVec 15)
  /-- RACQ (R163): Takes a ring stage for SQ and returns its address or zero. -/
  | racq (sd : BitVec 5) (side : BitVec 1) (ring : BitVec 3)
  /-- RREL (R163): Returns an SQ-held ring stage as full or empty. -/
  | rrel (sa : BitVec 5) (full : BitVec 1) (ring : BitVec 3)
  /-- RSTAT (R164): Reads ring state. -/
  | rstat (sd : BitVec 5) (sel : BitVec 1) (ring : BitVec 3)
  /-- TOK_RD (R155): Reads a token FIFO count. -/
  | tokRd (sd : BitVec 5) (fifo : BitVec 3)
  /-- TOK_PUSH (R155): SQ pushes one token into a FIFO. -/
  | tokPush (fifo : BitVec 3)
  /-- TOK_TRY (R155): Pops a token if one is present and reports success. -/
  | tokTry (sd : BitVec 5) (fifo : BitVec 3)
  /-- TOK_VPOP (R155): Places a VX entry that pops a token. -/
  | tokVpop (fifo : BitVec 3)
  /-- TOK_VPUSH (R155): Places a VX entry that pushes a token. -/
  | tokVpush (fifo : BitVec 3)
  /-- QDRAIN (R172): Holds SQ until selected queues and the wheel have drained, optionally discarding amendments. -/
  | qdrain (mask : BitVec 9)
  /-- WAITA (R234): Sleeps until a watched pool word is written or nonzero, or a tick limit passes. -/
  | waita (sd : BitVec 5) (sa : BitVec 5) (nz : BitVec 1) (n : BitVec 2)
  /-- FSIG (R236): Takes a signal slot that writes a flag when an engine's current entries finish. -/
  | fsig (sa : BitVec 5) (eng : BitVec 3) (flag : BitVec 6)
  /-- ACQ (R275): Acquires a bound lock or barrier, holding SQ until granted or timed out. -/
  | acq (sd : BitVec 5) (sa : BitVec 5) (k : BitVec 3)
  /-- ACQ_ANSWER (R275): A GRANT, BUSY, PARK or cause answer to an acquire arrives at the core. -/
  | acqAnswer (id : Nat) (code : Nat)
  /-- REL (R276): Waits for outstanding requests of the scope, then releases the bound lock or arrives at the barrier. -/
  | rel (ovr : BitVec 1) (scope : BitVec 2) (k : BitVec 3)
  /-- BIND (R273): Reads a binding descriptor from the pool into a binding slot. -/
  | bind (sa : BitVec 5) (k : BitVec 3)
  /-- FENCE (R277): Holds SQ until earlier requests of the scope have completed. -/
  | fence (scope : BitVec 2)
  /-- LOCK_ACQUIRE_PACKET (R274): The NMU answers a park- or try-acquire on a lock word. -/
  | lockAcquirePacket (id : Nat)
  /-- LOCK_RELEASE_PACKET (R274): The NMU releases a lock word, handing it to the earliest parked acquirer. -/
  | lockReleasePacket (id : Nat)
  /-- LOCK_CANCEL_PACKET (R274): The NMU unparks a cancelled acquire. -/
  | lockCancelPacket (id : Nat)
  /-- RTICK (R280): Reads TICK as of two ticks before the issue cycle. -/
  | rtick (sd : BitVec 5)
  /-- RCYC (R280): Reads CYC of the issue cycle. -/
  | rcyc (sd : BitVec 5)
  /-- ALIGN (R294): Drains, arrives on a barrier and waits so that every participant's CYC restarts at a common value. -/
  | align (sd : BitVec 5) (sa : BitVec 5) (n : BitVec 3)
  /-- BAR (R292): Makes the core's next arrival on a barrier. -/
  | bar (n : BitVec 3)
  /-- BARW (R293): Waits for the oldest unobserved phase of a barrier. -/
  | barw (sd : BitVec 5) (sa : BitVec 5) (n : BitVec 3)
  /-- BART (R293): Tests the oldest unobserved phase without waiting. -/
  | bart (sd : BitVec 5) (n : BitVec 3)
  /-- BARRIER_REPORT (R288): A segment's report reaches its parent in the barrier tree. -/
  | barrierReport (die : Nat) (seg : Nat) (par : Nat)
  /-- BARRIER_RELEASE (R288): A phase releases its participants at R or at the release tick T_r. -/
  | barrierRelease (die : Nat) (seg : Nat) (par : Nat)
  /-- BARRIER_EXCUSE (R290): The service core clears a core's MASK bit and arrival vectors are re-evaluated. -/
  | barrierExcuse (die : Nat) (core : Nat) (lid : Option Nat)
  /-- CSTAT (R312): Reads a circuit handle's state. -/
  | cstat (sd : BitVec 5) (h : BitVec 5)
  /-- CSTAT_SETTLE (R312): Returns CIRC_SETTLE. -/
  | cstatSettle (sd : BitVec 5)
  /-- CSTAT_START (R312): Returns STOPPED and T0 of the launch. -/
  | cstatStart (sd : BitVec 5)
  /-- CSTAT_FREC (R312): Returns a handle's fault record. -/
  | cstatFrec (sd : BitVec 5) (h : BitVec 5)
  /-- CWAIT (R313): Holds SQ until a handle is LIVE, faulted or the limit passes. -/
  | cwait (sd : BitVec 5) (sa : BitVec 5) (h : BitVec 5)
  /-- CGOPEN (R334): Opens a commit group bound to a sync object and a module mask. -/
  | cgopen (sa : BitVec 5) (k : BitVec 3) (cg : BitVec 3)
  /-- CGCOMMIT (R335): Waits for the group's puts, sends commit packets and releases the object. -/
  | cgcommit (sd : BitVec 5) (cg : BitVec 3)
  /-- CGABORT (R335): Sends abort packets to every site and releases the object. -/
  | cgabort (sd : BitVec 5) (cg : BitVec 3)
  /-- CGSTAT (R337): Reads a commit group's status word. -/
  | cgstat (sd : BitVec 5) (cg : BitVec 3)
  /-- COMMIT_HOLD (R331): A destination site holds a cp.gput request in staging or refuses it. -/
  | commitHold (id : Nat)
  /-- COMMIT_ANSWER (R331): A HELD, refusal, PUBLISHED or DISCARDED answer updates the issuer's group. -/
  | commitAnswer (id : Nat)
  /-- PUBLISH (R332): A site applies all held stores of a group indivisibly on its commit packet. -/
  | publish (id : Nat)
  /-- DISCARD (R332): A site frees a group's held stores on its abort packet. -/
  | discard (id : Nat)
  /-- MONSET (R347): Writes a monitor's nomination and clears its accumulator. -/
  | monset (sa : BitVec 5) (k : BitVec 2)
  /-- MONREF (R348): Sets a monitor's REF and BOUND. -/
  | monref (sa : BitVec 5) (k : BitVec 2)
  /-- MONRD (R349): Reads part of a monitor's state. -/
  | monrd (sd : BitVec 5) (part : BitVec 3) (k : BitVec 2)
  /-- MONCHK (R350): Compares the core's own monitor sum locally, optionally clearing it. -/
  | monchk (sd : BitVec 5) (clr : BitVec 1) (k : BitVec 2)
  /-- KEND (R370): Drains, aborts open groups, writes the completion entry and frees the core. -/
  | kend (sa : BitVec 5)
  /-- TRAP (R383): Raises a software trap with a chosen cause. -/
  | trap (sa : BitVec 5) (code : BitVec 8)
  /-- RQRD (R384): Reads one word of a replay-queue entry. -/
  | rqrd (sd : BitVec 5) (i : BitVec 5) (w : BitVec 5)
  /-- RQWR (R384): Writes one writable word of a replay-queue entry. -/
  | rqwr (sa : BitVec 5) (i : BitVec 5) (w : BitVec 5)
  /-- PBR (R396): Tests the die's power level into a predicate. -/
  | pbr (pd : BitVec 3) (lvl : BitVec 2)
  /-- PACK (R397): Acknowledges the die's demand episode. -/
  | pack (sd : BitVec 5)
  /-- BKPT (R409): Stops the core or raises BREAK. -/
  | bkpt (code : BitVec 12)
  /-- WFILT_INS (R412): Inserts granule keys into the watch filter. -/
  | wfiltIns (sa : BitVec 5) (n : BitVec 8) (space : BitVec 1)
  /-- WFILT_TST (R412): Tests whether a granule hits the watch filter. -/
  | wfiltTst (sd : BitVec 5) (sa : BitVec 5) (space : BitVec 1)
  /-- COPY_END (R230): After the last payload byte performs, stages fill, the follow-on is placed and the completion word is written. -/
  | copyEnd (uid : Nat)
  /-- COPY_FAULT (R232): A copy stops sending and raises the fault of its lowest failing byte once outstanding requests settle. -/
  | copyFault (uid : Nat)
  /-- NMU_OPERATION (R255): An NMU performs an operation packet indivisibly on its line and answers. -/
  | nmuOperation (id : Nat)
  /-- MLR_ARRIVAL (R261): The root NMU records an arrival and runs the reduction once the set is complete. -/
  | mlrArrival (id : Nat)
  /-- MLR_LIMIT_EXPIRY (R261): The reduction limit expires and arrived issuers get FABRIC_TIMEOUT. -/
  | mlrLimitExpiry (pa : Nat)
  /-- REMOTE_OPERATION (R143): A target core's bank unit performs or refuses an inbound remote operation. -/
  | remoteOperation (cid : Nat)
  /-- HOME_REQUEST (R263): A device request is served at its home channel. -/
  | homeRequest (id : Nat)
  /-- REQUEST_RESPONSE (R263): A response performs at the issuer, completing a request and decrementing its counter. -/
  | requestResponse (id : Nat)
  /-- ACK_TIMEOUT (R321): A request's acknowledgement time-out expires and it completes with FABRIC_ERROR. -/
  | ackTimeout (id : Nat)
  /-- TRANSLATION_WALK (R246): The hardware walker reads the page tables for a missed page and fills or faults. -/
  | translationWalk (cid : Nat) (va : Nat)
  /-- TLB_INVALIDATE (R250): A write to a die's invalidation register removes matching translations and sets DONE. -/
  | tlbInvalidate (die : Nat) (asid : Option Nat) (lo : Nat) (hi : Nat)
  /-- ROUTE (R302): Sets a DARK handle's route. -/
  | route (h : BitVec 5) (die : BitVec 9) (port : BitVec 3) (fport : BitVec 3) (fh : BitVec 5) (alt : BitVec 2)
  /-- EST (R303): Establishes a circuit, setting switches and starting settling. -/
  | est (h : BitVec 5)
  /-- HOLD (R303): Sets or clears the end tick of a circuit's hold. -/
  | hold (h : BitVec 5) (n : BitVec 23)
  /-- TEAR (R302): Takes a handle DARK and faults the far end. -/
  | tear (h : BitVec 5)
  /-- ATSTEP (R302): Sets the step at which the next sequencer word executes. -/
  | atstep (r : BitVec 1) (s : BitVec 27)
  /-- SIG (R304): Writes a value to a flag of a core of the die. -/
  | sig (core : BitVec 7) (flag : BitVec 6) (val : BitVec 15)
  /-- RPT (R302): Repeats the next words a given number of times. -/
  | rpt (b : BitVec 8) (c : BitVec 20)
  /-- CIRCUIT_SETTLE_END (R299): CIRC_SETTLE after est the handle becomes LIVE or FAULTED. -/
  | circuitSettleEnd (die : Nat) (h : Nat) (unlocked : Option Nat)
  /-- HOLD_END (R303): The hold end tick arrives and both ends become DARK. -/
  | holdEnd (die : Nat) (h : Nat)
  /-- CIRCUIT_FAULT (R299): Loss of light, lock or a switch region takes a LIVE handle FAULTED. -/
  | circuitFault (die : Nat) (h : Nat) (code : Nat) (lgrp : Nat) (region : Nat)
  /-- CIRCUIT_REESTABLISH (R307): The service core re-establishes a faulted circuit on the spare group or other path. -/
  | circuitReestablish (die : Nat) (h : Nat)
  /-- CIRCUIT_UNIT_LANDING (R310): A circuit unit reaches the far port and lands in the oldest open window or the landing buffer. -/
  | circuitUnitLanding (id : Nat)
  /-- FLIT_RECEIVE (R319): A link end checks and acts on a received flit or requests replay. -/
  | flitReceive (link : Nat) (flit : BitVec 2048)
  /-- SLOT_FORWARD (R320): A router forwards a slot before its flit fully arrives, inverting the CRC if upstream fails: the slot's
  place in its flit, the flit's header, the slot. -/
  | slotForward (inLink : Nat) (outLink : Nat) (slot : Nat × BitVec 64 × BitVec 480)
  /-- LANE_SHED (R322): A link sheds a failing lane at a flit boundary. -/
  | laneShed (link : Nat)
  /-- HEARTBEAT_SEND (R324): A link end sends a heartbeat at least every 2,000 ticks. -/
  | heartbeatSend (link : Nat)
  /-- LINK_SILENCE_TIMEOUT (R324): No heartbeat for 10,000 ticks fails the link. -/
  | linkSilenceTimeout (link : Nat)
  /-- MODULE_SILENCE_TIMEOUT (R324): A silent module is declared dead and a death notice is sent. -/
  | moduleSilenceTimeout (m : Nat)
  /-- DEATH_NOTICE (R325): A module learns of a dead module, floods the notice and fails requests, locks and barriers toward it. -/
  | deathNotice (m : Nat) (epoch : Nat)
  /-- LEVEL5_BARRIER_REPORT (R323): A module root's level-5 report reaches the set root. -/
  | level5BarrierReport (m : Nat) (bar : Nat) (par : Nat)
  /-- LEVEL5_RELEASE (R323): A level-5 release tick arrives and is converted to local TICK. -/
  | level5Release (bar : Nat) (par : Nat) (rootTick : Nat)
  /-- SET_FORM (R315): SETCTL GO starts forming a connected set by heartbeats: the greatest EPOCH heard, the offset measured, and whether
  all that was heard agrees. -/
  | setForm (maxEpoch : Nat) (offset : Int) (agree : Bool)
  /-- LAUNCH_SUBMIT (R357): A controller accepts or refuses a launch at submission. -/
  | launchSubmit (asid : Nat) (va : Nat) (minClass : Nat) (die : Nat)
  /-- LAUNCH_ADMIT (R358): A waiting launch is admitted once its cores, handles and segments are free. -/
  | launchAdmit (lid : Nat)
  /-- TASK_START (R359): The controller loads each core and tasks start after the start barrier. -/
  | taskStart (lid : Nat) (cid : Nat)
  /-- LAUNCH_REQUEST_ACCEPT (R369): The anchor controller takes a launch request and writes id and status. -/
  | launchRequestAccept (id : Nat)
  /-- SAGGER_SWAP (R362): A 32-cycle swap exchanges the active and sagger contexts. -/
  | saggerSwap (cid : Nat)
  /-- FULL_PREEMPTION (R363): The victim is swapped out, drained, spilled to its save block and replaced. -/
  | fullPreemption (cid : Nat)
  /-- EQUIVALENCE_STOP (R365): Tasks are swapped out at a quiescent equivalence point. -/
  | equivalenceStop (cid : Nat)
  /-- MIGRATION_RESUME (R366): A stopped launch resumes on another shape at its equivalence point. -/
  | migrationResume (lid : Nat) (shape : Nat) (point : Nat)
  /-- LAUNCH_CLOSE (R372): When every task has ended the launch tears handles, frees segments and writes the record header. -/
  | launchClose (lid : Nat)
  /-- GRAPH_NODE_COMPLETE (R368): A node's completion decrements its successors' pending counts. -/
  | graphNodeComplete (gid : Nat) (node : Nat)
  /-- BUDGET_DEBIT (R361): Every 10 µs each budgeted launch is debited and may drop a class. -/
  | budgetDebit (lid : Nat) (cones : Nat)
  /-- MACHINE_CHECK (R389): An uncorrectable core error stops the core and fault-ends the task. -/
  | machineCheck (cid : Nat)
  /-- CORE_RETIRE (R453): The service core retires a core, ending any task and rewriting its entry RETIRED. -/
  | coreRetire (cid : Nat)
  /-- DEBUG_STOPREQ (R405): DBGCTL STOPREQ freezes the core precisely into a stop frame. -/
  | debugStopreq (cid : Nat)
  /-- DEBUG_RESUME (R406): DBGCTL RESUME re-injects the stop frame. -/
  | debugResume (cid : Nat)
  /-- DEBUG_STEP (R408): DBGCTL STEP issues one word and waits for its effects. -/
  | debugStep (cid : Nat)
  /-- DROOP_DETECT (R391): A droop detection stretches the die's cycles. -/
  | droopDetect (die : Nat)
  /-- FREQUENCY_CHANGE (R390): The power manager changes a die's frequency at a cycle boundary. -/
  | frequencyChange (die : Nat) (mhz : Nat)
  /-- POWER_EVALUATION (R392): Every 1,000 ticks the die's power level is evaluated. -/
  | powerEvaluation (die : Nat) (milliwatt : Nat)
  /-- DEMAND_EPISODE_EXPIRY (R393): An unanswered demand episode forces clock skipping. -/
  | demandEpisodeExpiry (die : Nat)
  /-- FABRIC_ENERGY_CHECK (R398): Fabric energy above 9.6 kW is shared out and clocks are lowered: what the fabric
  and the whole module draw, in mW. -/
  | fabricEnergyCheck (milliwatt : Nat × Nat) (shares : List (Nat × Nat))
  /-- CLUSTER_CLOSING (R400): Setting CLOSING makes a cluster refuse new inbound work. -/
  | clusterClosing (die : Nat) (c : Nat) (value : Bool)
  /-- CLUSTER_GATE (R400): Writing GATE starts gating of a drained cluster. -/
  | clusterGate (die : Nat) (c : Nat)
  /-- CLUSTER_GATE_PROGRESS (R400): Gating timers set RETAINED, CLKOFF and RAILOFF in turn. -/
  | clusterGateProgress (die : Nat) (c : Nat)
  /-- CLUSTER_WAKE (R401): Writing WAKE starts a gated cluster's wake sequence. -/
  | clusterWake (die : Nat) (c : Nat)
  /-- CLUSTER_WAKE_PROGRESS (R401): Wake timers clear RAILOFF, CLKOFF and RETAINED in turn. -/
  | clusterWakeProgress (die : Nat) (c : Nat)
  /-- MARGIN_REPLAN (R402): Every 24 h firmware re-plans the die's V/F table and publishes MARGIN. -/
  | marginReplan (die : Nat) (fmax : Nat) (vguard : Nat) (hours : Nat)
  /-- SCRUB (R240): Firmware scrubs every sector once per 24 h. -/
  | scrub (pa : Nat) (corrected : Bool) (uncorrectable : Bool)
  /-- HOST_ACCESS (R415): A host reads or writes module memory through its port. -/
  | hostAccess (port : Nat) (pa : Nat) (write : Option (List (BitVec 8)))
  /-- SEMA_ACQUIRE (R418): A SEMACMD acquire takes the semaphore if free. -/
  | semaAcquire (port : Nat) (owner : Nat) (lease : Nat)
  /-- SEMA_RENEW (R418): A SEMACMD renew extends the holder's lease. -/
  | semaRenew (port : Nat) (owner : Nat) (lease : Nat)
  /-- SEMA_RELEASE (R418): A SEMACMD release frees the semaphore. -/
  | semaRelease (port : Nat) (owner : Nat)
  /-- SUBBASE_WRITE (R420): A SUBBASE write sets HEAD to the tail word's value. -/
  | subbaseWrite (port : Nat) (value : BitVec 64)
  /-- SUBMISSION_TAKE (R419): The agent takes a submission entry after the tail word changes. -/
  | submissionTake (port : Nat)
  /-- SUBMIT_LAUNCH_RECORD (R421): A KIND 1 entry submits a launch record. -/
  | submitLaunchRecord (entry : Nat)
  /-- SUBMIT_GRAPH (R421): A KIND 2 entry makes a graph's entry node ready. -/
  | submitGraph (entry : Nat)
  /-- SUBMIT_IMAGE_LOAD (R421): A KIND 3 entry requests an image load. -/
  | submitImageLoad (entry : Nat) (parts : ImageParts)
  /-- SERVICE_REGISTER_WRITE (R416): A host write to a service window register without its own row. -/
  | serviceRegisterWrite (port : Nat) (off : Nat) (value : BitVec 64)
  /-- DBGDATA_WRITE (R416): Writing DBGDATA writes the selected CSR of a stopped core. -/
  | dbgdataWrite (port : Nat) (value : BitVec 64)
  /-- BOOT_GO (R427): BOOTCTL GO verifies the staged firmware bundle. -/
  | bootGo (port : Nat) (len : Nat)
  /-- BOOT_DISTRIBUTE (R430): Stage 4 distributes and measures firmware components. -/
  | bootDistribute (digests : List Nat)
  /-- OPTICAL_CALIBRATION (R426): Stage 6 calibrates optics and sets READY. -/
  | opticalCalibration (ok : Bool)
  /-- ATTEST_QUOTE (R431): An ATTCTL write produces a signed measurement quote. -/
  | attestQuote (pa : Nat)
  /-- RECALIBRATE (R433): CALCTL GO recalibrates the optics under bisque service. -/
  | recalibrate (ok : Bool)
  /-- DROOP_DETECTOR_CLEAR (R391): The cluster droop detector clears and, after at least 16 stretched cycles, the die's cycles stop being stretched. -/
  | droopDetectorClear (die : Nat)
  /-- DBGST_LOST_READ (R404): A read of DBGST returns LOST and then clears it. -/
  | dbgstLostRead
  /-- WHEEL_PLACEMENT (R170): The running wheel places one strided entry in an engine queue. -/
  | wheelPlacement
  /-- WAITA_FIRE (R234): A write to a watched word fires a waiting waita slot and resumes issue. -/
  | waitaFire
  /-- WAITA_EXPIRY (R234): The waita tick limit expires and the word returns 4. -/
  | waitaExpiry
  /-- FSIG_WRITE (R236): The last recorded entry finishes and the signal value is written to the flag. -/
  | fsigWrite
  /-- ACQ_BUSY_RESEND (R275): 256 ticks after BUSY the acquire is sent again. -/
  | acqBusyResend
  /-- ACQ_LIMIT_EXPIRY (R275): The acq limit expires, sending a cancel or returning 0x100. -/
  | acqLimitExpiry
  /-- ALIGN_RESTART (R294): At T_a or R + 1 the core sets CYC to C and resumes issue. -/
  | alignRestart
  /-- BARW_EXPIRY (R293): The barw limit expires and the word returns 0x100. -/
  | barwExpiry
  /-- CWAIT_EXPIRY (R313): The cwait limit expires and the word returns 0x100. -/
  | cwaitExpiry
  /-- RETT (R385): Returns from a handler, re-injecting the replay queue and resuming at TCYC. -/
  | rett
  /-- WFILT_CLR (R412): Clears the watch filter. -/
  | wfiltClr
  /-- LD_STRM (R166): LD entry loads a stream block into a ring stage. -/
  | ldStrm
  /-- LD_VEC (R166): LD entry loads a stream block into a vector register. -/
  | ldVec
  /-- LD_ACC (R166): LD entry loads a stream block into an accumulator tile. -/
  | ldAcc
  /-- ST_STRM (R166): ST entry stores a ring stage to a stream. -/
  | stStrm
  /-- ST_VEC (R166): ST entry stores a vector register to a stream. -/
  | stVec
  /-- ST_ACC (R165): ST entry converts and stores an accumulator tile to a stream. -/
  | stAcc
  /-- Q_TOK (R165): An entry that moves no data, for its tokens or start cycle. -/
  | qTok
  /-- MX_MMA (R213): Computes one K-group windowed product into an FP32 tile. -/
  | mxMma
  /-- MX_MMAC (R205): Computes one complex K-group into an FP32 tile. -/
  | mxMmac
  /-- MX_MMI (R206): Computes one INT8 K-group into an INT32 tile. -/
  | mxMmi
  /-- MX_ZERO (R215): Defines an accumulator and zeroes its tile and LS plane. -/
  | mxZero
  /-- MX_LSF (R216): Copies an LS plane to a ring stage or vector register. -/
  | mxLsf
  /-- MX_TOV (R217): Copies tile elements into vector registers. -/
  | mxTov
  /-- MX_FROMV (R217): Copies vector registers into tile elements. -/
  | mxFromv
  /-- CP_COPY (R224): Copies a block from a source stream to a destination stream or ring. -/
  | cpCopy
  /-- CP_COPYM (R224): Copies a block to the same addresses in every core of a rectangle. -/
  | cpCopym
  /-- CP_FILL (R224): Fills a block with a 64-bit pattern. -/
  | cpFill
  /-- CP_GATH (R224): Gathers indexed rows into a destination block. -/
  | cpGath
  /-- CP_SCAT (R224): Scatters rows to indexed destinations. -/
  | cpScat
  /-- CP_CSEND (R309): Sends a pool block over a LIVE circuit in 64-B units. -/
  | cpCsend
  /-- CP_CBIND (R310): Opens a landing window for bytes arriving on a circuit handle. -/
  | cpCbind
  /-- CP_PUT (R328): Copies a block to another module's pool or device memory. -/
  | cpPut
  /-- CP_GET (R328): Copies a block from another module's pool or device memory. -/
  | cpGet
  /-- CP_GPUT (R331): Sends group-tagged device stores to be held at their sites. -/
  | cpGput
  /-- NM_CAS (R256): NM entry sends a compare-and-swap packet to device memory. -/
  | nmCas
  /-- NM_SWAP (R256): NM entry sends a swap packet. -/
  | nmSwap
  /-- NM_ENQ (R257): NM entry sends an enqueue onto a list descriptor. -/
  | nmEnq
  /-- NM_DEQ (R257): NM entry sends a dequeue from a list descriptor. -/
  | nmDeq
  /-- NM_CHASE (R258): NM entry sends a pointer chase. -/
  | nmChase
  /-- NM_RED (R259): NM entry sends an element-wise add into memory. -/
  | nmRed
  /-- NM_MLR (R260): NM entry sends a member's arrival to a reduction group. -/
  | nmMlr
  /-- NOP (R302): Sequencer word that does nothing for one tick. -/
  | nop
  /-- FEND (R302): Ends the slice, leaving handles in their states. -/
  | fend
  /-- SLICE_START (R301): Every slice of a launch starts executing at the common tick T0. -/
  | sliceStart
  /-- SET_LEAVE (R315): SETCTL GO with LEAVE makes the module a set of one. -/
  | setLeave
  /-- SET_FORM_LIMIT (R315): A member not heard within 1,000,000 ticks ends formation with cause 4. -/
  | setFormLimit
  /-- GRAPH_KERNEL_NODE (R368): A ready kernel node submits its launch record. -/
  | graphKernelNode
  /-- GRAPH_COPY_NODE (R368): A ready copy node copies bytes in the graph's address space. -/
  | graphCopyNode
  /-- GRAPH_BARRIER_NODE (R368): A ready barrier node completes at once. -/
  | graphBarrierNode
  /-- GRAPH_COND_NODE (R368): A ready cond node reads a word and releases one successor. -/
  | graphCondNode
  /-- GRAPH_LOOP_NODE (R368): A ready loop node runs its body nodes N times. -/
  | graphLoopNode
  /-- GRAPH_END_NODE (R368): A ready end node writes the graph completion word. -/
  | graphEndNode
  /-- BKCYC_STOP (R404): The core stops when CYC reaches BKCYC. -/
  | bkcycStop
  /-- MODULE_HALT (R407): Every die stops at one tick and heartbeats carry HALT. -/
  | moduleHalt
  /-- PRCTL_CLR (R414): Zeroes every head counter. -/
  | prctlClr
  /-- LEASE_EXPIRY (R418): The semaphore lease expires after the tick's commands. -/
  | leaseExpiry
  /-- MODULE_RESET (R426): Module reset reads fuses, starts TICK and derives the identity key. -/
  | moduleReset
  /-- HBM_TRAINING (R426): Stage 5 trains HBM4 and writes firmware values. -/
  | hbmTraining
  /-- SAMPLE_RECORD (R414): Every SAMPLE counted cycles with PRCTL.EN set, a sample record is written to the die's trace FIFO. -/
  | sampleRecord
deriving DecidableEq, Repr

end Sys2Proof
end

