-- ==== Sys2Proof/WellFormed.lean ====
section
/-! DEFINITION. Which terms of Instr the spec's encodings admit: the values a word's own fields may not hold
(R43, R48, R49, R54, R55 and each entry). A field of fixed zeros has no place in the term at all. -/

namespace Sys2Proof

/-- R80, R118: rounding codes a floating word accepts: not STO (0b101), not 0b110. -/
def rmOk (rm : BitVec 3) : Bool := rm != 5 && rm != 6

/-- R73, R86: format `d` holds every value of format `s` (codes 0x0 to 0x9). -/
def fmtHolds (d s : Nat) : Bool :=
  d == s || match d, s with
  | 1, 0 | 2, 0 | 2, 1 | 3, 0 | 3, 1 | 3, 2 => true
  | 4, 0 | 4, 9 | 4, 8 => true
  | 5, 0 | 5, 8 | 5, 9 => true
  | 6, 0 | 6, 1 | 6, 4 | 6, 5 | 6, 8 | 6, 9 => true
  | 7, 0 | 7, 1 | 7, 2 | 7, 4 | 7, 5 | 7, 6 | 7, 8 | 7, 9 => true
  | 8, 9 => true
  | _, _ => false

/-- R84: a narrowing conversion, whose result is floating or tapered and cannot hold every value of its source. -/
def stoOk (dst src : Nat) : Bool := decide (4 ≤ dst) && !fmtHolds dst src

/-- R120. -/
def fcvtOk (sto rtz : BitVec 1) (dst src : BitVec 4) : Bool :=
  decide (dst.toNat < 10 ∧ src.toNat < 10 ∧ ¬ (sto = 1 ∧ rtz = 1) ∧ (sto = 0 ∨ stoOk dst.toNat src.toNat = true))

/-- R105, R106, R269, R283, R316, R346, R360, R375, R395, R404: selectors that an owner assigns. -/
def csrAssigned (c : BitVec 10) : Bool :=
  let n := c.toNat
  decide (n < 0x10 ∨ (0x20 ≤ n ∧ n ≤ 0x22) ∨ (0x40 ≤ n ∧ n ≤ 0x4A) ∨ (0x50 ≤ n ∧ n ≤ 0x57) ∨ (0x60 ≤ n ∧ n ≤ 0x67)
    ∨ n = 0x80 ∨ n = 0x81 ∨ (0x84 ≤ n ∧ n ≤ 0x88) ∨ (0x8C ≤ n ∧ n ≤ 0x8F) ∨ (0xA0 ≤ n ∧ n ≤ 0xA6)
    ∨ n = 0xC0 ∨ n = 0xC1 ∨ n = 0xE0 ∨ n = 0xE1 ∨ (0xF0 ≤ n ∧ n ≤ 0xF2))

/-- R186: codes 0x00 to 0x1B, and which of them take STO. -/
def vcvtOk (code : BitVec 5) (bs : BitVec 1) : Bool :=
  let n := code.toNat
  decide (n < 0x1C ∧ (bs = 0 ∨ (1 ≤ n ∧ n ≤ 5) ∨ (0x0C ≤ n ∧ n ≤ 0x0F) ∨ (0x14 ≤ n ∧ n ≤ 0x17)))

/-- R373: the codes assigned to causes; `trap` may raise any but 0x3F (R383). -/
def trapCodeOk (c : BitVec 8) : Bool :=
  let n := c.toNat
  decide ((1 ≤ n ∧ n ≤ 0x0A) ∨ (0x10 ≤ n ∧ n ≤ 0x14) ∨ (0x18 ≤ n ∧ n ≤ 0x1C) ∨ n = 0x20 ∨ n = 0x21 ∨ n = 0x24
    ∨ (0x28 ≤ n ∧ n ≤ 0x2A) ∨ n = 0x30)

/-- The instruction is one a word encodes with values its entry assigns; event and engine-entry rows have no encoding
and are well-formed as they are. -/
def Instr.wf : Instr → Bool
  | .add _ _ _ _ _ => true
  | .sub _ _ _ _ _ => true
  | .mul _ _ _ _ _ => true
  | .mulh _ _ _ _ u => u != 3
  | .div _ _ _ _ _ => true
  | .rem _ _ _ _ _ => true
  | .and _ _ _ _ => true
  | .or _ _ _ _ => true
  | .xor _ _ _ _ => true
  | .shl _ _ _ _ _ => true
  | .shr _ _ _ _ _ => true
  | .sra _ _ _ _ _ => true
  | .min _ _ _ _ _ => true
  | .max _ _ _ _ _ => true
  | .clz _ _ _ _ => true
  | .popc _ _ _ _ => true
  | .sel _ _ _ _ _ => true
  | .cmp pd _ _ _ _ cond => decide (pd != 0 ∧ cond.toNat < 6)
  | .plog pd _ _ _ op => decide (pd != 0 ∧ op.toNat < 7)
  | .addi _ _ _ _ => true
  | .andi _ _ _ _ => true
  | .ori _ _ _ _ => true
  | .xori _ _ _ _ => true
  | .shli _ _ _ w amt => decide (w = 0 ∨ amt.toNat < 32)
  | .shri _ _ _ w amt => decide (w = 0 ∨ amt.toNat < 32)
  | .srai _ _ _ w amt => decide (w = 0 ∨ amt.toNat < 32)
  | .cmpi _ pd _ _ _ => pd != 0
  | .lhi _ _ => true
  | .fadd _ _ _ _ _ rm => rmOk rm
  | .fsub _ _ _ _ _ rm => rmOk rm
  | .fmul _ _ _ _ _ rm => rmOk rm
  | .fdiv _ _ _ _ _ rm => rmOk rm
  | .fsqrt _ _ _ _ rm => rmOk rm
  | .fma _ _ _ _ _ rm => rmOk rm
  | .fmin _ _ _ _ _ => true
  | .fmax _ _ _ _ _ => true
  | .fcmp pd _ _ _ _ cond => decide (pd != 0 ∧ cond.toNat < 6)
  | .fcvt _ _ sto dst _ rtz src => fcvtOk sto rtz dst src
  | .br _ _ => true
  | .call _ _ => true
  | .jr _ _ _ => true
  | .loop _ _ _ _ => true
  | .loopi _ _ _ => true
  | .lbrk _ _ => true
  | .csrr _ _ csr => csrAssigned csr
  | .csrw _ _ csr => csrAssigned csr
  | .csrx _ _ _ csr => csrAssigned csr
  | .dbgstLostRead => true
  | .idle _ _ _ => true
  | .lds _ _ _ sz _ => sz != 7
  | .sts _ _ _ _ _ => true
  | .amo _ _ _ _ _ op => decide (op.toNat < 9)
  | .amocas _ _ _ _ _ => true
  | .rld _ _ _ _ => true
  | .rst _ _ _ _ _ => true
  | .ramo _ _ _ _ _ op => decide (op.toNat < 9)
  | .ramocas _ _ _ _ _ => true
  | .vadd _ _ _ _ _ _ _ => true
  | .vsub _ _ _ _ _ _ _ => true
  | .vmul _ _ _ _ _ _ _ => true
  | .vfma _ _ _ _ _ _ _ => true
  | .vmin _ _ _ _ _ _ _ => true
  | .vmax _ _ _ _ _ _ _ => true
  | .vabs _ _ _ _ _ => true
  | .vneg _ _ _ _ _ => true
  | .vand _ _ _ _ _ _ _ => true
  | .vor _ _ _ _ _ _ _ => true
  | .vxor _ _ _ _ _ _ _ => true
  | .vandn _ _ _ _ _ _ _ => true
  | .vshl _ _ _ _ _ ty _ => decide (2 ≤ ty.toNat)
  | .vshr _ _ _ _ _ ty _ => decide (2 ≤ ty.toNat)
  | .vsra _ _ _ _ _ ty _ => decide (2 ≤ ty.toNat)
  | .vcmp _ md _ _ _ _ _ _ => md != 0
  | .vsel _ _ _ _ _ _ _ => true
  | .vcvt _ _ code bs _ _ => vcvtOk code bs
  | .vrint _ _ _ ty _ => decide (ty.toNat < 2)
  | .vrcp _ _ _ ty _ => decide (ty.toNat < 2)
  | .vrsq _ _ _ ty _ => decide (ty.toNat < 2)
  | .vexp2 _ _ _ ty _ => decide (ty.toNat < 2)
  | .vlog2 _ _ _ ty _ => decide (ty.toNat < 2)
  | .vred _ _ op _ ty _ => decide (op.toNat < 6 ∧ (op.toNat < 3 ∨ 2 ≤ ty.toNat))
  | .vscan _ _ op _ ty _ => decide (op.toNat < 6 ∧ (op.toNat < 3 ∨ 2 ≤ ty.toNat))
  | .vperm _ _ _ _ _ _ _ => true
  | .vrot _ _ _ _ _ _ => true
  | .vlane _ _ _ _ _ _ => true
  | .vpack _ _ vb bs _ ty _ => decide (ty ≠ 1 ∧ (ty ≠ 0 ∨ (vb = 0 ∧ bs = 0)))
  | .vunpack _ _ h _ ty _ => decide (ty ≠ 1 ∧ (ty ≠ 0 ∨ h = 0))
  | .vmov _ _ _ _ _ => true
  | .vmovBroadcast _ _ _ _ _ => true
  | .vmlog md _ _ _ _ => md != 0
  | .vmpop _ _ _ ty _ => decide (2 ≤ ty.toNat)
  | .vdot2 _ _ _ _ _ ty _ => decide (ty = 1 ∨ ty = 3)
  | .vld _ _ _ _ _ _ => true
  | .vst _ _ _ _ _ _ => true
  | .vgath _ _ _ _ _ _ => true
  | .vscat _ _ _ _ _ _ => true
  | .patchAndIssue eng _ fld val => decide (eng.toNat < 6 ∧ (fld ≠ 31 ∨ val = 0))
  | .amend eng fld _ => decide (eng.toNat < 6 ∧ fld ≠ 31)
  | .li _ h hi _ => decide (h = 0 ∨ hi = 0)
  | .jmpf _ => true
  | .callf _ _ => true
  | .tdef eng _ _ _ => decide (eng.toNat < 6)
  | .tread eng _ _ _ => decide (eng.toNat < 6)
  | .qdef _ w _ _ => w != 7
  | .qread _ _ w => w != 7
  | .rdef _ prod cons _ _ _ => decide (prod ≠ 7 ∧ cons ≠ 7 ∧ prod ≠ cons)
  | .whlSlot _ eng _ _ _ k fa fb => decide (eng.toNat < 6 ∧ k.toNat < 6 ∧ (fa ≠ fb ∨ fa = 31))
  | .whlStride _ _ lvl _ => decide (lvl.toNat < 6)
  | .whlCount lvl _ => decide (lvl.toNat < 6)
  | .whlLen n => decide (n.toNat ≤ 32)
  | .whlgo sa lvl => decide (lvl.toNat < 6 ∧ (lvl = 0 ∨ sa ≠ 0))
  | .wheelPlacement => true
  | .launch _ _ => true
  | .racq _ _ _ => true
  | .rrel _ _ _ => true
  | .rstat _ _ _ => true
  | .tokRd _ _ => true
  | .tokPush _ => true
  | .tokTry _ _ => true
  | .tokVpop fifo => decide (fifo = 1 ∨ fifo = 6)
  | .tokVpush fifo => decide (fifo = 2 ∨ fifo = 5)
  | .qdrain _ => true
  | .waita _ sa _ _ => decide (sa ≠ 0 ∧ sa.toNat % 2 = 0)
  | .waitaFire => true
  | .waitaExpiry => true
  | .fsig _ eng _ => eng != 7
  | .fsigWrite => true
  | .acq _ _ _ => true
  | .acqAnswer _ _ => true
  | .acqBusyResend => true
  | .acqLimitExpiry => true
  | .rel ovr scope _ => decide (ovr = 1 ∨ scope = 0)
  | .bind _ _ => true
  | .fence _ => true
  | .lockAcquirePacket _ => true
  | .lockReleasePacket _ => true
  | .lockCancelPacket _ => true
  | .rtick _ => true
  | .rcyc _ => true
  | .align _ _ _ => true
  | .alignRestart => true
  | .bar _ => true
  | .barw _ _ _ => true
  | .barwExpiry => true
  | .bart _ _ => true
  | .barrierReport _ _ _ => true
  | .barrierRelease _ _ _ => true
  | .barrierExcuse _ _ _ => true
  | .cstat _ _ => true
  | .cstatSettle _ => true
  | .cstatStart _ => true
  | .cstatFrec _ _ => true
  | .cwait _ _ _ => true
  | .cwaitExpiry => true
  | .cgopen _ _ _ => true
  | .cgcommit _ _ => true
  | .cgabort _ _ => true
  | .cgstat _ _ => true
  | .commitHold _ => true
  | .commitAnswer _ => true
  | .publish _ => true
  | .discard _ => true
  | .monset _ _ => true
  | .monref sa _ => decide (sa ≠ 0 ∧ sa.toNat % 2 = 0)
  | .monrd _ part _ => part != 7
  | .monchk _ _ _ => true
  | .kend _ => true
  | .trap _ code => trapCodeOk code
  | .rett => true
  | .rqrd _ _ _ => true
  | .rqwr _ _ _ => true
  | .pbr pd lvl => decide (pd ≠ 0 ∧ (lvl = 1 ∨ lvl = 2))
  | .pack _ => true
  | .bkpt _ => true
  | .wfiltClr => true
  | .wfiltIns _ _ _ => true
  | .wfiltTst _ _ _ => true
  | .ldStrm => true
  | .ldVec => true
  | .ldAcc => true
  | .stStrm => true
  | .stVec => true
  | .stAcc => true
  | .qTok => true
  | .mxMma => true
  | .mxMmac => true
  | .mxMmi => true
  | .mxZero => true
  | .mxLsf => true
  | .mxTov => true
  | .mxFromv => true
  | .cpCopy => true
  | .cpCopym => true
  | .cpFill => true
  | .cpGath => true
  | .cpScat => true
  | .cpCsend => true
  | .cpCbind => true
  | .cpPut => true
  | .cpGet => true
  | .cpGput => true
  | .copyEnd _ => true
  | .copyFault _ => true
  | .nmCas => true
  | .nmSwap => true
  | .nmEnq => true
  | .nmDeq => true
  | .nmChase => true
  | .nmRed => true
  | .nmMlr => true
  | .nmuOperation _ => true
  | .mlrArrival _ => true
  | .mlrLimitExpiry _ => true
  | .remoteOperation _ => true
  | .homeRequest _ => true
  | .requestResponse _ => true
  | .ackTimeout _ => true
  | .translationWalk _ _ => true
  | .tlbInvalidate _ _ _ _ => true
  | .route _ _ _ _ _ alt => decide (alt.toNat < 2)
  | .est _ => true
  | .hold _ _ => true
  | .tear _ => true
  | .atstep _ _ => true
  | .sig _ _ _ => true
  | .rpt _ _ => true
  | .nop => true
  | .fend => true
  | .sliceStart => true
  | .circuitSettleEnd _ _ _ => true
  | .holdEnd _ _ => true
  | .circuitFault _ _ _ _ _ => true
  | .circuitReestablish _ _ => true
  | .circuitUnitLanding _ => true
  | .flitReceive _ _ => true
  | .slotForward _ _ _ => true
  | .laneShed _ => true
  | .heartbeatSend _ => true
  | .linkSilenceTimeout _ => true
  | .moduleSilenceTimeout _ => true
  | .deathNotice _ _ => true
  | .level5BarrierReport _ _ _ => true
  | .level5Release _ _ _ => true
  | .setForm _ _ _ => true
  | .setLeave => true
  | .setFormLimit => true
  | .launchSubmit _ _ _ _ => true
  | .launchAdmit _ => true
  | .taskStart _ _ => true
  | .launchRequestAccept _ => true
  | .saggerSwap _ => true
  | .fullPreemption _ => true
  | .equivalenceStop _ => true
  | .migrationResume _ _ _ => true
  | .launchClose _ => true
  | .graphKernelNode => true
  | .graphCopyNode => true
  | .graphBarrierNode => true
  | .graphCondNode => true
  | .graphLoopNode => true
  | .graphEndNode => true
  | .graphNodeComplete _ _ => true
  | .budgetDebit _ _ => true
  | .machineCheck _ => true
  | .coreRetire _ => true
  | .debugStopreq _ => true
  | .debugResume _ => true
  | .debugStep _ => true
  | .bkcycStop => true
  | .moduleHalt => true
  | .prctlClr => true
  | .droopDetect _ => true
  | .frequencyChange _ _ => true
  | .powerEvaluation _ _ => true
  | .demandEpisodeExpiry _ => true
  | .fabricEnergyCheck _ _ => true
  | .clusterClosing _ _ _ => true
  | .clusterGate _ _ => true
  | .clusterGateProgress _ _ => true
  | .clusterWake _ _ => true
  | .clusterWakeProgress _ _ => true
  | .marginReplan _ _ _ _ => true
  | .scrub _ _ _ => true
  | .hostAccess _ _ _ => true
  | .semaAcquire _ _ _ => true
  | .semaRenew _ _ _ => true
  | .semaRelease _ _ => true
  | .leaseExpiry => true
  | .subbaseWrite _ _ => true
  | .submissionTake _ => true
  | .submitLaunchRecord _ => true
  | .submitGraph _ => true
  | .submitImageLoad _ _ => true
  | .serviceRegisterWrite _ _ _ => true
  | .dbgdataWrite _ _ => true
  | .moduleReset => true
  | .bootGo _ _ => true
  | .bootDistribute _ => true
  | .hbmTraining => true
  | .opticalCalibration _ => true
  | .attestQuote _ => true
  | .recalibrate _ => true
  | .droopDetectorClear _ => true
  | .sampleRecord => true

/-- The row is one that a word of the issue stream (not of the fabric sequencer) encodes. -/
def Instr.isWord : Instr → Bool
  | .add _ _ _ _ _ => true
  | .sub _ _ _ _ _ => true
  | .mul _ _ _ _ _ => true
  | .mulh _ _ _ _ _ => true
  | .div _ _ _ _ _ => true
  | .rem _ _ _ _ _ => true
  | .and _ _ _ _ => true
  | .or _ _ _ _ => true
  | .xor _ _ _ _ => true
  | .shl _ _ _ _ _ => true
  | .shr _ _ _ _ _ => true
  | .sra _ _ _ _ _ => true
  | .min _ _ _ _ _ => true
  | .max _ _ _ _ _ => true
  | .clz _ _ _ _ => true
  | .popc _ _ _ _ => true
  | .sel _ _ _ _ _ => true
  | .cmp _ _ _ _ _ _ => true
  | .plog _ _ _ _ _ => true
  | .addi _ _ _ _ => true
  | .andi _ _ _ _ => true
  | .ori _ _ _ _ => true
  | .xori _ _ _ _ => true
  | .shli _ _ _ _ _ => true
  | .shri _ _ _ _ _ => true
  | .srai _ _ _ _ _ => true
  | .cmpi _ _ _ _ _ => true
  | .lhi _ _ => true
  | .fadd _ _ _ _ _ _ => true
  | .fsub _ _ _ _ _ _ => true
  | .fmul _ _ _ _ _ _ => true
  | .fdiv _ _ _ _ _ _ => true
  | .fsqrt _ _ _ _ _ => true
  | .fma _ _ _ _ _ _ => true
  | .fmin _ _ _ _ _ => true
  | .fmax _ _ _ _ _ => true
  | .fcmp _ _ _ _ _ _ => true
  | .fcvt _ _ _ _ _ _ _ => true
  | .br _ _ => true
  | .call _ _ => true
  | .jr _ _ _ => true
  | .loop _ _ _ _ => true
  | .loopi _ _ _ => true
  | .lbrk _ _ => true
  | .csrr _ _ _ => true
  | .csrw _ _ _ => true
  | .csrx _ _ _ _ => true
  | .dbgstLostRead => false
  | .idle _ _ _ => true
  | .lds _ _ _ _ _ => true
  | .sts _ _ _ _ _ => true
  | .amo _ _ _ _ _ _ => true
  | .amocas _ _ _ _ _ => true
  | .rld _ _ _ _ => true
  | .rst _ _ _ _ _ => true
  | .ramo _ _ _ _ _ _ => true
  | .ramocas _ _ _ _ _ => true
  | .vadd _ _ _ _ _ _ _ => true
  | .vsub _ _ _ _ _ _ _ => true
  | .vmul _ _ _ _ _ _ _ => true
  | .vfma _ _ _ _ _ _ _ => true
  | .vmin _ _ _ _ _ _ _ => true
  | .vmax _ _ _ _ _ _ _ => true
  | .vabs _ _ _ _ _ => true
  | .vneg _ _ _ _ _ => true
  | .vand _ _ _ _ _ _ _ => true
  | .vor _ _ _ _ _ _ _ => true
  | .vxor _ _ _ _ _ _ _ => true
  | .vandn _ _ _ _ _ _ _ => true
  | .vshl _ _ _ _ _ _ _ => true
  | .vshr _ _ _ _ _ _ _ => true
  | .vsra _ _ _ _ _ _ _ => true
  | .vcmp _ _ _ _ _ _ _ _ => true
  | .vsel _ _ _ _ _ _ _ => true
  | .vcvt _ _ _ _ _ _ => true
  | .vrint _ _ _ _ _ => true
  | .vrcp _ _ _ _ _ => true
  | .vrsq _ _ _ _ _ => true
  | .vexp2 _ _ _ _ _ => true
  | .vlog2 _ _ _ _ _ => true
  | .vred _ _ _ _ _ _ => true
  | .vscan _ _ _ _ _ _ => true
  | .vperm _ _ _ _ _ _ _ => true
  | .vrot _ _ _ _ _ _ => true
  | .vlane _ _ _ _ _ _ => true
  | .vpack _ _ _ _ _ _ _ => true
  | .vunpack _ _ _ _ _ _ => true
  | .vmov _ _ _ _ _ => true
  | .vmovBroadcast _ _ _ _ _ => true
  | .vmlog _ _ _ _ _ => true
  | .vmpop _ _ _ _ _ => true
  | .vdot2 _ _ _ _ _ _ _ => true
  | .vld _ _ _ _ _ _ => true
  | .vst _ _ _ _ _ _ => true
  | .vgath _ _ _ _ _ _ => true
  | .vscat _ _ _ _ _ _ => true
  | .patchAndIssue _ _ _ _ => true
  | .amend _ _ _ => true
  | .li _ _ _ _ => true
  | .jmpf _ => true
  | .callf _ _ => true
  | .tdef _ _ _ _ => true
  | .tread _ _ _ _ => true
  | .qdef _ _ _ _ => true
  | .qread _ _ _ => true
  | .rdef _ _ _ _ _ _ => true
  | .whlSlot _ _ _ _ _ _ _ _ => true
  | .whlStride _ _ _ _ => true
  | .whlCount _ _ => true
  | .whlLen _ => true
  | .whlgo _ _ => true
  | .wheelPlacement => false
  | .launch _ _ => true
  | .racq _ _ _ => true
  | .rrel _ _ _ => true
  | .rstat _ _ _ => true
  | .tokRd _ _ => true
  | .tokPush _ => true
  | .tokTry _ _ => true
  | .tokVpop _ => true
  | .tokVpush _ => true
  | .qdrain _ => true
  | .waita _ _ _ _ => true
  | .waitaFire => false
  | .waitaExpiry => false
  | .fsig _ _ _ => true
  | .fsigWrite => false
  | .acq _ _ _ => true
  | .acqAnswer _ _ => false
  | .acqBusyResend => false
  | .acqLimitExpiry => false
  | .rel _ _ _ => true
  | .bind _ _ => true
  | .fence _ => true
  | .lockAcquirePacket _ => false
  | .lockReleasePacket _ => false
  | .lockCancelPacket _ => false
  | .rtick _ => true
  | .rcyc _ => true
  | .align _ _ _ => true
  | .alignRestart => false
  | .bar _ => true
  | .barw _ _ _ => true
  | .barwExpiry => false
  | .bart _ _ => true
  | .barrierReport _ _ _ => false
  | .barrierRelease _ _ _ => false
  | .barrierExcuse _ _ _ => false
  | .cstat _ _ => true
  | .cstatSettle _ => true
  | .cstatStart _ => true
  | .cstatFrec _ _ => true
  | .cwait _ _ _ => true
  | .cwaitExpiry => false
  | .cgopen _ _ _ => true
  | .cgcommit _ _ => true
  | .cgabort _ _ => true
  | .cgstat _ _ => true
  | .commitHold _ => false
  | .commitAnswer _ => false
  | .publish _ => false
  | .discard _ => false
  | .monset _ _ => true
  | .monref _ _ => true
  | .monrd _ _ _ => true
  | .monchk _ _ _ => true
  | .kend _ => true
  | .trap _ _ => true
  | .rett => true
  | .rqrd _ _ _ => true
  | .rqwr _ _ _ => true
  | .pbr _ _ => true
  | .pack _ => true
  | .bkpt _ => true
  | .wfiltClr => true
  | .wfiltIns _ _ _ => true
  | .wfiltTst _ _ _ => true
  | .ldStrm => false
  | .ldVec => false
  | .ldAcc => false
  | .stStrm => false
  | .stVec => false
  | .stAcc => false
  | .qTok => false
  | .mxMma => false
  | .mxMmac => false
  | .mxMmi => false
  | .mxZero => false
  | .mxLsf => false
  | .mxTov => false
  | .mxFromv => false
  | .cpCopy => false
  | .cpCopym => false
  | .cpFill => false
  | .cpGath => false
  | .cpScat => false
  | .cpCsend => false
  | .cpCbind => false
  | .cpPut => false
  | .cpGet => false
  | .cpGput => false
  | .copyEnd _ => false
  | .copyFault _ => false
  | .nmCas => false
  | .nmSwap => false
  | .nmEnq => false
  | .nmDeq => false
  | .nmChase => false
  | .nmRed => false
  | .nmMlr => false
  | .nmuOperation _ => false
  | .mlrArrival _ => false
  | .mlrLimitExpiry _ => false
  | .remoteOperation _ => false
  | .homeRequest _ => false
  | .requestResponse _ => false
  | .ackTimeout _ => false
  | .translationWalk _ _ => false
  | .tlbInvalidate _ _ _ _ => false
  | .route _ _ _ _ _ _ => false
  | .est _ => false
  | .hold _ _ => false
  | .tear _ => false
  | .atstep _ _ => false
  | .sig _ _ _ => false
  | .rpt _ _ => false
  | .nop => false
  | .fend => false
  | .sliceStart => false
  | .circuitSettleEnd _ _ _ => false
  | .holdEnd _ _ => false
  | .circuitFault _ _ _ _ _ => false
  | .circuitReestablish _ _ => false
  | .circuitUnitLanding _ => false
  | .flitReceive _ _ => false
  | .slotForward _ _ _ => false
  | .laneShed _ => false
  | .heartbeatSend _ => false
  | .linkSilenceTimeout _ => false
  | .moduleSilenceTimeout _ => false
  | .deathNotice _ _ => false
  | .level5BarrierReport _ _ _ => false
  | .level5Release _ _ _ => false
  | .setForm _ _ _ => false
  | .setLeave => false
  | .setFormLimit => false
  | .launchSubmit _ _ _ _ => false
  | .launchAdmit _ => false
  | .taskStart _ _ => false
  | .launchRequestAccept _ => false
  | .saggerSwap _ => false
  | .fullPreemption _ => false
  | .equivalenceStop _ => false
  | .migrationResume _ _ _ => false
  | .launchClose _ => false
  | .graphKernelNode => false
  | .graphCopyNode => false
  | .graphBarrierNode => false
  | .graphCondNode => false
  | .graphLoopNode => false
  | .graphEndNode => false
  | .graphNodeComplete _ _ => false
  | .budgetDebit _ _ => false
  | .machineCheck _ => false
  | .coreRetire _ => false
  | .debugStopreq _ => false
  | .debugResume _ => false
  | .debugStep _ => false
  | .bkcycStop => false
  | .moduleHalt => false
  | .prctlClr => false
  | .droopDetect _ => false
  | .frequencyChange _ _ => false
  | .powerEvaluation _ _ => false
  | .demandEpisodeExpiry _ => false
  | .fabricEnergyCheck _ _ => false
  | .clusterClosing _ _ _ => false
  | .clusterGate _ _ => false
  | .clusterGateProgress _ _ => false
  | .clusterWake _ _ => false
  | .clusterWakeProgress _ _ => false
  | .marginReplan _ _ _ _ => false
  | .scrub _ _ _ => false
  | .hostAccess _ _ _ => false
  | .semaAcquire _ _ _ => false
  | .semaRenew _ _ _ => false
  | .semaRelease _ _ => false
  | .leaseExpiry => false
  | .subbaseWrite _ _ => false
  | .submissionTake _ => false
  | .submitLaunchRecord _ => false
  | .submitGraph _ => false
  | .submitImageLoad _ _ => false
  | .serviceRegisterWrite _ _ _ => false
  | .dbgdataWrite _ _ => false
  | .moduleReset => false
  | .bootGo _ _ => false
  | .bootDistribute _ => false
  | .hbmTraining => false
  | .opticalCalibration _ => false
  | .attestQuote _ => false
  | .recalibrate _ => false
  | .droopDetectorClear _ => false
  | .sampleRecord => false

/-- The row is one of the fabric sequencer's nine words (R302). -/
def Instr.isSeqWord : Instr → Bool
  | .route _ _ _ _ _ _ | .est _ | .hold _ _ | .tear _ | .atstep _ _ | .sig _ _ _ | .rpt _ _ | .nop | .fend => true
  | _ => false

/-- R54: the instruction takes two consecutive words. -/
def Instr.isWide : Instr → Bool
  | .li _ _ _ _ | .jmpf _ | .callf _ _ | .tdef _ _ _ _ | .tread _ _ _ _ | .qdef _ _ _ _ | .qread _ _ _ | .rdef _ _ _ _ _ _ | .whlSlot _ _ _ _ _ _ _ _ | .whlStride _ _ _ _ | .whlCount _ _ | .whlLen _ | .whlgo _ _ | .launch _ _ => true
  | _ => false

end Sys2Proof
end

