-- ==== Sys2Proof/Decode.lean ====
section
/-! DEFINITION. Decoding (R42 to R59, R302) and, after it, the encoder, both written from the encoding tables. The words
are taken as one number: the first word in bits 31..0 and, for a WIDE instruction, the second in bits 63..32 (R54). -/

namespace Sys2Proof

/-- Why a word is no instruction: each of these raises ILLEGAL_WORD (R43), or stops a slice (R301). -/
inductive Reject where
  /-- The class, sub-class or op code is not assigned (R7, R59). -/
  | reservedOp
  /-- A field that the format or the entry requires to be zero is not zero (R43). -/
  | nonzeroField
  /-- One of the word's own fields holds a value its entry does not assign (R43). -/
  | unassignedValue
deriving DecidableEq, Repr

/-- Bits `lo` upward of the words, `n` of them. -/
def bf (n w lo : Nat) : BitVec n := BitVec.ofNat n (w / 2 ^ lo)

/-- The `n` bits at `lo` hold `v`. -/
def fz (w lo n v : Nat) : Bool := w / 2 ^ lo % 2 ^ n == v

/-- The instruction, when its fixed fields hold what they must. -/
def need (c : Bool) (i : Instr) : Except Reject Instr := if c then .ok i else .error .nonzeroField

/-- Class 00 (R46 to R48). -/
def decodeScalar (w : Nat) : Except Reject Instr :=
  match w / 2 ^ 24 % 64 with
  | 0 => need (fz w 2 3 0) (.add (bf 5 w 19) (bf 5 w 14) (bf 5 w 9) (bf 4 w 5) (bf 2 w 0))
  | 1 => need (fz w 2 3 0) (.sub (bf 5 w 19) (bf 5 w 14) (bf 5 w 9) (bf 4 w 5) (bf 2 w 0))
  | 2 => need (fz w 1 4 0) (.mul (bf 5 w 19) (bf 5 w 14) (bf 5 w 9) (bf 4 w 5) (bf 1 w 0))
  | 3 => need (fz w 2 3 0) (.mulh (bf 5 w 19) (bf 5 w 14) (bf 5 w 9) (bf 4 w 5) (bf 2 w 0))
  | 4 => need (fz w 1 4 0) (.div (bf 5 w 19) (bf 5 w 14) (bf 5 w 9) (bf 4 w 5) (bf 1 w 0))
  | 5 => need (fz w 1 4 0) (.rem (bf 5 w 19) (bf 5 w 14) (bf 5 w 9) (bf 4 w 5) (bf 1 w 0))
  | 6 => need (fz w 0 5 0) (.and (bf 5 w 19) (bf 5 w 14) (bf 5 w 9) (bf 4 w 5))
  | 7 => need (fz w 0 5 0) (.or (bf 5 w 19) (bf 5 w 14) (bf 5 w 9) (bf 4 w 5))
  | 8 => need (fz w 0 5 0) (.xor (bf 5 w 19) (bf 5 w 14) (bf 5 w 9) (bf 4 w 5))
  | 9 => need (fz w 1 4 0) (.shl (bf 5 w 19) (bf 5 w 14) (bf 5 w 9) (bf 4 w 5) (bf 1 w 0))
  | 10 => need (fz w 1 4 0) (.shr (bf 5 w 19) (bf 5 w 14) (bf 5 w 9) (bf 4 w 5) (bf 1 w 0))
  | 11 => need (fz w 1 4 0) (.sra (bf 5 w 19) (bf 5 w 14) (bf 5 w 9) (bf 4 w 5) (bf 1 w 0))
  | 12 => need (fz w 1 4 0) (.min (bf 5 w 19) (bf 5 w 14) (bf 5 w 9) (bf 4 w 5) (bf 1 w 0))
  | 13 => need (fz w 1 4 0) (.max (bf 5 w 19) (bf 5 w 14) (bf 5 w 9) (bf 4 w 5) (bf 1 w 0))
  | 14 => need (fz w 1 4 0 && fz w 9 5 0) (.clz (bf 5 w 19) (bf 5 w 14) (bf 4 w 5) (bf 1 w 0))
  | 15 => need (fz w 1 4 0 && fz w 9 5 0) (.popc (bf 5 w 19) (bf 5 w 14) (bf 4 w 5) (bf 1 w 0))
  | 16 => need (fz w 3 2 0) (.sel (bf 5 w 19) (bf 5 w 14) (bf 5 w 9) (bf 4 w 5) (bf 3 w 0))
  | 17 => need (fz w 4 1 0 && fz w 22 2 0) (.cmp (bf 3 w 19) (bf 5 w 14) (bf 5 w 9) (bf 4 w 5) (bf 1 w 3) (bf 3 w 0))
  | 18 => need (fz w 22 2 0 && fz w 17 2 0 && fz w 12 2 0) (.plog (bf 3 w 19) (bf 3 w 14) (bf 3 w 9) (bf 4 w 5) (bf 5 w 0))
  | 19 => need (true) (.addi (bf 5 w 19) (bf 5 w 14) (bf 4 w 10) (bf 10 w 0))
  | 20 => need (true) (.andi (bf 5 w 19) (bf 5 w 14) (bf 4 w 10) (bf 10 w 0))
  | 21 => need (true) (.ori (bf 5 w 19) (bf 5 w 14) (bf 4 w 10) (bf 10 w 0))
  | 22 => need (true) (.xori (bf 5 w 19) (bf 5 w 14) (bf 4 w 10) (bf 10 w 0))
  | 23 => need (fz w 7 3 0) (.shli (bf 5 w 19) (bf 5 w 14) (bf 4 w 10) (bf 1 w 6) (bf 6 w 0))
  | 24 => need (fz w 7 3 0) (.shri (bf 5 w 19) (bf 5 w 14) (bf 4 w 10) (bf 1 w 6) (bf 6 w 0))
  | 25 => need (fz w 7 3 0) (.srai (bf 5 w 19) (bf 5 w 14) (bf 4 w 10) (bf 1 w 6) (bf 6 w 0))
  | 26 => need (true) (.cmpi (bf 2 w 22) (bf 3 w 19) (bf 5 w 14) (bf 4 w 10) (bf 10 w 0))
  | 27 => need (true) (.lhi (bf 5 w 19) (bf 19 w 0))
  | 28 => need (fz w 3 1 0) (.fadd (bf 5 w 19) (bf 5 w 14) (bf 5 w 9) (bf 4 w 5) (bf 1 w 4) (bf 3 w 0))
  | 29 => need (fz w 3 1 0) (.fsub (bf 5 w 19) (bf 5 w 14) (bf 5 w 9) (bf 4 w 5) (bf 1 w 4) (bf 3 w 0))
  | 30 => need (fz w 3 1 0) (.fmul (bf 5 w 19) (bf 5 w 14) (bf 5 w 9) (bf 4 w 5) (bf 1 w 4) (bf 3 w 0))
  | 31 => need (fz w 3 1 0) (.fdiv (bf 5 w 19) (bf 5 w 14) (bf 5 w 9) (bf 4 w 5) (bf 1 w 4) (bf 3 w 0))
  | 32 => need (fz w 3 1 0 && fz w 9 5 0) (.fsqrt (bf 5 w 19) (bf 5 w 14) (bf 4 w 5) (bf 1 w 4) (bf 3 w 0))
  | 33 => need (fz w 3 1 0) (.fma (bf 5 w 19) (bf 5 w 14) (bf 5 w 9) (bf 4 w 5) (bf 1 w 4) (bf 3 w 0))
  | 34 => need (fz w 0 4 0) (.fmin (bf 5 w 19) (bf 5 w 14) (bf 5 w 9) (bf 4 w 5) (bf 1 w 4))
  | 35 => need (fz w 0 4 0) (.fmax (bf 5 w 19) (bf 5 w 14) (bf 5 w 9) (bf 4 w 5) (bf 1 w 4))
  | 36 => need (fz w 3 1 0 && fz w 22 2 0) (.fcmp (bf 3 w 19) (bf 5 w 14) (bf 5 w 9) (bf 4 w 5) (bf 1 w 4) (bf 3 w 0))
  | 37 => need (true) (.fcvt (bf 5 w 19) (bf 5 w 14) (bf 1 w 13) (bf 4 w 9) (bf 4 w 5) (bf 1 w 4) (bf 4 w 0))
  | 38 => need (true) (.br (bf 4 w 20) (bf 20 w 0))
  | 39 => need (true) (.call (bf 4 w 20) (bf 20 w 0))
  | 40 => need (fz w 9 5 0 && fz w 0 5 0) (.jr (bf 5 w 19) (bf 5 w 14) (bf 4 w 5))
  | 41 => need (fz w 21 3 0) (.loop (bf 2 w 19) (bf 5 w 14) (bf 4 w 10) (bf 10 w 0))
  | 42 => need (fz w 21 3 0) (.loopi (bf 2 w 19) (bf 9 w 10) (bf 10 w 0))
  | 43 => need (fz w 21 3 0 && fz w 9 10 0 && fz w 0 5 0) (.lbrk (bf 2 w 19) (bf 4 w 5))
  | 44 => need (fz w 14 5 0) (.csrr (bf 5 w 19) (bf 4 w 10) (bf 10 w 0))
  | 45 => need (fz w 19 5 0) (.csrw (bf 5 w 14) (bf 4 w 10) (bf 10 w 0))
  | 46 => need (true) (.csrx (bf 5 w 19) (bf 5 w 14) (bf 4 w 10) (bf 10 w 0))
  | 47 => need (fz w 19 5 0) (.idle (bf 5 w 14) (bf 4 w 10) (bf 10 w 0))
  | 48 => need (true) (.lds (bf 5 w 19) (bf 5 w 14) (bf 4 w 10) (bf 3 w 7) (bf 7 w 0))
  | 49 => need (fz w 9 1 0) (.sts (bf 5 w 19) (bf 5 w 14) (bf 4 w 10) (bf 2 w 7) (bf 7 w 0))
  | 50 => need (true) (.amo (bf 5 w 19) (bf 5 w 14) (bf 5 w 9) (bf 4 w 5) (bf 1 w 4) (bf 4 w 0))
  | 51 => need (fz w 9 1 0 && fz w 0 4 0) (.amocas (bf 5 w 19) (bf 5 w 14) (bf 4 w 10) (bf 4 w 5) (bf 1 w 4))
  | 52 => need (fz w 9 5 0 && fz w 2 3 0) (.rld (bf 5 w 19) (bf 5 w 14) (bf 4 w 5) (bf 2 w 0))
  | 53 => need (fz w 2 3 0) (.rst (bf 5 w 19) (bf 5 w 14) (bf 5 w 9) (bf 4 w 5) (bf 2 w 0))
  | 54 => need (true) (.ramo (bf 5 w 19) (bf 5 w 14) (bf 5 w 9) (bf 4 w 5) (bf 1 w 4) (bf 4 w 0))
  | 55 => need (fz w 9 1 0 && fz w 0 4 0) (.ramocas (bf 5 w 19) (bf 5 w 14) (bf 4 w 10) (bf 4 w 5) (bf 1 w 4))
  | _ => .error .reservedOp

/-- Class 01 (R49, R50). -/
def decodeVector (w : Nat) : Except Reject Instr :=
  match w / 2 ^ 23 % 128 with
  | 0 => need (true) (.vadd (bf 5 w 18) (bf 5 w 13) (bf 5 w 8) (bf 1 w 7) (bf 3 w 4) (bf 2 w 2) (bf 2 w 0))
  | 1 => need (true) (.vsub (bf 5 w 18) (bf 5 w 13) (bf 5 w 8) (bf 1 w 7) (bf 3 w 4) (bf 2 w 2) (bf 2 w 0))
  | 2 => need (true) (.vmul (bf 5 w 18) (bf 5 w 13) (bf 5 w 8) (bf 1 w 7) (bf 3 w 4) (bf 2 w 2) (bf 2 w 0))
  | 3 => need (true) (.vfma (bf 5 w 18) (bf 5 w 13) (bf 5 w 8) (bf 1 w 7) (bf 3 w 4) (bf 2 w 2) (bf 2 w 0))
  | 4 => need (true) (.vmin (bf 5 w 18) (bf 5 w 13) (bf 5 w 8) (bf 1 w 7) (bf 3 w 4) (bf 2 w 2) (bf 2 w 0))
  | 5 => need (true) (.vmax (bf 5 w 18) (bf 5 w 13) (bf 5 w 8) (bf 1 w 7) (bf 3 w 4) (bf 2 w 2) (bf 2 w 0))
  | 6 => need (fz w 7 6 0) (.vabs (bf 5 w 18) (bf 5 w 13) (bf 3 w 4) (bf 2 w 2) (bf 2 w 0))
  | 7 => need (fz w 7 6 0) (.vneg (bf 5 w 18) (bf 5 w 13) (bf 3 w 4) (bf 2 w 2) (bf 2 w 0))
  | 8 => need (true) (.vand (bf 5 w 18) (bf 5 w 13) (bf 5 w 8) (bf 1 w 7) (bf 3 w 4) (bf 2 w 2) (bf 2 w 0))
  | 9 => need (true) (.vor (bf 5 w 18) (bf 5 w 13) (bf 5 w 8) (bf 1 w 7) (bf 3 w 4) (bf 2 w 2) (bf 2 w 0))
  | 10 => need (true) (.vxor (bf 5 w 18) (bf 5 w 13) (bf 5 w 8) (bf 1 w 7) (bf 3 w 4) (bf 2 w 2) (bf 2 w 0))
  | 11 => need (true) (.vandn (bf 5 w 18) (bf 5 w 13) (bf 5 w 8) (bf 1 w 7) (bf 3 w 4) (bf 2 w 2) (bf 2 w 0))
  | 12 => need (true) (.vshl (bf 5 w 18) (bf 5 w 13) (bf 5 w 8) (bf 1 w 7) (bf 3 w 4) (bf 2 w 2) (bf 2 w 0))
  | 13 => need (true) (.vshr (bf 5 w 18) (bf 5 w 13) (bf 5 w 8) (bf 1 w 7) (bf 3 w 4) (bf 2 w 2) (bf 2 w 0))
  | 14 => need (true) (.vsra (bf 5 w 18) (bf 5 w 13) (bf 5 w 8) (bf 1 w 7) (bf 3 w 4) (bf 2 w 2) (bf 2 w 0))
  | 15 => need (true) (.vcmp (bf 2 w 21) (bf 3 w 18) (bf 5 w 13) (bf 5 w 8) (bf 1 w 7) (bf 3 w 4) (bf 2 w 2) (bf 2 w 0))
  | 16 => need (true) (.vsel (bf 5 w 18) (bf 5 w 13) (bf 5 w 8) (bf 1 w 7) (bf 3 w 4) (bf 2 w 2) (bf 2 w 0))
  | 17 => need (fz w 2 2 0) (.vcvt (bf 5 w 18) (bf 5 w 13) (bf 5 w 8) (bf 1 w 7) (bf 3 w 4) (bf 2 w 0))
  | 18 => need (fz w 7 6 0) (.vrint (bf 5 w 18) (bf 5 w 13) (bf 3 w 4) (bf 2 w 2) (bf 2 w 0))
  | 19 => need (fz w 7 6 0) (.vrcp (bf 5 w 18) (bf 5 w 13) (bf 3 w 4) (bf 2 w 2) (bf 2 w 0))
  | 20 => need (fz w 7 6 0) (.vrsq (bf 5 w 18) (bf 5 w 13) (bf 3 w 4) (bf 2 w 2) (bf 2 w 0))
  | 21 => need (fz w 7 6 0) (.vexp2 (bf 5 w 18) (bf 5 w 13) (bf 3 w 4) (bf 2 w 2) (bf 2 w 0))
  | 22 => need (fz w 7 6 0) (.vlog2 (bf 5 w 18) (bf 5 w 13) (bf 3 w 4) (bf 2 w 2) (bf 2 w 0))
  | 23 => need (fz w 7 1 0 && fz w 11 2 0) (.vred (bf 5 w 18) (bf 5 w 13) (bf 3 w 8) (bf 3 w 4) (bf 2 w 2) (bf 2 w 0))
  | 24 => need (fz w 7 1 0 && fz w 11 2 0) (.vscan (bf 5 w 18) (bf 5 w 13) (bf 3 w 8) (bf 3 w 4) (bf 2 w 2) (bf 2 w 0))
  | 25 => need (true) (.vperm (bf 5 w 18) (bf 5 w 13) (bf 5 w 8) (bf 1 w 7) (bf 3 w 4) (bf 2 w 2) (bf 2 w 0))
  | 26 => need (fz w 7 1 1) (.vrot (bf 5 w 18) (bf 5 w 13) (bf 5 w 8) (bf 3 w 4) (bf 2 w 2) (bf 2 w 0))
  | 27 => need (fz w 7 1 1) (.vlane (bf 5 w 18) (bf 5 w 13) (bf 5 w 8) (bf 3 w 4) (bf 2 w 2) (bf 2 w 0))
  | 28 => need (true) (.vpack (bf 5 w 18) (bf 5 w 13) (bf 5 w 8) (bf 1 w 7) (bf 3 w 4) (bf 2 w 2) (bf 2 w 0))
  | 29 => need (fz w 7 1 0 && fz w 9 4 0) (.vunpack (bf 5 w 18) (bf 5 w 13) (bf 1 w 8) (bf 3 w 4) (bf 2 w 2) (bf 2 w 0))
  | 30 =>
    if fz w 7 6 0 then .ok (.vmov (bf 5 w 18) (bf 5 w 13) (bf 3 w 4) (bf 2 w 2) (bf 2 w 0)) else
    if fz w 7 1 1 && fz w 13 5 0 then .ok (.vmovBroadcast (bf 5 w 18) (bf 5 w 8) (bf 3 w 4) (bf 2 w 2) (bf 2 w 0)) else
    .error .nonzeroField
  | 31 => need (fz w 21 2 0 && fz w 16 2 0 && fz w 11 2 0 && fz w 4 4 0) (.vmlog (bf 3 w 18) (bf 3 w 13) (bf 3 w 8) (bf 2 w 2) (bf 2 w 0))
  | 32 => need (fz w 16 2 0 && fz w 7 6 0) (.vmpop (bf 5 w 18) (bf 3 w 13) (bf 3 w 4) (bf 2 w 2) (bf 2 w 0))
  | 33 => need (true) (.vdot2 (bf 5 w 18) (bf 5 w 13) (bf 5 w 8) (bf 1 w 7) (bf 3 w 4) (bf 2 w 2) (bf 2 w 0))
  | 96 => need (fz w 7 1 0) (.vld (bf 5 w 18) (bf 5 w 13) (bf 5 w 8) (bf 3 w 4) (bf 2 w 2) (bf 2 w 0))
  | 97 => need (fz w 7 1 0) (.vst (bf 5 w 18) (bf 5 w 13) (bf 5 w 8) (bf 3 w 4) (bf 2 w 2) (bf 2 w 0))
  | 98 => need (fz w 7 1 0) (.vgath (bf 5 w 18) (bf 5 w 13) (bf 5 w 8) (bf 3 w 4) (bf 2 w 2) (bf 2 w 0))
  | 99 => need (fz w 7 1 0) (.vscat (bf 5 w 18) (bf 5 w 13) (bf 5 w 8) (bf 3 w 4) (bf 2 w 2) (bf 2 w 0))
  | _ => .error .reservedOp

/-- The four kinds of `whl` (R169). -/
def decodeWhl (w : Nat) : Except Reject Instr :=
  match w / 2 ^ 20 % 4 with
  | 0 => need (fz w 0 1 0 && fz w 42 22 0) (.whlSlot (bf 5 w 15) (bf 3 w 12) (bf 6 w 6) (bf 1 w 5) (bf 1 w 4) (bf 3 w 1) (bf 5 w 37) (bf 5 w 32))
  | 1 => need (fz w 0 11 0 && fz w 48 16 0) (.whlStride (bf 5 w 15) (bf 1 w 14) (bf 3 w 11) (bf 16 w 32))
  | 2 => need (fz w 0 17 0 && fz w 48 16 0) (.whlCount (bf 3 w 17) (bf 16 w 32))
  | 3 => need (fz w 0 14 0 && fz w 32 32 0) (.whlLen (bf 6 w 14))
  | _ => .error .reservedOp

/-- WIDE instructions (R54). -/
def decodeWide (w : Nat) : Except Reject Instr :=
  match w / 2 ^ 22 % 64 with
  | 0 => need (true) (.li (bf 5 w 17) (bf 1 w 16) (bf 16 w 0) (bf 32 w 32))
  | 1 => need (fz w 0 22 0 && fz w 45 19 0) (.jmpf (bf 13 w 32))
  | 2 => need (fz w 0 17 0 && fz w 45 19 0) (.callf (bf 5 w 17) (bf 13 w 32))
  | 16 => need (fz w 0 8 0 && fz w 51 13 0) (.tdef (bf 3 w 19) (bf 6 w 13) (bf 5 w 8) (bf 19 w 32))
  | 17 => need (fz w 0 8 0 && fz w 51 13 0) (.tread (bf 3 w 19) (bf 6 w 13) (bf 5 w 8) (bf 19 w 32))
  | 18 => need (fz w 0 10 0) (.qdef (bf 4 w 18) (bf 3 w 15) (bf 5 w 10) (bf 32 w 32))
  | 19 => need (fz w 0 10 0 && fz w 32 32 0) (.qread (bf 5 w 17) (bf 4 w 13) (bf 3 w 10))
  | 20 => need (fz w 0 9 0 && fz w 57 7 0) (.rdef (bf 3 w 19) (bf 3 w 16) (bf 3 w 13) (bf 4 w 9) (bf 10 w 47) (bf 15 w 32))
  | 21 => decodeWhl w
  | 22 => need (fz w 0 14 0 && fz w 32 32 0) (.whlgo (bf 5 w 17) (bf 3 w 14))
  | 32 => need (fz w 17 5 0 && fz w 0 12 0 && fz w 47 17 0) (.launch (bf 5 w 12) (bf 15 w 32))
  | _ => .error .reservedOp

/-- SYS words (R55). -/
def decodeSys (w : Nat) : Except Reject Instr :=
  match w / 2 ^ 22 % 64 with
  | 0 => need (fz w 12 5 0 && fz w 4 8 0) (.racq (bf 5 w 17) (bf 1 w 3) (bf 3 w 0))
  | 1 => need (fz w 17 5 0 && fz w 4 8 0) (.rrel (bf 5 w 12) (bf 1 w 3) (bf 3 w 0))
  | 2 => need (fz w 12 5 0 && fz w 4 8 0) (.rstat (bf 5 w 17) (bf 1 w 3) (bf 3 w 0))
  | 3 =>
    if fz w 12 5 0 && fz w 9 3 0 && fz w 3 6 0 then .ok (.tokRd (bf 5 w 17) (bf 3 w 0)) else
    if fz w 17 5 0 && fz w 12 5 0 && fz w 9 3 1 && fz w 3 6 0 then .ok (.tokPush (bf 3 w 0)) else
    if fz w 12 5 0 && fz w 9 3 2 && fz w 3 6 0 then .ok (.tokTry (bf 5 w 17) (bf 3 w 0)) else
    if fz w 17 5 0 && fz w 12 5 0 && fz w 9 3 3 && fz w 3 6 0 then .ok (.tokVpop (bf 3 w 0)) else
    if fz w 17 5 0 && fz w 12 5 0 && fz w 9 3 4 && fz w 3 6 0 then .ok (.tokVpush (bf 3 w 0)) else
    .error .nonzeroField
  | 4 => need (fz w 17 5 0 && fz w 12 5 0 && fz w 9 3 0) (.qdrain (bf 9 w 0))
  | 8 => need (fz w 3 9 0) (.waita (bf 5 w 17) (bf 5 w 12) (bf 1 w 2) (bf 2 w 0))
  | 9 => need (fz w 17 5 0 && fz w 6 3 0) (.fsig (bf 5 w 12) (bf 3 w 9) (bf 6 w 0))
  | 16 => need (fz w 3 9 0) (.acq (bf 5 w 17) (bf 5 w 12) (bf 3 w 0))
  | 17 => need (fz w 17 5 0 && fz w 12 5 0 && fz w 6 6 0) (.rel (bf 1 w 5) (bf 2 w 3) (bf 3 w 0))
  | 18 => need (fz w 17 5 0 && fz w 3 9 0) (.bind (bf 5 w 12) (bf 3 w 0))
  | 19 => need (fz w 17 5 0 && fz w 12 5 0 && fz w 2 10 0) (.fence (bf 2 w 0))
  | 24 => need (fz w 12 5 0 && fz w 0 12 0) (.rtick (bf 5 w 17))
  | 25 => need (fz w 12 5 0 && fz w 0 12 0) (.rcyc (bf 5 w 17))
  | 26 => need (fz w 3 9 0) (.align (bf 5 w 17) (bf 5 w 12) (bf 3 w 0))
  | 27 => need (fz w 17 5 0 && fz w 12 5 0 && fz w 3 9 0) (.bar (bf 3 w 0))
  | 28 => need (fz w 3 9 0) (.barw (bf 5 w 17) (bf 5 w 12) (bf 3 w 0))
  | 29 => need (fz w 12 5 0 && fz w 3 9 0) (.bart (bf 5 w 17) (bf 3 w 0))
  | 32 =>
    if fz w 12 5 0 && fz w 10 2 0 && fz w 5 5 0 then .ok (.cstat (bf 5 w 17) (bf 5 w 0)) else
    if fz w 12 5 0 && fz w 10 2 1 && fz w 0 10 0 then .ok (.cstatSettle (bf 5 w 17)) else
    if fz w 12 5 0 && fz w 10 2 2 && fz w 0 10 0 then .ok (.cstatStart (bf 5 w 17)) else
    if fz w 12 5 0 && fz w 10 2 3 && fz w 5 5 0 then .ok (.cstatFrec (bf 5 w 17) (bf 5 w 0)) else
    .error .nonzeroField
  | 33 => need (fz w 5 7 0) (.cwait (bf 5 w 17) (bf 5 w 12) (bf 5 w 0))
  | 40 => need (fz w 17 5 0 && fz w 6 6 0) (.cgopen (bf 5 w 12) (bf 3 w 3) (bf 3 w 0))
  | 41 => need (fz w 12 5 0 && fz w 3 9 0) (.cgcommit (bf 5 w 17) (bf 3 w 0))
  | 42 => need (fz w 12 5 0 && fz w 3 9 0) (.cgabort (bf 5 w 17) (bf 3 w 0))
  | 43 => need (fz w 12 5 0 && fz w 3 9 0) (.cgstat (bf 5 w 17) (bf 3 w 0))
  | 48 => need (fz w 17 5 0 && fz w 2 10 0) (.monset (bf 5 w 12) (bf 2 w 0))
  | 49 => need (fz w 17 5 0 && fz w 2 10 0) (.monref (bf 5 w 12) (bf 2 w 0))
  | 50 => need (fz w 12 5 0 && fz w 5 7 0) (.monrd (bf 5 w 17) (bf 3 w 2) (bf 2 w 0))
  | 51 => need (fz w 12 5 0 && fz w 3 9 0) (.monchk (bf 5 w 17) (bf 1 w 2) (bf 2 w 0))
  | 52 => need (fz w 17 5 0 && fz w 0 12 0) (.kend (bf 5 w 12))
  | 56 => need (fz w 17 5 0 && fz w 8 4 0) (.trap (bf 5 w 12) (bf 8 w 0))
  | 57 => need (fz w 17 5 0 && fz w 12 5 0 && fz w 0 12 0) (.rett)
  | 58 => need (fz w 12 5 0 && fz w 5 2 0) (.rqrd (bf 5 w 17) (bf 5 w 7) (bf 5 w 0))
  | 59 => need (fz w 17 5 0 && fz w 5 2 0) (.rqwr (bf 5 w 12) (bf 5 w 7) (bf 5 w 0))
  | 60 => need (fz w 20 2 0 && fz w 12 5 0 && fz w 2 10 0) (.pbr (bf 3 w 17) (bf 2 w 0))
  | 61 => need (fz w 12 5 0 && fz w 0 12 0) (.pack (bf 5 w 17))
  | 62 => need (fz w 17 5 0 && fz w 12 5 0) (.bkpt (bf 12 w 0))
  | 63 =>
    if fz w 17 5 0 && fz w 12 5 0 && fz w 0 12 0 then .ok (.wfiltClr) else
    if fz w 17 5 0 && fz w 3 1 0 && fz w 0 2 1 then .ok (.wfiltIns (bf 5 w 12) (bf 8 w 4) (bf 1 w 2)) else
    if fz w 4 8 0 && fz w 3 1 0 && fz w 0 2 2 then .ok (.wfiltTst (bf 5 w 17) (bf 5 w 12) (bf 1 w 2)) else
    .error .nonzeroField
  | _ => .error .reservedOp

/-- Fabric sequencer words (R302), a space of their own. -/
def decodeSeqRaw (w : Nat) : Except Reject Instr :=
  match w / 2 ^ 28 % 16 with
  | 0 => need (fz w 0 1 0) (.route (bf 5 w 23) (bf 9 w 14) (bf 3 w 11) (bf 3 w 8) (bf 5 w 3) (bf 2 w 1))
  | 1 => need (fz w 0 23 0) (.est (bf 5 w 23))
  | 2 => need (true) (.hold (bf 5 w 23) (bf 23 w 0))
  | 3 => need (fz w 0 23 0) (.tear (bf 5 w 23))
  | 4 => need (true) (.atstep (bf 1 w 27) (bf 27 w 0))
  | 5 => need (true) (.sig (bf 7 w 21) (bf 6 w 15) (bf 15 w 0))
  | 6 => need (true) (.rpt (bf 8 w 20) (bf 20 w 0))
  | 7 => need (fz w 0 28 0) (.nop)
  | 8 => need (fz w 0 28 0) (.fend)
  | _ => .error .reservedOp

/-- The value check of R43 after the fields have been pulled out. -/
def checked (r : Except Reject Instr) : Except Reject Instr :=
  match r with
  | .ok i => if i.wf then .ok i else .error .unassignedValue
  | .error e => .error e

/-- R42: by class, and within class 11 by sub-class. -/
def decodeRaw (w : Nat) : Except Reject Instr :=
  match w / 2 ^ 30 % 4 with
  | 0 => decodeScalar w
  | 1 => decodeVector w
  | 2 => .ok (.patchAndIssue (bf 3 w 27) (bf 6 w 21) (bf 5 w 16) (bf 16 w 0))
  | _ =>
    match w / 2 ^ 28 % 4 with
    | 0 => need (fz w 21 4 0) (.amend (bf 3 w 25) (bf 5 w 16) (bf 16 w 0))
    | 1 => decodeWide w
    | 2 => decodeSys w
    | _ => .error .reservedOp

/-- The issue stream's decoder: total on every value of its one or two words (R59). -/
def decode (w : Nat) : Except Reject Instr := checked (decodeRaw w)

/-- The fabric sequencer's decoder (R301, R302). -/
def decodeSeq (w : Nat) : Except Reject Instr := checked (decodeSeqRaw w)

/-- R54: class 11, sub-class 01: a second word follows. -/
def isWideWord (w : Nat) : Bool := fz w 28 4 13

/-- R5: bytes, least significant first, as one number. -/
def ofBytes : List Byte → Nat
  | [] => 0
  | b :: bs => b.toNat + 256 * ofBytes bs

/-- R5: the `n` low bytes of a number, least significant first. -/
def toBytes : Nat → Nat → List Byte
  | 0, _ => []
  | n + 1, x => BitVec.ofNat 8 x :: toBytes n (x / 256)

/-- The decoder on bytes as memory stores them. -/
def decodeBytes (bs : List Byte) : Except Reject Instr := decode (ofBytes bs)

/-- The host's question: the instruction the decoders read from a table word. The issue stream's decoder is asked first;
the fabric sequencer's words are a separate space (R59), asked where the first refuses. -/
def decodeTableWord (nbits w : Nat) : Option Instr :=
  match decodeBytes (toBytes 8 (w % 2 ^ nbits)) with
  | .ok i => some i
  | .error _ =>
    match decodeSeq (ofBytes (toBytes 4 (w % 2 ^ nbits))) with
    | .ok i => some i
    | .error _ => none

/-- A field's value at its place. -/
def put (b : BitVec n) (lo : Nat) : Nat := b.toNat * 2 ^ lo

/-- The words of an instruction, first word in the low 32 bits; 0 for a row that no word encodes. -/
def encode : Instr → Nat
  | .add sd sa sb g u => 0x0 + put sd 19 + put sa 14 + put sb 9 + put g 5 + put u 0
  | .sub sd sa sb g u => 0x1000000 + put sd 19 + put sa 14 + put sb 9 + put g 5 + put u 0
  | .mul sd sa sb g u => 0x2000000 + put sd 19 + put sa 14 + put sb 9 + put g 5 + put u 0
  | .mulh sd sa sb g u => 0x3000000 + put sd 19 + put sa 14 + put sb 9 + put g 5 + put u 0
  | .div sd sa sb g u => 0x4000000 + put sd 19 + put sa 14 + put sb 9 + put g 5 + put u 0
  | .rem sd sa sb g u => 0x5000000 + put sd 19 + put sa 14 + put sb 9 + put g 5 + put u 0
  | .and sd sa sb g => 0x6000000 + put sd 19 + put sa 14 + put sb 9 + put g 5
  | .or sd sa sb g => 0x7000000 + put sd 19 + put sa 14 + put sb 9 + put g 5
  | .xor sd sa sb g => 0x8000000 + put sd 19 + put sa 14 + put sb 9 + put g 5
  | .shl sd sa sb g u => 0x9000000 + put sd 19 + put sa 14 + put sb 9 + put g 5 + put u 0
  | .shr sd sa sb g u => 0xa000000 + put sd 19 + put sa 14 + put sb 9 + put g 5 + put u 0
  | .sra sd sa sb g u => 0xb000000 + put sd 19 + put sa 14 + put sb 9 + put g 5 + put u 0
  | .min sd sa sb g u => 0xc000000 + put sd 19 + put sa 14 + put sb 9 + put g 5 + put u 0
  | .max sd sa sb g u => 0xd000000 + put sd 19 + put sa 14 + put sb 9 + put g 5 + put u 0
  | .clz sd sa g u => 0xe000000 + put sd 19 + put sa 14 + put g 5 + put u 0
  | .popc sd sa g u => 0xf000000 + put sd 19 + put sa 14 + put g 5 + put u 0
  | .sel sd sa sb g n => 0x10000000 + put sd 19 + put sa 14 + put sb 9 + put g 5 + put n 0
  | .cmp pd sa sb g w cond => 0x11000000 + put pd 19 + put sa 14 + put sb 9 + put g 5 + put w 3 + put cond 0
  | .plog pd pa pb g op => 0x12000000 + put pd 19 + put pa 14 + put pb 9 + put g 5 + put op 0
  | .addi sd sa g imm => 0x13000000 + put sd 19 + put sa 14 + put g 10 + put imm 0
  | .andi sd sa g imm => 0x14000000 + put sd 19 + put sa 14 + put g 10 + put imm 0
  | .ori sd sa g imm => 0x15000000 + put sd 19 + put sa 14 + put g 10 + put imm 0
  | .xori sd sa g imm => 0x16000000 + put sd 19 + put sa 14 + put g 10 + put imm 0
  | .shli sd sa g w amt => 0x17000000 + put sd 19 + put sa 14 + put g 10 + put w 6 + put amt 0
  | .shri sd sa g w amt => 0x18000000 + put sd 19 + put sa 14 + put g 10 + put w 6 + put amt 0
  | .srai sd sa g w amt => 0x19000000 + put sd 19 + put sa 14 + put g 10 + put w 6 + put amt 0
  | .cmpi cond pd sa g imm => 0x1a000000 + put cond 22 + put pd 19 + put sa 14 + put g 10 + put imm 0
  | .lhi sd imm => 0x1b000000 + put sd 19 + put imm 0
  | .fadd sd sa sb g p rm => 0x1c000000 + put sd 19 + put sa 14 + put sb 9 + put g 5 + put p 4 + put rm 0
  | .fsub sd sa sb g p rm => 0x1d000000 + put sd 19 + put sa 14 + put sb 9 + put g 5 + put p 4 + put rm 0
  | .fmul sd sa sb g p rm => 0x1e000000 + put sd 19 + put sa 14 + put sb 9 + put g 5 + put p 4 + put rm 0
  | .fdiv sd sa sb g p rm => 0x1f000000 + put sd 19 + put sa 14 + put sb 9 + put g 5 + put p 4 + put rm 0
  | .fsqrt sd sa g p rm => 0x20000000 + put sd 19 + put sa 14 + put g 5 + put p 4 + put rm 0
  | .fma sd sa sb g p rm => 0x21000000 + put sd 19 + put sa 14 + put sb 9 + put g 5 + put p 4 + put rm 0
  | .fmin sd sa sb g p => 0x22000000 + put sd 19 + put sa 14 + put sb 9 + put g 5 + put p 4
  | .fmax sd sa sb g p => 0x23000000 + put sd 19 + put sa 14 + put sb 9 + put g 5 + put p 4
  | .fcmp pd sa sb g p cond => 0x24000000 + put pd 19 + put sa 14 + put sb 9 + put g 5 + put p 4 + put cond 0
  | .fcvt sd sa sto dst g rtz src => 0x25000000 + put sd 19 + put sa 14 + put sto 13 + put dst 9 + put g 5 + put rtz 4 + put src 0
  | .br g off => 0x26000000 + put g 20 + put off 0
  | .call g off => 0x27000000 + put g 20 + put off 0
  | .jr sd sa g => 0x28000000 + put sd 19 + put sa 14 + put g 5
  | .loop l sa g b => 0x29000000 + put l 19 + put sa 14 + put g 10 + put b 0
  | .loopi l c b => 0x2a000000 + put l 19 + put c 10 + put b 0
  | .lbrk l g => 0x2b000000 + put l 19 + put g 5
  | .csrr sd g csr => 0x2c000000 + put sd 19 + put g 10 + put csr 0
  | .csrw sa g csr => 0x2d000000 + put sa 14 + put g 10 + put csr 0
  | .csrx sd sa g csr => 0x2e000000 + put sd 19 + put sa 14 + put g 10 + put csr 0
  | .dbgstLostRead => 0
  | .idle sa g n => 0x2f000000 + put sa 14 + put g 10 + put n 0
  | .lds sd sa g sz off => 0x30000000 + put sd 19 + put sa 14 + put g 10 + put sz 7 + put off 0
  | .sts sd sa g sz off => 0x31000000 + put sd 19 + put sa 14 + put g 10 + put sz 7 + put off 0
  | .amo sd sa sb g w op => 0x32000000 + put sd 19 + put sa 14 + put sb 9 + put g 5 + put w 4 + put op 0
  | .amocas sd sa sbh g w => 0x33000000 + put sd 19 + put sa 14 + put sbh 10 + put g 5 + put w 4
  | .rld sd sa g sz => 0x34000000 + put sd 19 + put sa 14 + put g 5 + put sz 0
  | .rst sd sa sb g sz => 0x35000000 + put sd 19 + put sa 14 + put sb 9 + put g 5 + put sz 0
  | .ramo sd sa sb g w op => 0x36000000 + put sd 19 + put sa 14 + put sb 9 + put g 5 + put w 4 + put op 0
  | .ramocas sd sa sbh g w => 0x37000000 + put sd 19 + put sa 14 + put sbh 10 + put g 5 + put w 4
  | .vadd vd va vb bs mask ty idle => 0x40000000 + put vd 18 + put va 13 + put vb 8 + put bs 7 + put mask 4 + put ty 2 + put idle 0
  | .vsub vd va vb bs mask ty idle => 0x40800000 + put vd 18 + put va 13 + put vb 8 + put bs 7 + put mask 4 + put ty 2 + put idle 0
  | .vmul vd va vb bs mask ty idle => 0x41000000 + put vd 18 + put va 13 + put vb 8 + put bs 7 + put mask 4 + put ty 2 + put idle 0
  | .vfma vd va vb bs mask ty idle => 0x41800000 + put vd 18 + put va 13 + put vb 8 + put bs 7 + put mask 4 + put ty 2 + put idle 0
  | .vmin vd va vb bs mask ty idle => 0x42000000 + put vd 18 + put va 13 + put vb 8 + put bs 7 + put mask 4 + put ty 2 + put idle 0
  | .vmax vd va vb bs mask ty idle => 0x42800000 + put vd 18 + put va 13 + put vb 8 + put bs 7 + put mask 4 + put ty 2 + put idle 0
  | .vabs vd va mask ty idle => 0x43000000 + put vd 18 + put va 13 + put mask 4 + put ty 2 + put idle 0
  | .vneg vd va mask ty idle => 0x43800000 + put vd 18 + put va 13 + put mask 4 + put ty 2 + put idle 0
  | .vand vd va vb bs mask ty idle => 0x44000000 + put vd 18 + put va 13 + put vb 8 + put bs 7 + put mask 4 + put ty 2 + put idle 0
  | .vor vd va vb bs mask ty idle => 0x44800000 + put vd 18 + put va 13 + put vb 8 + put bs 7 + put mask 4 + put ty 2 + put idle 0
  | .vxor vd va vb bs mask ty idle => 0x45000000 + put vd 18 + put va 13 + put vb 8 + put bs 7 + put mask 4 + put ty 2 + put idle 0
  | .vandn vd va vb bs mask ty idle => 0x45800000 + put vd 18 + put va 13 + put vb 8 + put bs 7 + put mask 4 + put ty 2 + put idle 0
  | .vshl vd va vb bs mask ty idle => 0x46000000 + put vd 18 + put va 13 + put vb 8 + put bs 7 + put mask 4 + put ty 2 + put idle 0
  | .vshr vd va vb bs mask ty idle => 0x46800000 + put vd 18 + put va 13 + put vb 8 + put bs 7 + put mask 4 + put ty 2 + put idle 0
  | .vsra vd va vb bs mask ty idle => 0x47000000 + put vd 18 + put va 13 + put vb 8 + put bs 7 + put mask 4 + put ty 2 + put idle 0
  | .vcmp cond md va vb bs mask ty idle => 0x47800000 + put cond 21 + put md 18 + put va 13 + put vb 8 + put bs 7 + put mask 4 + put ty 2 + put idle 0
  | .vsel vd va vb bs mask ty idle => 0x48000000 + put vd 18 + put va 13 + put vb 8 + put bs 7 + put mask 4 + put ty 2 + put idle 0
  | .vcvt vd va code bs mask idle => 0x48800000 + put vd 18 + put va 13 + put code 8 + put bs 7 + put mask 4 + put idle 0
  | .vrint vd va mask ty idle => 0x49000000 + put vd 18 + put va 13 + put mask 4 + put ty 2 + put idle 0
  | .vrcp vd va mask ty idle => 0x49800000 + put vd 18 + put va 13 + put mask 4 + put ty 2 + put idle 0
  | .vrsq vd va mask ty idle => 0x4a000000 + put vd 18 + put va 13 + put mask 4 + put ty 2 + put idle 0
  | .vexp2 vd va mask ty idle => 0x4a800000 + put vd 18 + put va 13 + put mask 4 + put ty 2 + put idle 0
  | .vlog2 vd va mask ty idle => 0x4b000000 + put vd 18 + put va 13 + put mask 4 + put ty 2 + put idle 0
  | .vred vd va op mask ty idle => 0x4b800000 + put vd 18 + put va 13 + put op 8 + put mask 4 + put ty 2 + put idle 0
  | .vscan vd va op mask ty idle => 0x4c000000 + put vd 18 + put va 13 + put op 8 + put mask 4 + put ty 2 + put idle 0
  | .vperm vd va vb bs mask ty idle => 0x4c800000 + put vd 18 + put va 13 + put vb 8 + put bs 7 + put mask 4 + put ty 2 + put idle 0
  | .vrot vd va sb mask ty idle => 0x4d000080 + put vd 18 + put va 13 + put sb 8 + put mask 4 + put ty 2 + put idle 0
  | .vlane vd va sb mask ty idle => 0x4d800080 + put vd 18 + put va 13 + put sb 8 + put mask 4 + put ty 2 + put idle 0
  | .vpack vd va vb bs mask ty idle => 0x4e000000 + put vd 18 + put va 13 + put vb 8 + put bs 7 + put mask 4 + put ty 2 + put idle 0
  | .vunpack vd va h mask ty idle => 0x4e800000 + put vd 18 + put va 13 + put h 8 + put mask 4 + put ty 2 + put idle 0
  | .vmov vd va mask ty idle => 0x4f000000 + put vd 18 + put va 13 + put mask 4 + put ty 2 + put idle 0
  | .vmovBroadcast vd sb mask ty idle => 0x4f000080 + put vd 18 + put sb 8 + put mask 4 + put ty 2 + put idle 0
  | .vmlog md ma mb op idle => 0x4f800000 + put md 18 + put ma 13 + put mb 8 + put op 2 + put idle 0
  | .vmpop vd ma mask ty idle => 0x50000000 + put vd 18 + put ma 13 + put mask 4 + put ty 2 + put idle 0
  | .vdot2 vd va vb bs mask ty idle => 0x50800000 + put vd 18 + put va 13 + put vb 8 + put bs 7 + put mask 4 + put ty 2 + put idle 0
  | .vld vd sa k mask ty idle => 0x70000000 + put vd 18 + put sa 13 + put k 8 + put mask 4 + put ty 2 + put idle 0
  | .vst vd sa k mask ty idle => 0x70800000 + put vd 18 + put sa 13 + put k 8 + put mask 4 + put ty 2 + put idle 0
  | .vgath vd sa vb mask ty idle => 0x71000000 + put vd 18 + put sa 13 + put vb 8 + put mask 4 + put ty 2 + put idle 0
  | .vscat vd sa vb mask ty idle => 0x71800000 + put vd 18 + put sa 13 + put vb 8 + put mask 4 + put ty 2 + put idle 0
  | .patchAndIssue eng t fld val => 0x80000000 + put eng 27 + put t 21 + put fld 16 + put val 0
  | .amend eng fld val => 0xc0000000 + put eng 25 + put fld 16 + put val 0
  | .li sd h hi lo => 0xd0000000 + put sd 17 + put h 16 + put hi 0 + put lo 32
  | .jmpf tgt => 0xd0400000 + put tgt 32
  | .callf sd tgt => 0xd0800000 + put sd 17 + put tgt 32
  | .tdef eng t sa off => 0xd4000000 + put eng 19 + put t 13 + put sa 8 + put off 32
  | .tread eng t sa off => 0xd4400000 + put eng 19 + put t 13 + put sa 8 + put off 32
  | .qdef q w sa imm => 0xd4800000 + put q 18 + put w 15 + put sa 10 + put imm 32
  | .qread sd q w => 0xd4c00000 + put sd 17 + put q 13 + put w 10
  | .rdef ring prod cons cnt size base => 0xd5000000 + put ring 19 + put prod 16 + put cons 13 + put cnt 9 + put size 47 + put base 32
  | .whlSlot slot eng t fo lo k fa fb => 0xd5400000 + put slot 15 + put eng 12 + put t 6 + put fo 5 + put lo 4 + put k 1 + put fa 37 + put fb 32
  | .whlStride slot ab lvl v => 0xd5500000 + put slot 15 + put ab 14 + put lvl 11 + put v 32
  | .whlCount lvl c => 0xd5600000 + put lvl 17 + put c 32
  | .whlLen n => 0xd5700000 + put n 14
  | .whlgo sa lvl => 0xd5800000 + put sa 17 + put lvl 14
  | .wheelPlacement => 0
  | .launch sa addr => 0xd8000000 + put sa 12 + put addr 32
  | .racq sd side ring => 0xe0000000 + put sd 17 + put side 3 + put ring 0
  | .rrel sa full ring => 0xe0400000 + put sa 12 + put full 3 + put ring 0
  | .rstat sd sel ring => 0xe0800000 + put sd 17 + put sel 3 + put ring 0
  | .tokRd sd fifo => 0xe0c00000 + put sd 17 + put fifo 0
  | .tokPush fifo => 0xe0c00200 + put fifo 0
  | .tokTry sd fifo => 0xe0c00400 + put sd 17 + put fifo 0
  | .tokVpop fifo => 0xe0c00600 + put fifo 0
  | .tokVpush fifo => 0xe0c00800 + put fifo 0
  | .qdrain mask => 0xe1000000 + put mask 0
  | .waita sd sa nz n => 0xe2000000 + put sd 17 + put sa 12 + put nz 2 + put n 0
  | .waitaFire => 0
  | .waitaExpiry => 0
  | .fsig sa eng flag => 0xe2400000 + put sa 12 + put eng 9 + put flag 0
  | .fsigWrite => 0
  | .acq sd sa k => 0xe4000000 + put sd 17 + put sa 12 + put k 0
  | .acqAnswer _ _ => 0
  | .acqBusyResend => 0
  | .acqLimitExpiry => 0
  | .rel ovr scope k => 0xe4400000 + put ovr 5 + put scope 3 + put k 0
  | .bind sa k => 0xe4800000 + put sa 12 + put k 0
  | .fence scope => 0xe4c00000 + put scope 0
  | .lockAcquirePacket _ => 0
  | .lockReleasePacket _ => 0
  | .lockCancelPacket _ => 0
  | .rtick sd => 0xe6000000 + put sd 17
  | .rcyc sd => 0xe6400000 + put sd 17
  | .align sd sa n => 0xe6800000 + put sd 17 + put sa 12 + put n 0
  | .alignRestart => 0
  | .bar n => 0xe6c00000 + put n 0
  | .barw sd sa n => 0xe7000000 + put sd 17 + put sa 12 + put n 0
  | .barwExpiry => 0
  | .bart sd n => 0xe7400000 + put sd 17 + put n 0
  | .barrierReport _ _ _ => 0
  | .barrierRelease _ _ _ => 0
  | .barrierExcuse _ _ _ => 0
  | .cstat sd h => 0xe8000000 + put sd 17 + put h 0
  | .cstatSettle sd => 0xe8000400 + put sd 17
  | .cstatStart sd => 0xe8000800 + put sd 17
  | .cstatFrec sd h => 0xe8000c00 + put sd 17 + put h 0
  | .cwait sd sa h => 0xe8400000 + put sd 17 + put sa 12 + put h 0
  | .cwaitExpiry => 0
  | .cgopen sa k cg => 0xea000000 + put sa 12 + put k 3 + put cg 0
  | .cgcommit sd cg => 0xea400000 + put sd 17 + put cg 0
  | .cgabort sd cg => 0xea800000 + put sd 17 + put cg 0
  | .cgstat sd cg => 0xeac00000 + put sd 17 + put cg 0
  | .commitHold _ => 0
  | .commitAnswer _ => 0
  | .publish _ => 0
  | .discard _ => 0
  | .monset sa k => 0xec000000 + put sa 12 + put k 0
  | .monref sa k => 0xec400000 + put sa 12 + put k 0
  | .monrd sd part k => 0xec800000 + put sd 17 + put part 2 + put k 0
  | .monchk sd clr k => 0xecc00000 + put sd 17 + put clr 2 + put k 0
  | .kend sa => 0xed000000 + put sa 12
  | .trap sa code => 0xee000000 + put sa 12 + put code 0
  | .rett => 0xee400000
  | .rqrd sd i w => 0xee800000 + put sd 17 + put i 7 + put w 0
  | .rqwr sa i w => 0xeec00000 + put sa 12 + put i 7 + put w 0
  | .pbr pd lvl => 0xef000000 + put pd 17 + put lvl 0
  | .pack sd => 0xef400000 + put sd 17
  | .bkpt code => 0xef800000 + put code 0
  | .wfiltClr => 0xefc00000
  | .wfiltIns sa n space => 0xefc00001 + put sa 12 + put n 4 + put space 2
  | .wfiltTst sd sa space => 0xefc00002 + put sd 17 + put sa 12 + put space 2
  | .ldStrm => 0
  | .ldVec => 0
  | .ldAcc => 0
  | .stStrm => 0
  | .stVec => 0
  | .stAcc => 0
  | .qTok => 0
  | .mxMma => 0
  | .mxMmac => 0
  | .mxMmi => 0
  | .mxZero => 0
  | .mxLsf => 0
  | .mxTov => 0
  | .mxFromv => 0
  | .cpCopy => 0
  | .cpCopym => 0
  | .cpFill => 0
  | .cpGath => 0
  | .cpScat => 0
  | .cpCsend => 0
  | .cpCbind => 0
  | .cpPut => 0
  | .cpGet => 0
  | .cpGput => 0
  | .copyEnd _ => 0
  | .copyFault _ => 0
  | .nmCas => 0
  | .nmSwap => 0
  | .nmEnq => 0
  | .nmDeq => 0
  | .nmChase => 0
  | .nmRed => 0
  | .nmMlr => 0
  | .nmuOperation _ => 0
  | .mlrArrival _ => 0
  | .mlrLimitExpiry _ => 0
  | .remoteOperation _ => 0
  | .homeRequest _ => 0
  | .requestResponse _ => 0
  | .ackTimeout _ => 0
  | .translationWalk _ _ => 0
  | .tlbInvalidate _ _ _ _ => 0
  | .route h die port fport fh alt => 0x0 + put h 23 + put die 14 + put port 11 + put fport 8 + put fh 3 + put alt 1
  | .est h => 0x10000000 + put h 23
  | .hold h n => 0x20000000 + put h 23 + put n 0
  | .tear h => 0x30000000 + put h 23
  | .atstep r s => 0x40000000 + put r 27 + put s 0
  | .sig core flag val => 0x50000000 + put core 21 + put flag 15 + put val 0
  | .rpt b c => 0x60000000 + put b 20 + put c 0
  | .nop => 0x70000000
  | .fend => 0x80000000
  | .sliceStart => 0
  | .circuitSettleEnd _ _ _ => 0
  | .holdEnd _ _ => 0
  | .circuitFault _ _ _ _ _ => 0
  | .circuitReestablish _ _ => 0
  | .circuitUnitLanding _ => 0
  | .flitReceive _ _ => 0
  | .slotForward _ _ _ => 0
  | .laneShed _ => 0
  | .heartbeatSend _ => 0
  | .linkSilenceTimeout _ => 0
  | .moduleSilenceTimeout _ => 0
  | .deathNotice _ _ => 0
  | .level5BarrierReport _ _ _ => 0
  | .level5Release _ _ _ => 0
  | .setForm _ _ _ => 0
  | .setLeave => 0
  | .setFormLimit => 0
  | .launchSubmit _ _ _ _ => 0
  | .launchAdmit _ => 0
  | .taskStart _ _ => 0
  | .launchRequestAccept _ => 0
  | .saggerSwap _ => 0
  | .fullPreemption _ => 0
  | .equivalenceStop _ => 0
  | .migrationResume _ _ _ => 0
  | .launchClose _ => 0
  | .graphKernelNode => 0
  | .graphCopyNode => 0
  | .graphBarrierNode => 0
  | .graphCondNode => 0
  | .graphLoopNode => 0
  | .graphEndNode => 0
  | .graphNodeComplete _ _ => 0
  | .budgetDebit _ _ => 0
  | .machineCheck _ => 0
  | .coreRetire _ => 0
  | .debugStopreq _ => 0
  | .debugResume _ => 0
  | .debugStep _ => 0
  | .bkcycStop => 0
  | .moduleHalt => 0
  | .prctlClr => 0
  | .droopDetect _ => 0
  | .frequencyChange _ _ => 0
  | .powerEvaluation _ _ => 0
  | .demandEpisodeExpiry _ => 0
  | .fabricEnergyCheck _ _ => 0
  | .clusterClosing _ _ _ => 0
  | .clusterGate _ _ => 0
  | .clusterGateProgress _ _ => 0
  | .clusterWake _ _ => 0
  | .clusterWakeProgress _ _ => 0
  | .marginReplan _ _ _ _ => 0
  | .scrub _ _ _ => 0
  | .hostAccess _ _ _ => 0
  | .semaAcquire _ _ _ => 0
  | .semaRenew _ _ _ => 0
  | .semaRelease _ _ => 0
  | .leaseExpiry => 0
  | .subbaseWrite _ _ => 0
  | .submissionTake _ => 0
  | .submitLaunchRecord _ => 0
  | .submitGraph _ => 0
  | .submitImageLoad _ _ => 0
  | .serviceRegisterWrite _ _ _ => 0
  | .dbgdataWrite _ _ => 0
  | .moduleReset => 0
  | .bootGo _ _ => 0
  | .bootDistribute _ => 0
  | .hbmTraining => 0
  | .opticalCalibration _ => 0
  | .attestQuote _ => 0
  | .recalibrate _ => 0
  | .droopDetectorClear _ => 0
  | .sampleRecord => 0

/-- R5, R54: the bytes of an instruction's words as memory stores them. -/
def encodeBytes (i : Instr) : List Byte := toBytes (if i.isWide then 8 else 4) (encode i)

end Sys2Proof
end

