-- ==== Sys2Proof/Machine/State.lean ====
section
/-! DEFINITION. Everything the spec gives the machine, as plain data. A task's context is `Ctx` (a core's sagger bank holds a
second one); a core is `Core`; dies, sites, switch regions, links, launches, graphs and the service window follow.
Fields the model adds for itself are marked so; the assumption log says what each rests on. -/

namespace Sys2Proof.Machine

/-- Sparse data by key, keys strictly rising, no entry equal to what an unlisted key reads as. -/
abbrev Cells (α : Type) := List (Nat × α)

/-- The seven engines with a queue, in the queue order of R51 with VX after NM (R236). -/
inductive Unit7 where
  | ld | st | mx | cp0 | cp1 | nm | vx
deriving DecidableEq, Repr

/-- R156: a stream register, words W0 to W6. -/
structure Stream where
  w : Vector Word 7
deriving DecidableEq, Repr

/-- R160: an operand ring. `gen` counts the `rdef` words (R162): a state change of an older definition is discarded. -/
structure Ring where
  defd : Bool
  base : Nat
  size : Nat
  count : Nat
  prod : BitVec 3
  cons : BitVec 3
  head : Nat
  tail : Nat
  full : Vector Bool 16
  owner : Vector (BitVec 3) 16
  gen : Nat
deriving DecidableEq, Repr

/-- R195: the descriptor of an accumulator name. -/
structure AccDesc where
  defd : Bool
  int : Bool
  mcode : Nat
  n : Nat
  abase : Nat
deriving DecidableEq, Repr

/-- R160, R201: stages of a ring an entry took at its start: `moves` when it fills or drains them (the ring's pointer passes
over them for later starts), with the ring's definition as it stood. -/
structure Claim where
  ring : Nat
  first : Nat
  n : Nat
  fill : Bool
  moves : Bool
  gen : Nat
  base : Nat
  size : Nat
  count : Nat
deriving DecidableEq, Repr

/-- R33, R380: a queue entry, from its placement to its finish. `sent` and `landed` count carried positions (R232),
`out` holds outstanding requests (identifier, position), `failed` the failed positions (position, cause, address), `uAge` the
age at which an MX entry's compute stage begins (R208), `chunk` the next chunk,
`wdata` what a nominated entry wrote, by carried position (R341), `stage` how far a copy's end sequence has come (R230), `prevS` the S its queue held before an entry faulted unstarted
(R150). -/
structure Entry where
  uid : Nat
  eng : Unit7
  img : BitVec 128
  val1 : Word
  val2 : Word
  strA : Stream
  strB : Stream
  frm : BitVec 3
  placed : Nat
  byWheel : Bool
  gens : List (Nat × BitVec 8)
  started : Bool
  fault : Bool
  drop : Bool
  port : Bool
  cause : BitVec 8
  tval : Word
  startCyc : Nat
  age : Nat
  claims : List Claim
  desc : AccDesc
  uAge : Nat
  chunk : Nat
  buf : List Byte
  wdata : List (Nat × Byte)
  sent : Nat
  half : List Byte
  total : Nat
  landed : Nat
  out : List (Nat × Nat)
  failed : List (Nat × BitVec 8 × Nat)
  done : Bool
  late : Bool
  fences : Bool
  stage : Nat
  prevS : Option Nat
deriving DecidableEq, Repr

/-- R168: a wheel slot. -/
structure WheelSlot where
  eng : BitVec 3
  tmpl : BitVec 6
  fo : Bool
  lo : Bool
  lvl : Nat
  fa : BitVec 5
  fb : BitVec 5
  strA : Vector (BitVec 16) 6
  strB : Vector (BitVec 16) 6
deriving DecidableEq, Repr

/-- R168: the wheel. `at_` is the slot the run has come to, `start` the cycle from which it runs, `cause` of a fault. -/
structure Wheel where
  slots : Vector WheelSlot 32
  len : Nat
  counts : Vector (BitVec 16) 6
  running : Bool
  rem : Vector Nat 6
  idx : Vector Nat 6
  at_ : Nat
  start : Nat
  faulted : Bool
  cause : BitVec 8
deriving DecidableEq, Repr

/-- R270 to R272: a binding slot. -/
structure Binding where
  valid : Bool
  held : Bool
  unheld : Bool
  rfail : Bool
  barrier : Bool
  object : Nat
  farPool : Bool
  base : Nat
  length : Nat
  scope : Nat
deriving DecidableEq, Repr

/-- R330: a commit group's STATE. -/
inductive GroupState where
  | free | opened | committing | committed | aborting | aborted
deriving DecidableEq, Repr

/-- R330: a commit group. `answers` holds the sites that have answered the packet sent, each with the tick (module, MSITE, tick). -/
structure Group where
  state : GroupState
  mask : BitVec 32
  slot : Nat
  gen : BitVec 16
  out : Nat
  sites : List (Nat × Nat)
  cause : BitVec 8
  answers : List (Nat × Nat × Nat)
  result : BitVec 8
deriving DecidableEq, Repr

/-- An effect in flight, performed when its remaining latency runs out (R9, R95). -/
inductive Eff where
  /-- R93: a scalar register. -/
  | sreg (d : BitVec 5) (v : Word)
  /-- R93: a predicate. -/
  | pred (d : BitVec 3) (v : Bool)
  /-- R126: a CSR write by a task. -/
  | csr (c : BitVec 10) (v : Word)
  /-- R83: FCSR conditions NV DZ OF UF NX, ORed in. -/
  | flags (f : BitVec 5)
  /-- R101, R125: one loop level's new state. -/
  | loop (l : BitVec 2) (lb le : BitVec 13) (lc : BitVec 32) (act : Bool)
  /-- R103: the count a level held before a write that lands in the cycle now running: that cycle's check reads it. -/
  | lcHeld (l : Nat) (n : BitVec 32)
  /-- R9: bytes whose write into a core's pool falls due, by physical location. -/
  | pool (cid : Nat) (ws : List (Nat × Byte))
  /-- R174: the selected bits of a mask. -/
  | mask (m : BitVec 3) (bits sel : BitVec 128)
  /-- R160: the stage becomes full and the consumer's, the tail moved past it. -/
  | ringFill (r stage gen : Nat)
  /-- R160: the stage becomes empty and the producer's. -/
  | ringDrain (r stage gen : Nat)
  /-- R163: a stage's owner and full bit set by SQ. -/
  | ringOwn (r stage gen : Nat) (owner : BitVec 3) (full : Bool)
  /-- R160: head or tail advanced. -/
  | ringMove (r gen : Nat) (tailSide : Bool)
  /-- R162: a ring defined. -/
  | ringDef (r : Nat) (v : Ring)
  /-- R209: a descriptor defined and the plane cleared. -/
  | accDef (a : BitVec 3) (d : AccDesc)
  /-- R197, R209: LS bits set and cleared. -/
  | plane (a : BitVec 3) (set clr : BitVec 65536) (lo n : Nat)
  /-- R154: one token pushed. -/
  | token (f : BitVec 3)
  /-- R169: a level count written while the wheel runs. -/
  | whlCount (l : BitVec 3) (v : BitVec 16)
  /-- R159: one word of a stream register. -/
  | stream (q : BitVec 4) (w : BitVec 3) (v : Word)
  /-- R152: the entry finishes. -/
  | finish (uid : Nat)
  /-- R412: filter bits set, or all cleared. -/
  | wfilt (clr : Bool) (bits : BitVec 4096)
  /-- R273: a binding slot's new contents. -/
  | bind (k : BitVec 3) (b : Binding)
  /-- R347: a nomination, with its monitor cleared. -/
  | monSet (k : BitVec 2) (nom : Word)
  /-- R348: REF and BOUND. -/
  | monRef (k : BitVec 2) (ref bound : Word)
  /-- R349: part of a monitor, as it stands at the end of the cycle, into a scalar register. -/
  | monRead (d : BitVec 5) (k : BitVec 2) (part : BitVec 3)
  /-- R350: the comparison of a monitor as it stands at the end of the cycle, and its clearing. -/
  | monCheck (d : BitVec 5) (k : BitVec 2) (clr : Bool)
  /-- R334: a commit group opened. -/
  | group (g : Nat) (v : Group)
  /-- R292, R343: the core's arrival on a barrier, with its parity. -/
  | arrival (n par : Nat)
  /-- R94, R134: the place, in the order of issue, of the result of a word whose bank access has not been served (its job). -/
  | loading (job : Nat)
  /-- R167, R227: the bytes of an entry's chunk from carried position `b` on, `n` of them, whose write falls due. -/
  | moved (b n : Nat) (ws : List (Nat × Nat × Byte))
  /-- An event of the table that comes due. -/
  | event (i : Instr)
deriving DecidableEq, Repr

/-- An effect with its remaining latency and, for an engine's, its entry. -/
structure Pend where
  rem : Nat
  uid : Option Nat
  eff : Eff
deriving DecidableEq, Repr

/-- What SQ may be held by (R91), where the hold outlasts a cycle and keeps state of its own. -/
inductive WaitKind where
  | idle | waita (nz : Bool) | acqLock | acqBarrier | barw | bar | cwait | align | rel | fence | drain | commit | rett
  | served | wfilt | full | kend
deriving DecidableEq, Repr

/-- The wait in progress (R235, R279, R293): its limit D, the words watched, its progress. -/
structure Wait where
  kind : WaitKind
  deadline : Option Nat
  addrs : List Nat
  progress : Nat
  value : Nat
deriving DecidableEq, Repr

/-- The sequencer's own state. `delay` holds while the word at `pc` is a delay word (R98), with the target when the branch
was taken; `second` while the word at `pc` is a WIDE instruction's first word that has issued (R54); `idleEnd` the index of an
`idle` whose last cycles follow a trap, with the index it led to then: its end-of-body check is still to be made (R127). -/
structure Sq where
  pc : BitVec 13
  delay : Bool
  target : Option (BitVec 13)
  second : Bool
  pause : Nat
  idle : Nat
  wait : Option Wait
  overrun : Bool
  idleEnd : Option (BitVec 13 × BitVec 13)
deriving DecidableEq, Repr

/-- R100: the four loop levels. -/
structure Loops where
  lb : Vector (BitVec 13) 4
  le : Vector (BitVec 13) 4
  lc : Vector (BitVec 32) 4
  act : Vector Bool 4
deriving DecidableEq, Repr

/-- R96, R82, R85: scalar registers, predicates, floating control, generator. -/
structure Regs where
  s : Vector Word 32
  p : Vector Bool 8
  frm : BitVec 3
  flags : BitVec 5
  seed : Word
deriving DecidableEq, Repr

/-- R145: one command queue with what R150 keeps of the entry that left it last; `gone` holds the entries that left it from behind
its head, with their T. -/
structure Queue where
  wait : List Entry
  gone : List (Nat × Nat)
  lastS : Option Nat
  freeAt : Nat
  headAt : Nat
deriving DecidableEq, Repr

/-- R339: a conservation monitor; ACC counts units of 2^-160. -/
structure Monitor where
  nom : Word
  gen : BitVec 8
  acc : Int
  spec : Bool
  ovf : Bool
  nrec : Nat
  ref : Word
  bound : Word
deriving DecidableEq, Repr

/-- R288, R345: a release on its way to a core: the cycles left, whether it is short, and on the checking core the totals
to compare (monitor, sum, SPEC, OVF). -/
structure Release where
  left : Nat
  short : Bool
  totals : List (Nat × Int × Bool × Bool)
deriving DecidableEq, Repr

/-- R287: one barrier id of the core: A, O, how many phases have released to it, which of those were short, the releases
on their way, and the tick T_r of the latest. -/
structure Bar where
  arr : Nat
  obs : Nat
  rel : Nat
  short : List Nat
  absent : Bool
  due : List Release
  tr : Nat
deriving DecidableEq, Repr

/-- R236: a signal slot: the value, the flag, whether the engine is a gated one, the entries still to finish, and whether its
write has been asked of the bank. -/
structure Sig where
  value : Word
  flag : Nat
  gated : Bool
  waiting : List Nat
  sent : Bool
deriving DecidableEq, Repr

/-- R133, R134: a bank access that has not been served: the core whose pool it is, its 16-byte word, the cycles until it is due and
those it is overdue, what its rank rests on (unit, issuing core, entry), and for a gated one the tick it arrived in. `last` is
served only after every other access of its job. -/
structure BankAcc where
  seq : Nat
  cid : Nat
  word : Nat
  wait : Nat
  late : Nat
  write : Bool
  gated : Bool
  last : Bool
  rank : Nat
  src : Nat
  uid : Option Nat
  tick : Nat
  job : Option Nat
  ws : List (Nat × Byte)
deriving DecidableEq, Repr

/-- What follows when every access of a job has been served. -/
inductive BankEnd where
  /-- The entry goes on with the `n` bytes it has read, from carried position `b` on. -/
  | entry (b n : Nat)
  /-- R232: `n` bytes of an entry's block, from position `b` on, have performed; the launch whose entry it is. -/
  | landed (lid b n : Nat)
  /-- R230: an entry's completion word has performed. -/
  | completed (lid : Nat)
  /-- R137: a loaded quantity: register, width code, address. -/
  | load (d : BitVec 5) (sz : BitVec 3) (a : Nat)
  /-- R138: register, size, op, address, operand. -/
  | amo (d : BitVec 5) (n op a : Nat) (v : Word)
  /-- R139: register, size, address, expected and new value. -/
  | cas (d : BitVec 5) (n a : Nat) (cmp v : Word)
  /-- R149, R273: the word that holds SQ, with the address and size it reads. -/
  | word (a n : Nat)
  /-- R143: a remote operation performs. -/
  | remote (id : Nat)
  /-- R263: a response has performed. -/
  | respond (id : Nat)
  /-- A row of the table comes about. -/
  | event (i : Instr)
deriving DecidableEq, Repr

/-- Bank accesses that belong together: whose they are, what follows them, the cycles since they were asked for, the greatest
delay among them, the bytes already read (core, location) while others wait, and the masks and generator as they stood. -/
structure BankJob where
  id : Nat
  uid : Option Nat
  what : BankEnd
  age : Nat
  late : Nat
  caught : List (Nat × Nat × Byte)
  masks : Vector (BitVec 128) 8
  seed : Word
deriving DecidableEq, Repr

/-- R375: the trap CSRs. -/
structure TrapRegs where
  cause : Word
  pc : Word
  val : Word
  vec : Word
  idleRem : Nat
  reissue : Bool
  inh : Bool
  scr : Word
  cyc : Nat
deriving DecidableEq, Repr

/-- R377: what a trap sets aside until `rett`; `wait` is that of the word at `pc`. -/
structure Aside where
  pc : BitVec 13
  queues : Vector Queue 7
  amends : Vector (List (BitVec 5 × BitVec 16)) 6
  wheel : Wheel
  sigs : List (Nat × Sig)
  wait : Option Wait
  pend : List Pend
  banks : List BankAcc
  jobs : List BankJob
  mxV : Nat
  idleEnd : Option (BitVec 13 × BitVec 13)
deriving DecidableEq, Repr

/-- R393 to R414, R282, R346: the context's remaining CSRs. -/
structure MiscRegs where
  part : Word
  linfo : Word
  energy : Word
  zltsel : BitVec 9
  monst : Word
  mondiff : Word
  wctl : Word
  prctl : Word
  prsel : Word
deriving DecidableEq, Repr

/-- A task's context (R362): `live` while its task runs, `held` while it belongs to a task, ended by a fault included, `sys` in
system mode (R21).
`frame` and `frameAside` are the stop frame of R405. -/
structure Ctx where
  live : Bool
  held : Bool
  sys : Bool
  lid : Nat
  index : Nat
  asid : Nat
  root : Nat
  cyc : Nat
  sq : Sq
  regs : Regs
  loops : Loops
  misc : MiscRegs
  trap : TrapRegs
  streams : Vector Stream 16
  rings : Vector Ring 8
  tokens : Vector Nat 8
  tmpls : Cells (BitVec 128)
  amends : Vector (List (BitVec 5 × BitVec 16)) 6
  queues : Vector Queue 7
  run : List Entry
  faults : List Entry
  replay : List Entry
  aside : Option Aside
  frame : List Entry
  frameAside : Option Aside
  pend : List Pend
  banks : List BankAcc
  jobs : List BankJob
  wheel : Wheel
  sigs : List (Nat × Sig)
  masks : Vector (BitVec 128) 8
  accs : Vector AccDesc 8
  planes : Vector (BitVec 65536) 8
  mxV : Nat
  mons : Vector Monitor 4
  binds : Vector Binding 8
  ackc : Vector Nat 4
  groups : Vector Group 8
  domain : Vector Word 8
  bars : Vector Bar 8
  filter : BitVec 4096
  exempt : List (Bool × Nat × Nat)
  remotes : Nat
  nmOut : Nat
  launches : Nat
  pendTrap : Option (Word × Word)
  consTrap : Option (Nat × Word)
deriving DecidableEq, Repr

/-- R249: a translation held by a TLB or a translation cache. -/
structure TlbEntry where
  asid : Nat
  va : Nat
  size : Nat
  module : Nat
  pa : Nat
  place : Nat
  perms : BitVec 4
  level : Nat
  raw : Nat
deriving DecidableEq, Repr

/-- R251: a translation that has failed: address space, page of 64 KiB, cause, level reached, entry read there, access kind. -/
structure XFail where
  asid : Nat
  page : Nat
  cause : BitVec 8
  level : Nat
  entry : Nat
  kind : Nat
deriving DecidableEq, Repr

/-- R251: a fault record as the page-walk assist receives it: the core, its address space, the VA, how the translation failed, and
the bytes-landed prefix of the entry that takes the fault. -/
structure XRecord where
  cid : Nat
  va : Nat
  fail : XFail
  landed : Nat
deriving DecidableEq, Repr

/-- R249: a miss at a die: the core that met it first, the tick it came, address space, page of 64 KiB, access kind, and the root
and mode it is walked in. -/
structure Miss where
  cid : Nat
  tick : Nat
  asid : Nat
  page : Nat
  kind : Nat
  root : Nat
  sys : Bool
deriving DecidableEq, Repr

/-- R141: an operation a remote pool word or a fabric write asks of a target core. `late` and `shut`: it came in after a drain
wait began (R363), or while its cluster refused new work (R400). `taken`: it has reached the head and waits for its bank. -/
structure RemoteOp where
  id : Nat
  lid : Nat
  job : Option Nat
  addr : Nat
  late : Bool
  shut : Bool
  taken : Bool
deriving DecidableEq, Repr

/-- R404, R405: debug registers; `stopReq` is a stop asked for, with its REASON, that falls on the next edge;
`stepMark` is the first identifier given out since a step began (R408). -/
structure Debug where
  zone : Bool
  bkstop : Bool
  bken : Bool
  steptrap : Bool
  stopped : Bool
  reason : BitVec 3
  stepCyc : Nat
  lost : Nat
  bkcyc : Word
  stepping : Bool
  stepPc : BitVec 13
  stepIssued : Bool
  stepMark : Nat
  stopReq : Option (BitVec 3)
deriving DecidableEq, Repr

/-- A core (R24, R38). `tick` is TICK as the core has it at the start of its cycle, `frac` what its clock has run past it,
`wrote` the physical locations written in the cycle that runs (R234), `swap` the cycles a swap still takes (R362),
`drain` a full pre-emption
from its drain wait on, `spill` the spill engine's work: the launch whose task it puts back, none when it saves one, and the chunk that
its accesses move (R363), `xmiss` the pages that are missing, `xfail` the walks
that have just failed (R249), `meshed` the requests that the mesh holds for its inbound queue (R143), `banks` and `jobs` the accesses to its pool that are not its own
context's (R134), `ended` that its cycle has come to the banks' service. -/
structure Core where
  cid : Nat
  ctx : Ctx
  bank : Option Ctx
  pool : Cells Byte
  ibuf : Cells (BitVec 32)
  inbound : List RemoteOp
  meshed : List Nat
  tlb : List TlbEntry
  dbg : Debug
  heads : Cells Nat
  sample : Nat
  tick : Nat
  frac : Nat
  edge : Nat
  swap : Nat
  drain : Bool
  spill : Option (Option Nat × Nat)
  equiv : Bool
  wrote : List Nat
  xmiss : List Miss
  xfail : List XFail
  banks : List BankAcc
  jobs : List BankJob
  ended : Bool
deriving DecidableEq, Repr

/-- R399: a cluster's gating state. -/
structure Cluster where
  closing : Bool
  closedAt : Nat
  drained : Bool
  retained : Bool
  clkoff : Bool
  railoff : Bool
  gating : Bool
  waking : Bool
deriving DecidableEq, Repr

/-- R288, R291, R344: a phase that has completed at a segment of level 1 or 2 and releases three or four cycles on: whether it is short,
whose arrivals stand, and what they carried. -/
structure PhaseRec where
  phase : Nat
  short : Bool
  arrived : BitVec 100
  deltas : List (Nat × Nat × Nat × Int × Bool × Bool)
deriving DecidableEq, Repr

/-- R285: a barrier segment. `arrived` holds one vector for each phase parity and `own` the tick of its last arrival,
`reports` the dies whose report for a parity has come, its own die among them once its own has left, `deltas` what arrivals
carried (parity, core, monitor, ACC, SPEC, OVF) for R344, `totals` what a completed phase sums to
(parity, checking core, monitor, sum, SPEC, OVF), `excused` the phases of which a participant has been excused (R291),
`rel` how many phases have released, `ref` where in time the cycle of a parity's last arrival began, `phases` the phases that are to
release at levels 1 and 2. -/
structure Segment where
  used : Bool
  lid : Nat
  bar : Nat
  level : Nat
  mask : BitVec 100
  arrived : Vector (BitVec 100) 2
  own : Vector Nat 2
  children : List Nat
  parent : Option Nat
  depth : Nat
  reports : List (Nat × Nat)
  deltas : List (Nat × Nat × Nat × Int × Bool × Bool)
  totals : List (Nat × Nat × Nat × Int × Bool × Bool)
  excused : List Nat
  rel : Nat
  ref : Vector (Nat × Nat) 2
  phases : List PhaseRec
deriving DecidableEq, Repr

/-- R295: a handle's STATE. -/
inductive HandleState where
  | dark | settling | live | faulted
deriving DecidableEq, Repr

/-- R295: ROUTE as `route` sets it. -/
structure Route where
  die : Nat
  port : Nat
  fport : Nat
  fh : Nat
  alt : Bool
deriving DecidableEq, Repr

/-- R312: a handle as `cstat` reads it, from a tick on: the tick of its last transition, STATE, far die and port of its route,
fault record. -/
structure Snap where
  tick : Nat
  trans : Nat
  state : HandleState
  far : Nat
  port : Nat
  frec : Word
deriving DecidableEq, Repr

/-- R295: a circuit handle, with its senders in the order of their starts (core, entry, R309), its landing windows
(core, entry) and its landing buffer, where `none` marks a gap (R310). `hist` is newest first. -/
structure Handle where
  state : HandleState
  owner : Option Nat
  route : Option Route
  lgroup : BitVec 5
  spare : Bool
  holdEnd : Option Nat
  frec : Word
  hist : List Snap
  estAt : Option Nat
  senders : List (Nat × Nat)
  windows : List (Nat × Nat)
  buffer : List (Nat × Option Byte)
  feeding : Bool
  sendFree : Nat
  cutShort : Bool
deriving DecidableEq, Repr

/-- R301: a slice in a die's fabric sequencer. `mark` is the step of the latest `atstep`, `body` an `rpt` body: first index,
last index, passes left. -/
structure Seq where
  store : List (BitVec 32)
  lid : Nat
  running : Bool
  stopped : Bool
  reason : Nat
  pc : Nat
  t0 : Nat
  next : Nat
  mark : Nat
  body : Option (Nat × Nat × Nat)
deriving DecidableEq, Repr

/-- R413: a trace record. -/
structure TraceRec where
  kind : Nat
  cid : Nat
  cyc : Nat
  inh : Bool
  tick : Nat
  a : Word
  b : Word
deriving DecidableEq, Repr

/-- A compute die (R21). `walks` are the walks that run and `missQueue` the misses that wait for one (R249), `xrecords` the fault
records the assist has received (R251), `invWaits` the requests an invalidation waits for (R250). -/
structure Die where
  num : Nat
  fmhz : Nat
  skip : Nat
  level : Nat
  levelWas : Nat
  levelAt : Nat
  acked : Bool
  ackAt : Nat
  strcnt : Nat
  demands : Nat
  skips : Nat
  episode : Option Nat
  forced : Option (Nat × Nat)
  stretch : Nat
  droop : Bool
  fabricShare : Bool
  changedAt : Option Nat
  clusters : Vector Cluster 4
  margin : Word
  segs : Vector Segment 64
  handles : Vector Handle 32
  seqs : List Seq
  xcache : List TlbEntry
  walks : List Miss
  missQueue : List Miss
  xrecords : List XRecord
  invDone : Bool
  invWaits : List Nat
  trace : List TraceRec
  traced : Nat
  seqNo : Nat
deriving DecidableEq, Repr

/-- R238: a line the memory-side cache holds: line number, sectors valid and dirty. -/
structure CacheLine where
  line : Nat
  valid : BitVec 2
  dirty : BitVec 2
deriving DecidableEq, Repr

/-- R331: a held store: tag (module, CID, group, GEN, EPOCH), address, bytes with their mask. -/
structure Held where
  module : Nat
  cid : Nat
  group : Nat
  gen : BitVec 16
  epoch : Nat
  pa : Nat
  data : List (Nat × Byte)
deriving DecidableEq, Repr

/-- R261: a member's arrival at a group reduction, with the tick its epoch's limit runs out; once its group has been reduced,
the request that writes its result, the cause of a refusal and the status it is to have. -/
structure MlrArrival where
  pa : Nat
  member : Nat
  id : Nat
  lid : Nat
  job : Nat
  deadline : Nat
  reduced : Bool
  write : Option Nat
  cause : BitVec 8
  status : Word
deriving DecidableEq, Repr

/-- R274: a parked acquire: the lock word, the request, and the module and core that it names. -/
structure Park where
  pa : Nat
  id : Nat
  module : Nat
  cid : Nat
deriving DecidableEq, Repr

/-- A memory site (R22). `cache` is keyed by channel and set; `parks` is in arrival order; `xcache` is its NMU's
translation cache (R255). -/
structure Site where
  num : Nat
  cache : Cells (List CacheLine)
  poison : List Nat
  softErrors : Nat
  locks : List Nat
  parks : List Park
  held : List Held
  mlr : List MlrArrival
  staging : Cells Byte
  xcache : List TlbEntry
deriving DecidableEq, Repr

/-- R320: a slot sent on before its flit had fully arrived: the link end and SEQ of that flit, the slot's place in it, and the SEQ
of the outgoing flit that carries it, once that has left. -/
structure Forward where
  inLink : Nat
  inSeq : BitVec 12
  idx : Nat
  slot : BitVec 480
  outSeq : Option (BitVec 12)
deriving DecidableEq, Repr

/-- R319: a link end (R17, R18): 2·n and 2·n + 1 are the ends of link n of R422, the second at the greater row or column; 3,080 + p is
off-module port p. `waiting` holds what waits for a credit (management, FMT, body), `owed` the credits to give back, `peer` the module
last heard there, `wire` the flits that the latest sending or replay put on the link (log 59, DESIGN CHOICE). -/
structure LinkEnd where
  num : Nat
  txSeq : BitVec 12
  rxSeq : BitVec 12
  acked : BitVec 12
  replay : List (BitVec 2048)
  retries : Nat
  credits : Nat
  lanes : Nat
  failed : Bool
  heard : Nat
  resend : Bool
  outgoing : List Forward
  waiting : List (Bool × Nat × List Byte)
  owed : Nat
  peer : Option Nat
  wire : List (BitVec 2048)
deriving DecidableEq, Repr

/-- What a request of R263 does at its home. -/
inductive ReqKind where
  /-- bytes read at device addresses, landing in the issuer's pool (or sent on as a device write). -/
  | read
  /-- bytes written at device addresses. -/
  | write
  /-- a `cp.gput` store to be held (group, GEN). -/
  | gput (group : Nat) (gen : BitVec 16)
  /-- a remote pool word: op6 low bits, size in bytes, op, operands; L. -/
  | pool (op : Nat) (n : Nat) (amoOp : Nat) (v cmp : Word) (l : Nat)
  /-- bytes written to a far pool by a copy. -/
  | farWrite (cid : Nat)
  /-- bytes read from a far pool by a copy. -/
  | farRead (cid : Nat)
  /-- an NM operation packet: its image, target VA, operand block; RADDR·8. -/
  | nm (img : BitVec 128) (operand : List Byte) (raddr : Nat)
  /-- lock packets of R274. -/
  | acquire (park : Bool) (slot : Nat)
  | release (slot : Nat)
  | cancel
  /-- a commit (true) or abort packet to one site. -/
  | commit (group : Nat) (publish : Bool)
  /-- `launch`: node or record VA, result address. -/
  | launch (va : Nat) (addr : Nat)
deriving DecidableEq, Repr

/-- R327: where a request of another module came from: the module, the link end of the port it entered by, its TAG. -/
structure Foreign where
  module : Nat
  port : Nat
  tag : Nat
deriving DecidableEq, Repr

/-- R263: a request in the fabric. `pairs` gives for each byte its home address and its place at the issuer,
or at the home it goes on to: `onward` is what then happens there (kind, module, VA). `foreign` says where it
came from when another module issued it (R327), `epoch` in which formation of the set it crossed to another module (R317, R331). -/
structure Req where
  id : Nat
  cid : Nat
  lid : Nat
  job : Nat
  asid : Nat
  uid : Option Nat
  pos : Nat
  kind : ReqKind
  va : Nat
  module : Nat
  pa : Nat
  pairs : List (Nat × Nat)
  data : List Byte
  scope : Nat
  counted : Bool
  sentAt : Nat
  timed : Bool
  atHome : Bool
  cause : BitVec 8
  status : Word
  onward : Option (ReqKind × Nat × Nat)
  foreign : Option Foreign
  epoch : Option Nat
deriving DecidableEq, Repr

/-- R309: circuit bytes in flight: the port they reach, when they leave and land, the sending end, its entry (core, entry) or,
once placed, the window's with the position there. `stage`: 0 in flight, 1 placed in a window, 2 performing at the end of a
cycle, 3 what the landing buffer gives in a tick (R310), 4 a `sig` in flight, 5 performing (R304): `pos` is then the flag,
`uid` the launch. -/
structure CircuitUnit where
  id : Nat
  die : Nat
  h : Nat
  bytes : List Byte
  leaves : Nat
  lands : Nat
  srcDie : Nat
  srcH : Nat
  cid : Nat
  uid : Nat
  pos : Nat
  stage : Nat
deriving DecidableEq, Repr

/-- R354: a loaded image: where it is, its header, tables and circuit slices as relocated. -/
structure Image where
  asid : Nat
  va : Nat
  part : Word
  levels : BitVec 24
  emask : Word
  shapes : List (Nat × Nat × List (BitVec 32))
  shaped : Bool
  tmpls : List (Nat × BitVec 128)
  pool : List Byte
  points : List (Nat × BitVec 16 × List Nat)
  slices : List (Nat × List (BitVec 32))
  exports : List (Nat × Nat)
deriving DecidableEq, Repr

/-- R371: a task's state in the completion record. -/
inductive TaskState where
  | notStarted | running | ended | faulted | preempted | retired
deriving DecidableEq, Repr

/-- R371: what is kept of one task of a launch; `point` is the equivalence point at which it has stopped (R365). -/
structure Task where
  cid : Nat
  index : Nat
  state : TaskState
  point : Option Nat
deriving DecidableEq, Repr

/-- R355 to R361: a launch from its submission to its close: `t0` is T0 once its start barrier has released, `resumeAt` the
equivalence point it resumes at with the carried registers (R366). -/
structure Launch where
  lid : Nat
  die : Nat
  asid : Nat
  job : Nat
  cls : Nat
  budget : Nat
  remain : Nat
  drops : Nat
  seed : Word
  record : Nat
  image : Nat
  shape : Nat
  row0 : Nat
  col0 : Nat
  rows : Nat
  cols : Nat
  params : List Byte
  submitted : Nat
  admitted : Bool
  t0 : Nat
  tasks : List Task
  graph : Option (Nat × Nat)
  resumeAt : Option Nat
  carry : List (Nat × Word)
  raised : Option Nat
deriving DecidableEq, Repr

/-- R363: a context written to a save block, whose pool bytes lie in device memory from the block's PA on. -/
structure Saved where
  cid : Nat
  ctx : Ctx
  block : Nat
deriving DecidableEq, Repr

/-- R368: a node's run state; `left` counts a loop's iterations left, or a copy's bytes done. -/
structure NodeState where
  node : Nat
  count : Nat
  ready : Bool
  running : Bool
  left : Option Nat
deriving DecidableEq, Repr

/-- R367: a graph being run: its node count, and the VA of its completion word. -/
structure Graph where
  gid : Nat
  asid : Nat
  va : Nat
  count : Nat
  done : Nat
  nodes : List NodeState
deriving DecidableEq, Repr

/-- R417 to R433: the service window's registers that are not elsewhere, and boot. -/
structure Service where
  ready : Bool
  bisque : Bool
  calfail : Bool
  halt : Bool
  stage : Nat
  denied : Nat
  mchk : Nat
  fwsvn : Nat
  minSvn : Nat
  semaHeld : Bool
  semaPort : Nat
  semaOwner : Nat
  semaExpiry : Nat
  subbase : Vector Word 2
  subhead : Vector Nat 2
  smsel : Word
  compmap : Nat
  tries : Nat
  bootCause : Nat
  attLog : Nat
  calibrating : Bool
  meas : Nat
  logCount : Nat
  dbgsel : Word
  mlog : List (Nat × Nat × Nat)
  entries : List Nat
  lastRead : List Byte
  lastError : Bool
  loadFault : Option (Nat × Nat × Nat)
deriving DecidableEq, Repr

/-- R315: what a heartbeat heard during a formation claims: the link end, the module's number, MEMBERS, last EPOCH, and how far its
TICK is ahead. -/
structure SetClaim where
  link : Nat
  num : Nat
  members : BitVec 32
  epoch : Nat
  ahead : Int
deriving DecidableEq, Repr

/-- R314 to R318, R324: the module's place in its connected set. `offset` is how far the set root's TICK is ahead of this module's
(R318), `claims` what a formation in progress has heard. -/
structure SetState where
  modnum : Nat
  epoch : Nat
  members : BitVec 32
  dead : BitVec 32
  halted : BitVec 32
  modlim : Nat
  setlim : Nat
  busy : Bool
  done : Bool
  cause : Nat
  reqNum : Nat
  reqMembers : BitVec 32
  reqAt : Nat
  offset : Int
  claims : List SetClaim
  heard : Cells Nat
  reports : List (Nat × Nat × Nat)
deriving DecidableEq, Repr

/-- The fused maps of R23, R29, R422, and the fused SLACK of the cluster monitors (R402), keyed by die · 4 + cluster;
one not listed is 0 (log 3, DESIGN CHOICE). `zlt` is keyed by source die · 512 + destination die. -/
structure Fuses where
  cores : List Nat
  links : List Nat
  channels : List Nat
  sitecap : Cells Nat
  zlt : Cells Word
  slack : Cells Nat
deriving DecidableEq, Repr

/-- Where a core's cycle has come to: the model's own field. SQ first, then the engines, then the wheel and the cycle's end. -/
inductive Phase where
  | issue | engines | wheel | finish
deriving DecidableEq, Repr

/-- The machine. `core` is the core whose cycle runs, `others` the cores that have left their reset state, `events` what happens at the next cycle boundary (the environment's order for
gated work and outside acts), `timers` what falls due at a tick,
`unit` the engine whose head is judged, `judged` those done in this cycle, `seqDie` and `seqLid` the slice that executes a
word: the model's own fields (log 4, DESIGN CHOICE). `roots` are the page-table roots that service firmware has registered, by ASID (log 17, DESIGN CHOICE). -/
structure State where
  core : Core
  others : List Core
  phase : Phase
  judged : List Unit7
  unit : Unit7
  events : List Instr
  timers : List (Nat × Instr)
  seqDie : Nat
  seqLid : Nat
  nextId : Nat
  tick : Nat
  dies : List Die
  sites : List Site
  links : List LinkEnd
  mem : Cells Byte
  reqs : List Req
  units : List CircuitUnit
  regions : Cells Nat
  images : List Image
  launches : List Launch
  saves : List Saved
  graphs : List Graph
  svc : Service
  conn : SetState
  fuses : Fuses
  roots : Cells Nat
deriving DecidableEq, Repr

/-- No step of this machine stops with a fault: every fault of the spec is a trap, a status or a record, and is a next state. -/
inductive Fault where
deriving DecidableEq, Repr

/-- Why the model gives an instruction no meaning. -/
inductive Refusal where
  /-- Raised by an arm of `exec` for an instruction not modelled yet; safe: the machine stops there. -/
  | notModelled (mnemonic : String)
deriving DecidableEq, Repr

/-- R156: every field resets to 0 at launch. -/
def Stream.zero : Stream := ⟨Vector.replicate 7 0⟩

/-- R160: an undefined ring. -/
def Ring.none : Ring := ⟨false, 0, 16, 1, 0, 0, 0, 0, Vector.replicate 16 false, Vector.replicate 16 0, 0⟩

/-- R195: an undefined accumulator name. -/
def AccDesc.none : AccDesc := ⟨false, false, 0, 0, 0⟩

/-- R145: an empty queue. -/
def Queue.empty : Queue := ⟨[], [], Option.none, 0, 0⟩

/-- R168: a slot never written; of its items the spec resets the strides alone (log 69, DESIGN CHOICE). -/
def WheelSlot.zero : WheelSlot :=
  ⟨0, 0, false, false, 0, 31, 31, Vector.replicate 6 0, Vector.replicate 6 0⟩

/-- R168: LEN 0, counts 1, stopped. -/
def Wheel.zero : Wheel :=
  ⟨Vector.replicate 32 WheelSlot.zero, 0, Vector.replicate 6 1, false, Vector.replicate 6 0, Vector.replicate 6 0, 0, 0, false, 0⟩

/-- R91: word 0, nothing pending. -/
def Sq.zero : Sq := ⟨0, false, Option.none, false, 0, 0, Option.none, false, Option.none⟩

/-- R97, R100: every level inactive. -/
def Loops.zero : Loops :=
  ⟨Vector.replicate 4 0, Vector.replicate 4 0, Vector.replicate 4 0, Vector.replicate 4 false⟩

/-- R97, R107: registers 0, p0 true (log 1, DESIGN CHOICE). -/
def Regs.zero : Regs := ⟨Vector.replicate 32 0, (Vector.replicate 8 false).set 0 true, 0, 0, 0⟩

/-- R339: EN 0 and every other item 0. -/
def Monitor.zero : Monitor := ⟨0, 0, 0, false, false, 0, 0, 0⟩

/-- R270: VALID = 0. -/
def Binding.zero : Binding := ⟨false, false, false, false, false, 0, false, 0, 0, 0⟩

/-- R330: FREE, GEN 0. -/
def Group.zero : Group := ⟨.free, 0, 0, 0, 0, [], 0, [], 0⟩

/-- R287: no arrivals, none observed. -/
def Bar.zero : Bar := ⟨0, 0, 0, [], false, [], 0⟩

/-- R375: the Reset column; TCAUSE.RQI 0x1F. -/
def TrapRegs.zero : TrapRegs := ⟨0x1F0000, 0, 0, 0, 0, false, false, 0, 0⟩

/-- The remaining CSRs at 0. -/
def MiscRegs.zero : MiscRegs := ⟨0, 0, 0, 0, 0, 0, 0, 0, 0⟩

/-- A context in which no task runs; what the spec gives no value before a launch writes it holds 0 (log 1, DESIGN CHOICE). -/
def Ctx.zero : Ctx where
  live := false
  held := false
  sys := false
  lid := 0
  index := 0
  asid := 0
  root := 0
  cyc := 0
  sq := .zero
  regs := .zero
  loops := .zero
  misc := .zero
  trap := .zero
  streams := Vector.replicate 16 .zero
  rings := Vector.replicate 8 .none
  tokens := Vector.replicate 8 0
  tmpls := []
  amends := Vector.replicate 6 []
  queues := Vector.replicate 7 .empty
  run := []
  faults := []
  replay := []
  aside := none
  frame := []
  frameAside := none
  pend := []
  banks := []
  jobs := []
  wheel := .zero
  sigs := []
  masks := (Vector.replicate 8 0).set 0 (BitVec.allOnes 128)
  accs := Vector.replicate 8 .none
  planes := Vector.replicate 8 0
  mxV := 0
  mons := Vector.replicate 4 .zero
  binds := Vector.replicate 8 .zero
  ackc := Vector.replicate 4 0
  groups := Vector.replicate 8 .zero
  domain := Vector.replicate 8 0
  bars := Vector.replicate 8 .zero
  filter := 0
  exempt := []
  remotes := 0
  nmOut := 0
  launches := 0
  pendTrap := none
  consTrap := none

/-- R404: the Reset columns of the debug registers. -/
def Debug.zero : Debug :=
  ⟨false, false, false, false, false, 0, 0, 0, 0, false, 0, false, 0, none⟩

/-- A core after module reset: no task, pool and instruction buffer with nothing listed (log 1, DESIGN CHOICE) (log 2, DESIGN CHOICE). R21: the service core of a die,
which has no CID, stands after its cores as tile 100, and runs in system mode (log 73, DESIGN CHOICE). -/
def Core.zero (cid : Nat) : Core :=
  ⟨cid, { Ctx.zero with sys := decide (cid % 128 = 100) }, none, [], [], [], [], [], .zero, [], 0, 0, 0, 0, 0, false, none, false, [], [], [], [], [],
    false⟩

/-- R399: in service. -/
def Cluster.zero : Cluster := ⟨false, 0, false, false, false, false, false, false⟩

/-- R285: a free segment. -/
def Segment.zero : Segment :=
  ⟨false, 0, 0, 0, 0, Vector.replicate 2 0, Vector.replicate 2 0, [], none, 0, [], [], [], [], 0, Vector.replicate 2 (0, 0), []⟩

/-- R295, R306: DARK, no owner, no route; the record's Reset column. -/
def Handle.zero : Handle :=
  ⟨.dark, none, none, 0xF, false, none, 0x00FFC700, [], none, [], [], [], false, 0, false⟩

/-- R301: an empty slice. -/
def Seq.zero : Seq := ⟨[], 0, false, false, 0, 0, 0, 0, 0, none⟩

/-- A die after module reset; FMHZ 1,200 and MARGIN's FMAX 2,000, VGUARD 0 and HOURS 0 are the model's choices for firmware values
(log 3, DESIGN CHOICE). -/
def Die.zero (num : Nat) : Die where
  num := num
  fmhz := 1200
  skip := 0
  level := 0
  levelWas := 0
  levelAt := 0
  acked := false
  ackAt := 0
  strcnt := 0
  demands := 0
  skips := 0
  episode := none
  forced := none
  stretch := 0
  droop := false
  fabricShare := false
  changedAt := none
  clusters := Vector.replicate 4 .zero
  margin := BitVec.ofNat 64 (2000 * 2 ^ 52)
  segs := Vector.replicate 64 .zero
  handles := Vector.replicate 32 .zero
  seqs := []
  xcache := []
  walks := []
  missQueue := []
  xrecords := []
  invDone := false
  invWaits := []
  trace := []
  traced := 0
  seqNo := 1

/-- A site after module reset. -/
def Site.zero (num : Nat) : Site := ⟨num, [], [], 0, [], [], [], [], [], []⟩

/-- R319: a link end with nothing sent; lanes and credits are the model's choice (log 3, DESIGN CHOICE). -/
def LinkEnd.zero (num : Nat) : LinkEnd := ⟨num, 0, 0, 0, [], 0, 64, 64, false, 0, false, [], [], 0, none, []⟩

/-- The Reset columns of R417 to R433. -/
def Service.zero : Service where
  ready := false
  bisque := true
  calfail := false
  halt := false
  stage := 0
  denied := 0
  mchk := 0
  fwsvn := 0
  minSvn := 0
  semaHeld := false
  semaPort := 0
  semaOwner := 0
  semaExpiry := 0
  subbase := Vector.replicate 2 0
  subhead := Vector.replicate 2 0
  smsel := 0
  compmap := 0
  tries := 0
  bootCause := 0
  attLog := 0x100000
  calibrating := false
  meas := 0
  logCount := 0
  dbgsel := 0
  mlog := []
  entries := []
  lastRead := []
  lastError := false
  loadFault := none

/-- R314: a module alone is a set of one, numbered 0; R316's fused time-outs. -/
def SetState.zero : SetState where
  modnum := 0
  epoch := 0
  members := 1
  dead := 0
  halted := 0
  modlim := 40000
  setlim := 160000
  busy := false
  done := false
  cause := 0
  reqNum := 0
  reqMembers := 0
  reqAt := 0
  offset := 0
  claims := []
  heard := []
  reports := []

/-- The machine right after module reset (R8, R426): every register at the value its Reset column gives, TICK 0,
boot stage 0 with its work still to do (R426), no task anywhere, memory with nothing listed. -/
def State.reset : State where
  core := .zero 0
  others := []
  phase := .issue
  judged := []
  unit := .ld
  events := [.moduleReset]
  timers := []
  seqDie := 0
  seqLid := 0
  nextId := 0
  tick := 0
  dies := []
  sites := []
  links := []
  mem := []
  reqs := []
  units := []
  regions := []
  images := []
  launches := []
  saves := []
  graphs := []
  svc := .zero
  conn := .zero
  fuses := ⟨[], [], [], [], [], []⟩
  roots := []

end Sys2Proof.Machine
end

