-- ==== Sys2Proof/Machine/Ops.lean ====
section
/-! DEFINITION. The named operations over the machine's state that the meanings share: sparse memory, registers, the pool and
its ranges, effects in flight, next-word selection, taking a trap and returning from one, cores, dies, sites. -/

/-- Each element of a vector changed. -/
def Vector.each (v : Vector α n) (f : α → β) : Vector β n := ⟨⟨v.toArray.toList.map f⟩, by simp⟩

/-- Each element of a vector changed, by its number. -/
def Vector.eachIdx (v : Vector α n) (f : Nat → α → β) : Vector β n :=
  ⟨⟨v.toArray.toList.zipIdx.map fun x => f x.2 x.1⟩, by simp⟩

namespace Sys2Proof.Machine

/-- What a meaning answers. -/
abbrev Out := Host.Outcome State Fault Refusal

/-! Sparse data -/

/-- What a key reads as. -/
def Cells.read (d : α) : Cells α → Nat → α
  | [], _ => d
  | (k, v) :: r, a => if k = a then v else if a < k then d else Cells.read d r a

/-- A key written, in canonical form: keys strictly rising and no entry equal to the default. -/
def Cells.write [DecidableEq α] (d : α) : Cells α → Nat → α → Cells α
  | [], a, x => if x = d then [] else [(a, x)]
  | (k, v) :: r, a, x =>
    if a < k then (if x = d then (k, v) :: r else (a, x) :: (k, v) :: r)
    else if a = k then (if x = d then r else (a, x) :: r)
    else (k, v) :: Cells.write d r a x

/-- The canonical form: every key above `lo`, strictly rising, no entry equal to the default. -/
def Cells.wfFrom [DecidableEq α] (d : α) : Nat → Cells α → Bool
  | _, [] => true
  | lo, (k, v) :: r => decide (lo ≤ k) && decide (v ≠ d) && Cells.wfFrom d (k + 1) r

/-- The canonical form of sparse data. -/
def Cells.wf [DecidableEq α] (d : α) (m : Cells α) : Bool := Cells.wfFrom d 0 m

/-- Several keys written in turn. -/
def Cells.writes [DecidableEq α] (d : α) (m : Cells α) (ws : List (Nat × α)) : Cells α :=
  ws.foldl (fun m w => m.write d w.1 w.2) m

/-- What a byte of a pool or of device memory that nothing has written reads as (log 2, DESIGN CHOICE). -/
def emptyByte : Byte := 0

/-- R90: the word beyond a schedule's last. -/
def emptyWord : BitVec 32 := 0xF0000000

/-- An instruction buffer word. -/
def ibufWord (c : Core) (i : Nat) : Nat := (c.ibuf.read emptyWord i).toNat

/-! Vectors by number -/

/-- Element `i`, or `d` beyond the end. -/
def vat (v : Vector α n) (d : α) (i : Nat) : α := v.toArray.getD i d

/-- Element `i` replaced; nothing beyond the end. -/
def vput (v : Vector α n) (i : Nat) (x : α) : Vector α n := v.setIfInBounds i x

/-- Element `i` changed by `f`. -/
def vmod (v : Vector α n) (d : α) (i : Nat) (f : α → α) : Vector α n := vput v i (f (vat v d i))

/-- The queue number of an engine. -/
def Unit7.num : Unit7 → Nat
  | .ld => 0 | .st => 1 | .mx => 2 | .cp0 => 3 | .cp1 => 4 | .nm => 5 | .vx => 6

/-- R51: an engine by its code (7 is none). -/
def Unit7.ofCode (c : BitVec 3) : Unit7 :=
  match c.toNat with
  | 0 => .ld | 1 => .st | 2 => .mx | 3 => .cp0 | 4 => .cp1 | 5 => .nm | _ => .vx

/-- R160: owner codes of units. -/
def Unit7.owner : Unit7 → BitVec 3
  | .ld => 1 | .st => 2 | .mx => 3 | .vx => 4 | .cp0 => 5 | .cp1 => 6 | .nm => 7

/-! The focus core -/

/-- The focus core's context changed. -/
def State.ctx (s : State) (f : Ctx → Ctx) : State := { s with core := { s.core with ctx := f s.core.ctx } }

/-- The sequencer's state changed. -/
def State.sq (s : State) (f : Sq → Sq) : State := s.ctx fun c => { c with sq := f c.sq }

/-- R96: a scalar register; s0 reads zero. -/
def Regs.get (r : Regs) (i : BitVec 5) : Word := if i = 0 then 0 else vat r.s 0 i.toNat

/-- R96: a scalar register written; s0 discards. -/
def Regs.put (r : Regs) (i : BitVec 5) (v : Word) : Regs := if i = 0 then r else { r with s := vput r.s i.toNat v }

/-- R96: a predicate; p0 reads true. -/
def Regs.getP (r : Regs) (i : BitVec 3) : Bool := if i = 0 then true else vat r.p false i.toNat

/-- R96: a predicate written; p0 discards. -/
def Regs.putP (r : Regs) (i : BitVec 3) (v : Bool) : Regs := if i = 0 then r else { r with p := vput r.p i.toNat v }

/-- A scalar register of the focus core as it reads in this cycle. -/
def State.reg (s : State) (i : BitVec 5) : Word := s.core.ctx.regs.get i

/-- R44: the guard's predicate, inverted by the negate bit. -/
def State.guard (s : State) (g : BitVec 4) : Bool :=
  s.core.ctx.regs.getP (g.extractLsb' 1 3) != g.getLsbD 0

/-- An effect put in flight, after those already in it (R94: the last issued performs last). -/
def State.push (s : State) (rem : Nat) (e : Eff) : State := s.ctx fun c => { c with pend := c.pend ++ [⟨rem, none, e⟩] }

/-- An effect of an entry put in flight. -/
def Ctx.pushFor (c : Ctx) (uid rem : Nat) (e : Eff) : Ctx := { c with pend := c.pend ++ [⟨rem, some uid, e⟩] }

/-- An event for the next cycle boundary (log 28, DESIGN CHOICE). -/
def State.post (s : State) (i : Instr) : State := { s with events := s.events ++ [i] }

/-- An event due at a tick (log 28, DESIGN CHOICE). -/
def State.at (s : State) (t : Nat) (i : Instr) : State := { s with timers := s.timers ++ [(t, i)] }

/-- A fresh identifier. -/
def State.fresh (s : State) : State := { s with nextId := s.nextId + 1 }

/-! PART and the pool (05 R128 to R135) -/

/-- A field of a 64-bit register. -/
def wbits (w : Word) (lo n : Nat) : Nat := w.toNat / 2 ^ lo % 2 ^ n

/-- R130: SLICE. -/
def partSlice (p : Word) : Bool := wbits p 63 1 == 1
/-- R130: BARS. -/
def partBars (p : Word) : Nat := wbits p 16 4
/-- R128: SBASE. -/
def sBase (p : Word) : Nat := 0x60000 - 0x4000 * wbits p 12 4
/-- R128: VBASE. -/
def vBase (p : Word) : Nat := sBase p - 256 * wbits p 0 6
/-- R128: SPTOP. -/
def spTop (p : Word) : Nat := vBase p - 0x2000 * wbits p 6 6

/-- R132: the kinds of access. -/
inductive Access where
  | scalarRead | scalarWrite | engineRead | engineWrite | remote
deriving DecidableEq, Repr

/-- R132, R135: the ranges one byte's address may lie in, by kind. -/
def admits (p : Word) (k : Access) (a : Nat) : Bool :=
  if partSlice p && decide (256 * wbits p 32 11 ≤ a) && decide (a < 256 * wbits p 48 11) then false
  else if a < 0x200 then true
  else if a < 0x300 then k != .remote
  else if a < 0x400 then k == .scalarRead || k == .engineRead
  else if a < spTop p then true
  else if a < sBase p then k == .scalarRead || k == .scalarWrite
  else false

/-- Every byte of an access lies in an admitted range. -/
def admitsAll (p : Word) (k : Access) (a n : Nat) : Bool := (List.range n).all fun i => admits p k (a + i)

/-- R135: the physical location of a pool address. -/
def phys (p : Word) (a : Nat) : Nat :=
  if partSlice p && decide (a < 256 * wbits p 32 11) then
    256 * wbits p 48 11 - 256 * wbits p 32 11 + a
  else a

/-- One byte of a core's pool, by the address its running task uses. -/
def Core.poolByte (c : Core) (a : Nat) : Byte := c.pool.read emptyByte (phys c.ctx.misc.part a)

/-- `n` bytes of the pool from `a`. -/
def Core.poolBytes (c : Core) (a n : Nat) : List Byte := (List.range n).map fun i => c.poolByte (a + i)

/-- R11: pool(a, n). -/
def Core.poolRead (c : Core) (a n : Nat) : Nat := ofBytes (c.poolBytes a n)

/-- The bytes of a quantity, placed from pool address `a`, by physical location. -/
def placed (p : Word) (a : Nat) (bs : List Byte) : List (Nat × Byte) :=
  bs.zipIdx.map fun x => (phys p (a + x.2), x.1)

/-- R133: the bank a physical location lies in. -/
def bankOf (a : Nat) : Nat := a / 16 % 96

/-! Cores, dies, sites by number -/

/-- R20: the number names a core. -/
def cidOk (cid : Nat) : Bool := decide (cid % 128 < 100) && decide (cid / 128 < 400)

/-- R20: grid position of a core. -/
def gridX (cid : Nat) : Nat := 10 * (cid / 128 % 20) + cid % 128 % 10
/-- R20: grid position of a core. -/
def gridY (cid : Nat) : Nat := 10 * (cid / 128 / 20) + cid % 128 / 10
/-- R20: the core at a grid position. -/
def cidAt (x y : Nat) : Nat := (20 * (y / 10) + x / 10) * 128 + 10 * (y % 10) + x % 10
/-- R20: a core's cluster. -/
def clusterOf (cid : Nat) : Nat := cid % 128 % 10 / 5 + 2 * (cid % 128 / 10 / 5)
/-- R423: a core's number in the retirement map. -/
def coreBit (cid : Nat) : Nat := cid / 128 * 100 + cid % 128

/-- A core by number: the focus, one that has left its reset state, or a core as reset leaves it. -/
def State.coreOf (s : State) (cid : Nat) : Core :=
  if s.core.cid = cid then s.core else (s.others.find? (·.cid = cid)).getD (.zero cid)

/-- A core put back, others in rising number. -/
def putCore : List Core → Core → List Core
  | [], c => [c]
  | x :: r, c => if x.cid = c.cid then c :: r else if c.cid < x.cid then c :: x :: r else x :: putCore r c

/-- A core changed. -/
def State.onCore (s : State) (cid : Nat) (f : Core → Core) : State :=
  if s.core.cid = cid then { s with core := f s.core }
  else { s with others := putCore s.others (f (s.coreOf cid)) }

/-- Another core becomes the focus. -/
def State.focus (s : State) (cid : Nat) : State :=
  if s.core.cid = cid then s
  else { s with core := s.coreOf cid, others := putCore (s.others.filter (·.cid ≠ cid)) s.core }

/-- A die by number. -/
def State.die (s : State) (d : Nat) : Die := (s.dies.find? (·.num = d)).getD (.zero d)

/-- A die put back, in rising number. -/
def putDie : List Die → Die → List Die
  | [], c => [c]
  | x :: r, c => if x.num = c.num then c :: r else if c.num < x.num then c :: x :: r else x :: putDie r c

/-- A die changed. -/
def State.onDie (s : State) (d : Nat) (f : Die → Die) : State := { s with dies := putDie s.dies (f (s.die d)) }

/-- A site by number. -/
def State.site (s : State) (n : Nat) : Site := (s.sites.find? (·.num = n)).getD (.zero n)

/-- A site put back, in rising number. -/
def putSite : List Site → Site → List Site
  | [], c => [c]
  | x :: r, c => if x.num = c.num then c :: r else if c.num < x.num then c :: x :: r else x :: putSite r c

/-- A site changed. -/
def State.onSite (s : State) (n : Nat) (f : Site → Site) : State := { s with sites := putSite s.sites (f (s.site n)) }

/-- A link end by number. -/
def State.link (s : State) (n : Nat) : LinkEnd := (s.links.find? (·.num = n)).getD (.zero n)

/-- A link end put back, in rising number. -/
def putLink : List LinkEnd → LinkEnd → List LinkEnd
  | [], c => [c]
  | x :: r, c => if x.num = c.num then c :: r else if c.num < x.num then c :: x :: r else x :: putLink r c

/-- A link end changed. -/
def State.onLink (s : State) (n : Nat) (f : LinkEnd → LinkEnd) : State := { s with links := putLink s.links (f (s.link n)) }

/-- The focus core's die. -/
def State.myDie (s : State) : Die := s.die (s.core.cid / 128)

/-- A launch by id. -/
def State.launchOf (s : State) (lid : Nat) : Option Launch := s.launches.find? (·.lid = lid)

/-- A launch changed. -/
def State.onLaunch (s : State) (lid : Nat) (f : Launch → Launch) : State :=
  { s with launches := s.launches.map fun l => if l.lid = lid then f l else l }

/-- A request by id. -/
def State.req (s : State) (id : Nat) : Option Req := s.reqs.find? (·.id = id)

/-- A request changed. -/
def State.onReq (s : State) (id : Nat) (f : Req → Req) : State :=
  { s with reqs := s.reqs.map fun r => if r.id = id then f r else r }

/-- A request that is over. -/
def State.dropReq (s : State) (id : Nat) : State := { s with reqs := s.reqs.filter (·.id ≠ id) }

/-- R237: SITECAP of a site. -/
def State.siteCap (s : State) (n : Nat) : Nat := s.fuses.sitecap.read 0xB2D050000 n

/-- R247: site and offset make an address of a module's memory. -/
def devKey (module pa : Nat) : Nat := module * 2 ^ 45 + pa

/-- One byte of device memory. -/
def State.devByte (s : State) (module pa : Nat) : Byte := s.mem.read emptyByte (devKey module pa)

/-- `n` bytes of this module's memory as a number. -/
def State.devRead (s : State) (module pa n : Nat) : Nat :=
  ofBytes ((List.range n).map fun i => s.devByte module (pa + i))

/-- Bytes of device memory written. -/
def State.devWrite (s : State) (module : Nat) (ws : List (Nat × Byte)) : State :=
  { s with mem := s.mem.writes emptyByte (ws.map fun w => (devKey module w.1, w.2)) }

/-! Causes (17 R373) -/

/-- R373: the cause codes. -/
def causeIllegal : BitVec 8 := 0x01
/-- PRIVILEGE. -/
def causePrivilege : BitVec 8 := 0x02
/-- MISALIGN. -/
def causeMisalign : BitVec 8 := 0x03
/-- POOL_BOUND. -/
def causePoolBound : BitVec 8 := 0x04
/-- TIMING. -/
def causeTiming : BitVec 8 := 0x05
/-- TOKEN_FULL. -/
def causeTokenFull : BitVec 8 := 0x06
/-- TEMPLATE_UNDEF. -/
def causeTemplateUndef : BitVec 8 := 0x07
/-- FIELD_RANGE. -/
def causeFieldRange : BitVec 8 := 0x08
/-- RING_OWNER. -/
def causeRingOwner : BitVec 8 := 0x09
/-- ACC_SHAPE. -/
def causeAccShape : BitVec 8 := 0x0A
/-- XLATE_ABSENT. -/
def causeXlateAbsent : BitVec 8 := 0x10
/-- XLATE_PROT. -/
def causeXlateProt : BitVec 8 := 0x11
/-- MEM_UNCORRECTABLE. -/
def causeMem : BitVec 8 := 0x12
/-- NMU_REJECT. -/
def causeNmuReject : BitVec 8 := 0x13
/-- REMOTE_GATED. -/
def causeRemoteGated : BitVec 8 := 0x14
/-- CIRCUIT_DARK. -/
def causeCircuitDark : BitVec 8 := 0x18
/-- CIRCUIT_LOST. -/
def causeCircuitLost : BitVec 8 := 0x19
/-- FABRIC_TIMEOUT. -/
def causeFabricTimeout : BitVec 8 := 0x1A
/-- PEER_DEAD. -/
def causePeerDead : BitVec 8 := 0x1B
/-- FABRIC_ERROR. -/
def causeFabricError : BitVec 8 := 0x1C
/-- COMMIT_OVERFLOW. -/
def causeCommitOverflow : BitVec 8 := 0x20
/-- COMMIT_ABORTED. -/
def causeCommitAborted : BitVec 8 := 0x21
/-- CONSERVATION. -/
def causeConservation : BitVec 8 := 0x24
/-- WATCH. -/
def causeWatch : BitVec 8 := 0x28
/-- BREAK. -/
def causeBreak : BitVec 8 := 0x29
/-- STEP. -/
def causeStep : BitVec 8 := 0x2A
/-- LAUNCH_REFUSED. -/
def causeLaunchRefused : BitVec 8 := 0x30
/-- MACHINE_CHECK. -/
def causeMachineCheck : BitVec 8 := 0x3F

/-! Homes (10 R237 to R240) -/

/-- R238: the channel of a site offset. -/
def channelOf (o : Nat) : Nat := o / 256 % 32 ^^^ o / 8192 % 32
/-- R238: the set of a site offset. -/
def setOf (o : Nat) : Nat := o / 16384 % 64

/-- R238: a sector's line brought to the front of its set, filled or made dirty; the least recently used of 16 leaves. -/
def touchLine (ways : List CacheLine) (line sector : Nat) (write : Bool) : List CacheLine :=
  let old := (ways.find? (·.line == line)).getD ⟨line, 0, 0⟩
  let b : BitVec 2 := 1 <<< sector
  let new : CacheLine := ⟨line, old.valid ||| b, if write then old.dirty ||| b else old.dirty⟩
  (new :: ways.filter (·.line != line)).take 16

/-- R238: an access of a site's cache. -/
def Site.touch (t : Site) (pa : Nat) (write : Bool) : Site :=
  let o := pa % 2 ^ 36
  let key := channelOf o * 64 + setOf o
  { t with cache := t.cache.write [] key (touchLine (t.cache.read [] key) (o / 256) (o / 128 % 2) write) }

/-- R237: the address holds memory. -/
def State.inMemory (s : State) (pa : Nat) : Bool := decide (pa / 2 ^ 36 ≤ 399) && decide (pa % 2 ^ 36 < s.siteCap (pa / 2 ^ 36))

/-- R240: the sector of an address is poisoned. -/
def State.poisoned (s : State) (pa : Nat) : Bool := (s.site (pa / 2 ^ 36)).poison.contains (pa / 128)

/-- R240: some sector of a range is poisoned. -/
def State.poisonedIn (s : State) (pa n : Nat) : Bool :=
  (List.range ((pa + n - 1) / 128 - pa / 128 + 1)).any fun i => s.poisoned (pa + 128 * i)

/-- R238: the sector of an address is present in its channel's cache. -/
def Site.cached (t : Site) (pa : Nat) : Bool :=
  let o := pa % 2 ^ 36
  (t.cache.read [] (channelOf o * 64 + setOf o)).any fun l => l.line == o / 256 && l.valid.getLsbD (o / 128 % 2)

/-- R238, R240, R455: a partial write first fills its absent sector, and the fill meets an uncorrectable error (log 24, DEDUCED). -/
def State.fillFails (s : State) (pa n : Nat) : Bool := decide (n < 128) && s.poisoned pa && !(s.site (pa / 2 ^ 36)).cached pa

/-- R274: lock words that read 0 leave their site's table. -/
def State.pruneLocks (s : State) (site : Nat) : State :=
  if (s.site site).locks.all fun a => s.devRead s.conn.modnum a 8 != 0 then s
  else s.onSite site fun t => { t with locks := t.locks.filter fun a => s.devRead s.conn.modnum a 8 != 0 }

/-- R237, R238, R240, R274: bytes written at one sector of this module; a whole sector clears its poison (log 24, DEDUCED). Where no
memory is, nothing is written. -/
def State.sectorWrite (s : State) (ws : List (Nat × Byte)) : State :=
  match ws with
  | [] => s
  | (pa, _) :: _ =>
    if !s.inMemory pa then s else
    let whole := decide (128 ≤ ws.length)
    let s := s.devWrite s.conn.modnum ws
    let s := s.onSite (pa / 2 ^ 36) fun t =>
      { t.touch pa true with poison := if whole then t.poison.filter (· ≠ pa / 128) else t.poison }
    s.pruneLocks (pa / 2 ^ 36)

/-- R237, R239, R240: bytes read at one sector of this module; none where no memory is, or where the sector is poisoned. -/
def State.sectorRead (s : State) (pas : List Nat) : State × Option (List Byte) :=
  match pas with
  | [] => (s, some [])
  | pa :: _ =>
    if !s.inMemory pa then (s, none) else
    let s := s.onSite (pa / 2 ^ 36) (·.touch pa false)
    if s.poisoned pa then (s, none) else (s, some (pas.map fun a => s.devByte s.conn.modnum a))

/-- R239: a number of `n` bytes that lie in one sector of this module, read at its home. -/
def State.homeNat (s : State) (pa n : Nat) : State × Option Nat :=
  match s.sectorRead ((List.range n).map fun i => pa + i) with
  | (s, bs) => (s, bs.map ofBytes)

/-! Translation (10 R243 to R248) -/

/-- R248: the permission bits an access needs, R W A as 1 2 4. -/
def permR : Nat := 1
/-- W. -/
def permW : Nat := 2
/-- W and A. -/
def permWA : Nat := 6
/-- R, W and A. -/
def permRWA : Nat := 7

/-- R246, R248: a translation permits an access, of a task or in system mode. -/
def TlbEntry.permits (e : TlbEntry) (sys : Bool) (kind : Nat) : Bool :=
  (sys || !e.perms.getLsbD 3) && (e.perms.toNat % 8 &&& kind) == kind

/-- R244: level number, index bits (lowest, count), leaf page size. -/
def walkLevels : List (Nat × Nat × Nat × Nat) :=
  [(0, 43, 14, 2 ^ 43), (1, 30, 13, 2 ^ 30), (2, 21, 9, 2 ^ 21), (3, 16, 5, 2 ^ 16)]

/-- R244: bytes of the table below a level. -/
def tableBytes (below : Nat) : Nat := if below = 1 then 2 ^ 16 else if below = 2 then 2 ^ 12 else 256

/-- R247: sites a page spans. -/
def placeSites (place : Nat) : Nat := 2 ^ place

/-- R247: the conditions on a leaf. -/
def State.placeOk (s : State) (place page x : Nat) : Bool :=
  let b := x / 2 ^ 36
  let o := x % 2 ^ 36
  let n := placeSites place
  decide (b % n = 0 ∧ b + n - 1 ≤ 399 ∧ o % (page / n) = 0)
    && (List.range n).all fun i => decide (o + page / n ≤ s.siteCap (b + i))

/-- R251: how a translation fails: the cause, the level reached and the entry read there. -/
structure XFault where
  cause : BitVec 8
  level : Nat
  entry : Nat
deriving DecidableEq, Repr

/-- R245: what an entry read at a level names: the next table, or a leaf, or a fault. -/
inductive TableEntry where
  | table (pa : Nat) | leaf (e : TlbEntry) | bad
deriving DecidableEq, Repr

/-- R245 to R247: an entry of a table at a level. -/
def State.tableEntry (s : State) (asid va lvl page e : Nat) : TableEntry :=
  let f := fun (l w : Nat) => e / 2 ^ l % 2 ^ w
  let x := f 8 37 * 256
  if f 63 1 = 0 ∨ f 57 1 ≠ 0 ∨ f 45 4 ≠ 0 ∨ f 0 8 ≠ 0 then .bad
  else if f 62 1 = 0 then
    if lvl = 3 ∨ f 49 8 ≠ 0 ∨ f 58 4 ≠ 0 ∨ x % tableBytes (lvl + 1) ≠ 0 then .bad else .table x
  else if lvl = 0 ∨ 5 ≤ f 54 3 then .bad
  else if !s.placeOk (f 54 3) page x then .bad
  else .leaf ⟨asid, va / page * page, page, f 49 5, x, f 54 3,
    BitVec.ofNat 4 (f 61 1 + 2 * f 60 1 + 4 * f 59 1 + 8 * f 58 1), lvl, e⟩

/-- R246: the walk from a table, over the levels left: each entry is read at its home as any 8 bytes are. A table entry where no
memory is translates nothing (log 56, DESIGN CHOICE). -/
def State.walkFrom (asid va kind : Nat) (sys : Bool) : List (Nat × Nat × Nat × Nat) → State → Nat → State × Except XFault TlbEntry
  | [], s, _ => (s, .error ⟨causeXlateAbsent, 3, 0⟩)
  | (lvl, lo, n, page) :: r, s, t =>
    let pa := t + 8 * (va / 2 ^ lo % 2 ^ n)
    if !s.inMemory pa then (s, .error ⟨causeXlateAbsent, lvl, 0⟩)
    else match s.homeNat pa 8 with
      | (s, none) => (s, .error ⟨causeMem, lvl, 0⟩)
      | (s, some e) =>
        match s.tableEntry asid va lvl page e with
        | .bad => (s, .error ⟨causeXlateAbsent, lvl, e⟩)
        | .table x => State.walkFrom asid va kind sys r s x
        | .leaf t => (s, if t.permits sys kind then .ok t else .error ⟨causeXlateProt, lvl, e⟩)

/-- R243, R255: the root of an address space: what firmware has registered; open for a space it has not (log 17, DESIGN CHOICE). -/
def State.tableRoot (s : State) (asid : Nat) : Nat := s.roots.read (Config.tableRoot asid) asid

/-- R246: a walk, with what its reads leave at the homes. -/
def State.walk (s : State) (root asid va kind : Nat) (sys : Bool) : State × Except XFault TlbEntry :=
  if 2 ^ 57 ≤ va then (s, .error ⟨causeXlateAbsent, 0, 0⟩) else State.walkFrom asid va kind sys walkLevels s root

/-- R247: where a byte of a page lies. -/
def TlbEntry.locate (e : TlbEntry) (va : Nat) : Nat :=
  let o := va - e.va
  let b := e.pa / 2 ^ 36
  let x := e.pa % 2 ^ 36
  let n := placeSites e.place
  if e.place = 0 then e.pa + o
  else (b + o / 4096 % n) * 2 ^ 36 + x + o / (4096 * n) * 4096 + o % 4096

/-- The entry covers an address of an address space. -/
def TlbEntry.covers (e : TlbEntry) (asid va : Nat) : Bool := e.asid == asid && decide (e.va ≤ va) && decide (va < e.va + e.size)

/-! Firmware's accesses by device address -/

/-- The bytes of a range in pieces that lie in one sector each: offset and length. -/
def sectorPieces (va n : Nat) : List (Nat × Nat) :=
  if n = 0 then []
  else (List.range ((va + n - 1) / 128 - va / 128 + 1)).map fun i =>
    let lo := max va ((va / 128 + i) * 128)
    (lo - va, min (va + n) ((va / 128 + i + 1) * 128) - lo)

/-- Firmware's access through the tables of an address space, in system mode: the bytes read, none when one does not translate or
cannot be corrected, and what the reads leave at the homes. Another module's bytes are free (log 11, DESIGN CHOICE)
(log 17, DESIGN CHOICE) (log 18, DEDUCED). -/
def State.vaAccess (s : State) (asid va n : Nat) : State × Option (List Byte) :=
  (sectorPieces va n).foldl (fun acc p =>
    match acc with
    | (s, none) => (s, none)
    | (s, some bs) =>
      match s.walk (s.tableRoot asid) asid (va + p.1) permR true with
      | (s, .error _) => (s, none)
      | (s, .ok e) =>
        if e.module ≠ s.conn.modnum then (s, some (bs ++ (List.range p.2).map fun i => Config.peerByte s.nextId (p.1 + i)))
        else match s.sectorRead ((List.range p.2).map fun i => e.locate (va + p.1 + i)) with
          | (s, some x) => (s, some (bs ++ x))
          | (s, none) => (s, none)) (s, some [])

/-- The bytes so read (log 18, DEDUCED) (log 17, DESIGN CHOICE). -/
def State.vaRead (s : State) (asid va n : Nat) : Option (List Byte) := (s.vaAccess asid va n).2

/-- The state the read leaves (log 18, DEDUCED). -/
def State.vaTouched (s : State) (asid va n : Nat) : State := (s.vaAccess asid va n).1

/-- A number read so (log 18, DEDUCED). -/
def State.vaNat (s : State) (asid va n : Nat) : Option Nat := (s.vaRead asid va n).map ofBytes

/-- Bytes written so; those that do not translate are not written (log 18, DEDUCED). -/
def State.vaWrite (s : State) (asid va : Nat) (bs : List Byte) : State :=
  (sectorPieces va bs.length).foldl (fun s p =>
    match s.walk (s.tableRoot asid) asid (va + p.1) permW true with
    | (s, .ok e) =>
      if e.module ≠ s.conn.modnum then s
      else s.sectorWrite (((bs.drop p.1).take p.2).zipIdx.map fun x => (e.locate (va + p.1 + x.2), x.1))
    | (s, .error _) => s) s

/-- Where an address of this module lies; 0 when it does not translate (log 18, DEDUCED). -/
def State.vaPlace (s : State) (asid va : Nat) : Nat :=
  match (s.walk (s.tableRoot asid) asid va permR true).2 with
  | .ok e => e.locate va
  | .error _ => 0

/-! Cores in service -/

/-- R423: the core is retired. -/
def State.retired (s : State) (cid : Nat) : Bool := s.fuses.cores.contains (coreBit cid)

/-- R400: the core's cluster refuses new inbound work, from the tick after CLOSING was set. -/
def State.clusterShut (s : State) (cid : Nat) : Bool :=
  let k := vat (s.die (cid / 128)).clusters .zero (clusterOf cid)
  (k.closing && decide (k.closedAt < s.tick)) || k.gating || k.retained || k.clkoff || k.railoff

/-- The context of a launch on a core, running or resident. -/
def Core.ctxOf (c : Core) (lid : Nat) : Option Ctx :=
  if c.ctx.held && c.ctx.lid == lid then some c.ctx
  else match c.bank with
    | some b => if b.held && b.lid == lid then some b else none
    | none => none

/-- R143, R267: the context of a launch on a core changed, running or resident. -/
def Core.onCtx (c : Core) (lid : Nat) (f : Ctx → Ctx) : Core :=
  if c.ctx.held && c.ctx.lid == lid then { c with ctx := f c.ctx }
  else match c.bank with
    | some b => if b.held && b.lid == lid then { c with bank := some (f b) } else c
    | none => c

/-- R287, R363: the context of a launch's task changed where it is: on its core, or in its save block. -/
def State.onTaskCtx (s : State) (cid lid : Nat) (f : Ctx → Ctx) : State :=
  if ((s.coreOf cid).ctxOf lid).isSome then s.onCore cid fun k => k.onCtx lid f
  else { s with saves := s.saves.map fun x => if x.cid = cid ∧ x.ctx.lid = lid then { x with ctx := f x.ctx } else x }

/-- The task of the launch takes its cycles on the core. -/
def Core.runs (c : Core) (lid : Nat) : Bool := c.ctx.live && c.ctx.lid == lid && !c.dbg.stopped && c.swap == 0

/-! The mesh (01 R15 to R18, R21 to R23) -/

/-- R15, R19: the panel position, row·40 + col, of a die. -/
def diePos (die : Nat) : Nat := die / 20 * 40 + 2 * (die % 20) + die / 20 % 2

/-- R15, R16: the panel position of a memory site. -/
def msitePos (m : Nat) : Nat := m / 20 * 40 + 2 * (m % 20) + (m / 20 + 1) % 2

/-- R17, R422: the adjacent positions of a position, each with the link that joins them. -/
def meshNext (n : Nat) : List (Nat × Nat) :=
  let r := n / 40
  let c := n % 40
  (if c < 39 then [(n + 1, r * 39 + c)] else []) ++ (if 0 < c then [(n - 1, r * 39 + c - 1)] else [])
    ++ (if r < 19 then [(n + 40, 780 + r * 40 + c)] else []) ++ (if 0 < r then [(n - 40, 780 + (r - 1) * 40 + c)] else [])

/-- R17: how many links the mesh has. -/
def meshLinks : Nat := 20 * 39 + 19 * 40

/-- The link end of an off-module port (log 59, DESIGN CHOICE). -/
def portEnd (p : Nat) : Nat := 2 * meshLinks + p

/-- R18: the memory site that carries an off-module port: two ports each in rows 0 and 19, columns 4 to 35 (log 59, DESIGN CHOICE). -/
def portMsite (p : Nat) : Nat := if p < 32 then 2 + p / 2 else 382 + (p - 32) / 2

/-- R17, R18: the panel position of a link end (log 59, DESIGN CHOICE). -/
def endPos (e : Nat) : Nat :=
  let l := e / 2
  if 2 * meshLinks ≤ e then msitePos (portMsite (e - 2 * meshLinks))
  else if l < 780 then l / 39 * 40 + l % 39 + e % 2
  else (l - 780) / 40 * 40 + (l - 780) % 40 + 40 * (e % 2)

/-- R23: the mesh links that no route uses. -/
def State.cutLinks (s : State) : List Nat := s.fuses.links.filter (· < meshLinks)

/-- Positions that routes reach from some, with their neighbours taken `fuel` times. -/
def meshReach (cut : List Nat) : (fuel : Nat) → (edge seen : List Nat) → List Nat
  | 0, _, seen => seen
  | fuel + 1, edge, seen =>
    let next := ((edge.flatMap fun n => (meshNext n).filterMap fun x => if cut.contains x.2 then none else some x.1).dedup).filter
      fun n => !seen.contains n
    if next = [] then seen else meshReach cut fuel next (seen ++ next)

/-- R23: a route joins two positions. -/
def State.joined (s : State) (a b : Nat) : Bool :=
  a == b || s.cutLinks == [] || (meshReach s.cutLinks 800 [a] [a]).contains b

/-! Flits (10 R241, R242) -/

/-- One byte into a cyclic redundancy check of `w` bits, most significant bit first. -/
def crcByte (w poly crc : Nat) (b : Byte) : Nat :=
  (List.range 8).foldl (fun c _ => if c / 2 ^ (w - 1) % 2 = 1 then (c * 2 % 2 ^ w) ^^^ poly else c * 2 % 2 ^ w)
    (crc ^^^ b.toNat * 2 ^ (w - 8))

/-- R241: CRC-16 (log 21, DEDUCED). -/
def crc16 (bs : List Byte) : Nat := bs.foldl (crcByte 16 0x1021) 0xFFFF

/-- R241: CRC-64 (log 21, DEDUCED). -/
def crc64 (bs : List Byte) : Nat := bs.foldl (crcByte 64 0x42F0E1EBA9EA3693) (2 ^ 64 - 1)

/-- Byte `i` of a flit. -/
def flitByte (f : BitVec 2048) (i : Nat) : Byte := f.extractLsb' (8 * i) 8

/-- `n` bytes of a flit. -/
def flitBytes (f : BitVec 2048) (a n : Nat) : List Byte := (List.range n).map fun i => flitByte f (a + i)

/-- A field of a flit's header. -/
def flitField (f : BitVec 2048) (lo n : Nat) : Nat := f.toNat / 2 ^ lo % 2 ^ n

/-- R241: a header's check and its zero bits. The HCRC covers the header's other bytes (log 21, DEDUCED). -/
def headOk (h : BitVec 64) : Bool :=
  crc16 ((List.range 6).map fun i => h.extractLsb' (16 + 8 * i) 8) == h.toNat % 2 ^ 16 && h.toNat / 2 ^ 16 % 2 ^ 8 == 0

/-- R241: both checks hold and the format is not reserved. -/
def flitOk (f : BitVec 2048) : Bool :=
  crc64 (flitBytes f 0 248) == f.toNat / 2 ^ 1984 && headOk (f.extractLsb' 0 64) && decide (flitField f 36 4 ≤ 3)

/-- R241, R242: the request slots of a flit, 60 bytes each. -/
def flitSlots (f : BitVec 2048) : List (BitVec 480) :=
  if flitField f 36 4 = 0 then (List.range 4).map fun i => f.extractLsb' (64 + 480 * i) 480
  else if flitField f 36 4 = 1 then [f.extractLsb' (64 + 1280) 480]
  else []

/-- R241, R242: the data slot of a flit: its header of 32 bytes and its sector. -/
def flitData (f : BitVec 2048) : Option (BitVec 256 × List Byte) :=
  if flitField f 36 4 = 1 then some (f.extractLsb' 64 256, flitBytes f 40 128) else none

/-- R242: a slot's header check (log 21, DEDUCED). -/
def slotOk (x : BitVec 480) : Bool :=
  crc16 ((List.range 14).map fun i => x.extractLsb' (8 * i) 8) == x.toNat / 2 ^ 112 % 2 ^ 16

/-- R242: a data header's check, of the 30 bytes before it (log 21, DEDUCED). -/
def dataOk (x : BitVec 256) : Bool :=
  crc16 ((List.range 30).map fun i => x.extractLsb' (8 * i) 8) == x.toNat / 2 ^ 240

/-- R242: the header common to all slots. -/
structure SlotHead where
  op : Nat
  cls : Nat
  len : Nat
  src : Nat
  dst : Nat
  tag : Nat
  module : Nat
  pa : Nat
deriving DecidableEq, Repr

/-- R242: the common header's 14 bytes. -/
def SlotHead.bytes (h : SlotHead) : List Byte :=
  toBytes 14 (h.op % 2 ^ 8 * 2 ^ 104 + h.cls % 4 * 2 ^ 102 + h.len % 16 * 2 ^ 98 + h.src % 2 ^ 16 * 2 ^ 82 + h.dst % 2 ^ 16 * 2 ^ 66
    + h.tag % 2 ^ 16 * 2 ^ 50 + h.module % 32 * 2 ^ 45 + h.pa % 2 ^ 45)

/-- R242: the common header as read. -/
def SlotHead.of (x : Nat) : SlotHead :=
  ⟨x / 2 ^ 104 % 2 ^ 8, x / 2 ^ 102 % 4, x / 2 ^ 98 % 16, x / 2 ^ 82 % 2 ^ 16, x / 2 ^ 66 % 2 ^ 16, x / 2 ^ 50 % 2 ^ 16, x / 2 ^ 45 % 32,
    x % 2 ^ 45⟩

/-- R242: a request slot. -/
def slotOf (h : SlotHead) (operand : List Byte) (aux : BitVec 96) : List Byte :=
  h.bytes ++ toBytes 2 (crc16 h.bytes) ++ (operand ++ List.replicate 32 0).take 32 ++ toBytes 12 aux.toNat

/-- R241, R242: a data slot: header, mask, check, sector. -/
def dataSlotOf (h : SlotHead) (mask : Nat) (sector : List Byte) : List Byte :=
  let head := h.bytes ++ toBytes 16 mask
  head ++ toBytes 2 (crc16 head) ++ (sector ++ List.replicate 128 0).take 128

/-- R241: a flit from its header fields and body. -/
def flitOf (seq ack fmt cred : Nat) (body : List Byte) : BitVec 2048 :=
  let head := toBytes 6 (cred % 2 ^ 12 * 2 ^ 8 + fmt % 16 * 2 ^ 20 + ack % 2 ^ 12 * 2 ^ 24 + seq % 2 ^ 12 * 2 ^ 36)
  let bs := toBytes 2 (crc16 head) ++ head ++ (body ++ List.replicate 240 0).take 240
  BitVec.ofNat 2048 (ofBytes (bs ++ toBytes 8 (crc64 bs)))

/-- R320: a flit with its CRC-64 inverted. -/
def invertCrc (f : BitVec 2048) : BitVec 2048 := f ^^^ (BitVec.ofNat 2048 (2 ^ 64 - 1) <<< 1984)

/-! Link ends (14 R319) -/

/-- R319: a flit put on the link and kept for replay; ACK names the last good flit received, CRED gives back the credits owed. -/
def LinkEnd.put (e : LinkEnd) (fmt : Nat) (body : List Byte) (bad : Bool) : LinkEnd :=
  let f := flitOf e.txSeq.toNat (e.rxSeq - 1).toNat fmt e.owed body
  let f := if bad then invertCrc f else f
  { e with
    txSeq := e.txSeq + 1
    replay := (e.replay ++ [f]).drop (e.replay.length - 63)
    owed := e.owed - e.owed % 2 ^ 12
    wire := e.wire ++ [f] }

/-- R319: what waits leaves while there is credit; with none an idle flit leaves. -/
def LinkEnd.pump : List (Bool × Nat × List Byte) → LinkEnd → LinkEnd
  | [], e => { e with waiting := [] }
  | (m, fmt, body) :: r, e =>
    if e.credits = 0 then { e.put 2 [] false with waiting := (m, fmt, body) :: r }
    else LinkEnd.pump r { e.put fmt body false with credits := e.credits - 1 }

/-- What a link end has put on a mesh link reaches the other end in the next tick (log 59, DESIGN CHOICE). -/
def State.carry (s : State) (link : Nat) : State :=
  let e := s.link link
  if 2 * meshLinks ≤ link then s
  else e.wire.foldl (fun s f => s.at (s.tick + 1) (.flitReceive (link ^^^ 1) f)) (s.onLink link fun e => { e with wire := [] })

/-- R319, R323: a message for a link end to send: management ahead of the rest. -/
def State.sendFlit (s : State) (link : Nat) (mgmt : Bool) (fmt : Nat) (body : List Byte) : State :=
  if (s.link link).failed then s
  else
    let s := s.onLink link fun e =>
      let first := e.waiting.filter (·.1)
      let rest := e.waiting.filter (!·.1)
      let e := { e with wire := [] }
      LinkEnd.pump (if mgmt then first ++ [(true, fmt, body)] ++ rest else first ++ rest ++ [(false, fmt, body)]) e
    s.carry link

/-- R323: a management message, with what its TYPE adds from byte 15 on (log 36, DESIGN CHOICE). -/
def State.message (s : State) (type num dead : Nat) (more : List Byte) : List Byte :=
  toBytes 1 type ++ toBytes 1 s.svc.halt.toNat ++ toBytes 2 num ++ toBytes 2 s.conn.epoch ++ toBytes 8 s.tick ++ toBytes 1 dead ++ more

/-- R18, R432: the link ends of the off-module ports that are in use. -/
def State.opticalLinks (s : State) : List Nat :=
  (s.links.filter fun e => decide (2 * meshLinks ≤ e.num) && !e.failed).map (·.num)

/-! Requests (11 R263 to R267) -/

/-- R266: the smallest scope that holds a core and a target core. -/
def coreScope (cid target : Nat) : Nat :=
  if cid / 128 ≠ target / 128 then 2 else if clusterOf cid = clusterOf target then 0 else 1

/-- R266: the smallest scope that holds a core and a memory site, given whether it is on the core's module. -/
def siteScope (own : Bool) (cid site : Nat) : Nat := if !own then 3 else if cid / 128 = site then 1 else 2

/-- A blank request of a core's task. -/
def Ctx.blankReq (c : Ctx) (cid : Nat) (kind : ReqKind) : Req where
  id := 0
  cid := cid
  lid := c.lid
  job := 0
  asid := c.asid
  uid := none
  pos := 0
  kind := kind
  va := 0
  module := 0
  pa := 0
  pairs := []
  data := []
  scope := 0
  counted := true
  sentAt := 0
  timed := true
  atHome := false
  cause := 0
  status := 0
  onward := none
  foreign := none
  epoch := none

/-- What happens when a request reaches its home. -/
def Req.arrival (r : Req) : Instr :=
  match r.kind with
  | .read | .write | .pool .. | .farWrite _ | .farRead _ => .homeRequest r.id
  | .gput .. => .commitHold r.id
  | .nm img _ _ => if img.toNat / 2 ^ 120 = 0x65 then .mlrArrival r.id else .nmuOperation r.id
  | .acquire .. => .lockAcquirePacket r.id
  | .release _ => .lockReleasePacket r.id
  | .cancel => .lockCancelPacket r.id
  | .commit _ true => .publish r.id
  | .commit _ false => .discard r.id
  | .launch .. => .launchRequestAccept r.id

/-- R242: a memory site sent the request: an NMU that writes the results of a group reduction (R261). -/
def Req.bySite (r : Req) : Bool := decide (0xC800 ≤ r.cid) && r.foreign.isNone

/-- What tells the issuer of a request's answer; one of another module's leaves by its port (R327). -/
def Req.reply (r : Req) (cause : BitVec 8) : Instr :=
  if r.foreign.isSome then .requestResponse r.id
  else if r.bySite then .mlrArrival r.id
  else match r.kind with
    | .gput .. | .commit .. => .commitAnswer r.id
    | .acquire .. | .cancel => .acqAnswer r.id cause.toNat
    | _ => .requestResponse r.id

/-- R317: the module is a member of the set and not dead. -/
def State.reaches (s : State) (m : Nat) : Bool :=
  m == s.conn.modnum || (s.conn.members.getLsbD m && !s.conn.dead.getLsbD m)

/-- R321: a request's acknowledgement time-out, within the module or beyond. -/
def State.ackLimit (s : State) (r : Req) : Nat := if r.module = s.conn.modnum then s.conn.modlim else s.conn.setlim

/-- R143: the target core of a pool request. -/
def Req.target (r : Req) : Option Nat :=
  match r.kind with
  | .pool .. => some (r.va / 2 ^ 32)
  | .farWrite c | .farRead c => some c
  | _ => none

/-- R327: the port by which a request leaves for another module: always the same one for a target (log 59, DESIGN CHOICE). -/
def State.portFor (s : State) (r : Req) : Option Nat :=
  let ports := s.opticalLinks.filter fun l => (s.link l).peer == some r.module
  ports[Config.portPick r.module (match r.target with
    | some c => 0xC800 * 2 ^ 45 + c
    | none => r.pa / 2 ^ 36) % ports.length]?

/-- R15, R18, R242: where on the panel a request sets out: its core's die, the memory site that sends it, or the port it entered by. -/
def Req.fromPos (r : Req) : Nat :=
  match r.foreign with
  | some f => endPos f.port
  | none => if 0xC800 ≤ r.cid then msitePos (r.cid - 0xC800) else diePos (r.cid / 128)

/-- R263, R327: where on the panel a request is to go: its home, or the port it leaves by. -/
def State.toPos (s : State) (r : Req) : Option Nat :=
  if r.module ≠ s.conn.modnum then (s.portFor r).map endPos
  else match r.kind, r.target with
    | .launch .., _ => some (diePos (r.cid / 128))
    | _, some c => some (diePos (c / 128))
    | _, none => some (msitePos (r.pa / 2 ^ 36))

/-- R23, R317: a route leads from where the request sets out to where it goes. -/
def State.routed (s : State) (r : Req) : Bool := (s.toPos r).any fun b => s.joined r.fromPos b

/-- R242: the number under which the model asks for a request's OP code. -/
def ReqKind.code : ReqKind → Nat
  | .read => 1 | .write => 2 | .gput .. => 3 | .farWrite _ => 4 | .farRead _ => 5 | .nm .. => 6
  | .acquire true _ => 7 | .acquire false _ => 8 | .release _ => 9 | .cancel => 10
  | .commit _ true => 11 | .commit _ false => 12 | .pool .. => 13 | .launch .. => 14

/-- R242: the endpoint a request is for. -/
def Req.endpoint (r : Req) : Nat :=
  match r.target with
  | some c => c
  | none => 0xC800 + r.pa / 2 ^ 36

/-- R242, R331: what a request's auxiliary bytes carry: ASID, launch id, result address, job id, group, GEN, EPOCH, hops made. -/
def Req.auxFields (r : Req) : List Nat :=
  let (g, gen) := match r.kind with
    | .gput g n => (g, n.toNat)
    | .commit g _ => (g, r.status.toNat)
    | _ => (0, 0)
  [r.asid, r.lid, match r.kind with
    | .nm _ _ a => a
    | _ => 0, r.job, g, gen, r.epoch.getD 0, r.pos]

/-- R242: the common header of a request. -/
def Req.head (r : Req) (cls n : Nat) : SlotHead :=
  ⟨(Config.opCode r.kind.code).toNat, cls, (Config.sizeCode n).toNat, r.cid, r.endpoint, r.id, r.module, r.pa⟩

/-- R241, R242, R252: the flit by which a request crosses to another module: a data slot where it carries bytes for a sector or a pool,
or an operand of more than 32 bytes; otherwise a request slot. -/
def Req.flit (r : Req) : Nat × List Byte :=
  let aux := Config.auxBits r.auxFields
  let line := fun (at_ : Nat) (bs : List Byte) =>
    (bs.zipIdx.foldl (fun m x => m ||| 2 ^ ((at_ + x.2) % 128)) 0, List.replicate (at_ % 128) 0 ++ bs)
  match r.kind with
  | .write | .gput .. | .farWrite _ =>
    let (mask, sector) := line r.pa r.data
    (1, dataSlotOf (r.head 0 r.data.length) mask sector ++ slotOf (r.head 0 r.data.length) [] aux)
  | .nm _ opnd _ =>
    if opnd.length ≤ 32 then (0, slotOf (r.head 2 opnd.length) opnd aux)
    else (1, dataSlotOf (r.head 2 opnd.length) (line 0 opnd).1 opnd ++ slotOf (r.head 2 opnd.length) [] aux)
  | _ => (0, slotOf (r.head 0 r.pairs.length) [] aux)

/-- R327: a request for another module leaves by its port. -/
def State.leaves (s : State) (r : Req) : State :=
  match s.portFor r with
  | some p => let (fmt, body) := r.flit; s.sendFlit p false fmt body
  | none => s

/-- A request sent: it reaches its home after a time the spec leaves free, and its acknowledgement is awaited. One toward a
module outside the set, or dead, is not sent and completes at once (R317); one that no route leads to its home is lost (R23, R319). -/
def State.sendReq (s : State) (r : Req) : State :=
  let r : Req := { r with id := s.nextId, sentAt := s.tick, epoch := if r.module = s.conn.modnum then none else some s.conn.epoch }
  if !s.reaches r.module then
    { s.fresh with
      reqs := s.reqs ++ [{ r with cause := 0x1B, data := [], status := 0, counted := false, timed := false, atHome := true }]
      events := s.events ++ [r.reply 0x1B] }
  else
    let s := { s.fresh with reqs := s.reqs ++ [r] }
    let s := if s.routed r then s.at (s.tick + 1 + Config.homeDelay r.id) r.arrival else s
    let s := if r.module = s.conn.modnum then s else s.leaves r
    let s := if r.timed then s.at (s.tick + s.ackLimit r) (.ackTimeout r.id) else s
    if r.counted then
      s.onCore r.cid fun k => k.onCtx r.lid fun c => { c with ackc := vmod c.ackc 0 r.scope (· + 1) }
    else s

/-- R317: a request that crossed to another module, or came from one, in an earlier formation of the set is lost. -/
def State.lost (s : State) (r : Req) : Bool := r.epoch.any (· != s.conn.epoch)

/-- R263: the home's answer sets out; none where no route leads back (R23, R319). -/
def State.answer (s : State) (id : Nat) : State :=
  match s.req id with
  | some r => if s.lost r || !s.routed r then s else s.at (s.tick + 1 + Config.responseDelay id) (r.reply r.cause)
  | none => s

/-! Next-word selection (04 R92, R98 to R104) -/

/-- R102: the levels whose body ends at `k`, the greatest lb first and on equal lb the greatest level first. -/
def endingLevels (l : Loops) (k : Nat) : List Nat :=
  let ls := [3, 2, 1, 0].filter fun i => vat l.act false i && (vat l.le 0 i).toNat == k
  ls.foldl (fun acc i => ins l acc i) []
where
  /-- An insertion that keeps the order. -/
  ins (l : Loops) : List Nat → Nat → List Nat
    | [], i => [i]
    | j :: r, i => if (vat l.lb 0 j).toNat < (vat l.lb 0 i).toNat then i :: j :: r else j :: ins l r i

/-- R103: the counts that writes landing in this cycle have replaced. -/
def Ctx.lcHeld (c : Ctx) : List (Nat × BitVec 32) :=
  c.pend.filterMap fun p =>
    match p.eff with
    | .lcHeld l n => some (l, n)
    | _ => none

/-- R102: the end-of-body check over the levels given; the target when one loops back. A level whose count a write has replaced
in this cycle is checked by the count it held, and keeps the written one (R103). -/
def loopEnd (held : List (Nat × BitVec 32)) (l : Loops) : List Nat → Loops × Option (BitVec 13)
  | [] => (l, none)
  | i :: r =>
    let h := held.lookup i
    let n := h.getD (vat l.lc 0 i)
    if 2 ≤ n.toNat then ({ l with lc := if h.isSome then l.lc else vput l.lc i (n - 1) }, some (vat l.lb 0 i))
    else loopEnd held { l with lc := if h.isSome then l.lc else vput l.lc i 0, act := vput l.act i false } r

/-- An active level ends at this index (R99). -/
def endsLoop (l : Loops) (k : Nat) : Bool := !(endingLevels l k).isEmpty

/-- The next index stored, or the overrun of R92 at 8,192. -/
def Sq.goto (q : Sq) (i : Nat) : Sq :=
  { q with pc := BitVec.ofNat 13 i, overrun := decide (i = 8192), delay := false, target := none, second := false, wait := none }

/-- R92: the word whose last index is `k` has finished issuing. -/
def Ctx.advance (c : Ctx) (k : Nat) : Ctx :=
  match c.sq.target with
  | some t => { c with sq := c.sq.goto t.toNat }
  | none =>
    let (l, back) := loopEnd c.lcHeld c.loops (endingLevels c.loops k)
    match back with
    | some t => { c with loops := l, sq := c.sq.goto t.toNat }
    | none => { c with loops := l, sq := c.sq.goto (k + 1) }

/-- The word has issued: select the next one and let the rest of the cycle run. -/
def State.retire (s : State) : State :=
  { s.ctx (fun c => c.advance c.sq.pc.toNat) with phase := .engines }

/-- R54: a WIDE instruction's second word has issued. -/
def State.retireWide (s : State) : State :=
  { s.ctx (fun c => c.advance (c.sq.pc.toNat + 1)) with phase := .engines }

/-- R98: a branch has issued; its delay word follows, then the target if it was taken. -/
def State.retireBranch (s : State) (target : Option Nat) : State :=
  { s.sq (fun q => { q.goto (q.pc.toNat + 1) with delay := true, target := target.map (BitVec.ofNat 13) }) with phase := .engines }

/-- R123: control passes with no delay word. -/
def State.retireTo (s : State) (target : Nat) : State := { s.sq (·.goto target) with phase := .engines }

/-- The word holds SQ through this cycle (R127): it is met again in the next one. -/
def State.holdOn (s : State) (w : Wait) : State := { s.sq (fun q => { q with wait := some w }) with phase := .engines }

/-- The wait in progress has the kind given. -/
def State.waiting (s : State) (k : WaitKind) : Option Wait :=
  match s.core.ctx.sq.wait with
  | some w => if w.kind = k then some w else none
  | none => none

/-! Taking a trap (17 R377, R386) and returning (R385) -/

/-- R375: TCAUSE from its fields. -/
def tcause (sw async : Bool) (rqi unit : Nat) (cause : BitVec 8) : Word :=
  BitVec.ofNat 64 ((if sw then 2 ^ 63 else 0) + (if async then 2 ^ 62 else 0) + rqi * 2 ^ 16 + unit * 2 ^ 8 + cause.toNat)

/-- R375: TCAUSE.UNIT of an engine. -/
def Unit7.trapUnit : Unit7 → Nat
  | .ld => 0 | .st => 1 | .mx => 2 | .cp0 => 3 | .cp1 => 4 | .nm => 5 | .vx => 6

/-- R378: the order in which one of several faults is chosen. -/
def Unit7.rank : Unit7 → Nat
  | .mx => 0 | .vx => 1 | .ld => 2 | .st => 3 | .cp0 => 4 | .cp1 => 5 | .nm => 6

/-- Ascending start cycle, ties by the unit order of R378 (log 26, DEDUCED). -/
def replayBefore (a b : Entry) : Bool :=
  decide (a.startCyc < b.startCyc) || (a.startCyc == b.startCyc && decide (a.eng.rank < b.eng.rank))

/-- An entry put in its place in the replay queue (log 26, DEDUCED). -/
def insReplay : List Entry → Entry → List Entry
  | [], e => [e]
  | x :: r, e => if replayBefore e x then e :: x :: r else x :: insReplay r e

/-- The entries in the order of R377. -/
def replayOrder (es : List Entry) : List Entry := es.foldl insReplay []

/-- A started `cp.csend` or `cp.cbind` (R381). -/
def Entry.isPort (e : Entry) : Bool :=
  let op := e.img.toNat / 2 ^ 120
  (e.eng == .cp0 || e.eng == .cp1) && (op == 0x50 || op == 0x51)

/-- R377: the entries that a trap or a stop captures: those started and not finished, and those that have just faulted. -/
def Ctx.captured (c : Ctx) : List Entry :=
  replayOrder (((c.run.filter fun e => !e.late).map fun e => { e with port := e.isPort }) ++ c.faults)

/-- R381: the entry of a bank access or job is a circuit copy, which a trap leaves running. -/
def Ctx.ofPort (c : Ctx) (uid : Option Nat) : Bool :=
  (c.run ++ c.replay ++ c.frame).any fun e => some e.uid == uid && e.isPort

/-- R377: the engines frozen and captured, the queues and what else the handler must not see set aside. Entries waiting on a
circuit port run on (R381). Effects of SQ words and of entries in flight are captured together, with the bank accesses not yet
served (R140). -/
def Ctx.capture (c : Ctx) (wait : Option Wait) : Ctx :=
  { c with
    replay := c.captured
    run := c.run.filter (·.late)
    faults := []
    aside := some ⟨c.sq.pc, c.queues, c.amends, c.wheel, c.sigs, wait, c.pend,
      c.banks.filter fun a => !c.ofPort a.uid, c.jobs.filter fun j => !c.ofPort j.uid, c.mxV, c.sq.idleEnd⟩
    banks := c.banks.filter fun a => c.ofPort a.uid
    jobs := c.jobs.filter fun j => c.ofPort j.uid
    mxV := 0
    queues := Vector.replicate 7 .empty
    amends := Vector.replicate 6 []
    wheel := { c.wheel with running := false, faulted := false, cause := 0 }
    sigs := []
    pend := [] }

/-- TPC from its fields (R375) (log 27, DEDUCED). -/
def tpcWord (pc : BitVec 13) (target : Option (BitVec 13)) : Word :=
  match target with
  | none => BitVec.ofNat 64 pc.toNat
  | some t => BitVec.ofNat 64 (pc.toNat + t.toNat * 2 ^ 16 + 2 ^ 31)

/-- The eight `cgstat` words and the copy records of a completion entry, R337. -/
def groupStateCode : GroupState → Nat
  | .free => 0 | .opened => 1 | .committing => 2 | .committed => 3 | .aborting => 4 | .aborted => 5

/-- R337: a group's status word. -/
def Group.status (g : Group) : Word :=
  BitVec.ofNat 64 (groupStateCode g.state * 2 ^ 61 + g.cause.toNat * 2 ^ 48 + g.gen.toNat * 2 ^ 32
    + g.sites.length * 2 ^ 16 + g.out)

/-- R232: the greatest prefix of carried positions that have all performed. -/
def Entry.prefixLen (e : Entry) : Nat :=
  (e.out.map (·.2) ++ e.failed.map (·.1)).foldl min e.sent

/-- R371: a task's completion entry of 192 bytes (log 32, DEDUCED). -/
def taskEntry (state : Nat) (c : Ctx) (cause : Nat) (pc : Nat) (exit tval : Word) : List Byte :=
  let locks := if c.binds.toList.any (·.held) then 8 else 0
  let copies := ((c.replay ++ c.frame ++ c.run).filter fun e => e.eng == .cp0 || e.eng == .cp1).take 6
  let recs := copies.flatMap fun e => toBytes 8 (e.eng.trapUnit + e.prefixLen * 256) ++ toBytes 8 e.landed
  toBytes 8 (state + locks + cause * 256 + pc * 2 ^ 16) ++ toBytes 8 exit.toNat ++ toBytes 8 tval.toNat
    ++ c.groups.toList.flatMap (fun g => toBytes 8 g.status.toNat)
    ++ (recs ++ List.replicate 96 0).take 96 ++ List.replicate 8 0

/-- R414: the class of a queue's head in the cycle that ends, with its index: queue 0 is SQ, then LD, ST, MX, VX, CP0, CP1,
NM. -/
def Ctx.headClass (c : Ctx) (queue : Nat) : Nat × Nat :=
  if queue = 0 then
    match c.sq.wait with
    | none => if c.sq.pause = 0 then (0, 63) else (1, 63)
    | some w =>
      match w.kind with
      | .idle => (3, 63)
      | .full | .served => (2, 63)
      | .waita _ => (1, match w.addrs.min? with
        | some a => if a < 0x200 then a / 8 else 63
        | none => 63)
      | _ => (1, 63)
  else
    let u : Unit7 := match queue with
      | 1 => .ld | 2 => .st | 3 => .mx | 4 => .vx | 5 => .cp0 | 6 => .cp1 | _ => .nm
    let q := vat c.queues .empty u.num
    if q.lastS = some c.cyc then (0, 63)
    else match q.wait with
      | [] => (3, 63)
      | e :: _ => if (e.img.getLsbD 119 || u == .vx) && decide (q.freeAt ≤ c.cyc) then (1, 63) else (2, 63)

/-- R413: the eight head classes in one word, two bits each. -/
def Ctx.headWord (c : Ctx) : Word :=
  BitVec.ofNat 64 ((List.range 8).map fun i => (c.headClass i).1 * 4 ^ i).sum

/-- R413: the 32 bytes of a record of module `m` and die `die` (log 37, DESIGN CHOICE). -/
def TraceRec.bytes (r : TraceRec) (m die : Nat) : List Byte :=
  toBytes 32 (Config.traceBytes [r.kind, r.cid, m, die, r.cyc, r.inh.toNat, r.tick, r.a.toNat, r.b.toNat]).toNat

/-- R413: the debug agent copies as many records as it has come to, the oldest first, to the buffer (log 37, DESIGN CHOICE). -/
def State.drainTrace (s : State) (die : Nat) : State :=
  let d := s.die die
  if d.trace = [] then s
  else
    let recs := d.trace.take (Config.traceTaken die s.tick)
    let s := match Config.traceBuffer die with
      | none => s
      | some pa => recs.zipIdx.foldl (fun (s : State) (x : TraceRec × Nat) =>
          s.sectorWrite ((x.1.bytes s.conn.modnum die).zipIdx.map fun (b : Byte × Nat) =>
            (pa / 32 * 32 + 32 * (d.traced + x.2) + b.2, b.1))) s
    s.onDie die fun d => { d with trace := d.trace.drop recs.length, traced := d.traced + recs.length }

/-- R413: a trace record of a core appended to its die's FIFO of 64, or dropped and counted. -/
def State.traceOn (s : State) (cid kind : Nat) (a b : Word) : State :=
  let c := s.coreOf cid
  if (s.die (cid / 128)).trace.length < 64 then
    s.onDie (cid / 128) fun d =>
      { d with trace := d.trace ++ [⟨kind, cid, c.ctx.cyc, c.ctx.trap.inh, c.tick, a, b⟩] }
  else s.onCore cid fun c => { c with dbg := { c.dbg with lost := c.dbg.lost + 1 } }

/-- R413: a record with PC and head classes (log 37, DESIGN CHOICE). -/
def State.traceHeads (s : State) (cid kind : Nat) : State :=
  let c := (s.coreOf cid).ctx
  s.traceOn cid kind (c.sq.pc.zeroExtend 64) c.headWord

/-- Bytes of a completion record written at the launch's record. -/
def State.recordWrite (s : State) (l : Launch) (off : Nat) (bs : List Byte) : State := s.vaWrite l.asid (l.record + off) bs

/-- A task of a launch changed. -/
def State.onTask (s : State) (lid cid : Nat) (f : Task → Task) : State :=
  s.onLaunch lid fun l => { l with tasks := l.tasks.map fun t => if t.cid = cid then f t else t }

/-- R361, R371: where a task's entry lies in its launch's completion record. -/
def taskOffset (index : Nat) : Nat := 64 + 192 * index

/-- R424: a core's completion-map entry: launch id, state, PA of the record. -/
def State.mapPut (s : State) (cid lid state record : Nat) : State :=
  let pa := s.svc.compmap + 16 * coreBit cid
  s.sectorWrite ((toBytes 8 (lid + state * 2 ^ 32) ++ toBytes 8 record).zipIdx.map fun x => (pa + x.2, x.1))

/-- R424: the entry of a core that belongs to a launch. -/
def State.mapWrite (s : State) (cid state : Nat) (l : Launch) : State := s.mapPut cid l.lid state (s.vaPlace l.asid l.record)

/-- Launches that wait for cores, handles or segments, or to start, are tried again (R358, R359). -/
def State.poke (s : State) : State :=
  (s.launches.filter fun l => !l.admitted || l.t0 == 0 || s.saves.any fun x => x.ctx.lid == l.lid).foldl
    (fun s l => s.post (.launchAdmit l.lid)) s

/-- R338: marks in a group's result: the launch controller aborts it and has still to send the abort packet, or has sent it. -/
def ctrlWaits : BitVec 8 := 0xFF
/-- R338: the abort packet of the launch controller is out. -/
def ctrlSent : BitVec 8 := 0xFE

/-- R330, R335: one commit (true) or abort packet to a site of a group. -/
def Ctx.groupPacket (c : Ctx) (cid g : Nat) (publish : Bool) (site : Nat × Nat) : Req :=
  { c.blankReq cid (.commit g publish) with
    module := site.1, pa := site.2 * 2 ^ 36, scope := 3, counted := false
    status := BitVec.ofNat 64 (vat c.groups .zero g).gen.toNat }

/-- R338: the groups that the launch controller aborts send their packets once OUT is 0; without sites a group is free. -/
def State.ctrlAborts (s : State) (cid lid : Nat) : State :=
  match (s.coreOf cid).ctxOf lid with
  | none => s
  | some c =>
    (c.groups.toList.zipIdx.filter fun g => g.1.result == ctrlWaits && g.1.out == 0).foldl (fun s x =>
      let s := x.1.sites.foldl (fun s st => s.sendReq (c.groupPacket cid x.2 false st)) s
      s.onCore cid fun k => k.onCtx lid fun c => { c with
        groups := vmod c.groups .zero x.2 fun g =>
          if g.sites = [] then { g with state := .free, result := 0 } else { g with result := ctrlSent, answers := [] } }) s

/-- R338: the launch controller begins to abort a task's OPEN groups, with CAUSE 0x21. -/
def Ctx.abortOpen (c : Ctx) : Ctx :=
  { c with groups := c.groups.each fun g =>
      if g.state = .opened then { g with state := .aborting, cause := causeCommitAborted, result := ctrlWaits } else g }

/-- R386, R388: the fault-end of the focus core's task, its frame already captured. -/
def State.faultEnd (s : State) : State :=
  let s := s.ctx fun c => { c.abortOpen with live := false }
  let c := s.core.ctx
  let bs := taskEntry 3 c (wbits c.trap.cause 0 8) (wbits c.trap.pc 0 13) 0 c.trap.val
  let s := s.onTask c.lid s.core.cid fun t => { t with state := .faulted }
  let s := match s.launchOf c.lid with
    | some l => (s.recordWrite l (taskOffset c.index) bs).mapWrite s.core.cid 3 l
    | none => s
  (s.ctrlAborts s.core.cid c.lid).at (s.tick + 1) (.launchClose c.lid)

/-- R127, R373: an `idle` that holds SQ counts as issued, and the word that follows it is the next to issue once the cycles left
have passed; the levels keep what its end-of-body check, made after them, will change (log 27, DEDUCED). -/
def Ctx.pastIdle (c : Ctx) : Ctx :=
  match c.sq.wait with
  | none => c
  | some w =>
    if w.kind = .idle then
      let next := (c.advance c.sq.pc.toNat).sq
      { c with sq := { next with idle := w.value, idleEnd := if c.sq.target.isSome then none else some (c.sq.pc, next.pc) } }
    else c

/-- R127: the last of the cycles an `idle` still held after a trap has passed: its end-of-body check, and the word it selects. A
resume point that a handler has changed stands. -/
def Ctx.idleOver (c : Ctx) : Ctx :=
  match c.sq.idleEnd with
  | none => c
  | some (i, next) =>
    let d := { c with sq := { c.sq with target := none } }.advance i.toNat
    if c.sq.pc = next then { d with sq := { d.sq with idleEnd := none } }
    else { c with loops := d.loops, sq := { c.sq with idleEnd := none } }

/-- R377: the trap's frame: what is captured and saved. `pc` and `target` are the resume point, `wait` a captured wait word
(REISSUE); an `idle`'s cycles left are kept (log 27, DEDUCED). -/
def State.trapFrame (s : State) (tc tv : Word) (pc : BitVec 13) (target : Option (BitVec 13)) (wait : Option Wait) : State :=
  let s := s.traceOn s.core.cid (if wbits tc 0 8 = 0x28 then 3 else 0) tc tv
  s.ctx fun c => { c.capture wait with
    trap := { c.trap with cause := tc, val := tv, pc := tpcWord pc target, cyc := c.cyc, idleRem := c.sq.idle
                          reissue := wait.isSome }
    sq := { c.sq with delay := false, target := none, second := false, idle := 0, wait := none, overrun := false, idleEnd := none } }

/-- R408: a step ends at a trap its word takes: without STEPTRAP the core stops, before the handler's first word or, where the
task fault-ends, at once. -/
def Debug.trapEnds (d : Debug) (ended : Bool) : Debug :=
  if !d.stepping then d
  else if d.steptrap then { d with stepping := false }
  else if ended then { d with stepping := false, stopped := true, reason := 3 }
  else { d with stepping := false, stopReq := some 3 }

/-- R377: the one trap entry. With TVEC.EN = 1 and INH = 0 the handler's word issues 8 cycles on; otherwise the task
fault-ends (log 47, DEDUCED). -/
def State.takeTrap (s : State) (tc tv : Word) (pc : BitVec 13) (target : Option (BitVec 13)) (wait : Option Wait) : State :=
  let t := s.core.ctx.trap
  let handler := wbits t.vec 63 1 == 1 && !t.inh
  let s := s.trapFrame tc tv pc target wait
  let s :=
    if handler then
      s.ctx fun c => { c with
        trap := { c.trap with inh := true }
        sq := { c.sq with pc := BitVec.ofNat 13 (wbits t.vec 0 13), pause := 8 } }
    else s.faultEnd
  { s with phase := .issue, judged := [], core := { s.core with dbg := s.core.dbg.trapEnds !handler } }

/-- R373, kinds E and after: a trap at the word that would have issued next. -/
def State.trapNext (s : State) (tc tv : Word) : State :=
  let s := s.ctx Ctx.pastIdle
  let q := s.core.ctx.sq
  s.takeTrap tc tv q.pc q.target q.wait

/-- R373, kind W: the word takes no effect and the stream stops in its own cycle; TPC is its (first) index (log 47, DEDUCED). -/
def State.wordFault (s : State) (cause : BitVec 8) (tv : Word) : Out :=
  .next (s.takeTrap (tcause false false 0x1F 8 cause) tv s.core.ctx.sq.pc s.core.ctx.sq.target none)

/-- R99: a control word where none may stand: a delay word, or the end of an active body. -/
def State.misplaced (s : State) (k : Nat) : Bool := s.core.ctx.sq.delay || endsLoop s.core.ctx.loops k

/-- The word at PC, and the next one, as one number (R54). -/
def State.fetched (s : State) : Nat :=
  let i := s.core.ctx.sq.pc.toNat
  ibufWord s.core i + 2 ^ 32 * (if i < 8191 then ibufWord s.core (i + 1) else 0)

/-- R43: TVAL of an ILLEGAL_WORD is the word itself. -/
def State.illegal (s : State) : Out := s.wordFault causeIllegal (BitVec.ofNat 64 (s.fetched % 2 ^ 32))

/-- R54: the first cycle of a WIDE instruction: position checks, then the second word's cycle follows. -/
def State.wide (s : State) (f : Unit → Out) : Out :=
  let q := s.core.ctx.sq
  if q.second then f ()
  else if q.delay || q.pc == 8191 || endsLoop s.core.ctx.loops q.pc.toNat then s.illegal
  else .next { s.sq (fun q => { q with second := true }) with phase := .engines }

/-- An SQ word under its guard: a false guard takes the cycle and does nothing else (R45). -/
def State.guarded (s : State) (g : BitVec 4) (f : Unit → Out) : Out := if s.guard g then f () else .next s.retire

/-- A word that writes a scalar register with a latency and does nothing else. -/
def State.scalar (s : State) (lat : Nat) (sd : BitVec 5) (v : Word) : Out := .next (s.push lat (.sreg sd v)).retire

/-- A word that writes a predicate with latency 1. -/
def State.predicate (s : State) (pd : BitVec 3) (v : Bool) : Out := .next (s.push 1 (.pred pd v)).retire

/-- A held SYS word ends: its result has latency 1 and the next word issues in the following cycle. -/
def State.endHold (s : State) (sd : BitVec 5) (v : Word) : State := (s.push 1 (.sreg sd v)).retire

/-! Queues and entries -/

/-- An engine's queue. -/
def Ctx.queue (c : Ctx) (u : Unit7) : Queue := vat c.queues .empty u.num

/-- An engine's queue changed. -/
def Ctx.onQueue (c : Ctx) (u : Unit7) (f : Queue → Queue) : Ctx := { c with queues := vmod c.queues .empty u.num f }

/-- A started entry changed. -/
def Ctx.onRun (c : Ctx) (uid : Nat) (f : Entry → Entry) : Ctx :=
  { c with run := c.run.map fun e => if e.uid = uid then f e else e }

/-- A started entry: running, just faulted, or captured in the replay queue or a stop frame (gated work lands there too, R233). -/
def Ctx.entry (c : Ctx) (uid : Nat) : Option Entry := (c.run ++ c.faults ++ c.replay ++ c.frame).find? (·.uid = uid)

/-- An entry changed wherever it is. -/
def Ctx.onEntry (c : Ctx) (uid : Nat) (f : Entry → Entry) : Ctx :=
  { c.onRun uid f with
    faults := c.faults.map fun e => if e.uid = uid then f e else e
    replay := c.replay.map fun e => if e.uid = uid then f e else e
    frame := c.frame.map fun e => if e.uid = uid then f e else e }

/-- R376: entries started and not finished. -/
def Ctx.busy (c : Ctx) : Nat := (c.run.filter fun e => !e.late).length

/-- R172: the queue is empty and every entry started on the engine has finished; one that has just faulted has not. -/
def Ctx.drained (c : Ctx) (u : Unit7) : Bool :=
  (c.queue u).wait.isEmpty && !c.faults.any (·.eng == u) && !c.run.any fun e => e.eng == u && !e.late

/-- R172: the condition of `qdrain` for a mask in its own bit order. -/
def Ctx.drainedMask (c : Ctx) (m : Nat) : Bool :=
  let bit := fun i => m / 2 ^ i % 2 == 1
  (!bit 0 || c.drained .ld) && (!bit 1 || c.drained .st) && (!bit 2 || c.drained .mx) && (!bit 3 || c.drained .vx)
    && (!bit 4 || c.drained .cp0) && (!bit 5 || c.drained .cp1) && (!bit 6 || c.drained .nm)
    && (!bit 7 || !c.wheel.running)

/-- R288: nothing of the engines in a mask is left, of what a trap has captured or set aside either. -/
def Ctx.drainedAll (c : Ctx) (m : Nat) : Bool :=
  let bit := fun i => m / 2 ^ i % 2 == 1
  let on := fun (u : Unit7) => match u with
    | .ld => bit 0 | .st => bit 1 | .mx => bit 2 | .vx => bit 3 | .cp0 => bit 4 | .cp1 => bit 5 | .nm => bit 6
  c.drainedMask m && c.replay.all (fun e => !on e.eng || e.late || e.drop)
    && c.aside.all fun a => a.queues.toList.all (fun q => q.wait.all fun e => !on e.eng) && !(bit 7 && a.wheel.running)

/-- A blank entry. -/
def Entry.blank (uid : Nat) (u : Unit7) : Entry where
  uid := uid
  eng := u
  img := 0
  val1 := 0
  val2 := 0
  strA := .zero
  strB := .zero
  frm := 0
  placed := 0
  byWheel := false
  gens := []
  started := false
  fault := false
  drop := false
  port := false
  cause := 0
  tval := 0
  startCyc := 0
  age := 0
  claims := []
  desc := .none
  uAge := 0
  chunk := 0
  buf := []
  wdata := []
  sent := 0
  half := []
  total := 0
  landed := 0
  out := []
  failed := []
  done := false
  late := false
  fences := false
  stage := 0
  prevS := none

/-- R56: bits of a template image. -/
def imgBits (img : BitVec 128) (lo n : Nat) : Nat := img.toNat / 2 ^ lo % 2 ^ n

/-- R56: op8. -/
def Entry.op8 (e : Entry) : Nat := imgBits e.img 120 8

/-- A field of the entry's working image. -/
def Entry.f (e : Entry) (lo n : Nat) : Nat := imgBits e.img lo n

/-- A signed field of the entry's working image. -/
def Entry.fs (e : Entry) (lo n : Nat) : Int :=
  let x := imgBits e.img lo n
  if x < 2 ^ (n - 1) then x else (x : Int) - 2 ^ n

/-- R58: gated mode. -/
def Entry.gatedMode (e : Entry) : Bool := e.f 119 1 == 1

/-! Barrier arrivals (12 R287, R292; 15 R343) -/

/-- R284: a DOMAIN register's EN. -/
def domEN (d : Word) : Bool := wbits d 63 1 == 1
/-- R284: LEVEL. -/
def domLevel (d : Word) : Nat := wbits d 60 3
/-- R284: BAND. -/
def domBand (d : Word) : Nat := wbits d 57 3
/-- R284: SEG. -/
def domSeg (d : Word) : Nat := wbits d 51 6
/-- R284: EMASK. -/
def domEMask (d : Word) : Nat := wbits d 0 8

/-- A barrier id's state. -/
def Ctx.bar (c : Ctx) (n : Nat) : Bar := vat c.bars .zero n

/-- A barrier id's state changed. -/
def Ctx.onBar (c : Ctx) (n : Nat) (f : Bar → Bar) : Ctx := { c with bars := vmod c.bars .zero n f }

/-- R287: OUT = A − O. -/
def Bar.out (b : Bar) : Nat := b.arr - b.obs

/-- R287, R291: the oldest phase observed, ABSENT set when its release was short. -/
def Bar.observe (b : Bar) : Bar :=
  { b with obs := b.obs + 1, absent := b.absent || b.short.contains b.obs, short := b.short.filter (· ≠ b.obs) }

/-- R287: the oldest unobserved phase has released. -/
def Bar.released (b : Bar) : Bool := decide (b.obs < b.rel)

/-- R343: the deltas an arrival on barrier `n` closes: monitor number, ACC, SPEC, OVF. -/
def Ctx.deltas (c : Ctx) (n : Nat) : List (Nat × Int × Bool × Bool) :=
  (c.mons.toList.zipIdx.filter fun m => wbits m.1.nom 63 1 == 1 && wbits m.1.nom 60 3 == n).map
    fun m => (m.2, m.1.acc, m.1.spec, m.1.ovf)

/-- R343: those monitors set to zero. -/
def Ctx.closeDeltas (c : Ctx) (n : Nat) : Ctx :=
  { c with mons := c.mons.each fun m =>
      if wbits m.nom 63 1 == 1 && wbits m.nom 60 3 == n then { m with acc := 0, spec := false, ovf := false, nrec := 0 } else m }

/-- R292, R343: the focus core's next arrival on barrier `n`. It is made, with the deltas it closes, as they stand at the end
of the cycle. -/
def State.arrive (s : State) (n : Nat) : State :=
  let par := (s.core.ctx.bar n).arr % 2
  let s := s.ctx fun c => c.onBar n fun b => { b with arr := b.arr + 1 }
  s.push 1 (.arrival n par)

/-! The clock (01 R26 to R28; 18 R390, R391, R394) -/

/-- R391: the cycle that runs is stretched: the first two after a detection are not, then sixteen at least are, and on while
the detector holds. -/
def Die.stretched (d : Die) : Bool := if d.stretch = 0 then d.droop else decide (d.stretch ≤ 16)

/-- R28, R391, R394: TICK, the part of the next tick run in units of 1/FMHZ, and the number of the clock edge, when the cycle
that runs ends. A stretched cycle takes two periods; of each 16 edges the first SKIP are suppressed (log 12, DEDUCED). -/
def Core.clockAfter (d : Die) (c : Core) : Nat × Nat × Nat :=
  let e := (c.edge + 1) % 16
  let skipped := if e < d.skip then d.skip - e else 0
  let run := c.frac + skipped * 1000 + (if d.stretched then 2000 else 1000)
  (c.tick + run / max d.fmhz 1, run % max d.fmhz 1, (e + skipped) % 16)

/-- R142, R252, R369: what the contexts of a core have outstanding, whichever of them runs. -/
def Core.outstanding (c : Core) (f : Ctx → Nat) : Nat := f c.ctx + (c.bank.map f).getD 0

/-- A core's tasks take cycles, or its swap does (log 12, DEDUCED). -/
def Core.clocked (c : Core) : Bool := (c.ctx.live || c.swap != 0) && !c.dbg.stopped

/-- A core of the same die that has already ended the cycle in which the focus core is: the zone is one (R25). -/
def State.ahead (s : State) : Option Core :=
  s.others.find? fun c => c.cid / 128 == s.core.cid / 128 && c.clocked
    && (decide (s.core.tick < c.tick) || (c.tick == s.core.tick && decide (s.core.frac < c.frac)))

/-- The clock at the end of the focus core's cycle. -/
def State.clockNext (s : State) : Nat × Nat × Nat :=
  match s.ahead with
  | some c => (c.tick, c.frac, c.edge)
  | none => s.core.clockAfter s.myDie

/-- R281: the TICK that the focus core's cycle ends in. -/
def State.tickEnd (s : State) : Nat := s.clockNext.1

/-- The first tick that begins at or after the end of the focus core's cycle. -/
def State.tickAfter (s : State) : Nat := if s.clockNext.2.1 = 0 then s.clockNext.1 else s.clockNext.1 + 1

end Sys2Proof.Machine
end

