-- ==== Sys2Proof/Machine/Banks.lean ====
section
/-! DEFINITION. The pool's banks (05 R133, R134): what asks for a bank access, how a bank chooses among those that are due, and
what an access sees. An access waits in a list until it is served; `Cycle` serves each bank at the end of a cycle. -/

namespace Sys2Proof.Machine

/-- R134 rule 4: the rank of an engine; NM, which the rule does not name, follows CP1 (log 6, DEDUCED). -/
def Unit7.bankRank : Unit7 → Nat
  | .mx => 0 | .vx => 1 | .ld => 2 | .st => 3 | .cp0 => 4 | .cp1 => 5 | .nm => 6

/-- R134 rule 4: SQ's rank (log 6, DEDUCED). -/
def sqRank : Nat := 7
/-- R226: the rank of another core's copy. -/
def farRank : Nat := 8
/-- R304, R310: the rank of circuit bytes and signals. -/
def opticRank : Nat := 9

/-- The elements of a list, each where it comes first. -/
def firsts [DecidableEq α] (l : List α) : List α := l.foldl (fun acc x => if x ∈ acc then acc else acc ++ [x]) []

/-- R133: the 16-byte words of some locations, in the order in which they come first. -/
def bankWords (ls : List Nat) : List Nat := firsts (ls.map (· / 16))

/-- An access of a word, due now and ranked with SQ. -/
def BankAcc.at (cid word : Nat) (write : Bool) : BankAcc where
  seq := 0
  cid := cid
  word := word
  wait := 0
  late := 0
  write := write
  gated := false
  last := false
  rank := sqRank
  src := 0
  uid := none
  tick := 0
  job := none
  ws := []

/-- R133: the accesses that read some locations of a core's pool. -/
def readAccs (cid : Nat) (ls : List Nat) : List BankAcc := (bankWords ls).map fun w => BankAcc.at cid w false

/-- R133: the accesses that write bytes into a core's pool. -/
def writeAccs (cid : Nat) (ws : List (Nat × Byte)) : List BankAcc :=
  (bankWords (ws.map (·.1))).map fun w => { BankAcc.at cid w true with ws := ws.filter fun x => x.1 / 16 == w }

/-- Accesses ranked as an entry's: its engine's rank in its own pool, another core's copy elsewhere. -/
def BankAcc.ofEntry (own : Nat) (e : Entry) (a : BankAcc) : BankAcc :=
  { a with uid := some e.uid, rank := if a.cid = own then e.eng.bankRank else farRank, src := if a.cid = own then 0 else own }

/-- Gated accesses, by the tick and the source they arrived from (R134 rule 5). -/
def BankAcc.arrived (tick src : Nat) (a : BankAcc) : BankAcc := { a with gated := true, tick := tick, src := src }

/-- The focus core's context asks for accesses. -/
def State.ask (s : State) (as : List BankAcc) : State :=
  { s.ctx fun c => { c with banks := c.banks ++ as.zipIdx.map fun x => { x.1 with seq := s.nextId + x.2 } } with
    nextId := s.nextId + as.length }

/-- R94: the place that a word's result takes among the effects in flight while its access waits. -/
def BankEnd.place (b : BankEnd) (id : Nat) : List Pend :=
  match b with
  | .load .. | .amo .. | .cas .. => [⟨1, none, .loading id⟩]
  | _ => []

/-- It asks for accesses that something follows. -/
def State.askFor (s : State) (uid : Option Nat) (what : BankEnd) (as : List BankAcc) : State :=
  let c := s.core.ctx
  let s' := ({ s with nextId := s.nextId + 1 } : State).ask (as.map fun a => { a with job := some s.nextId })
  s'.ctx fun x => { x with pend := x.pend ++ what.place s.nextId, jobs := x.jobs ++ [(⟨s.nextId, uid, what, 0, 0, [], c.masks, c.regs.seed⟩ : BankJob)] }

/-- A scalar word asks for an access of `n` bytes of the pool (R137 to R140). -/
def State.askSq (s : State) (what : BankEnd) (write : Bool) (a n : Nat) : State :=
  let p := s.core.ctx.misc.part
  s.askFor none what ((bankWords ((List.range n).map fun i => phys p (a + i))).map fun w => BankAcc.at s.core.cid w write)

/-- Pool bytes written by a scalar word. -/
def State.askWrite (s : State) (a : Nat) (bs : List Byte) : State :=
  s.ask (writeAccs s.core.cid (placed s.core.ctx.misc.part a bs))

/-- The core takes cycles: its task, its swap, circuit copies that a stop or a trap leaves running, or accesses to its pool. -/
def Core.active (k : Core) : Bool :=
  k.clocked || (k.swap == 0 && (k.banks != [] || k.jobs != [] || (k.ctx.held && (k.ctx.replay ++ k.ctx.frame).any fun e => e.port && !e.late && !e.fault)))

/-- A core that takes no cycles begins to, on the edges of its zone (R25). -/
def State.wakeCore (s : State) (cid : Nat) : State :=
  let k := s.coreOf cid
  if k.active then s
  else
    let (t, f, e) := match (s.core :: s.others).find? fun x => x.cid / 128 == cid / 128 && x.clocked with
      | some x => (x.tick, x.frac, x.edge)
      | none => (max k.tick s.tick, 0, k.edge)
    s.onCore cid fun k => { k with tick := t, frac := f, edge := e }

/-- Accesses that are not a context's own wait at a core (R134). -/
def State.queueAt (s : State) (cid : Nat) (as : List BankAcc) : State :=
  let s := s.wakeCore cid
  { s.onCore cid fun k => { k with banks := k.banks ++ as.zipIdx.map fun x => { x.1 with seq := s.nextId + x.2 } } with
    nextId := s.nextId + as.length }

/-- Such accesses, and what follows them. -/
def State.askAt (s : State) (cid id : Nat) (what : BankEnd) (as : List BankAcc) : State :=
  (s.queueAt cid (as.map fun a => { a with job := some id })).onCore cid fun k =>
    { k with jobs := k.jobs ++ [⟨id, none, what, 0, 0, [], Vector.replicate 8 0, 0⟩] }

/-- Gated accesses of an entry's own work, and what follows them. -/
def State.askEntryAt (s : State) (cid id : Nat) (uid : Option Nat) (what : BankEnd) (as : List BankAcc) : State :=
  (s.queueAt cid (as.map fun a => { a with job := some id })).onCore cid fun k =>
    { k with jobs := k.jobs ++ [⟨id, uid, what, 0, 0, [], Vector.replicate 8 0, 0⟩] }

/-- R134: which of two accesses that are due the bank serves first. -/
def BankAcc.before (a b : BankAcc) : Bool :=
  if a.gated != b.gated then b.gated
  else if a.gated then
    if a.tick ≠ b.tick then decide (a.tick < b.tick)
    else if a.src ≠ b.src then decide (a.src < b.src)
    else decide (a.seq < b.seq)
  else if a.write != b.write then b.write
  else if a.late ≠ b.late then decide (b.late < a.late)
  else if a.rank ≠ b.rank then decide (a.rank < b.rank)
  else if a.src ≠ b.src then decide (a.src < b.src)
  else if a.uid ≠ b.uid then decide (a.uid.getD 0 < b.uid.getD 0)
  else decide (a.seq < b.seq)

/-- R134: of the accesses that may be served, the one each bank serves. -/
def chosen (cs : List BankAcc) : List BankAcc :=
  cs.filter fun a => !cs.any fun b => b.seq != a.seq && b.cid == a.cid && b.word % 96 == a.word % 96 && b.before a

/-- R137, R254: an access that must wait for another: a scalar access for an earlier scalar write of its word, a status for the
data it follows. -/
def BankAcc.waitsFor (cs : List BankAcc) (a : BankAcc) : Bool :=
  cs.any fun b => b.seq != a.seq && b.cid == a.cid &&
    ((a.last && b.job == a.job && !b.last)
      || (a.rank == sqRank && b.rank == sqRank && !a.gated && !b.gated && b.write && b.word == a.word && decide (b.seq < a.seq)))

/-- The pools as a job's reads saw them: bytes read in earlier cycles stand as they were then. -/
def State.viewed (s : State) (j : BankJob) : State :=
  j.caught.foldl (fun s x => s.onCore x.1 fun k => { k with pool := k.pool.write emptyByte x.2.1 x.2.2 }) s

/-- The pools of `s` put back after a step taken on a view of them. -/
def State.unviewed (s t : State) (j : BankJob) : State :=
  (firsts (j.caught.map (·.1))).foldl (fun t cid => t.onCore cid fun k => { k with pool := (s.coreOf cid).pool }) t

/-- A value of `n` bytes as a job's reads saw it, at an address of the focus core. -/
def State.readFor (s : State) (j : BankJob) (a n : Nat) : Nat := (s.viewed j).core.poolRead a n

/-- Bytes performed in the pools (R134). -/
def State.writePools (s : State) (ws : List (Nat × Nat × Byte)) : State :=
  (firsts (ws.map (·.1))).foldl (fun s cid =>
    let mine := (ws.filter (·.1 == cid)).map fun w => w.2
    s.onCore cid fun k => { k with pool := k.pool.writes emptyByte mine, wrote := k.wrote ++ mine.map (·.1) }) s

end Sys2Proof.Machine
end

