-- ==== Sys2Proof/Machine/Flags.lean ====
section
/-! DEFINITION. Number formats, rounding, conversions and the FCSR conditions they raise (03 R69 to R89), on exact dyadic
values: a finite value is a sign, a magnitude and a power of two. Every operation rounds once. -/

namespace Sys2Proof.Machine

/-- R83: the conditions NV DZ OF UF NX, in FCSR's bit order. -/
abbrev Cond := BitVec 5

/-- FCSR.NV. -/
def condNV : Cond := 0b10000
/-- FCSR.DZ. -/
def condDZ : Cond := 0b01000
/-- FCSR.OF. -/
def condOF : Cond := 0b00100
/-- FCSR.UF. -/
def condUF : Cond := 0b00010
/-- FCSR.NX. -/
def condNX : Cond := 0b00001

/-- An operand's value: NaN (signalling or not), infinity, zero, or magnitude `m` (not 0) times 2^`e`. -/
inductive Val where
  | nan (signalling : Bool)
  | inf (neg : Bool)
  | zero (neg : Bool)
  | fin (neg : Bool) (m : Nat) (e : Int)
deriving DecidableEq, Repr

/-- R69: a floating format by its exponent and fraction widths. -/
structure FloatFmt where
  eb : Nat
  fb : Nat
deriving DecidableEq, Repr

/-- R69, R73: the floating formats by code. -/
def floatFmt (code : Nat) : FloatFmt :=
  match code with
  | 4 => ⟨5, 10⟩
  | 5 => ⟨8, 7⟩
  | 6 => ⟨8, 23⟩
  | _ => ⟨11, 52⟩

/-- The exponent of the smallest normal. -/
def FloatFmt.emin (f : FloatFmt) : Int := 2 - (2 : Int) ^ (f.eb - 1)

/-- The exponent of the largest finite value. -/
def FloatFmt.emax (f : FloatFmt) : Int := (2 : Int) ^ (f.eb - 1) - 1

/-- The sign bit's weight. -/
def FloatFmt.signBit (f : FloatFmt) (neg : Bool) : Nat := if neg then 2 ^ (f.eb + f.fb) else 0

/-- Infinity's code, sign apart. -/
def FloatFmt.infBits (f : FloatFmt) : Nat := (2 ^ f.eb - 1) * 2 ^ f.fb

/-- R71: the canonical quiet NaN. -/
def FloatFmt.nanBits (f : FloatFmt) : Nat := f.infBits + 2 ^ (f.fb - 1)

/-- R69: the value of a code. -/
def FloatFmt.val (f : FloatFmt) (c : Nat) : Val :=
  let neg := c / 2 ^ (f.eb + f.fb) % 2 == 1
  let x := c / 2 ^ f.fb % 2 ^ f.eb
  let m := c % 2 ^ f.fb
  if x = 2 ^ f.eb - 1 then (if m = 0 then .inf neg else .nan (decide (m < 2 ^ (f.fb - 1))))
  else if x = 0 then (if m = 0 then .zero neg else .fin neg m (f.emin - f.fb))
  else .fin neg (m + 2 ^ f.fb) (f.emin - f.fb + (x - 1))

/-- R80, R81: whether a magnitude `k` with remainder `r` out of `2·h` (and more below when `st`) goes up. -/
def roundUp (mode : BitVec 3) (neg : Bool) (k r h : Nat) (st : Bool) : Bool :=
  match mode.toNat with
  | 1 => false
  | 2 => neg && (r != 0 || st)
  | 3 => !neg && (r != 0 || st)
  | 4 => decide (h ≤ r)
  | _ => decide (h < r) || (r == h && (st || k % 2 == 1))

/-- `m·2^e` (with more below when `st`) as a multiple of 2^`q`: the multiple, and whether it is inexact. -/
def roundAt (mode : BitVec 3) (neg : Bool) (m : Nat) (e q : Int) (st : Bool) : Nat × Bool :=
  if q ≤ e then (m * 2 ^ (e - q).toNat, st)
  else
    let d := (q - e).toNat
    let k := m / 2 ^ d
    let r := m % 2 ^ d
    (if roundUp mode neg k r (2 ^ (d - 1)) st then k + 1 else k, r != 0 || st)

/-- The overflowed result of R81. -/
def FloatFmt.overflow (f : FloatFmt) (mode : BitVec 3) (neg : Bool) : Nat :=
  let toInf := match mode.toNat with
    | 1 => false
    | 2 => neg
    | 3 => !neg
    | _ => true
  f.signBit neg + (if toInf then f.infBits else f.infBits - 1)

/-- R70, R81: one rounding of a nonzero magnitude to a floating format, with the conditions of R82 (log 72, DEDUCED). -/
def FloatFmt.round (f : FloatFmt) (mode : BitVec 3) (neg : Bool) (m : Nat) (e : Int) (st : Bool) : Nat × Cond :=
  let top := e + m.log2
  let (ku, _) := roundAt mode neg m e (top - f.fb) st
  let yexp := if ku = 2 ^ (f.fb + 1) then top + 1 else top
  if f.emax < yexp then (f.overflow mode neg, condOF ||| condNX)
  else
    let q := max (top - f.fb) (f.emin - f.fb)
    let (k, inexact) := roundAt mode neg m e q st
    let bits := (q - (f.emin - f.fb)).toNat * 2 ^ f.fb + k
    (f.signBit neg + bits,
      if inexact then (if yexp < f.emin then condUF ||| condNX else condNX) else 0)

/-- R85: the generator's next state. -/
def draw (seed : Word) : Word := seed * 0x5851F42D4C957F2D + 0x14057B7EF767814F

/-- R84: the stochastic choice between the multiples `k` and `k + 1` of a unit of which `r` of `2^d` remains. -/
def stoPick (neg : Bool) (k r d : Nat) (seed : Word) : Nat × Word :=
  let seed' := draw seed
  let u := seed'.toNat / 2 ^ 32
  let x := if neg then 2 ^ d - r else r
  let q := x * 2 ^ 32 / 2 ^ d
  (if decide (u < q) == neg then k else k + 1, seed')

/-- R84 for a floating result: the rounded code, its conditions, the generator after the draw. -/
def FloatFmt.roundSto (f : FloatFmt) (neg : Bool) (m : Nat) (e : Int) (seed : Word) : Nat × Cond × Word :=
  let top := e + m.log2
  let (ku, _) := roundAt 0 neg m e (top - f.fb) false
  let yexp := if ku = 2 ^ (f.fb + 1) then top + 1 else top
  let q := max (top - f.fb) (f.emin - f.fb)
  if f.emax < yexp then (f.signBit neg + f.infBits, condOF ||| condNX, seed)
  else if q ≤ e then (f.signBit neg + (q - (f.emin - f.fb)).toNat * 2 ^ f.fb + m * 2 ^ (e - q).toNat, 0, seed)
  else
    let d := (q - e).toNat
    let k := m / 2 ^ d
    let r := m % 2 ^ d
    let base := f.signBit neg + (q - (f.emin - f.fb)).toNat * 2 ^ f.fb
    if r = 0 then (base + k, 0, seed)
    else if top = f.emax ∧ k = 2 ^ (f.fb + 1) - 1 then (base + k, condNX, seed)
    else
      let (k', seed') := stoPick neg k r d seed
      (base + k', if yexp < f.emin then condUF ||| condNX else condNX, seed')

/-- R75: the run of bits of `b` equal to bit `i`, counted downward from it. -/
def runLength (b : Nat) (bit : Nat) : Nat → Nat
  | 0 => 0
  | i + 1 => if b / 2 ^ i % 2 = bit then 1 + runLength b bit i else 0

/-- R75: the magnitude of a body of `n - 1` bits, not zero, as `(m, e)` standing for m·2^e. -/
def tfMagnitude (n b : Nat) : Nat × Int :=
  let top := b / 2 ^ (n - 2) % 2
  let k := runLength b top (n - 1)
  let r : Int := if top = 1 then (k : Int) - 1 else -(k : Int)
  let restLen := n - 1 - k - 1
  let rest := b % 2 ^ restLen
  if restLen = 0 then (1, 2 * r)
  else
    let e := rest / 2 ^ (restLen - 1)
    let fl := restLen - 1
    (2 ^ fl + rest % 2 ^ fl, 2 * r + e - fl)

/-- R75: the value of a tapered code of `n` bits; NaR converts as NaN. -/
def tfVal (n c : Nat) : Val :=
  if c % 2 ^ n = 0 then .zero false
  else if c % 2 ^ n = 2 ^ (n - 1) then .nan false
  else
    let (m, e) := tfMagnitude n (c % 2 ^ (n - 1))
    .fin (c / 2 ^ (n - 1) % 2 == 1) m e

/-- m₁·2^e₁ ≤ m₂·2^e₂. -/
def dyLe (m₁ : Nat) (e₁ : Int) (m₂ : Nat) (e₂ : Int) : Bool :=
  let e := min e₁ e₂
  decide (m₁ * 2 ^ (e₁ - e).toNat ≤ m₂ * 2 ^ (e₂ - e).toNat)

/-- The greatest body below `lo + 2^i` whose magnitude is at most `m·2^e` (R87: magnitudes rise with the body). -/
def tfSearch (n m : Nat) (e : Int) : Nat → Nat → Nat
  | 0, lo => lo
  | i + 1, lo =>
    let b := lo + 2 ^ i
    let (bm, be) := tfMagnitude n b
    if dyLe bm be m e then tfSearch n m e i b else tfSearch n m e i lo

/-- R77, R84, R86: a nonzero finite value into a tapered format of `n` bits. -/
def tfRound (n : Nat) (mode : BitVec 3) (neg : Bool) (m : Nat) (e : Int) (seed : Word) : Nat × Cond × Word :=
  let sign := if neg then 2 ^ (n - 1) else 0
  let maxb := 2 ^ (n - 1) - 1
  let (xm, xe) := tfMagnitude n maxb
  let (nm, ne) := tfMagnitude n 1
  if !dyLe m e xm xe then (sign + maxb, condOF ||| condNX, seed)
  else if !dyLe nm ne m e then (sign + 1, condUF ||| condNX, seed)
  else
    let b := tfSearch n m e (n - 1) 0
    let (lm, le) := tfMagnitude n b
    if dyLe m e lm le then (sign + b, 0, seed)
    else
      let (hm, he) := tfMagnitude n (b + 1)
      let z := min e (min le he)
      let x := m * 2 ^ (e - z).toNat
      let lo := lm * 2 ^ (le - z).toNat
      let hi := hm * 2 ^ (he - z).toNat
      if mode = 5 then
        let seed' := draw seed
        let u := seed'.toNat / 2 ^ 32
        let q := (if neg then hi - x else x - lo) * 2 ^ 32 / (hi - lo)
        (sign + (if decide (u < q) == neg then b else b + 1), condNX, seed')
      else
        let up := roundUp mode neg b (2 * (x - lo)) (hi - lo) false
        (sign + (if up then b + 1 else b), condNX, seed)

/-- R81: a value rounded to an integer, and whether inexactly. -/
def roundInt (mode : BitVec 3) (neg : Bool) (m : Nat) (e : Int) : Int × Bool :=
  let (k, inexact) := roundAt mode neg m e 0 false
  (if neg then -(k : Int) else k, inexact)

/-- Width in bits of an integer or other format code (R73). -/
def fmtBits (code : Nat) : Nat :=
  match code with
  | 0 => 8 | 1 => 16 | 2 => 32 | 3 => 64 | 4 => 16 | 5 => 16 | 6 => 32 | 7 => 64 | 8 => 8 | _ => 6

/-- Two's complement reading of `w` bits. -/
def toInt (w x : Nat) : Int := if x % 2 ^ w < 2 ^ (w - 1) then (x % 2 ^ w : Nat) else (x % 2 ^ w : Nat) - (2 : Int) ^ w

/-- Two's complement pattern of `w` bits. -/
def ofInt (w : Nat) (x : Int) : Nat := (x % (2 : Int) ^ w).toNat

/-- An integer clamped to `w` signed bits. -/
def clampInt (w : Nat) (x : Int) : Int := max (-(2 : Int) ^ (w - 1)) (min x ((2 : Int) ^ (w - 1) - 1))

/-- R73: the value of an element code in a format, integers included. -/
def fmtVal (code c : Nat) : Val :=
  if code < 4 then
    let x := toInt (fmtBits code) c
    if x = 0 then .zero false else .fin (decide (x < 0)) x.natAbs 0
  else if code < 8 then (floatFmt code).val c
  else tfVal (fmtBits code) c

/-- R82: FRM codes 0b101 to 0b111 act as RNE. -/
def frmMode (frm : BitVec 3) : BitVec 3 := if frm.toNat < 5 then frm else 0

/-- R84, R86: conversion of code `c` from format `src` to format `dst` in a mode (5 is STO): code, conditions, generator. -/
def convert (src dst : Nat) (mode : BitVec 3) (c : Nat) (seed : Word) : Nat × Cond × Word :=
  if src < 4 ∧ dst < 4 then (ofInt (fmtBits dst) (clampInt (fmtBits dst) (toInt (fmtBits src) c)), 0, seed)
  else
    let tapered := decide (8 ≤ src)
    let v := fmtVal src c
    if dst < 4 then
      let w := fmtBits dst
      match v with
      | .nan _ => (0, condNV, seed)
      | .inf neg => (ofInt w (clampInt w (if neg then -(2 : Int) ^ 80 else (2 : Int) ^ 80)), condNV, seed)
      | .zero _ => (0, 0, seed)
      | .fin neg m e =>
        let (x, inexact) := roundInt mode neg m e
        if clampInt w x = x then (ofInt w x, if inexact then condNX else 0, seed)
        else (ofInt w (clampInt w x), condNV, seed)
    else if dst < 8 then
      let f := floatFmt dst
      match v with
      | .nan sg => (f.nanBits, if sg then condNV else 0, seed)
      | .inf neg => (f.signBit neg + f.infBits, 0, seed)
      | .zero neg => (f.signBit (neg && !tapered), 0, seed)
      | .fin neg m e =>
        if mode = 5 then f.roundSto neg m e seed
        else let (b, k) := f.round mode neg m e false; (b, k, seed)
    else
      let n := fmtBits dst
      match v with
      | .nan _ => (2 ^ (n - 1), if tapered then 0 else condNV, seed)
      | .inf _ => (2 ^ (n - 1), condNV, seed)
      | .zero _ => (0, 0, seed)
      | .fin neg m e => tfRound n mode neg m e seed

/-- A signed dyadic as an integer at exponent `z`. -/
def atExp (neg : Bool) (m : Nat) (e z : Int) : Int :=
  let k : Int := m * 2 ^ (e - z).toNat
  if neg then -k else k

/-- A signalling NaN among the operands (R71). -/
def sigNaN : Val → Bool
  | .nan s => s
  | _ => false

/-- A NaN. -/
def Val.isNaN : Val → Bool
  | .nan _ => true
  | _ => false

/-- An exact sum `x·2^z` rounded; an exact zero is `+0`, or `-0` under RDN (R81). -/
def FloatFmt.roundSum (f : FloatFmt) (mode : BitVec 3) (x z : Int) : Nat × Cond :=
  if x = 0 then (f.signBit (mode == 2), 0)
  else f.round mode (decide (x < 0)) x.natAbs z false

/-- R81, R88: the sum of two values. -/
def FloatFmt.addVal (f : FloatFmt) (mode : BitVec 3) (a b : Val) : Nat × Cond :=
  let nv : Cond := if sigNaN a || sigNaN b then condNV else 0
  match a, b with
  | .nan _, _ | _, .nan _ => (f.nanBits, nv)
  | .inf s, .inf t => if s = t then (f.signBit s + f.infBits, 0) else (f.nanBits, condNV)
  | .inf s, _ | _, .inf s => (f.signBit s + f.infBits, 0)
  | .zero s, .zero t => (f.signBit (if s = t then s else mode == 2), 0)
  | .zero _, .fin s m e | .fin s m e, .zero _ => f.round mode s m e false
  | .fin s m e, .fin t n g =>
    let z := min e g
    f.roundSum mode (atExp s m e z + atExp t n g z) z

/-- A value negated. -/
def Val.neg : Val → Val
  | .nan s => .nan s
  | .inf s => .inf !s
  | .zero s => .zero !s
  | .fin s m e => .fin (!s) m e

/-- The exact product; none for 0 times an infinity. -/
def mulExact (a b : Val) : Option Val :=
  match a, b with
  | .nan s, _ => some (.nan s)
  | _, .nan s => some (.nan s)
  | .inf _, .zero _ | .zero _, .inf _ => none
  | .inf s, .inf t | .inf s, .fin t _ _ | .fin s _ _, .inf t => some (.inf (s != t))
  | .zero s, .zero t | .zero s, .fin t _ _ | .fin s _ _, .zero t => some (.zero (s != t))
  | .fin s m e, .fin t n g => some (.fin (s != t) (m * n) (e + g))

/-- R118: round(a·b). -/
def FloatFmt.mulVal (f : FloatFmt) (mode : BitVec 3) (a b : Val) : Nat × Cond :=
  match mulExact a b with
  | none => (f.nanBits, condNV)
  | some (.nan _) => (f.nanBits, if sigNaN a || sigNaN b then condNV else 0)
  | some (.inf s) => (f.signBit s + f.infBits, 0)
  | some (.zero s) => (f.signBit s, 0)
  | some (.fin s m e) => f.round mode s m e false

/-- R118: round(a·b + c), one rounding (log 8, DESIGN CHOICE). -/
def FloatFmt.fmaVal (f : FloatFmt) (mode : BitVec 3) (a b c : Val) : Nat × Cond :=
  let nv : Cond := if sigNaN a || sigNaN b || sigNaN c then condNV else 0
  match mulExact a b with
  | none =>
    (f.nanBits, match c with
      | .nan false => if Config.fmaQuietInvalid then condNV else 0
      | _ => condNV)
  | some p => let (r, k) := f.addVal mode p c; (r, if c.isNaN || p.isNaN then nv else k)

/-- R118: round(a / b): DZ for a finite nonzero over zero. -/
def FloatFmt.divVal (f : FloatFmt) (mode : BitVec 3) (a b : Val) : Nat × Cond :=
  let nv : Cond := if sigNaN a || sigNaN b then condNV else 0
  match a, b with
  | .nan _, _ | _, .nan _ => (f.nanBits, nv)
  | .inf _, .inf _ | .zero _, .zero _ => (f.nanBits, condNV)
  | .inf s, .zero t | .inf s, .fin t _ _ => (f.signBit (s != t) + f.infBits, 0)
  | .zero s, .inf t | .zero s, .fin t _ _ | .fin s _ _, .inf t => (f.signBit (s != t), 0)
  | .fin s _ _, .zero t => (f.signBit (s != t) + f.infBits, condDZ)
  | .fin s m e, .fin t n g =>
    let k := f.fb + 3 + n.log2 + 1
    f.round mode (s != t) (m * 2 ^ k / n) (e - g - k) (m * 2 ^ k % n != 0)

/-- Integer square root by bits, the highest weighing 2^`i`. -/
def isqrtFrom (x : Nat) : Nat → Nat → Nat
  | 0, r => if (r + 1) * (r + 1) ≤ x then r + 1 else r
  | i + 1, r => if (r + 2 ^ (i + 1)) * (r + 2 ^ (i + 1)) ≤ x then isqrtFrom x i (r + 2 ^ (i + 1)) else isqrtFrom x i r

/-- The integer part of √x. -/
def isqrt (x : Nat) : Nat := isqrtFrom x (x.log2 / 2) 0

/-- R118: round(√a). -/
def FloatFmt.sqrtVal (f : FloatFmt) (mode : BitVec 3) (a : Val) : Nat × Cond :=
  match a with
  | .nan s => (f.nanBits, if s then condNV else 0)
  | .zero s => (f.signBit s, 0)
  | .inf false => (f.infBits, 0)
  | .inf true | .fin true _ _ => (f.nanBits, condNV)
  | .fin false m e =>
    let k := 2 * (f.fb + 3)
    let odd := (e % 2).toNat
    let x := m * 2 ^ (k + odd)
    let r := isqrt x
    f.round mode false r ((e - odd - k) / 2) (r * r != x)

/-- Real order of two values that are not NaN, zeros equal: a < b. -/
def valLt (a b : Val) : Bool :=
  match a, b with
  | .inf s, .inf t => s && !t
  | .inf s, _ => s
  | _, .inf t => !t
  | .zero _, .zero _ => false
  | .zero _, .fin t _ _ => !t
  | .fin s _ _, .zero _ => s
  | .fin s m e, .fin t n g => let z := min e g; decide (atExp s m e z < atExp t n g z)
  | _, _ => false

/-- R88: a minimum (`mx` false) or maximum of codes; -0 orders below +0. -/
def FloatFmt.minMax (f : FloatFmt) (mx : Bool) (a b : Nat) : Nat × Cond :=
  let x := f.val a
  let y := f.val b
  let nv : Cond := if sigNaN x || sigNaN y then condNV else 0
  if x.isNaN && y.isNaN then (f.nanBits, nv)
  else if x.isNaN then (b, nv)
  else if y.isNaN then (a, nv)
  else
    let lt := valLt x y || (match x, y with
      | .zero s, .zero t => s && !t
      | _, _ => false)
    (if lt == mx then b else a, 0)

/-- R88, R119: the relations eq ne lt le gt ge by code, and their conditions. -/
def FloatFmt.compare (f : FloatFmt) (rel a b : Nat) : Bool × Cond :=
  let x := f.val a
  let y := f.val b
  if x.isNaN || y.isNaN then
    (rel == 1, if sigNaN x || sigNaN y || decide (2 ≤ rel) then condNV else 0)
  else
    let lt := valLt x y
    let gt := valLt y x
    ((match rel with
      | 0 => !lt && !gt
      | 1 => lt || gt
      | 2 => lt
      | 3 => !gt
      | 4 => gt
      | _ => !lt), 0)

/-- R187: a value rounded to an integral value in the same format. -/
def FloatFmt.rint (f : FloatFmt) (mode : BitVec 3) (c : Nat) : Nat × Cond :=
  match f.val c with
  | .nan s => (f.nanBits, if s then condNV else 0)
  | .inf _ | .zero _ => (c, 0)
  | .fin neg m e =>
    if 0 ≤ e then (c, 0)
    else
      let (k, inexact) := roundAt mode neg m e 0 false
      let r := if k = 0 then f.signBit neg else (f.round 0 neg k 0 false).1
      (r, if inexact then condNX else 0)

/-- Fixed-point fraction bits of the transcendental evaluations (log 9, UNVERIFIED). -/
def fxBits : Nat := 320

/-- ln 2 in fixed point: the sum of 1/(k·2^k) (log 9, UNVERIFIED). -/
def ln2Fx : Nat := (List.range 330).foldl (fun a k => a + 2 ^ fxBits / ((k + 1) * 2 ^ (k + 1))) 0

/-- e^y in fixed point for 0 ≤ y < 1, by its power series. -/
def expFx (y : Nat) : Nat :=
  ((List.range 90).foldl (fun (a : Nat × Nat) k => let t := a.2 * y / 2 ^ fxBits / (k + 1); (a.1 + t, t))
    (2 ^ fxBits, 2 ^ fxBits)).1

/-- `n` bits of log2 of `x` in [1, 2), by repeated squaring. -/
def log2Fx : Nat → Nat → Nat → Nat
  | 0, _, acc => acc
  | n + 1, x, acc =>
    let y := x * x / 2 ^ fxBits
    if 2 ^ (fxBits + 1) ≤ y then log2Fx n (y / 2) (2 * acc + 1) else log2Fx n y (2 * acc)

/-- R188: 1/a, rounded once RNE. -/
def FloatFmt.rcp (f : FloatFmt) (c : Nat) : Nat × Cond :=
  f.divVal 0 (.fin false 1 0) (f.val c)

/-- R188: 1/√a. -/
def FloatFmt.rsqrt (f : FloatFmt) (c : Nat) : Nat × Cond :=
  match f.val c with
  | .nan s => (f.nanBits, if s then condNV else 0)
  | .zero s => (f.signBit s + f.infBits, condDZ)
  | .inf false => (0, 0)
  | .inf true | .fin true _ _ => (f.nanBits, condNV)
  | .fin false m e =>
    let odd := (e % 2).toNat
    let n := m * 2 ^ odd
    let k := f.fb + 4 + n.log2
    let r := isqrt (2 ^ (2 * k) / n)
    f.round 0 false r (-(k : Int) - (e - odd) / 2) (r * r * n != 2 ^ (2 * k))

/-- R188: 2^a. A magnitude beyond 2^20 overflows or underflows like 2^20. -/
def FloatFmt.exp2 (f : FloatFmt) (c : Nat) : Nat × Cond :=
  match f.val c with
  | .nan s => (f.nanBits, if s then condNV else 0)
  | .zero _ => ((f.round 0 false 1 0 false).1, 0)
  | .inf s => (if s then 0 else f.infBits, 0)
  | .fin neg m e =>
    if 20 < e + m.log2 then
      (if neg then f.round 0 false 1 (-(2 : Int) ^ 20) false else f.round 0 false 1 ((2 : Int) ^ 20) false)
    else
      let z : Int := min e 0
      let x := atExp neg m e z
      let d := (2 : Int) ^ (-z).toNat
      let n := x / d
      let fr := (x % d).toNat
      if fr = 0 then f.round 0 false 1 n false
      else
        let y := fr * ln2Fx / 2 ^ (-z).toNat
        f.round 0 false (expFx y) (n - fxBits) true

/-- R188: log2 a. -/
def FloatFmt.log2 (f : FloatFmt) (c : Nat) : Nat × Cond :=
  match f.val c with
  | .nan s => (f.nanBits, if s then condNV else 0)
  | .zero _ => (f.signBit true + f.infBits, condDZ)
  | .inf false => (f.infBits, 0)
  | .inf true | .fin true _ _ => (f.nanBits, condNV)
  | .fin false m e =>
    let top := e + m.log2
    if m = 2 ^ m.log2 then f.roundSum 0 top 0
    else
      let x := log2Fx 120 (m * 2 ^ fxBits / 2 ^ m.log2) 0
      let total : Int := top * (2 : Int) ^ 120 + (x : Int)
      f.round 0 (decide (total < 0)) (if total < 0 then total.natAbs - 1 else total.natAbs) (-120) true

/-- R203: the windowed sum of terms, W bits below the largest: the FP32 code and the lost-significance flag. -/
def wsum (ts : List Val) (w : Nat) : Nat × Bool :=
  let f := floatFmt 6
  let pinf := ts.any (· == .inf false)
  let ninf := ts.any (· == .inf true)
  if ts.any Val.isNaN || (pinf && ninf) then (f.nanBits, false)
  else if pinf then (f.infBits, false)
  else if ninf then (f.signBit true + f.infBits, false)
  else
    let z := ts.filterMap fun t => match t with
      | .fin s m e => some (s, m, e)
      | _ => none
    match z with
    | [] => (f.signBit (ts.all (· == .zero true)), false)
    | (_, m₀, e₀) :: _ =>
      let top := z.foldl (fun (a : Int) t => max a (t.2.2 + (t.2.1.log2 : Int))) (e₀ + (m₀.log2 : Int))
      let q := top - w
      let (sum, flag) := z.foldl (fun (a : Int × Bool) t =>
        let (k, lost) := roundAt 1 t.1 t.2.1 t.2.2 q false
        (a.1 + (if t.1 then -(k : Int) else k), a.2 || lost)) (0, false)
      if sum = 0 then (0, flag) else ((f.round 0 (decide (sum < 0)) sum.natAbs q false).1, flag)

/-- R79, R202: an element's value under its block's scale byte (127 for none). -/
def scaledVal (code g c : Nat) : Val :=
  if code < 8 then fmtVal code c
  else if g = 255 then .nan false
  else match tfVal (fmtBits code) c with
    | .fin s m e => .fin s m (e + g - 127)
    | v => v

/-- R202: an exact product of element values; 0 times an infinity is NaN. -/
def term (a b : Val) : Val := (mulExact a b).getD (.nan false)

end Sys2Proof.Machine
end

