-- ==== Sys2Proof/Machine/Operands.lean ====
section
/-! DEFINITION. Operand forms of the scalar words: immediates, the low 32 bits of `.w` forms, branch targets, and the
selection by suffix that several words share (04 R109 to R125). -/

namespace Sys2Proof.Machine

/-- A sign-extended immediate (R4). -/
def simm (x : BitVec n) : Word := x.signExtend 64

/-- A zero-extended immediate (R4). -/
def zimm (x : BitVec n) : Word := x.zeroExtend 64

/-- The low 32 bits, sign-extended: what a `.w` form reads or writes. -/
def sextW (x : Word) : Word := (x.truncate 32).signExtend 64

/-- The low 32 bits, zero-extended. -/
def zextW (x : Word) : Word := (x.truncate 32).zeroExtend 64

/-- R109: an exact integer clamped to signed 64 bits. -/
def satS (x : Int) : Word := BitVec.ofInt 64 (clampInt 64 x)

/-- R109: an exact integer clamped to unsigned 64 bits. -/
def satU (x : Int) : Word := BitVec.ofInt 64 (max 0 (min x (2 ^ 64 - 1)))

/-- R109: the sum under the four suffixes. -/
def addBy (u : BitVec 2) (a b : Word) : Word :=
  match u.toNat with
  | 0 => a + b
  | 1 => sextW (a + b)
  | 2 => satS (a.toInt + b.toInt)
  | _ => satU ((a.toNat : Int) + b.toNat)

/-- R109: the difference under the four suffixes. -/
def subBy (u : BitVec 2) (a b : Word) : Word :=
  match u.toNat with
  | 0 => a - b
  | 1 => sextW (a - b)
  | 2 => satS (a.toInt - b.toInt)
  | _ => satU ((a.toNat : Int) - b.toNat)

/-- R109: the low part of a product. -/
def mulBy (u : BitVec 1) (a b : Word) : Word := if u = 0 then a * b else sextW (a * b)

/-- R109: bits 127 to 64 of the product: signed, unsigned, or `a` signed and `b` unsigned. -/
def mulhBy (u : BitVec 2) (a b : Word) : Word :=
  let x : Int := if u = 1 then a.toNat else a.toInt
  let y : Int := if u = 0 then b.toInt else b.toNat
  BitVec.ofInt 64 (x * y / 2 ^ 64)

/-- R110: quotient and remainder. -/
def divRem (u : BitVec 1) (a b : Word) : Word × Word :=
  if b = 0 then (BitVec.allOnes 64, a)
  else if u = 1 then (BitVec.ofNat 64 (a.toNat / b.toNat), BitVec.ofNat 64 (a.toNat % b.toNat))
  else (BitVec.ofInt 64 (a.toInt.tdiv b.toInt), BitVec.ofInt 64 (a.toInt.tmod b.toInt))

/-- R109: left shift; the 32-bit form takes the low five bits of the amount. -/
def shlBy (w : Bool) (a : Word) (n : Nat) : Word :=
  if w then (a.truncate 32 <<< (n % 32)).signExtend 64 else a <<< (n % 64)

/-- R109: logical right shift. -/
def shrBy (w : Bool) (a : Word) (n : Nat) : Word :=
  if w then ((a.truncate 32 : BitVec 32) >>> (n % 32)).signExtend 64 else a >>> (n % 64)

/-- R109: arithmetic right shift. -/
def sraBy (w : Bool) (a : Word) (n : Nat) : Word :=
  if w then ((a.truncate 32 : BitVec 32).sshiftRight (n % 32)).signExtend 64 else a.sshiftRight (n % 64)

/-- R109: the smaller or larger, signed or (`u` = 1) unsigned. -/
def pickBy (u : BitVec 1) (larger : Bool) (a b : Word) : Word :=
  let lt := if u = 1 then decide (a.toNat < b.toNat) else decide (a.toInt < b.toInt)
  if lt == larger then b else a

/-- Leading zeros of the low `n` bits. -/
def leading (x : Nat) : Nat → Nat
  | 0 => 0
  | n + 1 => if x / 2 ^ n % 2 = 1 then 0 else 1 + leading x n

/-- Set bits among the low `n`. -/
def ones (x : Nat) : Nat → Nat
  | 0 => 0
  | n + 1 => x / 2 ^ n % 2 + ones x n

/-- The width a one-bit suffix names. -/
def widthBy (u : BitVec 1) : Nat := if u = 1 then 32 else 64

/-- R112: the relations eq ne lt ge ltu geu on full or low 32 bits. -/
def cmpBy (cond : BitVec 3) (w : BitVec 1) (a b : Word) : Bool :=
  let n := widthBy w
  let ua := a.toNat % 2 ^ n
  let ub := b.toNat % 2 ^ n
  match cond.toNat with
  | 0 => ua == ub
  | 1 => ua != ub
  | 2 => decide (toInt n ua < toInt n ub)
  | 3 => decide (toInt n ub ≤ toInt n ua)
  | 4 => decide (ua < ub)
  | _ => decide (ub ≤ ua)

/-- R115: the relations eq ne lt ltu of `cmpi`. -/
def cmpiBy (cond : BitVec 2) (a b : Word) : Bool :=
  match cond.toNat with
  | 0 => a == b
  | 1 => a != b
  | 2 => decide (a.toInt < b.toInt)
  | _ => decide (a.toNat < b.toNat)

/-- R113: the predicate operations. -/
def plogBy (op : BitVec 5) (a b : Bool) : Bool :=
  match op.toNat with
  | 0 => a && b
  | 1 => a || b
  | 2 => a != b
  | 3 => a && !b
  | 4 => !(a && b)
  | 5 => !(a || b)
  | _ => a == b

/-- R121: a branch's target as an integer. -/
def sbTarget (s : State) (off : BitVec 20) : Int := s.core.ctx.sq.pc.toNat + off.toInt

/-- R121, R122: PC + 2 as a link. -/
def linkValue (s : State) : Word := BitVec.ofNat 64 (s.core.ctx.sq.pc.toNat + 2)

/-- R118: the format `P` names. -/
def floatP (p : BitVec 1) : FloatFmt := if p = 1 then ⟨8, 23⟩ else ⟨11, 52⟩

/-- R118: an operand's value: all 64 bits, or bits 31 to 0. -/
def fopVal (p : BitVec 1) (x : Word) : Val :=
  (floatP p).val (if p = 1 then x.toNat % 2 ^ 32 else x.toNat)

/-- R80, R82, R118: the rounding mode; code 0b111 is DYN, which is FRM. -/
def fmode (s : State) (rm : BitVec 3) : BitVec 3 := if rm = 7 then frmMode s.core.ctx.regs.frm else rm

/-- R93, R118: a floating result and its conditions, after the latency given. -/
def State.floatResult (s : State) (lat : Nat) (sd : BitVec 5) (r : Nat × Cond) : Out :=
  .next ((s.push lat (.sreg sd (BitVec.ofNat 64 r.1))).push lat (.flags r.2)).retire

end Sys2Proof.Machine
end

