-- ==== Sys2Proof/Machine/Csr.lean ====
section
/-! DEFINITION. The CSRs: what each selector reads, what a write of a task or in system mode does to each field (00 R6, 04 R105 to R108, and the
owners' tables), and the three CSR words (04 R126). -/

namespace Sys2Proof.Machine

/-- R105: a CSR only system mode may name: CLCTL0-3, CRZ0-3 (R395), DBGCTL and BKCYC (R404). -/
def csrSystem (c : BitVec 10) : Bool :=
  let n := c.toNat
  (decide (0x84 ≤ n) && decide (n ≤ 0x87)) || (decide (0x8C ≤ n) && decide (n ≤ 0x8F)) || n == 0xA0 || n == 0xA2

/-- Bits given lowest first, as a number. -/
def ofBits : List Bool → Nat
  | [] => 0
  | b :: r => b.toNat + 2 * ofBits r

/-- R392: the level a core reads: as it stood at the latest tick begun 2 ticks before the cycle. -/
def levelSeen (d : Die) (tick : Nat) : Nat := if d.levelAt + 2 ≤ tick then d.level else d.levelWas

/-- R280: the TICK number a core reads. -/
def tickSeen (c : Core) : Nat := c.tick - 2

/-- R287: BARST. -/
def barst (c : Ctx) : Nat :=
  (c.bars.toList.zipIdx.map fun b =>
    (b.1.out % 4 + b.1.arr % 2 * 4 + b.1.absent.toNat * 8) * 16 ^ b.2).sum

/-- R272: BSTAT. -/
def bstat (c : Ctx) : Nat :=
  (c.binds.toList.zipIdx.map fun b =>
    (b.1.valid.toNat + b.1.held.toNat * 2 + b.1.unheld.toNat * 4 + b.1.rfail.toNat * 8) * 16 ^ b.2).sum

/-- R414: the key of a head counter: the index counts for class 1 only. -/
def headKey (queue cls index : Nat) : Nat := (queue * 4 + cls) * 64 + (if cls = 1 then index else 0)

/-- What a selector reads at the start of the cycle. -/
def State.csrRead (s : State) (sel : BitVec 10) : Word :=
  let c := s.core.ctx
  let d := s.myDie
  let n := sel.toNat
  let t := c.trap
  if n = 0x00 then BitVec.ofNat 64 (c.regs.frm.toNat * 256 + c.regs.flags.toNat)
  else if n = 0x01 then c.regs.seed
  else if n = 0x02 then BitVec.ofNat 64 (ofBits ((List.range 8).map fun i => c.regs.getP (BitVec.ofNat 3 i)))
  else if n = 0x03 then BitVec.ofNat 64 (ofBits c.loops.act.toList)
  else if n < 0x08 then (vat c.loops.lb 0 (n - 4)).zeroExtend 64
  else if n < 0x0C then (vat c.loops.le 0 (n - 8)).zeroExtend 64
  else if n < 0x10 then (vat c.loops.lc 0 (n - 12)).zeroExtend 64
  else if n = 0x20 then c.misc.part
  else if n = 0x21 then c.misc.linfo
  else if n = 0x22 then c.misc.energy
  else if n < 0x48 then vat c.domain 0 (n - 0x40)
  else if n = 0x48 then BitVec.ofNat 64 (barst c)
  else if n = 0x49 then c.misc.zltsel.zeroExtend 64
  else if n = 0x4A then
    let dest := c.misc.zltsel.toNat
    if dest = d.num ∨ 400 ≤ dest then 0 else s.fuses.zlt.read 0 (d.num * 512 + dest)
  else if n < 0x58 then
    let b := c.bar (n - 0x50)
    BitVec.ofNat 64 (b.arr % 2 ^ 32 * 2 ^ 32 + b.obs % 2 ^ 32)
  else if n = 0x60 then t.cause
  else if n = 0x61 then t.pc
  else if n = 0x62 then t.val
  else if n = 0x63 then t.vec
  else if n = 0x64 then BitVec.ofNat 64 c.replay.length
  else if n = 0x65 then BitVec.ofNat 64 (t.idleRem * 2 ^ 32 + t.reissue.toNat * 2 + t.inh.toNat)
  else if n = 0x66 then t.scr
  else if n = 0x67 then BitVec.ofNat 64 t.cyc
  else if n = 0x80 then
    BitVec.ofNat 64 (d.fmhz * 2 ^ 52 + d.skip * 2 ^ 48 + levelSeen d s.core.tick * 2 ^ 32 + d.acked.toNat * 2 ^ 31
      + d.strcnt % 2 ^ 16)
  else if n = 0x81 then BitVec.ofNat 64 (d.demands % 2 ^ 32 * 2 ^ 32 + d.skips % 2 ^ 32)
  else if n = 0x88 then d.margin
  else if n = 0xA1 then
    let g := s.core.dbg
    BitVec.ofNat 64 (g.stopped.toNat * 2 ^ 63 + g.reason.toNat * 2 ^ 60 + g.stepCyc % 2 ^ 16 * 2 ^ 32 + g.lost % 2 ^ 32)
  else if n = 0xA3 then c.misc.wctl
  else if n = 0xA4 then c.misc.prctl
  else if n = 0xA5 then c.misc.prsel
  else if n = 0xA6 then
    let p := c.misc.prsel
    BitVec.ofNat 64 (s.core.heads.read 0 (headKey (wbits p 8 3) (wbits p 6 2) (wbits p 0 6)) % 2 ^ 48)
  else if n = 0xC0 then c.misc.monst
  else if n = 0xC1 then c.misc.mondiff
  else if n = 0xE0 then
    BitVec.ofNat 64 (vat c.ackc 0 0 + vat c.ackc 0 1 * 2 ^ 16 + vat c.ackc 0 2 * 2 ^ 32 + vat c.ackc 0 3 * 2 ^ 48)
  else if n = 0xE1 then BitVec.ofNat 64 (bstat c)
  else if n = 0xF0 then
    BitVec.ofNat 64 (s.conn.modnum * 2 ^ 48 + s.conn.epoch * 2 ^ 32 + s.conn.members.toNat)
  else if n = 0xF1 then BitVec.ofNat 64 (s.conn.halted.toNat * 2 ^ 32 + s.conn.dead.toNat)
  else if n = 0xF2 then BitVec.ofNat 64 (s.conn.setlim * 2 ^ 32 + s.conn.modlim)
  else 0

/-- R404: a read of DBGST returns LOST and clears it. -/
def State.clearLost (s : State) : State := { s with core := { s.core with dbg := { s.core.dbg with lost := 0 } } }

/-- What a read does besides answering: RC fields. -/
def State.csrReadEffect (s : State) (sel : BitVec 10) : State := if sel = 0xA1 then s.clearLost else s

/-- R414: every counter to zero. -/
def Core.clearHeads (c : Core) : Core := { c with heads := [] }

/-- R6: the part of a write whose own cycle matters: W1C bits, which a hardware set of the same cycle sets again, and
SEED, which the draws of the same cycle step (R85) (log 52, DEDUCED). -/
def Ctx.csrWriteNow (c : Ctx) (sel : BitVec 10) (w : Word) : Ctx :=
  if sel = 0x000 then { c with regs := { c.regs with flags := c.regs.flags &&& ~~~(w.truncate 5) } }
  else if sel = 0x001 then { c with regs := { c.regs with seed := w } }
  else if sel = 0x048 then
    { c with bars := c.bars.eachIdx fun i b => { b with absent := b.absent && wbits w (4 * i + 3) 1 == 0 } }
  else if sel = 0x0C0 then
    { c with misc := { c.misc with monst := if wbits w 63 1 = 1 then c.misc.monst &&& ~~~(BitVec.ofNat 64 (2 ^ 63)) else c.misc.monst } }
  else if sel = 0x0E1 then
    { c with binds := c.binds.eachIdx fun i b =>
        { b with unheld := b.unheld && wbits w (4 * i + 2) 1 == 0, rfail := b.rfail && wbits w (4 * i + 3) 1 == 0 } }
  else c

/-- The part of a write that performs at the end of its cycle (R126): fields a task may write, the rest kept (R6, R7). -/
def Core.csrPerform (k : Core) (sel : BitVec 10) (w : Word) : Core :=
  let c := k.ctx
  let n := sel.toNat
  if n = 0x00 then { k with ctx := { c with regs := { c.regs with frm := w.extractLsb' 8 3 } } }
  else if n = 0x02 then
    { k with ctx := { c with regs := { c.regs with p := c.regs.p.eachIdx fun i x => if i = 0 then x else w.getLsbD i } } }
  else if 0x0C ≤ n ∧ n < 0x10 then
    { k with ctx := { c with loops := { c.loops with lc := vput c.loops.lc (n - 12) (w.truncate 32) } } }
  else if n = 0x49 then { k with ctx := { c with misc := { c.misc with zltsel := w.truncate 9 } } }
  else if n = 0x61 then
    { k with ctx := { c with trap := { c.trap with
        pc := BitVec.ofNat 64 (wbits w 31 1 * 2 ^ 31 + wbits w 16 13 * 2 ^ 16 + wbits w 0 13) } } }
  else if n = 0x63 then
    { k with ctx := { c with trap := { c.trap with vec := BitVec.ofNat 64 (wbits w 63 1 * 2 ^ 63 + wbits w 0 13) } } }
  else if n = 0x66 then { k with ctx := { c with trap := { c.trap with scr := w } } }
  else if n = 0xA3 then { k with ctx := { c with misc := { c.misc with wctl := BitVec.ofNat 64 (wbits w 59 5 * 2 ^ 59) } } }
  else if n = 0xA4 then
    let k := if wbits w 62 1 = 1 then k.clearHeads else k
    { k with ctx := { c with misc := { c.misc with prctl := BitVec.ofNat 64 (wbits w 63 1 * 2 ^ 63 + wbits w 0 32) } } }
  else if n = 0xA5 then { k with ctx := { c with misc := { c.misc with prsel := BitVec.ofNat 64 (wbits w 0 11) } } }
  else k

/-- R103: a count a write is about to replace stays in sight of the next cycle's check. -/
def Core.keepCount (k : Core) (sel : BitVec 10) : Core :=
  let n := sel.toNat
  if 0x0C ≤ n ∧ n < 0x10 then
    let was : Eff := .lcHeld (n - 12) (vat k.ctx.loops.lc 0 (n - 12))
    { k with ctx := { k.ctx with pend := k.ctx.pend ++ [⟨1, none, was⟩] } }
  else k

/-! System mode (R6, R21, R105, R108) -/

/-- R402: CRZ of a cluster: what its monitors have measured, SLACK as fused until they have. -/
def State.crazing (s : State) (die c : Nat) : Word :=
  let (delta, slack, n) := Config.crazing die c s.tick
  if n % 2 ^ 16 = 0 then BitVec.ofNat 64 (s.fuses.slack.read 0 (4 * die + c) % 2 ^ 16 * 2 ^ 16)
  else BitVec.ofNat 64 (delta % 2 ^ 16 * 2 ^ 48 + slack % 2 ^ 16 * 2 ^ 16 + n % 2 ^ 16)

/-- R395, R404: a CSR of the focus core as system mode reads it. -/
def State.sysRead (s : State) (sel : BitVec 10) : Word :=
  let n := sel.toNat
  let d := s.core.dbg
  let die := s.core.cid / 128
  if 0x84 ≤ n ∧ n ≤ 0x87 then
    let k := vat (s.die die).clusters .zero (n - 0x84)
    BitVec.ofNat 64 (k.railoff.toNat * 2 ^ 7 + k.clkoff.toNat * 2 ^ 6 + k.retained.toNat * 2 ^ 5 + k.drained.toNat * 2 ^ 4
      + k.closing.toNat * 2 ^ 3)
  else if 0x8C ≤ n ∧ n ≤ 0x8F then s.crazing die (n - 0x8C)
  else if n = 0xA0 then
    BitVec.ofNat 64 (d.zone.toNat * 2 ^ 60 + d.bkstop.toNat * 2 ^ 59 + d.bken.toNat * 2 ^ 58 + d.steptrap.toNat * 2 ^ 57)
  else if n = 0xA2 then d.bkcyc
  else s.csrRead sel

/-- R108, R130, R284: the fields of a core's context that only system mode may write. -/
def Core.sysPerform (k : Core) (sel : BitVec 10) (w : Word) : Core :=
  let n := sel.toNat
  let c := k.ctx
  let keep := fun (old mask : Word) => (old &&& ~~~mask) ||| (w &&& mask)
  if 4 ≤ n ∧ n < 8 then { k with ctx := { c with loops := { c.loops with lb := vput c.loops.lb (n - 4) (w.truncate 13) } } }
  else if 8 ≤ n ∧ n < 12 then { k with ctx := { c with loops := { c.loops with le := vput c.loops.le (n - 8) (w.truncate 13) } } }
  else if n = 0x20 then { k with ctx := { c with misc := { c.misc with part := keep c.misc.part 0x87FF07FF000FFFFF } } }
  else if 0x40 ≤ n ∧ n < 0x48 then
    let mask : Word := if 6 ≤ wbits w 60 3 then 0x81F80000000000FF else 0xF1F80000000000FF
    { k with ctx := { c with domain := vmod c.domain 0 (n - 0x40) fun d => keep d mask } }
  else if n = 0xA0 then
    { k with dbg := { k.dbg with
      zone := wbits w 60 1 == 1, bkstop := wbits w 59 1 == 1, bken := wbits w 58 1 == 1, steptrap := wbits w 57 1 == 1 } }
  else if n = 0xA2 then { k with dbg := { k.dbg with bkcyc := w } }
  else k.csrPerform sel w

/-- R399, R404: the actions that a system-mode write starts. -/
def sysActions (cid : Nat) (sel : BitVec 10) (w : Word) : List Instr :=
  let n := sel.toNat
  let die := cid / 128
  if 0x84 ≤ n ∧ n ≤ 0x87 then
    [.clusterClosing die (n - 0x84) (wbits w 3 1 == 1)]
      ++ (if wbits w 0 1 = 1 then [.clusterGate die (n - 0x84)] else [])
      ++ (if wbits w 63 1 = 1 then [.clusterWake die (n - 0x84)] else [])
  else if n = 0xA0 then
    if wbits w 61 1 = 1 then [.debugStep cid] else if wbits w 62 1 = 1 then [.debugResume cid]
    else if wbits w 63 1 = 1 then [.debugStopreq cid] else []
  else []

/-- A write to a CSR of a core in system mode, as it performs. -/
def State.sysWrite (s : State) (cid : Nat) (sel : BitVec 10) (w : Word) : State :=
  (sysActions cid sel w).foldl (fun s i => s.post i) (s.onCore cid (·.sysPerform sel w))

/-- R105: the core runs words in system mode, as a die's service core does (log 73, DESIGN CHOICE). -/
def State.sys (s : State) : Bool := s.core.ctx.sys

/-- R105: the word may name the CSR (log 73, DESIGN CHOICE). -/
def State.mayName (s : State) (csr : BitVec 10) : Bool := !csrSystem csr || s.sys

/-- What a CSR word of the focus core reads. -/
def State.csrValue (s : State) (csr : BitVec 10) : Word := if s.sys then s.sysRead csr else s.csrRead csr

/-! The words (R126) -/

/-- R126: a task's write, issued (log 52, DEDUCED). -/
def State.csrWrite (s : State) (sel : BitVec 10) (w : Word) : State :=
  (s.ctx (·.csrWriteNow sel w)).push 1 (.csr sel w)

/-- R6, R126: a write performs at the end of its cycle. -/
def State.csrPerforms (s : State) (sel : BitVec 10) (w : Word) : State :=
  let s : State := { s with core := s.core.keepCount sel }
  if s.sys then s.sysWrite s.core.cid sel w else { s with core := s.core.csrPerform sel w }

/-- R126 `csrr`. -/
def execCsrr (sd : BitVec 5) (g : BitVec 4) (csr : BitVec 10) (s : State) : Out :=
  s.guarded g fun _ =>
    if !s.mayName csr then s.wordFault causePrivilege 0
    else .next ((s.push 1 (.sreg sd (s.csrValue csr))).csrReadEffect csr).retire

/-- R126 `csrw`. -/
def execCsrw (sa : BitVec 5) (g : BitVec 4) (csr : BitVec 10) (s : State) : Out :=
  s.guarded g fun _ =>
    if !s.mayName csr then s.wordFault causePrivilege 0
    else .next (s.csrWrite csr (s.reg sa)).retire

/-- R126 `csrx`. -/
def execCsrx (sd sa : BitVec 5) (g : BitVec 4) (csr : BitVec 10) (s : State) : Out :=
  s.guarded g fun _ =>
    if !s.mayName csr then s.wordFault causePrivilege 0
    else .next (((s.push 1 (.sreg sd (s.csrValue csr))).csrReadEffect csr).csrWrite csr (s.reg sa)).retire

/-- R404, R416: the clearing that a read of DBGST makes: through DBGDATA, on the stopped core whose DBGST DBGSEL selects; else on the
core whose word reads it. -/
def execDbgstLostRead (s : State) : Out :=
  let cid := wbits s.svc.dbgsel 0 16
  if wbits s.svc.dbgsel 16 10 = 0xA1 ∧ (s.coreOf cid).dbg.stopped then
    .next (s.onCore cid fun k => { k with dbg := { k.dbg with lost := 0 } })
  else .next s.clearLost

end Sys2Proof.Machine
end

