-- ==== Sys2Proof/Machine/Streams.lean ====
section
/-! DEFINITION. Stream registers and the blocks they describe (06 R156 to R158), operand images in ring stages (08 R200), and
the 64-byte chunks of R167. -/

namespace Sys2Proof.Machine

/-- A word of a stream register. -/
def Stream.word (q : Stream) (i : Nat) : Word := vat q.w 0 i

/-- A signed 32-bit field. -/
def wsigned (w : Word) (lo : Nat) : Int := toInt 32 (wbits w lo 32)

/-- R156. -/
def Stream.base (q : Stream) : Nat := wbits (q.word 0) 0 57
/-- R156: 1 pool, 0 device memory. -/
def Stream.inPool (q : Stream) : Bool := wbits (q.word 1) 10 1 == 1
/-- R156. -/
def Stream.scInPool (q : Stream) : Bool := wbits (q.word 1) 11 1 == 1
/-- R156. -/
def Stream.post (q : Stream) : Bool := wbits (q.word 1) 12 1 == 1
/-- R156: dimensions used. -/
def Stream.dims (q : Stream) : Nat := wbits (q.word 1) 8 2 + 1
/-- R156. -/
def Stream.sfmt (q : Stream) : Nat := wbits (q.word 1) 4 4
/-- R156. -/
def Stream.fmt (q : Stream) : Nat := wbits (q.word 1) 0 4
/-- R156. -/
def Stream.ext (q : Stream) (i : Nat) : Nat := wbits (q.word 2) (16 * i) 16
/-- R156. -/
def Stream.stride (q : Stream) (i : Nat) : Int :=
  match i with
  | 1 => wsigned (q.word 3) 0
  | 2 => wsigned (q.word 3) 32
  | _ => wsigned (q.word 4) 0
/-- R156. -/
def Stream.scStride (q : Stream) : Int := wsigned (q.word 4) 32
/-- R156. -/
def Stream.scBase (q : Stream) : Nat := wbits (q.word 5) 0 57

/-- R74, R157: bytes of one row of E0 elements. -/
def Stream.rowBytes (q : Stream) : Nat := if q.fmt = 9 then q.ext 0 * 3 / 4 else q.ext 0 * fmtBits q.fmt / 8

/-- R157: rows, the product of the extents above dimension 0. -/
def Stream.rows (q : Stream) : Nat :=
  (if 2 ≤ q.dims then q.ext 1 else 1) * (if 3 ≤ q.dims then q.ext 2 else 1) * (if 4 ≤ q.dims then q.ext 3 else 1)

/-- R157: B. -/
def Stream.dataBytes (q : Stream) : Nat := q.rows * q.rowBytes

/-- R157: blocks of a row, nb. -/
def Stream.blocks (q : Stream) : Nat := (q.ext 0 + 31) / 32

/-- A multiple of 16 at or above. -/
def align16 (n : Nat) : Nat := (n + 15) / 16 * 16

/-- R157: bytes carried, the scale area included when scales travel. -/
def Stream.carried (q : Stream) (scl : Bool) : Nat :=
  if scl then align16 q.dataBytes + q.rows * q.blocks else q.dataBytes

/-- A place of a block: in a pool or in device memory, at an address computed exactly. -/
structure Place where
  pool : Bool
  addr : Int
deriving DecidableEq, Repr

/-- R157: bytes from BASE to row `r`, by its index in (e1, e2, e3). -/
def Stream.rowOff (q : Stream) (r : Nat) : Int :=
  let n1 := if 2 ≤ q.dims then q.ext 1 else 1
  let n2 := if 3 ≤ q.dims then q.ext 2 else 1
  let e1 := r % n1
  let e2 := r / n1 % n2
  let e3 := r / n1 / n2
  (e1 : Int) * q.stride 1 + (e2 : Int) * q.stride 2 + (e3 : Int) * q.stride 3

/-- R157: where the byte at carried position `b` lies; none in the gap before the scale area. -/
def Stream.place (q : Stream) (off soff : Int) (b : Nat) : Option Place :=
  if b < q.dataBytes then
    some ⟨q.inPool, q.base + off + q.rowOff (b / q.rowBytes) + (b % q.rowBytes : Nat)⟩
  else if b < align16 q.dataBytes then none
  else some ⟨q.scInPool, q.scBase + soff + (b - align16 q.dataBytes : Nat) * q.scStride⟩

/-- R158: the checks of a captured register, given whether the entry fetches scales. -/
def Stream.ok (q : Stream) (scl : Bool) : Bool :=
  decide (q.fmt < 10) && decide (q.sfmt < 2) && (q.sfmt == 0 || q.fmt == 8 || q.fmt == 9) && !(scl && q.sfmt == 0)
    && ((List.range q.dims).all fun i => q.ext i != 0) && (q.fmt != 9 || q.ext 0 % 4 == 0)

/-- R158: a post-incremented field of 57 bits. -/
def bump (a : Nat) (d : Int) : Nat := (((a : Int) + d) % 2 ^ 57).toNat

/-- R158: the register after a placement that post-increments. -/
def Stream.bumped (q : Stream) : Stream :=
  if q.post then
    ⟨(vput (vput q.w 0 (BitVec.ofNat 64 (bump q.base (wsigned (q.word 6) 0)))) 5
      (BitVec.ofNat 64 (bump q.scBase (wsigned (q.word 6) 32))))⟩
  else q

/-- R156: the bits of a word that are fields. -/
def streamMask (w : Nat) : Word :=
  if w = 0 ∨ w = 5 then BitVec.ofNat 64 (2 ^ 57 - 1) else if w = 1 then BitVec.ofNat 64 (2 ^ 13 - 1) else BitVec.allOnes 64

/-- A stream register by number. -/
def Ctx.stream (c : Ctx) (q : Nat) : Stream := vat c.streams .zero q

/-- The low 32 bits of an exact address, or of 64 as TVAL holds it. -/
def addrWord (a : Int) : Word := BitVec.ofInt 64 a

/-- R132: a place in the issuer's pool that an engine access admits. -/
def engineOk (p : Word) (write : Bool) (a : Int) : Bool :=
  decide (0 ≤ a) && admits p (if write then .engineWrite else .engineRead) a.toNat

/-! Ring stages -/

/-- A ring by number. -/
def Ctx.ring (c : Ctx) (r : Nat) : Ring := vat c.rings .none r

/-- A ring changed. -/
def Ctx.onRing (c : Ctx) (r : Nat) (f : Ring → Ring) : Ctx := { c with rings := vmod c.rings .none r f }

/-- Stages of a ring that started entries have taken and not yet settled, on one side. -/
def Ctx.taken (c : Ctx) (r : Nat) (fill : Bool) : List Nat :=
  let g := (c.ring r).gen
  (c.run.flatMap fun e => e.claims.filter fun k => k.ring == r && k.fill == fill && k.moves && k.gen == g).flatMap
    fun k => (List.range k.n).map fun i => (k.first + i) % k.count

/-- R160: the stage the next filling (tail) or draining (head) start meets: past those already taken. -/
def Ctx.nextStage (c : Ctx) (r : Nat) (fill : Bool) : Nat :=
  let g := c.ring r
  ((if fill then g.tail else g.head) + (c.taken r fill).length) % max g.count 1

/-- R150 condition 4: `n` stages from a stage on, empty (or full) and owned by the unit, and not taken. -/
def Ctx.stagesReady (c : Ctx) (r : Nat) (fill : Bool) (owner : BitVec 3) (first n : Nat) : Bool :=
  let g := c.ring r
  g.defd && decide (n ≤ g.count) && (List.range n).all fun i =>
    let st := (first + i) % max g.count 1
    vat g.full false st != fill && vat g.owner 0 st == owner && !(c.taken r fill).contains st

/-- A claim on `n` stages of ring `r` from stage `first`. -/
def Ctx.claim (c : Ctx) (r first n : Nat) (fill moves : Bool) : Claim :=
  let g := c.ring r
  ⟨r, first, n, fill, moves, g.gen, g.base, g.size, g.count⟩

/-- R200: the pool address of byte `b` of an image in the stages of a claim. -/
def Claim.addr (k : Claim) (b : Nat) : Nat :=
  k.base + (k.first + b / max k.size 1) % max k.count 1 * k.size + b % max k.size 1

/-- Stages an image of `n` bytes takes. -/
def Ring.need (g : Ring) (n : Nat) : Nat := (n + g.size - 1) / max g.size 1

/-- R160: the state changes that settle a claim, one for each of its stages. -/
def Claim.settle (k : Claim) : List Eff :=
  (List.range k.n).map fun i =>
    if k.fill then .ringFill k.ring ((k.first + i) % max k.count 1) k.gen
    else .ringDrain k.ring ((k.first + i) % max k.count 1) k.gen

/-- R167: the carried positions of chunk `k`, of `w` bytes, in a block of `n`. -/
def chunkRange (w k n : Nat) : List Nat := (List.range (min w (n - w * k))).map (· + w * k)

/-- Chunks of `w` bytes. -/
def chunks (w n : Nat) : Nat := (n + w - 1) / w

/-! Accumulators -/

/-- An accumulator descriptor by number. -/
def Ctx.acc (c : Ctx) (a : Nat) : AccDesc := vat c.accs .none a

/-- R195: rows. -/
def AccDesc.rows (d : AccDesc) : Nat := 16 * 2 ^ d.mcode
/-- R195: columns. -/
def AccDesc.cols (d : AccDesc) : Nat := 16 * (d.n + 1)
/-- R196: elements. -/
def AccDesc.elems (d : AccDesc) : Nat := d.rows * d.cols
/-- R196: where a tile's byte `b` lies. -/
def AccDesc.addr (d : AccDesc) (part : Word) (b : Nat) : Nat := spTop part + 1024 * d.abase + b

/-- R173: where byte `b` of vector register `v` lies. -/
def vregAddr (part : Word) (v b : Nat) : Nat := vBase part + 256 * v + b

end Sys2Proof.Machine
end

