-- ==== Sys2Proof/Machine/Template.lean ====
section
/-! DEFINITION. Template images: the fields of each op8 (02 R56, R57; 06 R165; 08 R212; 09 R222; 10 R253; 13 R308; 14 R328),
amendment of a working copy and its checks (02 R52, R58), and the captures and checks made at placement (06 R158, R161;
08 R199 to R201, R216; 09 R223; 10 R253). -/

namespace Sys2Proof.Machine

/-- R57: the op8 values an engine accepts. -/
def opAccepted (u : Unit7) (op : Nat) : Bool :=
  match u with
  | .ld => decide (op ≤ 2) || op == 6
  | .st => (decide (3 ≤ op) && decide (op ≤ 6))
  | .mx => op == 6 || (decide (0x20 ≤ op) && decide (op ≤ 0x26))
  | .cp0 | .cp1 => (decide (0x40 ≤ op) && decide (op ≤ 0x44)) || op == 0x50 || op == 0x51
      || (decide (0x58 ≤ op) && decide (op ≤ 0x5A))
  | .nm => decide (0x60 ≤ op) && decide (op ≤ 0x66)
  | .vx => false

/-- A field of an image: its lowest bit, width, and whether it is signed. -/
structure Fld where
  lo : Nat
  n : Nat
  signed : Bool
deriving DecidableEq, Repr

/-- R165: LD, ST and `q.tok` fields. -/
def fldLdSt (op f : Nat) : Option Fld :=
  if op = 6 then none
  else match f with
    | 2 => some ⟨84, 4, false⟩
    | 3 => some ⟨79, 5, false⟩
    | 4 => some ⟨63, 16, false⟩
    | 5 => some ⟨47, 16, true⟩
    | 6 => if op = 0 then some ⟨46, 1, false⟩ else none
    | 7 => if op = 0 then some ⟨30, 16, true⟩ else none
    | 8 => if op = 5 then some ⟨27, 3, false⟩ else none
    | _ => none

/-- R212: MX fields. -/
def fldMx (op f : Nat) : Option Fld :=
  if f = 2 then some ⟨85, 3, false⟩
  else if op ≤ 0x22 then
    match f with
    | 3 => some ⟨83, 2, false⟩
    | 4 => some ⟨77, 6, false⟩
    | 5 => if op = 0x22 then none else some ⟨74, 3, false⟩
    | 6 => some ⟨71, 3, false⟩
    | 7 => some ⟨68, 3, false⟩
    | 8 => some ⟨64, 4, false⟩
    | 9 => some ⟨60, 4, false⟩
    | 10 => some ⟨59, 1, false⟩
    | 11 => some ⟨58, 1, false⟩
    | 12 => some ⟨56, 2, false⟩
    | 13 => some ⟨53, 3, false⟩
    | 14 => if op = 0x22 then some ⟨52, 1, false⟩ else none
    | _ => none
  else if op = 0x23 then
    match f with
    | 3 => some ⟨83, 2, false⟩
    | 4 => some ⟨77, 6, false⟩
    | 5 => some ⟨76, 1, false⟩
    | 6 => some ⟨67, 9, false⟩
    | 7 => some ⟨66, 1, false⟩
    | _ => none
  else if op = 0x24 then
    match f with
    | 3 => some ⟨84, 1, false⟩
    | 4 => some ⟨81, 3, false⟩
    | 5 => some ⟨76, 5, false⟩
    | 6 => some ⟨75, 1, false⟩
    | _ => none
  else
    match f with
    | 3 => some ⟨80, 5, false⟩
    | 4 => some ⟨70, 10, false⟩
    | 5 => some ⟨67, 3, false⟩
    | _ => none

/-- R222, R308, R328: copy fields. -/
def fldCp (op f : Nat) : Option Fld :=
  let copy := op == 0x40
  let copym := op == 0x41
  let fill := op == 0x42
  let gath := op == 0x43
  let scat := op == 0x44
  let mover := copy || copym || fill || gath || scat
  let csend := op == 0x50
  let cbind := op == 0x51
  let put := op == 0x58 || op == 0x59
  let gput := op == 0x5A
  let on := fun (b : Bool) (x : Fld) => if b then some x else none
  match f with
  | 2 => on (!fill && !cbind) ⟨84, 4, false⟩
  | 3 => on (!csend) ⟨80, 4, false⟩
  | 4 => on true ⟨75, 5, false⟩
  | 5 => on true ⟨59, 16, false⟩
  | 6 => on (copy || fill || gath || scat || cbind) ⟨52, 7, false⟩
  | 7 => on (copy || copym) ⟨36, 16, true⟩
  | 8 => on (copy || fill) ⟨20, 16, true⟩
  | 9 => on (gath || scat) ⟨37, 15, false⟩
  | 10 => on fill ⟨47, 5, false⟩
  | 11 => on copym ⟨55, 4, false⟩
  | 12 => on copym ⟨51, 4, false⟩
  | 13 => on (mover || put) ⟨4, 16, false⟩
  | 14 => on (copy || fill || gath || scat) ⟨2, 2, false⟩
  | 15 => on (copy || fill || gath) ⟨1, 1, false⟩
  | 16 => on (copy || fill || gath || scat) ⟨0, 1, false⟩
  | 17 => on (csend || cbind) ⟨47, 5, false⟩
  | 18 => on put ⟨54, 5, false⟩
  | 19 => on gput ⟨51, 3, false⟩
  | _ => none

/-- R253: NM fields. -/
def fldNm (op f : Nat) : Option Fld :=
  let on := fun (b : Bool) (x : Fld) => if b then some x else none
  match f with
  | 2 => some ⟨83, 5, false⟩
  | 3 => some ⟨67, 16, false⟩
  | 4 => on (op == 0x60 || op == 0x66 || op == 0x61 || op == 0x64) ⟨52, 15, false⟩
  | 5 => on (op == 0x60 || op == 0x66) ⟨50, 2, false⟩
  | 6 => on (op == 0x64) ⟨48, 2, false⟩
  | 7 => on (op == 0x64) ⟨42, 6, false⟩
  | 8 => on (op == 0x63) ⟨38, 4, false⟩
  | 9 => on (op == 0x63) ⟨33, 5, false⟩
  | 10 => on (op == 0x65) ⟨29, 4, false⟩
  | _ => none

/-- R52 check 3: the field of that number, if the op8 defines one. -/
def fieldOf (op f : Nat) : Option Fld :=
  if f = 0 then some ⟨104, 16, false⟩
  else if f = 1 then some ⟨88, 16, false⟩
  else if op ≤ 6 then fldLdSt op f
  else if op < 0x30 then fldMx op f
  else if op < 0x5B then fldCp op f
  else fldNm op f

/-- R52: the bits an op8 assigns. -/
def assignedMask (op : Nat) : Nat :=
  (List.range 31).foldl (fun m f => match fieldOf op f with
    | some x => m ||| ((2 ^ x.n - 1) * 2 ^ x.lo)
    | none => m) (255 * 2 ^ 120)

/-- R52 check 4. -/
def Fld.fits (x : Fld) (v : Nat) : Bool :=
  if x.n = 16 then true
  else if x.signed then v / 2 ^ (x.n - 1) == 0 || v / 2 ^ (x.n - 1) == 2 ^ (17 - x.n) - 1
  else decide (v < 2 ^ x.n)

/-- A field replaced by the low bits of a value. -/
def Fld.put (x : Fld) (img : BitVec 128) (v : Nat) : BitVec 128 :=
  BitVec.ofNat 128 (img.toNat - img.toNat / 2 ^ x.lo % 2 ^ x.n * 2 ^ x.lo + v % 2 ^ x.n * 2 ^ x.lo)

/-- A field read. -/
def Fld.read (x : Fld) (img : BitVec 128) : Int :=
  let v := imgBits img x.lo x.n
  if x.signed then toInt x.n v else v

/-- R52 checks 3 and 4 for one amendment, applied. -/
def amendImg (img : BitVec 128) (fld : BitVec 5) (v : BitVec 16) : Option (BitVec 128) :=
  match fieldOf (imgBits img 120 8) fld.toNat with
  | some x => if x.fits v.toNat then some (x.put img v.toNat) else none
  | none => none

/-- R148: amendments in the order they were written. -/
def amendAll (img : BitVec 128) : List (BitVec 5 × BitVec 16) → Option (BitVec 128)
  | [] => some img
  | (f, v) :: r =>
    match amendImg img f v with
    | some i => amendAll i r
    | none => none

/-- R58: TIMING is legal for the engine: zero bits in gated mode, no token bits without neighbours. -/
def timingOk (op : Nat) (img : BitVec 128) : Bool :=
  imgBits img 119 1 == 0 || (imgBits img 108 11 == 0 && (decide (op < 0x40) || imgBits img 104 4 == 0))

/-- R52 check 5: limits of the fields and zeros of the unassigned bits. -/
def limitsOk (img : BitVec 128) : Bool :=
  let op := imgBits img 120 8
  timingOk op img && (img.toNat &&& (2 ^ 128 - 1 - assignedMask op)) == 0
    && (if op = 0 ∨ op = 3 then decide (imgBits img 79 5 < 8) else true)
    && (if op = 2 ∨ op = 5 then decide (imgBits img 79 5 < 8) else true)
    && (if op = 5 then imgBits img 27 3 != 6 else true)
    && (if 0x20 ≤ op ∧ op ≤ 0x23 then imgBits img 83 2 != 3 else true)
    && (if 0x20 ≤ op ∧ op ≤ 0x22 then imgBits img 56 2 != 3 else true)
    && (if op = 0x23 then decide (imgBits img 67 9 < 320) else true)
    && (if op = 0x40 ∨ op = 0x43 ∨ op = 0x44 then imgBits img 2 2 != 3 else true)
    && (if op = 0x42 then imgBits img 2 1 == 0 else true)
    && (if op = 0x60 ∨ op = 0x66 then imgBits img 50 2 != 3 else true)
    && (if op = 0x64 then imgBits img 48 2 != 3 && (imgBits img 48 2 == 0 || decide (imgBits img 42 6 < 32)) else true)

/-- A fault found by a check: cause and TVAL. -/
abbrev Chk (α : Type) := Except (BitVec 8 × Word) α

/-- One check. -/
def need (b : Bool) (cause : BitVec 8) (tv : Word) : Chk Unit := if b then .ok () else .error (cause, tv)

/-- R52 checks 3 to 5: the working copy of an image. -/
def workingCopy (img : BitVec 128) (ams : List (BitVec 5 × BitVec 16)) : Chk (BitVec 128) :=
  match amendAll img ams with
  | none => .error (causeFieldRange, 0)
  | some i => if limitsOk i then .ok i else .error (causeFieldRange, 0)

/-- R149: what an undefined template slot reads as; no `tdef` stores it (R57). -/
def emptyTmpl : BitVec 128 := BitVec.ofNat 128 (0xFF * 2 ^ 120)

/-- A template slot. -/
def Ctx.tmpl (c : Ctx) (eng : BitVec 3) (t : Nat) : BitVec 128 := c.tmpls.read emptyTmpl (64 * eng.toNat + t)

/-- R149: a stored image replaced. -/
def Ctx.setTmpl (c : Ctx) (eng : BitVec 3) (t : BitVec 6) (img : BitVec 128) : Ctx :=
  { c with tmpls := c.tmpls.write emptyTmpl (64 * eng.toNat + t.toNat) img }

/-! Shared readings of an image -/

/-- R165: OFF. -/
def Entry.off (e : Entry) : Int := toInt 32 (e.f 47 16 * 2 ^ 16 + e.f 63 16)

/-- R200: an MX entry's K. -/
def mxK (fmt : Nat) : Nat := if fmt = 6 then 8 else if fmt = 0 ∨ fmt = 8 then 64 else if fmt = 9 then 128 else 32

/-- R200: bytes of an operand image of `n` rows or columns, scales included. -/
def imageBytes (fmt sfmt n : Nat) : Nat :=
  let k := mxK fmt
  let data := n * (k * fmtBits fmt / 8)
  if sfmt = 1 then align16 data + n * (k / 32) else data

/-- R200: rows or columns of the A and B images. -/
def Entry.mxM (e : Entry) : Nat := 16 * 2 ^ e.f 83 2
/-- Tile columns. -/
def Entry.mxN (e : Entry) : Nat := 16 * (e.f 77 6 + 1)
/-- Columns of the B image. -/
def Entry.mxCols (e : Entry) : Nat := if e.op8 = 0x21 then e.mxN / 2 else e.mxN

/-- R200: the images of a matrix entry in order: ring, bytes, whether popped. -/
def Entry.images (e : Entry) : List (Nat × Nat × Bool) :=
  if 0x20 ≤ e.op8 ∧ e.op8 ≤ 0x22 then
    [(e.f 71 3, imageBytes e.strA.fmt e.strA.sfmt e.mxM, e.f 59 1 == 1),
     (e.f 68 3, imageBytes e.strB.fmt e.strB.sfmt e.mxCols, e.f 58 1 == 1)]
      ++ (if e.f 56 2 = 1 then [(e.f 53 3, 4 * e.mxM * e.mxN, true)] else [])
  else []

/-- R214: the formats an op accepts. -/
def mxFmtOk (op fmt : Nat) : Bool :=
  if op = 0x20 then fmt == 4 || fmt == 5 || fmt == 6 || fmt == 8 || fmt == 9
  else if op = 0x21 then fmt == 4 || fmt == 5
  else fmt == 0

/-- Copies other than circuit ops and puts. -/
def Entry.isMover (e : Entry) : Bool := decide (0x40 ≤ e.op8) && decide (e.op8 ≤ 0x44)
/-- R223: RSIDE, 0 where the op has none. -/
def Entry.rside (e : Entry) : Nat := if e.op8 = 0x40 ∨ e.op8 = 0x42 ∨ e.op8 = 0x43 ∨ e.op8 = 0x44 then e.f 2 2 else 0
/-- R222: DKIND. -/
def Entry.dkind (e : Entry) : Bool := (e.op8 == 0x40 || e.op8 == 0x42 || e.op8 == 0x43) && e.f 1 1 == 1
/-- R222: CSIDE. -/
def Entry.cside (e : Entry) : Bool := (e.op8 == 0x40 || e.op8 == 0x42 || e.op8 == 0x43 || e.op8 == 0x44) && e.f 0 1 == 1
/-- R222: FOLLOW enabled. -/
def Entry.follows (e : Entry) : Bool := (fieldOf e.op8 6).isSome && decide (0x40 ≤ e.op8) && e.f 58 1 == 1
/-- R222: CADDR·8. -/
def Entry.caddr (e : Entry) : Nat := 8 * e.f 59 16
/-- R222: SOFF of a copy. -/
def Entry.cpSoff (e : Entry) : Int := if e.op8 = 0x40 ∨ e.op8 = 0x41 then e.fs 36 16 else 0
/-- R222: DOFF. -/
def Entry.cpDoff (e : Entry) : Int := if e.op8 = 0x40 ∨ e.op8 = 0x42 then e.fs 20 16 else 0
/-- R222, R328: CID. -/
def Entry.cpCid (e : Entry) : Nat := e.f 4 16
/-- Scales travel with a copy's data when its streams carry them (R223). -/
def Entry.scales (e : Entry) : Bool :=
  if e.op8 = 0 then e.f 46 1 == 1
  else if e.op8 = 0x42 ∨ e.op8 = 0x51 then e.strB.sfmt == 1 && !e.dkind
  else if 0x40 ≤ e.op8 then e.strA.sfmt == 1
  else false

/-- R224: bytes a copy carries. -/
def Entry.cpBytes (e : Entry) (ringSize : Nat) : Nat :=
  if e.op8 = 0x42 then (if e.dkind then ringSize else e.strB.carried e.scales)
  else if e.op8 = 0x51 then e.strB.carried e.scales
  else if e.op8 = 0x43 then
    (if e.dkind then e.strA.carried e.scales else e.strB.carried e.scales)
  else e.strA.carried e.scales

/-- R157, R223: the size of the data a copy moves, which the size check bounds. -/
def Entry.cpData (e : Entry) (ringSize : Nat) : Nat :=
  if e.op8 = 0x42 then (if e.dkind then ringSize else e.strB.dataBytes)
  else if e.op8 = 0x43 && !e.dkind then e.strB.dataBytes
  else e.strA.dataBytes

/-! Placement -/

/-- R161: a ring named by an entry, filled or drained by its engine. -/
def Ctx.ringCheck (c : Ctx) (r : Nat) (owner : BitVec 3) (fill : Bool) : Chk Unit :=
  let g := c.ring r
  need (g.defd && (if fill then g.prod else g.cons) == owner) causeRingOwner 0

/-- R158: the capture of a stream with its checks. -/
def streamCheck (q : Stream) (scl : Bool) : Chk Unit := need (q.ok scl) causeFieldRange 0

/-- R165, R158, R161: an LD or ST entry (log 70, DEDUCED). -/
def Ctx.placeLdSt (c : Ctx) (e : Entry) : Chk Unit := do
  if e.op8 = 6 then pure ()
  else
    let q := e.strA
    streamCheck q (e.op8 == 0 && e.scales)
    let r := e.f 79 5
    if e.op8 = 0 then
      c.ringCheck r 1 true
      need (decide (q.carried e.scales ≤ (c.ring r).size)) causeFieldRange 0
    else if e.op8 = 3 then
      c.ringCheck r 2 false
      need (decide (q.dataBytes ≤ (c.ring r).size)) causeFieldRange 0
    else if e.op8 = 1 ∨ e.op8 = 4 then need (decide (q.dataBytes ≤ 256)) causeFieldRange 0
    else if e.op8 = 2 then need (q.fmt == 2 || q.fmt == 6) causeFieldRange 0
    else need (e.f 27 3 != 5 || (decide (4 ≤ q.fmt) && q.fmt != 7)) causeFieldRange 0

/-- R201: two images that share a ring. -/
def sharedPops : List (Nat × Nat × Bool) → Bool
  | [] => true
  | (r, _, p) :: t => (t.all fun x => x.1 != r || x.2.2 == p) && sharedPops t

/-- R199 to R201, R216: an MX entry. -/
def Ctx.placeMx (c : Ctx) (e : Entry) : Chk Unit := do
  if 0x20 ≤ e.op8 ∧ e.op8 ≤ 0x22 then
    need (e.strA.fmt == e.strB.fmt && mxFmtOk e.op8 e.strA.fmt && decide (e.strA.sfmt < 2) && decide (e.strB.sfmt < 2)
      && (decide (8 ≤ e.strA.fmt) || (e.strA.sfmt == 0 && e.strB.sfmt == 0))) causeFieldRange 0
    let ims := e.images
    ims.forM fun i => c.ringCheck i.1 3 false
    need (ims.all fun i => decide ((c.ring i.1).need i.2.1 ≤ (c.ring i.1).count)) causeFieldRange 0
    need (sharedPops ims) causeFieldRange 0
  else if e.op8 = 0x24 ∧ e.f 84 1 = 0 then c.ringCheck (e.f 81 3) 3 true
  else pure ()

/-- R224: the rectangle of `cp.copym` lies inside the grid. -/
def copymOk (cid cols rows : Nat) : Bool := decide (gridX cid + cols ≤ 200) && decide (gridY cid + rows ≤ 200)

/-- R132: words of the issuer's pool that an engine may write or read, as one address range. -/
def rangeCheck (p : Word) (k : Access) (a n : Nat) : Chk Unit :=
  need (admitsAll p k a n) causePoolBound (BitVec.ofNat 64 a)

/-- R223, R308, R328: a CP entry, streams and values already captured. -/
def Ctx.placeCp (c : Ctx) (e : Entry) : Chk Unit := do
  let op := e.op8
  let hasSrc := (fieldOf op 2).isSome
  let hasDst := (fieldOf op 3).isSome
  let ring := imgBits e.img 80 3
  if hasSrc then streamCheck e.strA false
  if hasDst ∧ !e.dkind then streamCheck e.strB false
  if e.dkind then
    need (e.f 83 1 == 0) causeFieldRange 0
    c.ringCheck ring e.eng.owner true
  let size := (c.ring ring).size
  let n := e.cpBytes size
  if op = 0x50 then need (e.strA.inPool && decide (n ≤ 65536)) causeFieldRange 0
  else if op = 0x51 then need (e.strB.inPool && decide (n < 2 ^ 32)) causeFieldRange 0
  else
    need (decide (e.cpData size < 2 ^ 32)) causeFieldRange 0
    if hasSrc ∧ !e.dkind ∧ op ≠ 0x43 ∧ op ≠ 0x44 then
      need (e.strA.dataBytes == e.strB.dataBytes && e.strA.sfmt == e.strB.sfmt) causeFieldRange 0
    if op = 0x43 ∨ op = 0x44 then
      need (e.strA.dims == 2 && (e.dkind || e.strB.dims == 2)) causeFieldRange 0
      need (e.dkind || (e.strA.dataBytes == e.strB.dataBytes && e.strA.sfmt == e.strB.sfmt)) causeFieldRange 0
    if e.dkind then need (decide ((c.ring ring).need n ≤ (c.ring ring).count)) causeFieldRange 0
  if e.isMover then
    need ((e.rside == 0 && !e.cside && op != 0x41) || cidOk e.cpCid) causeFieldRange 0
    need (op != 0x41 || copymOk e.cpCid (e.f 55 4 + 1) (e.f 51 4 + 1)) causeFieldRange 0
    need (!e.cside || e.rside == 2) causeFieldRange 0
  if op = 0x58 ∨ op = 0x59 then need (!(e.strA.inPool || e.strB.inPool) || cidOk e.cpCid) causeFieldRange 0
  if op = 0x5A then
    need (!e.strB.inPool) causeFieldRange 0
    need ((vat c.groups .zero (e.f 51 3)).state == .opened) causeFieldRange (BitVec.ofNat 64 (e.f 51 3))
  if !e.cside then rangeCheck c.misc.part .engineWrite e.caddr 8
  if op = 0x43 ∨ op = 0x44 then
    rangeCheck c.misc.part .engineRead (16 * e.f 37 15) (4 * (if op = 0x43 then (if e.dkind then e.strA else e.strB).ext 1 else e.strA.ext 1))
  if e.follows then
    let img := c.tmpl 2 (e.f 52 6)
    need (img != emptyTmpl) causeTemplateUndef 0
    need (imgBits img 119 1 == 1) causeFieldRange 0

/-- R253: data bytes an NM operation answers with. -/
def Entry.nmData (e : Entry) : Nat :=
  if e.op8 = 0x60 ∨ e.op8 = 0x66 then 8 * 2 ^ e.f 50 2
  else if e.op8 = 0x61 ∨ e.op8 = 0x62 then 8
  else if e.op8 = 0x63 then 16
  else 0

/-- R253 check 2: the result area lies in the flag block or the scratchpad. -/
def Ctx.placeNm (c : Ctx) (e : Entry) : Chk Unit :=
  rangeCheck c.misc.part .remote (8 * e.f 67 16) (8 + e.nmData)

/-- R340: the entry is of the nominated engine and kind. -/
def Entry.nominated (e : Entry) (nom : Word) : Bool :=
  let eng := wbits nom 58 2
  let sel := wbits nom 53 4
  let ring := wbits nom 57 1 == 1
  wbits nom 63 1 == 1 &&
    (if eng = 0 then e.eng == .st && decide (3 ≤ e.op8) && decide (e.op8 ≤ 5)
        && (if ring then e.op8 == 3 && e.f 79 5 == sel else e.f 84 4 == sel)
      else ((eng == 1 && e.eng == .cp0) || (eng == 2 && e.eng == .cp1))
        && (if ring then e.dkind && e.f 80 3 == sel else (fieldOf e.op8 3).isSome && !e.dkind && e.f 80 4 == sel))

/-- What an entry captures at placement (R83, R93, R158, R223): streams, scalar values, FRM. -/
def Ctx.capturedEntry (c : Ctx) (e : Entry) : Entry :=
  let op := e.op8
  let q := fun (lo : Nat) => c.stream (e.f lo 4)
  let r := fun (lo : Nat) => c.regs.get (BitVec.ofNat 5 (e.f lo 5))
  let strA := if op < 6 then q 84
    else if 0x20 ≤ op ∧ op ≤ 0x22 then q 64
    else if 0x40 ≤ op ∧ op < 0x60 ∧ (fieldOf op 2).isSome then q 84
    else .zero
  let strB := if 0x20 ≤ op ∧ op ≤ 0x22 then q 60
    else if 0x40 ≤ op ∧ op < 0x60 ∧ (fieldOf op 3).isSome ∧ !e.dkind then q 80
    else .zero
  let v1 := if 0x40 ≤ op ∧ op < 0x60 then r 75 else if 0x60 ≤ op then r 83 else 0
  let v2 := if op = 0x42 then r 47 else 0
  { e with strA := strA, strB := strB, val1 := v1, val2 := v2, frm := c.regs.frm, placed := c.cyc
           gens := c.mons.toList.zipIdx.filterMap fun m => if e.nominated m.1.nom then some (m.2, m.1.gen) else none }

/-- R223 check 1, R158: the stream registers after a placement (log 71, DEDUCED). -/
def Ctx.bumpStreams (c : Ctx) (e : Entry) : Ctx :=
  let op := e.op8
  let bump := fun (c : Ctx) (lo : Nat) => { c with streams := vmod c.streams .zero (e.f lo 4) Stream.bumped }
  if e.eng = .vx then c else
  let c := if op < 6 ∨ (0x40 ≤ op ∧ op < 0x60 ∧ (fieldOf op 2).isSome) then bump c 84 else c
  if 0x40 ≤ op ∧ op < 0x60 ∧ (fieldOf op 3).isSome ∧ !e.dkind then bump c 80 else c

/-- R376, R150 condition 1: an absolute start that is not after the placement. -/
def Entry.late0 (e : Entry) : Bool :=
  e.f 119 1 == 0 && e.f 118 1 == 0 && decide (e.f 88 16 * 2 ^ 14 + e.f 104 14 ≤ e.placed % 2 ^ 30)

/-- All the checks of one placement on an engine, on a working copy: the entry, ready for its queue. -/
def Ctx.placement (c : Ctx) (u : Unit7) (img : BitVec 128) (uid : Nat) : Chk Entry := do
  let e := c.capturedEntry { Entry.blank uid u with img := img }
  match u with
  | .ld | .st => c.placeLdSt e
  | .mx => if e.op8 = 6 then pure () else c.placeMx e
  | .cp0 | .cp1 => c.placeCp e
  | .nm => c.placeNm e
  | .vx => pure ()
  pure e

end Sys2Proof.Machine
end

