-- ==== Sys2Proof/Machine/Start.lean ====
section
/-! DEFINITION. When an entry starts (06 R150, R151, R155; 07 R177; 17 R376): the conditions on queues, rings, tokens and
slots, the verdict on the head of each queue, and what leaves the queue when one starts or faults. -/

namespace Sys2Proof.Machine

/-- R153: the FIFO popped from the previous (`next` false) or next neighbour. -/
def popFifo (u : Unit7) (next : Bool) : Nat :=
  match u, next with
  | .ld, false => 3 | .ld, true => 4
  | .mx, false => 0 | .mx, true => 5
  | _, false => 2 | _, true => 7

/-- R153: the FIFO pushed to the previous or next neighbour. -/
def pushFifo (u : Unit7) (next : Bool) : Nat :=
  match u, next with
  | .ld, false => 7 | .ld, true => 0
  | .mx, false => 4 | .mx, true => 1
  | _, false => 6 | _, true => 3

/-- Tokens in a FIFO. -/
def Ctx.tok (c : Ctx) (f : Nat) : Nat := vat c.tokens 0 f

/-- A FIFO's count changed. -/
def Ctx.onTok (c : Ctx) (f : Nat) (g : Nat → Nat) : Ctx := { c with tokens := vmod c.tokens 0 f g }

/-- R58: the FIFOs a gated entry pops. -/
def Entry.pops (e : Entry) : List Nat :=
  if e.gatedMode && decide (e.op8 < 0x40) then
    (if e.f 107 1 = 1 then [popFifo e.eng false] else []) ++ (if e.f 106 1 = 1 then [popFifo e.eng true] else [])
  else []

/-- R58: the FIFOs a gated entry pushes when it finishes. -/
def Entry.pushes (e : Entry) : List Nat :=
  if e.eng != .vx && e.gatedMode && decide (e.op8 < 0x40) then
    (if e.f 105 1 = 1 then [pushFifo e.eng false] else []) ++ (if e.f 104 1 = 1 then [pushFifo e.eng true] else [])
  else []

/-- Claims of a matrix entry's images, each beginning after the one before on the same ring (R200). -/
def Ctx.imageClaims (c : Ctx) : List (Nat × Nat × Bool) → List (Nat × Nat) → List Claim
  | [], _ => []
  | (r, n, pop) :: t, used =>
    let k := (c.ring r).need n
    let before := ((used.filter (·.1 == r)).map (·.2)).sum
    let first := (c.nextStage r false + before) % max (c.ring r).count 1
    c.claim r first k false pop :: c.imageClaims t ((r, k) :: used)

/-- The stages an entry takes at its start. -/
def Ctx.claimsOf (c : Ctx) (e : Entry) : List Claim :=
  let r := e.f 79 5
  let one := fun (r : Nat) (n : Nat) (fill : Bool) => [c.claim r (c.nextStage r fill) n fill true]
  if e.eng = .vx then []
  else if e.op8 = 0 then one r 1 true
  else if e.op8 = 3 then one r 1 false
  else if 0x20 ≤ e.op8 ∧ e.op8 ≤ 0x22 then c.imageClaims e.images []
  else if e.op8 = 0x24 ∧ e.f 84 1 = 0 then one (e.f 81 3) 1 true
  else if e.dkind then
    let r := e.f 80 3
    one r ((c.ring r).need (e.cpBytes (c.ring r).size)) true
  else []

/-- R150 condition 4. -/
def Ctx.ringsReady (c : Ctx) (e : Entry) : Bool :=
  (c.claimsOf e).all fun k => c.stagesReady k.ring k.fill e.eng.owner k.first k.n

/-- R252: NM operations outstanding, and entries started that have still to send theirs. -/
def Ctx.nmBusy (c : Ctx) : Nat := c.nmOut + (c.run.filter fun e => e.eng == .nm && !e.done && !e.fault).length

/-- R150 conditions 3 to 5, and the pops of R151; `slots` says whether what lies outside the core has room (R310). -/
def Ctx.mayStart (c : Ctx) (slots : Bool) (e : Entry) : Bool :=
  slots && decide ((c.queue e.eng).freeAt ≤ c.cyc) && decide (c.busy < 24) && c.ringsReady e
    && (e.eng != .nm || decide (c.nmBusy < 64)) && e.pops.all fun f => decide (0 < c.tok f)

/-- R150: the T of an absolute entry (log 30, DEDUCED). -/
def Entry.absolute (e : Entry) : Nat := e.placed / 2 ^ 30 * 2 ^ 30 + e.f 88 16 * 2 ^ 14 + e.f 104 14

/-- R150: S for the entry at the head of a queue: the T of the one placed before it where that left from behind the head. -/
def Queue.previous (q : Queue) (e : Entry) : Option Nat :=
  match (q.gone.filter fun x => decide (x.1 < e.uid)).getLast? with
  | some x => some x.2
  | none => q.lastS

/-- R150: the start cycle of a timed entry at the head of its queue (log 30, DEDUCED). -/
def Ctx.startCycle (c : Ctx) (e : Entry) : Nat :=
  if e.f 118 1 = 1 then (((c.queue e.eng).previous e).getD e.placed) + e.f 104 14 else e.absolute

/-- The verdict on the head of a queue in this cycle. -/
inductive Verdict where
  | wait | start | timing
deriving DecidableEq, Repr

/-- R150, R151. -/
def Ctx.verdict (c : Ctx) (slots : Bool) (e : Entry) : Verdict :=
  if c.cyc ≤ e.placed then .wait
  else if e.gatedMode then (if c.mayStart slots e then .start else .wait)
  else
    let t := c.startCycle e
    if c.cyc < t then .wait
    else if c.cyc = t && c.mayStart slots e then .start
    else .timing

/-- The head of a queue. -/
def Ctx.head (c : Ctx) (u : Unit7) : Option Entry := (c.queue u).wait.head?

/-- A queue without its head. -/
def Ctx.popHead (c : Ctx) (u : Unit7) : Ctx := c.onQueue u fun q => { q with wait := q.wait.tail }

/-- R150: an entry has started: its occupancy counts from here, its tokens and stages are taken. -/
def Ctx.begin (c : Ctx) (e : Entry) (occupancy : Nat) : Ctx :=
  let cs := c.claimsOf e
  let c := c.popHead e.eng
  let c := e.pops.foldl (fun c f => c.onTok f (· - 1)) c
  let c := c.onQueue e.eng fun q => { q with lastS := some c.cyc, freeAt := c.cyc + occupancy, gone := q.gone.filter fun x => decide (e.uid < x.1) }
  { c with run := c.run ++ [{ e with started := true, startCyc := c.cyc, age := 0, claims := cs }] }

/-- R150, R377: an entry at the head raises a fault without starting; a timed one's start cycle is its T. -/
def Ctx.faultHead (c : Ctx) (e : Entry) (cause : BitVec 8) (tv : Word) : Ctx :=
  let t := if e.gatedMode || e.eng == .vx then c.cyc else c.startCycle e
  let s := (c.queue e.eng).previous e
  let c := c.popHead e.eng
  let c := c.onQueue e.eng fun q => { q with lastS := some t, gone := q.gone.filter fun x => decide (e.uid < x.1) }
  { c with faults := c.faults ++ [{ e with fault := true, cause := cause, tval := tv, startCyc := t, prevS := s }] }

/-- A started entry raises a fault: it leaves the started ones and waits for the trap of this cycle. -/
def Ctx.faultRun (c : Ctx) (uid : Nat) (cause : BitVec 8) (tv : Word) : Ctx :=
  match c.run.find? (·.uid = uid) with
  | none => c
  | some e =>
    { c with run := c.run.filter (·.uid ≠ uid)
             faults := c.faults ++ [{ e with fault := true, cause := cause, tval := tv }] }

/-- R163: an engine's head will start in this cycle and take the stage. -/
def Ctx.willClaim (c : Ctx) (r st : Nat) (fill : Bool) : Bool :=
  [Unit7.ld, .st, .mx, .cp0, .cp1].any fun u =>
    match c.head u with
    | none => false
    | some e =>
      c.verdict true e == .start && (c.claimsOf e).any fun k =>
        k.ring == r && k.fill == fill && (List.range k.n).any fun i => (k.first + i) % max k.count 1 == st

/-- R177: the cycle in which the VX entry at the head starts. -/
def Ctx.vxStart (c : Ctx) (e : Entry) (idle : Nat) : Nat :=
  let q := c.queue .vx
  max (max (e.placed + 1) q.freeAt) q.headAt + idle

end Sys2Proof.Machine
end

