-- ==== Sys2Proof/Machine/Issue.lean ====
section
/-! DEFINITION. Words that place entries and shape them (06 R145 to R149, R156 to R159, R168 to R172): patch-and-issue, AMEND,
`tdef`, `tread`, `qdef`, `qread`, the wheel's words and its placements, `qdrain`. -/

namespace Sys2Proof.Machine

/-- R145: a queue of 32 is full. -/
def Ctx.full (c : Ctx) (u : Unit7) : Bool := decide (32 ≤ (c.queue u).wait.length)

/-- The hold on a full queue (R146). -/
def fullHold : Wait := ⟨.full, none, [], 0, 0⟩

/-- R158: the streams a placed entry named, post-incremented; a `qdef` in flight for the same cycle takes the increment
after it (R6). -/
def Ctx.bumped (c : Ctx) (e : Entry) : Ctx :=
  let c' := c.bumpStreams e
  { c' with pend := c'.pend.map fun p =>
      match p.eff with
      | .stream q w v =>
        let old := c.stream q.toNat
        let new := c'.stream q.toNat
        if p.rem = 1 ∧ old ≠ new ∧ w = 0 then { p with eff := .stream q w (BitVec.ofNat 64 (bump (wbits v 0 57) (wsigned (old.word 6) 0))) }
        else if p.rem = 1 ∧ old ≠ new ∧ w = 5 then { p with eff := .stream q w (BitVec.ofNat 64 (bump (wbits v 0 57) (wsigned (old.word 6) 32))) }
        else p
      | _ => p }

/-- R145: an entry enters its queue. -/
def Ctx.enqueue (c : Ctx) (e : Entry) : Ctx := (c.onQueue e.eng fun q => { q with wait := q.wait ++ [e] }).bumped e

/-- The focus core places an entry. -/
def State.enqueue (s : State) (e : Entry) : State := (s.fresh).ctx (·.enqueue e)

/-- R51, R52, R146, R148: a patch-and-issue word. -/
def execPatchAndIssue (eng : BitVec 3) (t : BitVec 6) (fld : BitVec 5) (val : BitVec 16) (s : State) : Out :=
  let c := s.core.ctx
  let u := Unit7.ofCode eng
  if c.full u then .next (s.holdOn fullHold)
  else
    let img := c.tmpl eng t.toNat
    if img = emptyTmpl then s.wordFault causeTemplateUndef 0
    else
      let ams := vat c.amends [] eng.toNat ++ (if fld = 31 then [] else [(fld, val)])
      match (workingCopy img ams).bind fun i => c.placement u i s.nextId with
      | .error (cause, tv) => s.wordFault cause tv
      | .ok e => .next ((s.enqueue e).ctx fun c => { c with amends := vput c.amends eng.toNat [] }).retire

/-- R53, R148: an AMEND word; a fifth raises FIELD_RANGE with the word. -/
def execAmend (eng : BitVec 3) (fld : BitVec 5) (val : BitVec 16) (s : State) : Out :=
  let l := vat s.core.ctx.amends [] eng.toNat
  if 4 ≤ l.length then s.wordFault causeFieldRange (BitVec.ofNat 64 (s.fetched % 2 ^ 32))
  else .next (s.ctx fun c => { c with amends := vput c.amends eng.toNat (l ++ [(fld, val)]) }).retire

/-- R149: the address of a template word. -/
def tmplAddr (s : State) (sa : BitVec 5) (off : BitVec 19) : Word := s.reg sa + zimm off

/-- R149, R273: a word holds SQ until its bank accesses are served; it is then met again, at the end of that cycle, with the value
read. `note` is what it read in its issue cycle. -/
def State.servedHold (s : State) (note : List Nat) (start : Unit → Out) (served : Wait → Out) : Out :=
  match s.waiting .served with
  | some w => if w.progress = 0 then .next (s.holdOn w) else served w
  | none =>
    match start () with
    | .next t => .next (t.holdOn ⟨.served, none, note, 0, 0⟩)
    | o => o

/-- R149 `tdef`: the image is stored at the end of the cycle in which its access is served. -/
def execTdef (eng : BitVec 3) (t : BitVec 6) (sa : BitVec 5) (off : BitVec 19) (s : State) : Out :=
  s.wide fun _ =>
    let a := tmplAddr s sa off
    if (s.waiting .served).isNone && decide (a.toNat % 16 ≠ 0) then s.wordFault causeMisalign a
    else if (s.waiting .served).isNone && !admitsAll s.core.ctx.misc.part .scalarRead a.toNat 16 then s.wordFault causePoolBound 0
    else s.servedHold [] (fun _ => .next (s.askSq (.word a.toNat 16) false a.toNat 16)) fun w =>
      let img := BitVec.ofNat 128 w.value
      if opAccepted (Unit7.ofCode eng) (imgBits img 120 8) then .next (s.ctx fun c => c.setTmpl eng t img).retireWide
      else s.wordFault causeTemplateUndef 0

/-- R149 `tread`: the write performs at the end of the cycle in which it is served. -/
def execTread (eng : BitVec 3) (t : BitVec 6) (sa : BitVec 5) (off : BitVec 19) (s : State) : Out :=
  s.wide fun _ =>
    let a := tmplAddr s sa off
    if (s.waiting .served).isNone && decide (a.toNat % 16 ≠ 0) then s.wordFault causeMisalign a
    else if (s.waiting .served).isNone && !admitsAll s.core.ctx.misc.part .scalarWrite a.toNat 16 then s.wordFault causePoolBound 0
    else s.servedHold [] (fun _ =>
      .next (s.askFor none (.word a.toNat 0) (writeAccs s.core.cid
        (placed s.core.ctx.misc.part a.toNat (toBytes 16 (s.core.ctx.tmpl eng t.toNat).toNat))))) fun _ => .next s.retireWide

/-- R159 `qdef`: reserved bits ignored. -/
def execQdef (q : BitVec 4) (w : BitVec 3) (sa : BitVec 5) (imm : BitVec 32) (s : State) : Out :=
  s.wide fun _ => .next (s.push 1 (.stream q w ((s.reg sa + simm imm) &&& streamMask w.toNat))).retireWide

/-- R159 `qread`. -/
def execQread (sd : BitVec 5) (q : BitVec 4) (w : BitVec 3) (s : State) : Out :=
  s.wide fun _ => .next (s.push 1 (.sreg sd ((s.core.ctx.stream q.toNat).word w.toNat))).retireWide

/-! The wheel (R168 to R171) -/

/-- A slot. -/
def Wheel.slot (w : Wheel) (i : Nat) : WheelSlot := vat w.slots .zero i

/-- A wheel changed. -/
def State.wheel (s : State) (f : Wheel → Wheel) : State := s.ctx fun c => { c with wheel := f c.wheel }

/-- R169: a wheel word that the running wheel refuses. -/
def State.whlStopped (s : State) (f : Unit → State) : Out :=
  s.wide fun _ =>
    if s.core.ctx.wheel.running then s.wordFault causeFieldRange (BitVec.ofNat 64 (s.fetched % 2 ^ 32)) else .next (f ()).retireWide

/-- R169 `whl.slot`: the strides stay. -/
def execWhlSlot (slot : BitVec 5) (eng : BitVec 3) (t : BitVec 6) (fo lo : BitVec 1) (k : BitVec 3) (fa fb : BitVec 5) (s : State) : Out :=
  s.whlStopped fun _ => s.wheel fun w => { w with
    slots := vmod w.slots .zero slot.toNat fun x =>
      { x with eng := eng, tmpl := t, fo := fo == 1, lo := lo == 1, lvl := k.toNat, fa := fa, fb := fb } }

/-- R169 `whl.stride`. -/
def execWhlStride (slot : BitVec 5) (ab : BitVec 1) (lvl : BitVec 3) (v : BitVec 16) (s : State) : Out :=
  s.whlStopped fun _ => s.wheel fun w => { w with
    slots := vmod w.slots .zero slot.toNat fun x =>
      if ab = 0 then { x with strA := vput x.strA lvl.toNat v } else { x with strB := vput x.strB lvl.toNat v } }

/-- R169 `whl.count`: while the wheel runs it sets the remaining count too, after that cycle's own check. -/
def execWhlCount (lvl : BitVec 3) (c : BitVec 16) (s : State) : Out :=
  s.wide fun _ =>
    .next ((s.wheel fun w => { w with counts := vput w.counts lvl.toNat c }).push 1 (.whlCount lvl c)).retireWide

/-- R169 `whl.len`. -/
def execWhlLen (n : BitVec 6) (s : State) : Out := s.whlStopped fun _ => s.wheel fun w => { w with len := n.toNat }

/-- R170 `whlgo`. -/
def execWhlgo (sa : BitVec 5) (lvl : BitVec 3) (s : State) : Out :=
  s.wide fun _ =>
    if s.core.ctx.wheel.running then .next (s.holdOn ⟨.drain, none, [], 0, 0⟩)
    else
      let v : BitVec 16 := (s.reg sa).truncate 16
      .next (s.wheel fun w =>
        let counts := if sa = 0 then w.counts else vput w.counts lvl.toNat v
        let none := w.len == 0 || counts.toList.any (· == 0)
        { w with counts := counts, running := !none, at_ := 0, start := s.core.ctx.cyc + 1
                 rem := counts.each BitVec.toNat, idx := Vector.replicate 6 0 }).retireWide

/-- R170: the slot the run has come to is to be placed. -/
def Wheel.goes (w : Wheel) : Bool :=
  let x := w.slot w.at_
  let js := List.range (x.lvl + 1)
  !(x.fo && js.any fun j => vat w.idx 0 j != 0) && !(x.lo && js.any fun j => vat w.rem 0 j != 1)

/-- R170: the end of an iteration: the wheel stops, or its levels step. -/
def Wheel.iterate (w : Wheel) : Wheel :=
  match (List.range 6).find? fun l => decide (2 ≤ vat w.rem 0 l) with
  | none => { w with running := false }
  | some l =>
    let w := { w with rem := vmod w.rem 0 l (· - 1), idx := vmod w.idx 0 l (· + 1), at_ := 0 }
    (List.range l).foldl (fun w j => { w with rem := vput w.rem j (vat w.counts 0 j).toNat, idx := vput w.idx j 0 }) w

/-- R170: slots passed over and iterations ended, which take no cycle, up to the next slot to place or the stop (log 10, DESIGN CHOICE). -/
def Wheel.seek : Nat → Wheel → Wheel
  | 0, w => w
  | n + 1, w =>
    if !w.running then w
    else if w.len ≤ w.at_ then Wheel.seek n w.iterate
    else if w.goes then w
    else Wheel.seek n { w with at_ := w.at_ + 1 }

/-- A bound that no run of skipped slots and iterations reaches: six counts of 16 bits and 32 slots (log 10, DESIGN CHOICE). -/
def seekFuel : Nat := 2 ^ 128

/-- R170, R171: one strided field of a slot's image, computed exactly. -/
def Wheel.strided (w : Wheel) (img : BitVec 128) (fld : BitVec 5) (str : Vector (BitVec 16) 6) : Option (BitVec 128) :=
  if fld = 31 then some img
  else match fieldOf (imgBits img 120 8) fld.toNat with
    | none => none
    | some x =>
      let d := ((List.range 6).map fun l => ((vat w.idx 0 l : Nat) : Int) * (vat str 0 l).toInt).sum
      let v := x.read img + d
      let ok := if x.signed then decide (-(2 : Int) ^ (x.n - 1) ≤ v ∧ v < 2 ^ (x.n - 1)) else decide (0 ≤ v ∧ v < 2 ^ x.n)
      if ok then some (x.put img (ofInt x.n v)) else none

/-- R170: the entry the wheel would place from the slot it has come to. -/
def Ctx.wheelEntry (c : Ctx) (uid : Nat) : Chk Entry :=
  let w := c.wheel
  let x := w.slot w.at_
  let img := c.tmpl x.eng x.tmpl.toNat
  if img = emptyTmpl then .error (causeTemplateUndef, 0)
  else match (w.strided img x.fa x.strA).bind fun i => w.strided i x.fb x.strB with
    | none => .error (causeFieldRange, 0)
    | some i =>
      ((workingCopy i []).bind fun i => c.placement (Unit7.ofCode x.eng) i uid).map fun e => { e with byWheel := true }

/-- R170: one cycle of the wheel: one placement, unless its queue is full at the start of the cycle, as SQ sees it (R146); a failing
check stops the wheel at its slot. -/
def execWheelPlacement (s : State) : Out :=
  let c := s.core.ctx
  if !c.wheel.running || c.wheel.faulted || decide (c.cyc < c.wheel.start) then .next s
  else
    let s := s.wheel (·.seek seekFuel)
    let c := s.core.ctx
    let w := c.wheel
    if !w.running || decide (w.len ≤ w.at_) || !w.goes then .next s
    else if c.full (Unit7.ofCode (w.slot w.at_).eng) then .next s
    else match c.wheelEntry s.nextId with
      | .error (cause, _) => .next (s.wheel fun w => { w with faulted := true, cause := cause })
      | .ok e => .next ((s.enqueue e).wheel fun w => ({ w with at_ := w.at_ + 1 } : Wheel).seek seekFuel)

/-- R172 `qdrain`: bit 8 empties every pending list at the start of the word. -/
def execQdrain (mask : BitVec 9) (s : State) : Out :=
  let s := if mask.getLsbD 8 then s.ctx fun c => { c with amends := Vector.replicate 6 [] } else s
  if s.core.ctx.drainedMask mask.toNat then .next s.retire else .next (s.holdOn ⟨.drain, none, [], 0, 0⟩)

end Sys2Proof.Machine
end

