-- ==== Sys2Proof/Machine/Rings.lean ====
section
/-! DEFINITION. Operand rings and tokens as SQ's words see them (06 R153 to R155, R160 to R164). -/

namespace Sys2Proof.Machine

/-- R162: base to base + n − 1 lies in the scratchpad. -/
def scratchRange (p : Word) (a n : Nat) : Bool :=
  decide (0x400 ≤ a) && decide (a + n ≤ spTop p)
    && (!partSlice p || decide (a + n ≤ 256 * wbits p 32 11) || decide (256 * wbits p 48 11 ≤ a))

/-- R162: a ring just defined. -/
def freshRing (base size count : Nat) (prod cons : BitVec 3) (gen : Nat) : Ring :=
  ⟨true, base, size, count, prod, cons, 0, 0, Vector.replicate 16 false, Vector.replicate 16 prod, gen⟩

/-- R162 `rdef`. -/
def execRdef (ring prod cons : BitVec 3) (cnt : BitVec 4) (size : BitVec 10) (base : BitVec 15) (s : State) : Out :=
  s.wide fun _ =>
    let b := base.toNat * 16
    let n := cnt.toNat + 1
    let z := (size.toNat + 1) * 16
    if scratchRange s.core.ctx.misc.part b (n * z) then
      .next (s.push 1 (.ringDef ring.toNat (freshRing b z n prod cons ((s.core.ctx.ring ring.toNat).gen + 1)))).retireWide
    else s.wordFault causePoolBound (BitVec.ofNat 64 b)

/-- R163 `racq`: never stalls; an engine that takes the stage in this cycle wins (log 67, DEDUCED) (log 68, DEDUCED). -/
def execRacq (sd : BitVec 5) (side : BitVec 1) (ring : BitVec 3) (s : State) : Out :=
  let c := s.core.ctx
  let g := c.ring ring.toNat
  let fill := side == 0
  if !g.defd then s.wordFault causeRingOwner 0
  else
    let st := c.nextStage ring.toNat fill
    let ok := vat g.full false st != fill && vat g.owner 0 st == (if fill then g.prod else g.cons)
      && !(c.taken ring.toNat fill).contains st && !c.willClaim ring.toNat st fill
    if ok then
      .next ((((s.push 1 (.ringOwn ring.toNat st g.gen 0 (vat g.full false st))).push 1 (.ringMove ring.toNat g.gen fill)).push 1
        (.sreg sd (BitVec.ofNat 64 (g.base + st * g.size)))).retire)
    else .next (s.push 1 (.sreg sd 0)).retire

/-- R163: the stage whose address is given. -/
def Ring.stageAt (g : Ring) (a : Nat) : Option Nat :=
  (List.range g.count).find? fun i => g.base + i * g.size == a

/-- R163 `rrel` (log 68, DEDUCED). -/
def execRrel (sa : BitVec 5) (full : BitVec 1) (ring : BitVec 3) (s : State) : Out :=
  let g := s.core.ctx.ring ring.toNat
  let a := s.reg sa
  if !g.defd then s.wordFault causeRingOwner 0
  else match g.stageAt a.toNat with
    | some st =>
      if vat g.owner 0 st = 0 then
        .next (s.push 1 (.ringOwn ring.toNat st g.gen (if full = 1 then g.cons else g.prod) (full == 1))).retire
      else s.wordFault causeRingOwner a
    | none => s.wordFault causeRingOwner a

/-- R164: what `rstat` reads. -/
def Ring.status (g : Ring) (sel : BitVec 1) : Word :=
  if !g.defd then 0
  else if sel = 0 then
    BitVec.ofNat 64 (g.cons.toNat * 2 ^ 32 + 2 ^ 31 + g.prod.toNat * 2 ^ 28 + (g.count - 1) * 2 ^ 24 + g.tail * 2 ^ 20
      + g.head * 2 ^ 16 + ((List.range g.count).map fun i => (vat g.full false i).toNat * 2 ^ i).sum)
  else BitVec.ofNat 64 (((List.range g.count).map fun i => (vat g.owner 0 i).toNat * 8 ^ i).sum)

/-- R164 `rstat`. -/
def execRstat (sd : BitVec 5) (sel : BitVec 1) (ring : BitVec 3) (s : State) : Out :=
  s.scalar 1 sd ((s.core.ctx.ring ring.toNat).status sel)

/-- R155 `tok.rd`. -/
def execTokRd (sd : BitVec 5) (fifo : BitVec 3) (s : State) : Out :=
  s.scalar 1 sd (BitVec.ofNat 64 (s.core.ctx.tok fifo.toNat))

/-- R155: the word of a VX token entry, and its FIFO. -/
def vxTokWord (pop : Bool) (fifo : BitVec 3) : Nat := encode (if pop then .tokVpop fifo else .tokVpush fifo)

/-- R155 `tok.try`. -/
def execTokTry (sd : BitVec 5) (fifo : BitVec 3) (s : State) : Out :=
  if 0 < s.core.ctx.tok fifo.toNat then (s.ctx (·.onTok fifo.toNat (· - 1))).scalar 1 sd 1 else s.scalar 1 sd 0

/-- R145, R146: an entry of VX placed by the word that issues. -/
def State.placeVx (s : State) (w : Nat) (v : Word) : Out :=
  let c := s.core.ctx
  if c.full .vx then .next (s.holdOn fullHold)
  else .next (s.enqueue { Entry.blank s.nextId .vx with img := BitVec.ofNat 128 w, val1 := v, frm := c.regs.frm, placed := c.cyc }).retire

/-- R155 `tok.vpop`. -/
def execTokVpop (fifo : BitVec 3) (s : State) : Out := s.placeVx (vxTokWord true fifo) 0

/-- R155 `tok.vpush`. -/
def execTokVpush (fifo : BitVec 3) (s : State) : Out := s.placeVx (vxTokWord false fifo) 0

end Sys2Proof.Machine
end

