-- ==== Sys2Proof/Machine/Watch.lean ====
section
/-! DEFINITION. The watch filter and the words that fill and test it (19 R410 to R412). -/

namespace Sys2Proof.Machine

/-- R410: the key of the granule an address lies in. -/
def granuleKey (pool : Bool) (a : Nat) : Nat := (if pool then 2 ^ 49 else 0) + a / 256 % 2 ^ 49

/-- R410: h0, h1, h2. -/
def granuleHashes (k : Nat) : List Nat :=
  let p := fun lo => k / 2 ^ lo % 4096
  [p 0 ^^^ p 24, p 12 ^^^ p 36, (p 0 + p 12 + p 24 + p 36 + k / 2 ^ 48 % 4) % 4096]

/-- R410: all three bits are set. -/
def filterHit (f : BitVec 4096) (k : Nat) : Bool := (granuleHashes k).all fun h => f.getLsbD h

/-- R410: the checks WCTL enables. -/
def Ctx.watches (c : Ctx) (write pool : Bool) : Bool :=
  let w := c.misc.wctl
  wbits w 63 1 == 1 && (if write then wbits w 61 1 == 1 else wbits w 62 1 == 1)
    && (if pool then wbits w 60 1 == 1 else wbits w 59 1 == 1)

/-- R411: the granules of an access in turn. A hit not exempt is recorded as an exemption and answers its lowest byte; an
exempt word's check uses the exemption up, an entry's keeps it. -/
def Ctx.watchGranules (c : Ctx) (pool word : Bool) (idx a : Nat) : List Nat → Ctx × Option Nat
  | [] => (c, none)
  | g :: r =>
    let k := granuleKey pool (256 * g)
    if !filterHit c.filter k then c.watchGranules pool word idx a r
    else if !c.trap.inh && c.exempt.contains (word, idx, k) then
      let (c', x) := c.watchGranules pool word idx a r
      (if word then { c' with exempt := c'.exempt.erase (word, idx, k) } else c', x)
    else ({ c with exempt := if c.trap.inh then c.exempt else c.exempt ++ [(word, idx, k)] }, some (max a (256 * g)))

/-- R411: the check of an access of `n` bytes at `a`. -/
def Ctx.watch (c : Ctx) (write pool word : Bool) (idx a n : Nat) : Ctx × Option Nat :=
  if c.watches write pool && decide (0 < n) then
    c.watchGranules pool word idx a ((List.range ((a + n - 1) / 256 - a / 256 + 1)).map (· + a / 256))
  else (c, none)

/-- R411: the check of a word's access, kind W. -/
def State.watchWord (s : State) (write pool : Bool) (a n : Nat) (f : State → Out) : Out :=
  let (c, hit) := s.core.ctx.watch write pool true s.core.ctx.sq.pc.toNat a n
  let s := { s with core := { s.core with ctx := c } }
  match hit with
  | some b => s.wordFault causeWatch (BitVec.ofNat 64 b)
  | none => f s

/-- R412: the bits a granule sets. -/
def granuleBits (k : Nat) : BitVec 4096 :=
  (granuleHashes k).foldl (fun b h => b ||| (1 <<< h)) 0

/-- R412 `wfilt.clr`. -/
def execWfiltClr (s : State) : Out := .next (s.push 1 (.wfilt true 0)).retire

/-- R412 `wfilt.ins`: N granules, one in each of the N cycles SQ holds. -/
def execWfiltIns (sa : BitVec 5) (n : BitVec 8) (space : BitVec 1) (s : State) : Out :=
  let w := (s.waiting .wfilt).getD ⟨.wfilt, none, [], 0, (s.reg sa).toNat⟩
  let s := s.push 1 (.wfilt false (granuleBits (granuleKey (space == 1) (w.value + 256 * w.progress))))
  if w.progress = n.toNat then .next s.retire else .next (s.holdOn { w with progress := w.progress + 1 })

/-- R412 `wfilt.tst`. -/
def execWfiltTst (sd sa : BitVec 5) (space : BitVec 1) (s : State) : Out :=
  s.scalar 1 sd (if filterHit s.core.ctx.filter (granuleKey (space == 1) (s.reg sa).toNat) then 1 else 0)

end Sys2Proof.Machine
end

