-- ==== Sys2Proof/Machine/Fabric.lean ====
section
/-! DEFINITION. Device memory beyond the core: translation (10 R243 to R251), homes and what performs at them (10 R237 to
R240, 05 R143), and the responses that complete requests (11 R263 to R267). -/

namespace Sys2Proof.Machine

/-! Translation -/

/-- R249: an entry most recently used, at most `cap` kept. -/
def fillXlate (cap : Nat) (l : List TlbEntry) (e : TlbEntry) : List TlbEntry :=
  (e :: l.filter fun x => !(x.asid == e.asid && x.va == e.va && x.size == e.size)).take cap

/-- R249: the set of the die's cache an entry lies in (log 57, DESIGN CHOICE). -/
def TlbEntry.set (e : TlbEntry) : Nat := e.va / max e.size 1 % 512

/-- R249: an entry of the die's cache most recently used: 512 sets of 8 ways (log 57, DESIGN CHOICE). -/
def fillDie (l : List TlbEntry) (e : TlbEntry) : List TlbEntry :=
  let rest := l.filter fun x => !(x.asid == e.asid && x.va == e.va && x.size == e.size)
  let ways := (rest.filter (·.set == e.set)).take 7
  e :: rest.filter fun x => x.set != e.set || ways.contains x

/-- What a translation answers in this cycle. -/
inductive Xlat where
  | at (module pa : Nat) | wait | fault (cause : BitVec 8)
deriving DecidableEq, Repr

/-- R249: two misses are of one page of one address space. -/
def Miss.same (a b : Miss) : Bool := a.asid == b.asid && a.page == b.page

/-- R249: a walk begins. -/
def State.beginWalk (s : State) (m : Miss) : State :=
  let s := s.onDie (m.cid / 128) fun d => { d with walks := d.walks ++ [m] }
  s.fresh.at (s.tick + 1 + Config.walkDelay s.nextId) (.translationWalk m.cid (m.page * 65536))

/-- R249: ticks in which 16 cycles of a die pass. -/
def Die.fillTicks (d : Die) : Nat := (16000 + d.fmhz - 1) / max d.fmhz 1

/-- R249: a miss put in its place in a miss queue: order of arrival, ties by CID. -/
def insMiss : List Miss → Miss → List Miss
  | [], m => [m]
  | x :: r, m => if m.tick < x.tick ∨ (m.tick = x.tick ∧ m.cid < x.cid) then m :: x :: r else x :: insMiss r m

/-- R249: a miss at its die: the die's cache fills the TLB 16 cycles on, or the miss joins the walk of its page, or a walk begins, or
it waits in the miss queue; with the queue full it stays in its core's miss buffer. -/
def State.dieMiss (s : State) (m : Miss) : State :=
  let die := m.cid / 128
  let d := s.die die
  if d.xcache.any (·.covers m.asid (m.page * 65536)) then s.at (s.tick + d.fillTicks) (.translationWalk m.cid (m.page * 65536))
  else if d.walks.any m.same then s
  else if d.walks.length < 64 ∧ d.missQueue = [] then s.beginWalk m
  else if d.missQueue.length < 512 then s.onDie die fun d => { d with missQueue := insMiss d.missQueue m }
  else s

/-- R249: a miss of the focus core's task; at most 8 pages at a time. -/
def State.startWalk (s : State) (asid va kind : Nat) : State :=
  let c := s.core
  if 8 ≤ c.xmiss.length then s
  else
    let m : Miss := ⟨c.cid, c.tick, asid, va / 65536, kind, c.ctx.root, c.ctx.sys⟩
    ({ s with core := { c with xmiss := c.xmiss ++ [m] } } : State).dieMiss m

/-- R251: a fault record reaches the page-walk assist. -/
def State.recordFault (s : State) (va : Nat) (f : XFail) (landed : Nat) : State :=
  s.onDie (s.core.cid / 128) fun d => { d with xrecords := d.xrecords ++ [⟨s.core.cid, va, f, landed⟩] }

/-- R249, R251: the focus core's translation of a device address for an access; `landed` is the bytes-landed prefix of the entry that
makes it. -/
def State.translate (s : State) (kind va landed : Nat) : State × Xlat :=
  let c := s.core
  let asid := c.ctx.asid
  if 2 ^ 57 ≤ va then (s.recordFault va ⟨asid, va / 65536, causeXlateAbsent, 0, 0, kind⟩ landed, .fault causeXlateAbsent)
  else match c.tlb.find? (·.covers asid va) with
    | some e =>
      let s := { s with core := { c with tlb := fillXlate 64 c.tlb e } }
      if e.permits c.ctx.sys kind then (s, .at e.module (e.locate va))
      else (s.recordFault va ⟨asid, va / 65536, causeXlateProt, e.level, e.raw, kind⟩ landed, .fault causeXlateProt)
    | none =>
      match c.xfail.find? fun f => f.asid == asid && f.page == va / 65536 with
      | some f => (s.recordFault va f landed, .fault f.cause)
      | none =>
        if c.xmiss.any fun m => m.asid == asid && m.page == va / 65536 then (s, .wait)
        else (s.startWalk asid va kind, .wait)

/-- R249: the cores of a die. -/
def State.coresOf (s : State) (die : Nat) : List Core := (s.core :: s.others).filter fun c => c.cid / 128 == die

/-- R249: misses that a full miss queue left in their cores' miss buffers enter it, in order of arrival. -/
def State.refillMisses (s : State) (die : Nat) : State :=
  let d := s.die die
  let left := (s.coresOf die).flatMap fun c => c.xmiss.filter fun m =>
    !(d.missQueue.contains m || d.walks.any m.same || d.xcache.any (·.covers m.asid (m.page * 65536)))
  let order := left.foldl insMiss []
  s.onDie die fun d => { d with missQueue := d.missQueue ++ order.take (512 - d.missQueue.length) }

/-- R249: walks begin for the misses at the head of a miss queue while there is room. -/
def State.nextWalks (die : Nat) : List Miss → State → State
  | [], s => s.refillMisses die
  | m :: r, s =>
    if 64 ≤ (s.die die).walks.length then s.refillMisses die
    else
      let s := s.onDie die fun d => { d with missQueue := d.missQueue.tail }
      let d := s.die die
      State.nextWalks die r
        (if d.xcache.any (·.covers m.asid (m.page * 65536)) then s.at (s.tick + d.fillTicks) (.translationWalk m.cid (m.page * 65536))
        else if d.walks.any m.same then s
        else s.beginWalk m)

/-- R249: the misses of a core that a walk answers leave its miss buffer, with the outcome in its TLB or as a failure. -/
def Core.walked (c : Core) (m : Miss) (queued : List Miss) (r : Except XFault TlbEntry) : Core :=
  let joined := fun (x : Miss) => x.same m && !queued.contains x
  if !c.xmiss.any joined then c
  else
    let c := { c with xmiss := c.xmiss.filter fun x => !joined x }
    match r with
    | .ok e => { c with tlb := fillXlate 64 c.tlb e }
    | .error f => { c with xfail := c.xfail ++ [⟨m.asid, m.page, f.cause, f.level, f.entry, m.kind⟩] }

/-- R246, R249: a walk ends: it fills the die's cache and the TLBs of the cores that joined it, or every request that joined takes the
fault; or a fill from the die's cache comes about. -/
def execTranslationWalk (cid va : Nat) (s : State) : Out :=
  let die := cid / 128
  let page := va / 65536
  match (s.die die).walks.find? fun m => m.cid == cid && m.page == page with
  | some m =>
    let (s, r) := s.walk m.root m.asid va m.kind m.sys
    let s := s.onDie die fun d => { d with
      walks := d.walks.erase m
      xcache := match r with
        | .ok e => fillDie d.xcache e
        | .error _ => d.xcache }
    let queued := (s.die die).missQueue
    let f := fun (c : Core) => if c.cid / 128 = die then c.walked m queued r else c
    let s : State := { s with core := f s.core, others := s.others.map f }
    .next (State.nextWalks die (s.die die).missQueue s)
  | none =>
    let ms := (s.coreOf cid).xmiss.filter fun m => m.page == page && !(s.die die).missQueue.contains m
    match ms with
    | [] => .next s
    | m :: _ =>
      match (s.die die).xcache.find? (·.covers m.asid va) with
      | some e =>
        .next ((s.onDie die fun d => { d with xcache := fillDie d.xcache e }).onCore cid fun c =>
          { c with xmiss := c.xmiss.erase m, tlb := fillXlate 64 c.tlb e })
      | none => .next (s.dieMiss m)

/-- R250: a request has been sent, or is over: invalidations that waited for it alone are done. -/
def State.invSent (s : State) (id : Nat) : State :=
  { s with dies := s.dies.map fun d =>
      if d.invWaits.contains id then
        { d with invWaits := d.invWaits.filter (· ≠ id), invDone := d.invDone || d.invWaits.all (· == id) }
      else d }

/-- R250: matching translations leave the die's cache and all its TLBs; DONE is set once every request translated through one of them
has been sent. A range of no bytes matches nothing. -/
def execTlbInvalidate (die : Nat) (asid : Option Nat) (lo hi : Nat) (s : State) : Out :=
  let keep := fun (e : TlbEntry) => !((asid == none || asid == some e.asid) && decide (e.va < hi) && decide (lo < e.va + e.size))
  let gone := (s.die die).xcache ++ (s.coresOf die).flatMap (·.tlb)
  let through := fun (r : Req) => match r.onward with
    | some (_, _, va) => (asid == none || asid == some r.asid)
        && ((decide (lo ≤ va) && decide (va < hi)) || gone.any fun e => !keep e && e.covers r.asid va)
    | none => false
  let waits := (s.reqs.filter fun r => r.cid / 128 == die && through r).map (·.id)
  let s := s.onDie die fun d => { d with xcache := d.xcache.filter keep, invDone := waits == [], invWaits := waits }
  let inv := fun (c : Core) => if c.cid / 128 = die then { c with tlb := c.tlb.filter keep } else c
  .next { s with core := inv s.core, others := s.others.map inv }

/-! Homes -/

/-- A request refused or performed: its answer sets out with the cause. -/
def State.answerWith (s : State) (id : Nat) (cause : BitVec 8) (data : List Byte) (status : Word) : State :=
  (s.onReq id fun r => { r with atHome := true, cause := cause, data := data, status := status }).answer id

/-- R327: the request's home is on another module of the set. -/
def Req.abroad (r : Req) : Bool := r.epoch.isSome && r.foreign.isNone

/-- R240, R254, R329, R331: the causes with which the home of a request may refuse it. -/
def Req.refusals (r : Req) : List (BitVec 8) :=
  match r.kind with
  | .read | .write => [causeMem]
  | .farWrite _ | .farRead _ => [causePoolBound, causeRemoteGated, causePeerDead]
  | .gput .. => [causeCommitOverflow]
  | .nm .. => [causeNmuReject, causeMem, causeXlateAbsent, causeXlateProt, causePeerDead, causeRemoteGated, causePoolBound,
      causeFabricTimeout]
  | _ => []

/-- The cause with which another module answers: performed, or one of the refusals of the request's kind (log 11, DESIGN CHOICE). -/
def Req.peerCause (r : Req) : BitVec 8 := if r.refusals.contains (Config.peerCause r.id) then Config.peerCause r.id else 0

/-- R263: a request to another module of the set: what is read there and how it is answered is free (log 11, DESIGN CHOICE). -/
def State.peerAnswer (s : State) (r : Req) : State :=
  s.answerWith r.id r.peerCause
    (match r.kind with
      | .read | .farRead _ => if r.peerCause = 0 then (List.range r.pairs.length).map (Config.peerByte r.id) else []
      | _ => [])
    (match r.kind with
      | .release _ => (Config.peerByte r.id 0).zeroExtend 64 % 2
      | _ => 0)

/-- R263, R317, R327: a request comes to its home: one lost with a formation of the set does not; on another module `peer` answers it. -/
def State.atHome (s : State) (id : Nat) (peer : Req → State) (f : Req → Out) : Out :=
  match s.req id with
  | none => .next s
  | some r => if s.lost r || r.atHome then .next s else if r.abroad then .next (peer r) else f r

/-- R266: the scope of a request. -/
def State.scopeOf (s : State) (r : Req) : Nat :=
  let own := r.module == s.conn.modnum
  match r.target with
  | some t => if own then coreScope r.cid t else 3
  | none => siteScope own r.cid (r.pa / 2 ^ 36)

/-- A request sent under the scope of its target (log 11, DESIGN CHOICE). -/
def State.dispatch (s : State) (r : Req) : State := s.sendReq { r with scope := s.scopeOf r }

/-- R272: a write request into the region of a binding not held. -/
def Ctx.unheld (c : Ctx) (far : Bool) (a n : Nat) : Ctx :=
  { c with binds := c.binds.each fun b =>
      if b.valid && !b.held && b.farPool == far && b.length != 0 && decide (a < b.base + b.length) && decide (b.base < a + n) then
        { b with unheld := true }
      else b }

/-- R267: `n` more requests keep the counters within 4,096. -/
def Ctx.ackRoomFor (c : Ctx) (n : Nat) : Bool := decide (c.ackc.toList.sum + n ≤ 4096)

/-- R267: one more request may be sent. -/
def Ctx.ackRoom (c : Ctx) : Bool := c.ackRoomFor 1

/-- R329: the job id by which an operation of another module is accepted. -/
def Req.foreignJob (r : Req) : Option Nat := if r.foreign.isSome then some r.job else none

/-- R143: an operation enters a core's inbound queue, too late for a context whose drain wait has begun. -/
def State.enterInbound (s : State) (cid id : Nat) (r : Req) : State :=
  let late := fun (c : Core) => c.drain && c.bank.any fun b =>
    if r.foreign.isSome then (s.launchOf b.lid).any (·.job == r.job) else b.lid == r.lid
  (s.onCore cid fun c => { c with inbound := c.inbound ++ [⟨id, r.lid, r.foreignJob, r.pa, late c, s.clusterShut cid, false⟩] }).post
    (.remoteOperation cid)

/-- R143: an operation reaches a core: its inbound queue of 32, or the mesh holds it. -/
def State.arriveAt (s : State) (cid id : Nat) (r : Req) : State :=
  let c := s.coreOf cid
  if c.inbound.length < 32 ∧ c.meshed = [] then s.enterInbound cid id r
  else s.onCore cid fun c => { c with meshed := c.meshed ++ [id] }

/-- R143: with room in a core's inbound queue, the operation the mesh has held longest enters it. -/
def State.unmesh (s : State) (cid : Nat) : State :=
  let c := s.coreOf cid
  match c.meshed with
  | [] => s
  | id :: rest =>
    if 32 ≤ c.inbound.length then s
    else
      let s := s.onCore cid fun c => { c with meshed := rest }
      match s.req id with
      | some r => s.enterInbound cid id r
      | none => s

/-- R263: a request reaches its home: a device sector, or a core's inbound queue. -/
def execHomeRequest (id : Nat) (s : State) : Out :=
  s.atHome id s.peerAnswer fun r =>
    match r.target with
    | some cid => .next (s.arriveAt cid id r)
    | none =>
      match r.kind with
      | .write =>
        if s.fillFails r.pa r.pairs.length then
          .next ((s.onSite (r.pa / 2 ^ 36) (·.touch r.pa false)).answerWith id causeMem [] 0)
        else .next ((s.sectorWrite (r.pairs.zip r.data |>.map fun x => (x.1.1, x.2))).answerWith id 0 [] 0)
      | _ =>
        match s.sectorRead (r.pairs.map (·.1)) with
        | (s, some bs) => .next (s.answerWith id 0 bs 0)
        | (s, none) => .next (s.answerWith id causeMem [] 0)

/-! Atomics of a bank (05 R138, R139) -/

/-- R138: the new value of an atomic on `n` bytes. -/
def amoValue (op n m v : Nat) : Nat :=
  let w := 8 * n
  let v := v % 2 ^ w
  match op with
  | 0 => (m + v) % 2 ^ w
  | 1 => m &&& v
  | 2 => m ||| v
  | 3 => m ^^^ v
  | 4 => if toInt w v < toInt w m then v else m
  | 5 => if toInt w m < toInt w v then v else m
  | 6 => min m v
  | 7 => max m v
  | _ => v

/-- A quantity of `n` bytes, sign-extended to 64 bits. -/
def signWord (n x : Nat) : Word := BitVec.ofInt 64 (toInt (8 * n) x)

/-- R143: the outcome of an inbound operation at the target's context: its cause, the word for L, the bytes written. -/
def remoteEffect (c : Core) (x : Ctx) (k : ReqKind) (a : Nat) (r : Req) : BitVec 8 × List Byte × List (Nat × Byte) :=
  let p := x.misc.part
  let read := fun (n : Nat) => (List.range n).map fun i => c.pool.read emptyByte (phys p (a + i))
  match k with
  | .pool op n amoOp v cmp _ =>
    if !admitsAll p .remote a n then (causePoolBound, toBytes 8 0, [])
    else
      let m := ofBytes (read n)
      if op = 4 then (0, toBytes 8 m, [])
      else if op = 5 then (0, toBytes 8 0, placed p a (toBytes n v.toNat))
      else if op = 6 then (0, toBytes 8 (signWord n m).toNat, placed p a (toBytes n (amoValue amoOp n m v.toNat)))
      else (0, toBytes 8 (signWord n m).toNat,
        if m = cmp.toNat % 2 ^ (8 * n) then placed p a (toBytes n (v.toNat % 2 ^ (8 * n))) else [])
  | .farRead _ =>
    if r.pairs.all fun w => admits p .remote w.1 then
      (0, r.pairs.map fun w => c.pool.read emptyByte (phys p w.1), [])
    else (causePoolBound, [], [])
  | _ =>
    if r.pairs.all fun w => admits p .remote w.1 then
      (0, [], r.pairs.zip r.data |>.map fun w => (phys p w.1.1, w.2))
    else (causePoolBound, [], [])

/-- The cores of a cluster that have left their reset state. -/
def State.clusterCores (s : State) (die c : Nat) : List Core :=
  (s.core :: s.others).filter fun k => k.cid / 128 == die && clusterOf k.cid == c

/-- R399: DRAINED sets once nothing accepted before CLOSING is left. -/
def State.drainCheck (s : State) (die c : Nat) : State :=
  let k := vat (s.die die).clusters .zero c
  if k.closing && (s.clusterCores die c).all fun x => x.inbound.all (·.shut) then
    s.onDie die fun d => { d with clusters := vmod d.clusters .zero c fun k => { k with drained := true } }
  else s

/-- R143: an inbound operation is over: it leaves the queue with its outcome on the way back. -/
def State.endRemote (s : State) (cid id : Nat) (cause : BitVec 8) (bs : List Byte) : State :=
  let s := (s.onCore cid fun c => { c with inbound := c.inbound.filter (·.id ≠ id) }).unmesh cid
  let s := s.answerWith id cause bs 0
  if (vat (s.die (cid / 128)).clusters .zero (clusterOf cid)).closing then s.drainCheck (cid / 128) (clusterOf cid) else s

/-- R141: the locations an operation reads or writes at its target. -/
def remoteCells (x : Ctx) (r : Req) : List Nat :=
  match r.kind with
  | .pool _ n _ _ _ _ => (List.range n).map fun i => phys x.misc.part (r.pa + i)
  | _ => r.pairs.map fun w => phys x.misc.part w.1

/-- R143, R329: the launch whose context on a core an operation is for: the sender's, or one that carries the job id of a sender on
another module. -/
def State.opLaunch (s : State) (cid : Nat) (op : RemoteOp) : Nat :=
  match op.job with
  | none => op.lid
  | some j =>
    let k := s.coreOf cid
    let here := (k.ctx :: k.bank.toList).filter (·.held) ++ (s.saves.filter (·.cid == cid)).map (·.ctx)
    ((here.find? fun x => (s.launchOf x.lid).any (·.job == j)).map (·.lid)).getD 0

/-- R143: the operation at the head of a core's inbound queue is refused, or asks its bank for its one gated access, by the tick
and the source it arrived from (R134 rule 5). -/
def execRemoteOperation (cid : Nat) (s : State) : Out :=
  match (s.coreOf cid).inbound.find? fun op => !op.taken with
  | none => .next s
  | some op =>
    match s.req op.id with
    | none => .next (s.onCore cid fun c => { c with inbound := c.inbound.filter (·.id ≠ op.id) })
    | some r =>
      let refuse := fun (cause : BitVec 8) => Host.Outcome.next (s.endRemote cid op.id cause (toBytes 8 0))
      if s.retired cid then refuse causePeerDead
      else if op.shut then refuse causeRemoteGated
      else match (s.coreOf cid).ctxOf (s.opLaunch cid op) with
        | none => refuse (if s.saves.any fun x => x.cid == cid && x.ctx.lid == s.opLaunch cid op then causeRemoteGated else causePoolBound)
        | some x =>
          if op.late then refuse causeRemoteGated
          else
            let (cause, _, _) := remoteEffect (s.coreOf cid) x r.kind op.addr r
            if cause ≠ 0 then refuse cause
            else
              let s := s.onCore cid fun c => { c with inbound := c.inbound.map fun (o : RemoteOp) => if o.id = op.id then { o with taken := true } else o }
              .next (s.askAt cid op.id (.remote op.id) ((readAccs cid (remoteCells x r)).map (·.arrived s.tick r.cid)))

/-- R143: what the operation does now that its bank serves it: cause, result, bytes written. -/
def State.remoteNow (s : State) (cid id : Nat) : BitVec 8 × List Byte × List (Nat × Byte) :=
  match s.req id, ((s.coreOf cid).inbound.find? (·.id = id)).bind fun op => (s.coreOf cid).ctxOf (s.opLaunch cid op) with
  | some r, some x => remoteEffect (s.coreOf cid) x r.kind r.pa r
  | _, _ => (causePoolBound, toBytes 8 0, [])

/-! Completion at the issuer -/

/-- R232: an entry's request completes or fails; one sent before the entry was put back (R233) counts no more. -/
def Entry.settled (e : Entry) (r : Req) : Entry :=
  if !e.out.any (·.1 == r.id) then e
  else { e with
    out := e.out.filter (·.1 ≠ r.id)
    landed := if r.cause = 0 ∧ r.pos < e.total then e.landed + r.pairs.length else e.landed
    wdata := match r.kind with
      | .read | .farRead _ => if e.gens = [] ∨ r.cause ≠ 0 then e.wdata else e.wdata ++ r.data.zipIdx.map fun x => (r.pos + x.2, x.1)
      | _ => e.wdata
    failed := if r.cause = 0 then e.failed else e.failed ++ [(r.pos, r.cause, r.va)] }

/-- R142, R254: a status word. -/
def statusWord (cause : BitVec 8) (bits : Nat) : List Byte := toBytes 8 (2 ^ 63 + bits + cause.toNat)

/-- R263: bytes that have been read land at the issuer's pool, by physical location, unless they go on to device memory. -/
def Req.landing (r : Req) (x : Ctx) : List (Nat × Byte) :=
  if r.cause ≠ 0 then []
  else match r.onward, r.kind with
    | none, .read | none, .farRead _ => (r.pairs.zip r.data).map fun w => (phys x.misc.part w.1.2, w.2)
    | _, _ => []

/-- What a completed request frees or fills besides its bytes. -/
def Ctx.completed (c : Ctx) (r : Req) : Ctx :=
  let c := if r.counted then { c with ackc := vmod c.ackc 0 r.scope (· - 1) } else c
  let c := match r.uid with
    | some u => c.onEntry u (·.settled r)
    | none => c
  match r.kind with
  | .pool .. => { c with remotes := c.remotes - 1 }
  | .nm .. => { c with nmOut := c.nmOut - 1 }
  | .launch .. => { c with launches := c.launches - 1 }
  | .release k =>
    if r.status ≠ 0 then { c with binds := vmod c.binds .zero k fun b => { b with rfail := true } } else c
  | _ => c

/-- The data a request's answer writes at the issuer before its status. -/
def Req.resultData (r : Req) : List (Nat × List Byte) :=
  match r.kind with
  | .nm _ _ addr => [(addr + 8, r.data)]
  | .launch _ addr => [(addr, r.data)]
  | _ => []

/-- R142, R254: the status a request's answer writes at the issuer, in one access with its data but for an NM operation's
and a launch request's (R369), whose status follows. -/
def Req.resultStatus (r : Req) : List (Nat × List Byte) :=
  match r.kind with
  | .pool _ _ _ _ _ l => [(l, (if r.cause = 0 then r.data else toBytes 8 0) ++ statusWord r.cause 0)]
  | .nm _ _ addr => [(addr, statusWord r.cause r.status.toNat)]
  | .launch _ addr => [(addr + 8, statusWord r.cause r.status.toNat)]
  | _ => []

/-- R134 rule 5, R242: the source a response's accesses are ranked by: a core's CID, or 0xC800 and the site. -/
def Req.source (r : Req) : Nat :=
  match r.kind with
  | .pool .. | .launch .. => r.cid
  | .farRead cid => cid
  | _ => 0xC800 + r.pa / 2 ^ 36

/-- The gated accesses with which a response performs at its issuer. -/
def Req.accesses (r : Req) (x : Ctx) (tick : Nat) : List BankAcc :=
  let put := fun (w : Nat × List Byte) => placed x.misc.part w.1 w.2
  ((writeAccs r.cid (r.landing x ++ r.resultData.flatMap put))
    ++ (writeAccs r.cid (r.resultStatus.flatMap put)).map fun (a : BankAcc) => { a with last := true }).map fun (a : BankAcc) => a.arrived tick r.source

/-! What the requests of a commit group count (14 R331) -/

/-- A core's commit group changed. -/
def Ctx.onGroup (c : Ctx) (g : Nat) (f : Group → Group) : Ctx := { c with groups := vmod c.groups .zero g f }

/-- R331: the first refusal is kept. -/
def Group.refused (g : Group) (cause : BitVec 8) : Group := { g with cause := if g.cause = 0 then cause else g.cause }

/-- A request of the group is no longer outstanding. -/
def Group.less (g : Group) : Group := { g with out := g.out - 1 }

/-- R331: what has been read for the stores of a core's group and is still to be sent on. -/
def State.groupReads (s : State) (cid lid grp : Nat) : Nat :=
  (s.reqs.filter fun r => r.cid == cid && r.lid == lid && match r.onward with
    | some (.gput h _, _, _) => h == grp
    | _ => false).length

/-- R267, R331: a request of this kind is counted in the acknowledgement counters. -/
def ReqKind.counted : ReqKind → Bool
  | .gput .. => false
  | _ => true

/-- R331: the sites of requests of a group still in flight. -/
def State.flyingSites (s : State) (cid lid grp : Nat) : List (Nat × Nat) :=
  s.reqs.filterMap fun r =>
    if r.cid ≠ cid ∨ r.lid ≠ lid then none
    else match r.kind, r.onward with
      | .gput h _, _ => if h = grp then some (r.module, r.pa / 2 ^ 36) else none
      | _, some (.gput h _, m, _) => if h = grp then some (m, (r.pairs.map (·.2)).headD 0 / 2 ^ 36) else none
      | _, _ => none

/-- R331: the refusal at the issuer of a request of a group, unsent. -/
def State.gputRefusal (s : State) (cid lid grp module site : Nat) : Option (BitVec 8) :=
  match (s.coreOf cid).ctxOf lid with
  | none => none
  | some c =>
    let g := vat c.groups .zero grp
    let sites := (g.sites ++ s.flyingSites cid lid grp).dedup
    if !sites.contains (module, site) && decide (64 ≤ sites.length) then some causeCommitOverflow
    else if !g.mask.getLsbD module || g.state != .opened then some causeCommitAborted
    else none

/-- The issuer's context changed by a request's answer. -/
def State.onIssuer (s : State) (r : Req) (f : Ctx → Ctx) : State := s.onTaskCtx r.cid r.lid f

/-- R263: what has been read goes on to the destination's home; a group's store is refused or sent under R331. -/
def State.goOn (s : State) (r : Req) (kind : ReqKind) (module va : Nat) : State :=
  let pa := (r.pairs.map (·.2)).headD 0
  let refusal := match kind with
    | .gput g _ => (s.gputRefusal r.cid r.lid g module (pa / 2 ^ 36)).map fun c => (g, c)
    | _ => none
  match refusal with
  | some (g, cause) => s.onIssuer r fun c => c.onGroup g fun x => x.refused cause
  | none =>
    let id := s.nextId
    let s := s.dispatch { r with
      kind := kind, module := module, va := va, onward := none, atHome := false, status := 0
      counted := kind.counted
      pairs := r.pairs.map fun w => (w.2, 0)
      pa := pa }
    s.onIssuer r fun c =>
      let c := c.unheld (match kind with
        | .farWrite _ => true
        | _ => false) va r.pairs.length
      let c := match kind with
        | .gput g _ => c.onGroup g fun g => { g with out := g.out + 1 }
        | _ => c
      match r.uid with
      | some u => c.onEntry u fun e => { e with out := e.out ++ [(id, r.pos)], landed := e.landed - r.pairs.length }
      | none => c

/-- R263, R267: a response has performed at the issuer. -/
def State.responded (s : State) (id : Nat) : State :=
  match s.req id with
  | none => s
  | some r =>
    let s := s.dropReq id
    let s := s.onIssuer r (·.completed r)
    match r.onward with
    | none => s
    | some (kind, module, va) =>
      (if r.cause = 0 then s.goOn r kind module va else s).invSent id

/-- R263, R267: a response arrives at the issuer: what it writes there waits for the banks, and then it has performed. -/
def State.respond (s : State) (id : Nat) : State :=
  match s.req id with
  | none => s
  | some r =>
    match (s.coreOf r.cid).ctxOf r.lid with
    | none => s.responded id
    | some x =>
      let as := r.accesses x s.tick
      if as = [] then s.responded id
      else (s.onReq id fun r => { r with timed := false }).askAt r.cid id (.respond id) as

/-- R242, R327: the answer to a request of another module leaves in a flit by the port the request came in by. -/
def State.leavesAnswer (s : State) (r : Req) (f : Foreign) : State :=
  let h : SlotHead := ⟨(Config.opCode r.kind.code).toNat, 1, (Config.sizeCode r.data.length).toNat, r.endpoint, r.cid, f.tag, f.module, r.pa⟩
  let slot := slotOf h (toBytes 8 r.status.toNat) (Config.auxBits [r.cause.toNat, r.status.toNat])
  let at_ := r.pa % 128
  if r.data = [] then s.sendFlit f.port false 0 slot
  else s.sendFlit f.port false 1
    (dataSlotOf h (r.data.zipIdx.foldl (fun m x => m ||| 2 ^ ((at_ + x.2) % 128)) 0) (List.replicate at_ 0 ++ r.data) ++ slot)

/-- R263, R267: the response arrives at the issuer, or at the port by which its request came. -/
def execRequestResponse (id : Nat) (s : State) : Out :=
  match s.req id with
  | none => .next s
  | some r =>
    match r.foreign with
    | some f => .next ((s.dropReq id).leavesAnswer r f)
    | none => .next (s.respond id)

/-- R321: no answer came in time: the request completes with FABRIC_ERROR, whether or not it has performed. -/
def execAckTimeout (id : Nat) (s : State) : Out :=
  match s.req id with
  | none => .next s
  | some r =>
    if !r.timed then .next s
    else
      let s := s.onReq id fun r => { r with cause := causeFabricError, data := [], status := 0 }
      if r.bySite then .next (s.post (r.reply causeFabricError))
      else match r.kind with
        | .gput .. | .commit .. | .acquire .. | .cancel => .next (s.post (r.reply causeFabricError))
        | _ => .next (s.respond id)

end Sys2Proof.Machine
end

