-- ==== Sys2Proof/Machine/Pool.lean ====
section
/-! DEFINITION. Scalar and remote pool words (05 R137 to R142). -/

namespace Sys2Proof.Machine

/-- R137: the checks of a scalar access of `n` bytes: alignment, range, watchpoint. -/
def State.poolAccess (s : State) (write : Bool) (a : Word) (n : Nat) (f : State → Out) : Out :=
  if a.toNat % n ≠ 0 then s.wordFault causeMisalign a
  else if !admitsAll s.core.ctx.misc.part (if write then .scalarWrite else .scalarRead) a.toNat n then s.wordFault causePoolBound a
  else s.watchWord write true a.toNat n f

/-- R137: the address of a scalar access. -/
def poolAddr (s : State) (sa : BitVec 5) (off : BitVec 7) (n : Nat) : Word := s.reg sa + simm off * BitVec.ofNat 64 n

/-- R137: the size of a width code. -/
def widthBytes (sz : Nat) : Nat := 2 ^ (sz % 4)

/-- R137: a loaded quantity, by its width code. -/
def loadValue (sz : BitVec 3) (m : Nat) : Word :=
  if sz.toNat < 4 then signWord (widthBytes sz.toNat) m else BitVec.ofNat 64 m

/-- R137 `lds`: its bank access, and once that is served its register after 3 cycles (R140). -/
def execLds (sd sa : BitVec 5) (g : BitVec 4) (sz : BitVec 3) (off : BitVec 7) (s : State) : Out :=
  s.guarded g fun _ =>
    let n := widthBytes sz.toNat
    let a := poolAddr s sa off n
    s.poolAccess false a n fun s => .next (s.askSq (.load sd sz a.toNat) false a.toNat n).retire

/-- R137 `sts`: its bank access. -/
def execSts (sd sa : BitVec 5) (g : BitVec 4) (sz : BitVec 2) (off : BitVec 7) (s : State) : Out :=
  s.guarded g fun _ =>
    let n := widthBytes sz.toNat
    let a := poolAddr s sa off n
    s.poolAccess true a n fun s => .next (s.askWrite a.toNat (toBytes n (s.reg sd).toNat)).retire

/-- R138: bytes of an atomic's quantity. -/
def amoBytes (w : BitVec 1) : Nat := if w = 1 then 4 else 8

/-- R138 `amo`. -/
def execAmo (sd sa sb : BitVec 5) (g : BitVec 4) (w : BitVec 1) (op : BitVec 4) (s : State) : Out :=
  s.guarded g fun _ =>
    let n := amoBytes w
    let a := s.reg sa
    s.poolAccess true a n fun s => .next (s.askSq (.amo sd n op.toNat a.toNat (s.reg sb)) true a.toNat n).retire

/-- The even register a pair begins at. -/
def pairReg (h : BitVec 4) : BitVec 5 := h.zeroExtend 5 <<< 1

/-- R139 `amocas`. -/
def execAmocas (sd sa : BitVec 5) (sbh : BitVec 4) (g : BitVec 4) (w : BitVec 1) (s : State) : Out :=
  s.guarded g fun _ =>
    let n := amoBytes w
    let a := s.reg sa
    s.poolAccess true a n fun s =>
      .next (s.askSq (.cas sd n a.toNat (s.reg (pairReg sbh)) (s.reg (pairReg sbh + 1))) true a.toNat n).retire

/-- R141: what a remote word reads in its issue cycle: locator, L, operand, expected value; kept while it holds. -/
def State.remoteOperands (s : State) (sl sa sb sc : BitVec 5) : List Nat :=
  match s.waiting .full with
  | some w => w.addrs
  | none => [(s.reg sa).toNat, (s.reg sl).toNat, (s.reg sb).toNat, (s.reg sc).toNat]

/-- R141: the checks of a remote word in their order, the limits of R142 and R267, and its request. -/
def State.remoteWord (s : State) (g : BitVec 4) (ops : List Nat) (n : Nat) (write : Bool)
    (kind : (v cmp : Word) → (l : Nat) → ReqKind) : Out :=
  if (s.waiting .full).isNone && !s.guard g then .next s.retire
  else
    let loc := BitVec.ofNat 64 (ops.getD 0 0)
    let l := ops.getD 1 0
    let a := wbits loc 0 19
    let cid := wbits loc 32 16
    if wbits loc 19 13 ≠ 0 ∨ wbits loc 48 16 ≠ 0 ∨ !cidOk cid then s.wordFault causeFieldRange loc
    else if a % n ≠ 0 then s.wordFault causeMisalign loc
    else if l % 16 ≠ 0 then s.wordFault causeMisalign (BitVec.ofNat 64 l)
    else if !admitsAll s.core.ctx.misc.part .remote l 16 then s.wordFault causePoolBound (BitVec.ofNat 64 l)
    else if 32 ≤ s.core.outstanding Ctx.remotes ∨ !s.core.ctx.ackRoom then .next (s.holdOn ⟨.full, none, ops, 0, 0⟩)
    else s.watchWord write true a n fun s =>
      let s := s.ctx fun c => { (if write then c.unheld true loc.toNat n else c) with remotes := c.remotes + 1 }
      .next (s.dispatch { s.core.ctx.blankReq s.core.cid
          (kind (BitVec.ofNat 64 (ops.getD 2 0)) (BitVec.ofNat 64 (ops.getD 3 0)) l) with
        va := loc.toNat, pa := a, module := s.conn.modnum }).retire

/-- R141 `rld`. -/
def execRld (sd sa : BitVec 5) (g : BitVec 4) (sz : BitVec 2) (s : State) : Out :=
  let n := widthBytes sz.toNat
  s.remoteWord g (s.remoteOperands sd sa 0 0) n false fun _ _ l => .pool 4 n 0 0 0 l

/-- R141 `rst`. -/
def execRst (sd sa sb : BitVec 5) (g : BitVec 4) (sz : BitVec 2) (s : State) : Out :=
  let n := widthBytes sz.toNat
  s.remoteWord g (s.remoteOperands sd sa sb 0) n true fun v _ l => .pool 5 n 0 v 0 l

/-- R141 `ramo`. -/
def execRamo (sd sa sb : BitVec 5) (g : BitVec 4) (w : BitVec 1) (op : BitVec 4) (s : State) : Out :=
  s.remoteWord g (s.remoteOperands sd sa sb 0) (amoBytes w) true fun v _ l => .pool 6 (amoBytes w) op.toNat v 0 l

/-- R141 `ramocas`. -/
def execRamocas (sd sa : BitVec 5) (sbh : BitVec 4) (g : BitVec 4) (w : BitVec 1) (s : State) : Out :=
  let sb := pairReg sbh
  s.remoteWord g (s.remoteOperands sd sa (sb + 1) sb) (amoBytes w) true fun v cmp l => .pool 7 (amoBytes w) 0 v cmp l

end Sys2Proof.Machine
end

