-- ==== Sys2Proof/Machine/Vector.lean ====
section
/-! DEFINITION. The vector engine (07 R173 to R194): what each class 01 word places, and what its entry does when it starts. -/

namespace Sys2Proof.Machine

/-! Placement (R176) -/

/-- R176: a class 01 word: the register fields it uses lie below VREG, and its entry is placed. -/
def State.placeVector (s : State) (i : Instr) (regs : List (BitVec 5)) (v : Word) : Out :=
  if s.core.ctx.full .vx then .next (s.holdOn fullHold)
  else match regs.find? fun r => decide (wbits s.core.ctx.misc.part 0 6 ≤ r.toNat) with
    | some r => s.wordFault causePoolBound (r.zeroExtend 64)
    | none => s.placeVx (encode i) v

/-- R176: a second operand: a register, or a broadcast read in the issue cycle. -/
def vbRegs (bs : BitVec 1) (vb : BitVec 5) : List (BitVec 5) := if bs = 1 then [] else [vb]

/-- R176: the broadcast value. -/
def vbValue (s : State) (bs : BitVec 1) (vb : BitVec 5) : Word := if bs = 1 then s.reg vb else 0

/-! Reading and writing registers (R173, R174) -/

/-- R174: bits of a position of a type. -/
def vxBits (ty : BitVec 2) : Nat := if ty.getLsbD 0 then 16 else 32

/-- The float format of a type. -/
def vxFmt (ty : BitVec 2) : FloatFmt := if ty.getLsbD 0 then floatFmt 5 else floatFmt 6

/-- R174: the mask bit that governs a position of `bits` bits. -/
def governing (bits p : Nat) : Nat := if bits = 32 then 2 * p else p

/-- Byte `b` of a vector register. -/
def Core.vbyte (c : Core) (v : BitVec 5) (b : Nat) : Byte :=
  c.poolByte (vregAddr c.ctx.misc.part v.toNat b)

/-- Position `p` of a vector register, positions of `bits` bits. -/
def Core.vpos (c : Core) (bits : Nat) (v : BitVec 5) (p : Nat) : Nat :=
  ofBytes ((List.range (bits / 8)).map fun i => c.vbyte v (p * (bits / 8) + i))

/-- What a started entry will do: bytes by physical location, mask bits and the bits it selects, conditions, write offset. -/
structure VxEffect where
  ws : List (Nat × Byte)
  mask : Option (BitVec 3 × BitVec 128 × BitVec 128)
  flags : BitVec 5
  w : Nat
deriving DecidableEq, Repr

/-- The bytes of position `p` of a register, by physical location. -/
def Core.vplace (c : Core) (bits : Nat) (v : BitVec 5) (p x : Nat) : List (Nat × Byte) :=
  (List.range (bits / 8)).map fun i =>
    (phys c.ctx.misc.part (vregAddr c.ctx.misc.part v.toNat (p * (bits / 8) + i)), BitVec.ofNat 8 (x / 256 ^ i))

/-- The active positions of a mask. -/
def Core.vactive (c : Core) (bits : Nat) (m : BitVec 3) : List Nat :=
  (List.range (2048 / bits)).filter fun p => (vat c.ctx.masks 0 m.toNat).getLsbD (governing bits p)

/-- R181: an operation at each active position, its results and their conditions. -/
def Core.vxMap (c : Core) (bits : Nat) (m : BitVec 3) (vd : BitVec 5) (w : Nat) (f : Nat → Nat × Cond) : VxEffect :=
  let rs := (c.vactive bits m).map fun p => (p, f p)
  ⟨rs.flatMap fun r => c.vplace bits vd r.1 r.2.1, none, rs.foldl (fun a r => a ||| r.2.2) 0, w⟩

/-- R176: the second operand of an entry at a position. -/
def Core.vsecond (c : Core) (e : Entry) (bits : Nat) (bs : BitVec 1) (vb : BitVec 5) (p : Nat) : Nat :=
  if bs = 1 then e.val1.toNat % 2 ^ bits else c.vpos bits vb p

/-- R181: an elementwise operation on the values at a position of va, vb and the old vd. -/
def Core.vxElem (c : Core) (e : Entry) (vd va vb : BitVec 5) (bs : BitVec 1) (m : BitVec 3) (ty : BitVec 2) (w : Nat)
    (f : Nat → Nat → Nat → Nat × Cond) : VxEffect :=
  let n := vxBits ty
  c.vxMap n m vd w fun p => f (c.vpos n va p) (c.vsecond e n bs vb p) (c.vpos n vd p)

/-- R178: w of an op whose float form takes 3 and integer form `i`. -/
def vxLat (ty : BitVec 2) (i : Nat) : Nat := if ty.getLsbD 1 then i else 3

/-- R181: the sign bit of a position. -/
def vxSign (bits : Nat) : Nat := 2 ^ (bits - 1)

/-- R181, R189: one add, min, max, and, or or xor step of a type. -/
def vxCombine (ty : BitVec 2) (mode : BitVec 3) (op : Nat) (a b : Nat) : Nat × Cond :=
  let n := vxBits ty
  let f := vxFmt ty
  if ty.getLsbD 1 then
    (match op with
    | 0 => (a + b) % 2 ^ n
    | 1 => if toInt n b < toInt n a then b else a
    | 2 => if toInt n a < toInt n b then b else a
    | 3 => a &&& b
    | 4 => a ||| b
    | _ => a ^^^ b, 0)
  else if op = 0 then f.addVal mode (f.val a) (f.val b)
  else f.minMax (op == 2) a b

/-- R189: the identity of an op. -/
def vxIdentity (ty : BitVec 2) (op : Nat) : Nat :=
  let n := vxBits ty
  let f := vxFmt ty
  if ty.getLsbD 1 then
    (match op with
    | 1 => 2 ^ (n - 1) - 1
    | 2 => 2 ^ (n - 1)
    | 3 => 2 ^ n - 1
    | _ => 0)
  else
    (match op with
    | 0 => vxSign n
    | 1 => f.infBits
    | _ => vxSign n + f.infBits)

/-- R189: the halving steps of a reduction. -/
def vxReduce (f : Nat → Nat → Nat × Cond) : Nat → List Nat → Cond → Nat × Cond
  | 0, x, k => (x.headD 0, k)
  | n + 1, x, k =>
    let s := x.length / 2
    let rs := (x.take s).zipWith f (x.drop s)
    if s = 0 then (x.headD 0, k) else vxReduce f n (rs.map (·.1)) (rs.foldl (fun a r => a ||| r.2) k)

/-- R189: the doubling steps of a scan. -/
def vxScan (f : Nat → Nat → Nat × Cond) : Nat → Nat → List Nat → Cond → List Nat × Cond
  | 0, _, x, k => (x, k)
  | n + 1, s, x, k =>
    let rs := x.zipWith f (x.drop s)
    vxScan f n (2 * s) (x.take s ++ rs.map (·.1)) (rs.foldl (fun a r => a ||| r.2) k)

/-- R189: the positions an op combines. -/
def Core.vxInputs (c : Core) (m : BitVec 3) (ty : BitVec 2) (va : BitVec 5) (op : Nat) : List Nat :=
  let n := vxBits ty
  (List.range (2048 / n)).map fun p =>
    if (vat c.ctx.masks 0 m.toNat).getLsbD (governing n p) then c.vpos n va p else vxIdentity ty op

/-- R186: a conversion code: source format and place, destination format and place (lowest bit, slot width). -/
def vcvtForm (code : Nat) : (Nat × Nat × Nat) × (Nat × Nat × Nat) :=
  let f32 := (6, 0, 32)
  let half := fun (f : Nat) => (f, 16 * (code % 2), 16)
  let byte := fun (f : Nat) => (f, 8 * (code % 4), 8)
  if code = 0 then (f32, (2, 0, 32))
  else if code = 1 then ((2, 0, 32), f32)
  else if code < 4 then (f32, half 5)
  else if code < 6 then (f32, half 4)
  else if code < 8 then (half 5, f32)
  else if code < 10 then (half 4, f32)
  else if code < 12 then (half 1, f32)
  else if code < 16 then (f32, byte 8)
  else if code < 20 then (byte 8, f32)
  else if code < 24 then (f32, byte 9)
  else (byte 9, f32)

/-- R186: a lane converted. -/
def vcvtLane (code : Nat) (mode : BitVec 3) (a d : Nat) (seed : Word) : Nat × Cond × Word :=
  let (src, dst) := vcvtForm code
  let x := a / 2 ^ src.2.1 % 2 ^ fmtBits src.1
  let (r, k, seed) := convert src.1 dst.1 mode x seed
  (d - d / 2 ^ dst.2.1 % 2 ^ dst.2.2 * 2 ^ dst.2.1 + r * 2 ^ dst.2.1, k, seed)

/-- R186: the conversions in ascending lane order, with the generator's steps (R85). -/
def Core.vxConvert (c : Core) (e : Entry) (vd va code : BitVec 5) (bs : BitVec 1) (m : BitVec 3) : VxEffect × Word :=
  let mode := if bs = 1 then 5 else frmMode e.frm
  let r := (c.vactive 32 m).foldl (fun (a : List (Nat × Byte) × Cond × Word) p =>
    let (x, k, seed) := vcvtLane code.toNat mode (c.vpos 32 va p) (c.vpos 32 vd p) a.2.2
    (a.1 ++ c.vplace 32 vd p x, a.2.1 ||| k, seed)) ([], 0, c.ctx.regs.seed)
  (⟨r.1, none, r.2.1, 3⟩, r.2.2)

/-- R191: byte `j` of vd, with the mask bit that governs it, for `vpack`. -/
def Core.vpackByte (c : Core) (va vb : BitVec 5) (ty : BitVec 2) (bs : BitVec 1) (e : Entry) (j : Nat) : Nat × Byte :=
  let b := fun (k : Nat) => if bs = 1 then BitVec.ofNat 8 (e.val1.toNat / 256 ^ (k % (if ty = 2 then 4 else 2))) else c.vbyte vb k
  if ty = 2 then (j / 2, if j < 128 then c.vbyte va (4 * (j / 2) + j % 2) else b (4 * (j / 2 - 64) + j % 2))
  else if ty = 3 then (j / 2, if j < 128 then c.vbyte va (2 * j) else b (2 * (j - 128)))
  else
    (2 * (j / 4), if j < 192 then
        BitVec.ofNat 8 (((List.range 4).map fun i => (c.vbyte va (4 * (j / 3) + i)).toNat % 64 * 64 ^ i).sum / 256 ^ (j % 3))
      else 0)

/-- R191: byte `j` of vd, with the mask bit that governs it, for `vunpack`. -/
def Core.vunpackByte (c : Core) (va : BitVec 5) (ty : BitVec 2) (h j : Nat) : Nat × Byte :=
  if ty = 2 then
    let x := toInt 16 (c.vpos 16 va (64 * h + j / 4))
    (2 * (j / 4), BitVec.ofNat 8 (ofInt 32 x / 256 ^ (j % 4)))
  else if ty = 3 then
    let x := toInt 8 (c.vbyte va (128 * h + j / 2)).toNat
    (j / 2, BitVec.ofNat 8 (ofInt 16 x / 256 ^ (j % 2)))
  else
    let g := ofBytes ((List.range 3).map fun i => c.vbyte va (3 * (j / 4) + i))
    (2 * (j / 4), BitVec.ofNat 8 (g / 64 ^ (j % 4) % 64))

/-- Bytes of vd, each under its own mask bit. -/
def Core.vxBytes (c : Core) (m : BitVec 3) (vd : BitVec 5) (f : Nat → Nat × Byte) : VxEffect :=
  let mask := vat c.ctx.masks 0 m.toNat
  ⟨((List.range 256).map fun j => (j, f j)).filterMap fun x =>
      if mask.getLsbD x.2.1 then some (phys c.ctx.misc.part (vregAddr c.ctx.misc.part vd.toNat x.1), x.2.2) else none,
    none, 0, 1⟩

/-- R189: a position written whatever the mask. -/
def Core.vxFirst (c : Core) (vd : BitVec 5) (ty : BitVec 2) (r : Nat × Cond) : VxEffect :=
  ⟨c.vplace (vxBits ty) vd 0 r.1, none, r.2, 9⟩

/-- R183: the bits a comparison writes. -/
def Core.vxCompare (c : Core) (m md : BitVec 3) (ty : BitVec 2) (f : Nat → Bool × Cond) : VxEffect :=
  let n := vxBits ty
  let one := fun (p : Nat) => if n = 32 then (3 : BitVec 128) <<< (2 * p) else (1 : BitVec 128) <<< p
  let rs := (c.vactive n m).map fun p => (p, f p)
  ⟨[], some (md, rs.foldl (fun b r => if r.2.1 then b ||| one r.1 else b) 0, rs.foldl (fun b r => b ||| one r.1) 0),
    rs.foldl (fun a r => a ||| r.2.2) 0, 1⟩

/-- R183: an integer relation by code. -/
def intRel (cond : BitVec 2) (a b : Int) : Bool :=
  match cond.toNat with
  | 0 => decide (a = b)
  | 1 => decide (a ≠ b)
  | 2 => decide (a < b)
  | _ => decide (a ≤ b)

/-- R184: a mask operation. -/
def maskOp (op : BitVec 2) (a b : BitVec 128) : BitVec 128 :=
  match op.toNat with
  | 0 => a &&& b
  | 1 => a ||| b
  | 2 => a ^^^ b
  | _ => a &&& ~~~b

/-- R185: the exclusive prefix count of a mask at position `p`. -/
def maskCount (m : BitVec 128) (bits p : Nat) : Nat :=
  ((List.range p).filter fun q => m.getLsbD (governing bits q)).length

/-- R192: the address of a `vld` or `vst`. -/
def vmemAddr (s : State) (sa k : BitVec 5) : Word := s.reg sa + BitVec.ofNat 64 (256 * k.toNat)

/-- R192, R411: the issue checks of `vld` and `vst`. -/
def State.placeVmem (s : State) (i : Instr) (v sa k : BitVec 5) (write : Bool) : Out :=
  let a := vmemAddr s sa k
  if s.core.ctx.full .vx then .next (s.holdOn fullHold)
  else if wbits s.core.ctx.misc.part 0 6 ≤ v.toNat then s.wordFault causePoolBound (v.zeroExtend 64)
  else if a.toNat % 16 ≠ 0 then s.wordFault causeMisalign a
  else if !admitsAll s.core.ctx.misc.part (if write then .engineWrite else .engineRead) a.toNat 256 then s.wordFault causePoolBound a
  else s.watchWord write true a.toNat 256 fun s => s.placeVx (encode i) a

/-- R182: a·b + c·d + e in FP32, one rounding, with the conditions of R88 (log 8, DESIGN CHOICE). -/
def dotVal (mode : BitVec 3) (a b x y z : Val) : Nat × Cond :=
  let f := floatFmt 6
  let p := mulExact a b
  let q := mulExact x y
  let nv : Cond := if [a, b, x, y, z].any sigNaN then condNV else 0
  if [a, b, x, y, z].any Val.isNaN then (f.nanBits, nv)
  else match p, q with
    | some u, some v =>
      let ts := [u, v, z]
      let pinf := ts.any (· == .inf false)
      let ninf := ts.any (· == .inf true)
      if pinf && ninf then (f.nanBits, condNV)
      else if pinf then (f.infBits, 0)
      else if ninf then (f.signBit true + f.infBits, 0)
      else
        let fs := ts.filterMap fun t => match t with
          | .fin s m k => some (s, m, k)
          | _ => none
        match fs with
        | [] => (f.signBit (if ts.all (· == .zero true) then true else if ts.all (· == .zero false) then false else mode == 2), 0)
        | (_, _, k₀) :: _ =>
          let low := fs.foldl (fun (l : Int) t => min l t.2.2) k₀
          f.roundSum mode ((fs.map fun t => atExp t.1 t.2.1 t.2.2 low).sum) low
    | _, _ => (f.nanBits, condNV)

/-- R182: one lane of `vdot2`: exact products and sum, rounded once, or modulo 2^32. -/
def vdotLane (ty : BitVec 2) (mode : BitVec 3) (a b d : Nat) : Nat × Cond :=
  let lo := fun (x : Nat) => x % 2 ^ 16
  let hi := fun (x : Nat) => x / 2 ^ 16
  if ty.getLsbD 1 then
    (ofInt 32 (toInt 16 (lo a) * toInt 16 (lo b) + toInt 16 (hi a) * toInt 16 (hi b) + toInt 32 d), 0)
  else
    let h := floatFmt 5
    dotVal mode (h.val (lo a)) (h.val (lo b)) (h.val (hi a)) (h.val (hi b)) ((floatFmt 6).val d)

/-- R181 to R192: what an entry does when it starts, `vgath` and `vscat` apart. -/
def Core.vxEffect (c : Core) (e : Entry) (i : Instr) : Option VxEffect :=
  let mode := frmMode e.frm
  let mask := fun (m : BitVec 3) => vat c.ctx.masks 0 m.toNat
  match i with
  | .vadd vd va vb bs m ty _ =>
    let f := vxFmt ty
    let n := vxBits ty
    some (c.vxElem e vd va vb bs m ty (vxLat ty 1) fun a b d => if ty.getLsbD 1 then ((a + b + 0 * d) % 2 ^ n, 0) else f.addVal mode (f.val a) (f.val b))
  | .vsub vd va vb bs m ty _ =>
    let f := vxFmt ty
    let n := vxBits ty
    some (c.vxElem e vd va vb bs m ty (vxLat ty 1) fun a b d => if ty.getLsbD 1 then ((a + 2 ^ n - b + 0 * d) % 2 ^ n, 0) else f.addVal mode (f.val a) (Val.neg (f.val b)))
  | .vmul vd va vb bs m ty _ =>
    let f := vxFmt ty
    let n := vxBits ty
    some (c.vxElem e vd va vb bs m ty (vxLat ty 2) fun a b d => if ty.getLsbD 1 then ((a * b + 0 * d) % 2 ^ n, 0) else f.mulVal mode (f.val a) (f.val b))
  | .vfma vd va vb bs m ty _ =>
    let f := vxFmt ty
    let n := vxBits ty
    some (c.vxElem e vd va vb bs m ty (vxLat ty 2) fun a b d => if ty.getLsbD 1 then ((a * b + d) % 2 ^ n, 0) else f.fmaVal mode (f.val a) (f.val b) (f.val d))
  | .vmin vd va vb bs m ty _ => some (c.vxElem e vd va vb bs m ty 1 fun a b _ => vxCombine ty mode 1 a b)
  | .vmax vd va vb bs m ty _ => some (c.vxElem e vd va vb bs m ty 1 fun a b _ => vxCombine ty mode 2 a b)
  | .vabs vd va m ty _ => some (c.vxElem e vd va va 0 m ty 1 fun a _ _ =>
      let n := vxBits ty
      if ty.getLsbD 1 then (ofInt n (toInt n a).natAbs, 0) else (a % vxSign n, 0))
  | .vneg vd va m ty _ => some (c.vxElem e vd va va 0 m ty 1 fun a _ _ =>
      let n := vxBits ty
      if ty.getLsbD 1 then ((2 ^ n - a) % 2 ^ n, 0) else (a ^^^ vxSign n, 0))
  | .vand vd va vb bs m ty _ => some (c.vxElem e vd va vb bs m ty 1 fun a b _ => (a &&& b, 0))
  | .vor vd va vb bs m ty _ => some (c.vxElem e vd va vb bs m ty 1 fun a b _ => (a ||| b, 0))
  | .vxor vd va vb bs m ty _ => some (c.vxElem e vd va vb bs m ty 1 fun a b _ => (a ^^^ b, 0))
  | .vandn vd va vb bs m ty _ => some (c.vxElem e vd va vb bs m ty 1 fun a b _ => (a &&& (2 ^ vxBits ty - 1 - b), 0))
  | .vshl vd va vb bs m ty _ => some (c.vxElem e vd va vb bs m ty 1 fun a b _ => (a * 2 ^ (b % vxBits ty) % 2 ^ vxBits ty, 0))
  | .vshr vd va vb bs m ty _ => some (c.vxElem e vd va vb bs m ty 1 fun a b _ => (a / 2 ^ (b % vxBits ty), 0))
  | .vsra vd va vb bs m ty _ => some (c.vxElem e vd va vb bs m ty 1 fun a b _ => (ofInt (vxBits ty) (toInt (vxBits ty) a / 2 ^ (b % vxBits ty)), 0))
  | .vcmp cond md va vb bs m ty _ =>
    let n := vxBits ty
    some (c.vxCompare m md ty fun p =>
      let a := c.vpos n va p
      let b := c.vsecond e n bs vb p
      if ty.getLsbD 1 then (intRel cond (toInt n a) (toInt n b), 0) else (vxFmt ty).compare cond.toNat a b)
  | .vsel vd va vb bs m ty _ => some (c.vxElem e vd va vb bs m ty 1 fun a b d => (if d ≠ 0 then a else b, 0))
  | .vcvt vd va code bs m _ => some (c.vxConvert e vd va code bs m).1
  | .vrint vd va m ty _ => some (c.vxElem e vd va va 0 m ty 3 fun a _ _ => (vxFmt ty).rint mode a)
  | .vrcp vd va m ty _ => some (c.vxElem e vd va va 0 m ty 7 fun a _ _ => (vxFmt ty).rcp a)
  | .vrsq vd va m ty _ => some (c.vxElem e vd va va 0 m ty 7 fun a _ _ => (vxFmt ty).rsqrt a)
  | .vexp2 vd va m ty _ => some (c.vxElem e vd va va 0 m ty 7 fun a _ _ => (vxFmt ty).exp2 a)
  | .vlog2 vd va m ty _ => some (c.vxElem e vd va va 0 m ty 7 fun a _ _ => (vxFmt ty).log2 a)
  | .vred vd va op m ty _ => some (c.vxFirst vd ty (vxReduce (vxCombine ty mode op.toNat) 8 (c.vxInputs m ty va op.toNat) 0))
  | .vscan vd va op m ty _ =>
    let r := vxScan (vxCombine ty mode op.toNat) (if vxBits ty = 32 then 6 else 7) 1 (c.vxInputs m ty va op.toNat) 0
    some { c.vxMap (vxBits ty) m vd 9 fun p => (r.1.getD p 0, 0) with flags := r.2 }
  | .vperm vd va vb bs m ty _ =>
    let n := vxBits ty
    some (c.vxMap n m vd 1 fun p => (c.vpos n va (c.vsecond e n bs vb p % (2048 / n)), 0))
  | .vrot vd va _ m ty _ =>
    let n := vxBits ty
    some (c.vxMap n m vd 1 fun p => (c.vpos n va ((p + e.val1.toNat) % (2048 / n)), 0))
  | .vlane vd va _ m ty _ =>
    let n := vxBits ty
    some (c.vxMap n m vd 1 fun _ => (c.vpos n va (e.val1.toNat % (2048 / n)), 0))
  | .vpack vd va vb bs m ty _ => some (c.vxBytes m vd (c.vpackByte va vb ty bs e))
  | .vunpack vd va h m ty _ => some (c.vxBytes m vd (c.vunpackByte va ty h.toNat))
  | .vmov vd va m ty _ => some (c.vxElem e vd va va 0 m ty 1 fun a _ _ => (a, 0))
  | .vmovBroadcast vd _ m ty _ => some (c.vxMap (vxBits ty) m vd 1 fun _ => (e.val1.toNat % 2 ^ vxBits ty, 0))
  | .vmlog md ma mb op _ => some ⟨[], some (md, maskOp op (mask ma) (mask mb), BitVec.allOnes 128), 0, 1⟩
  | .vmpop vd ma m ty _ => some (c.vxMap (vxBits ty) m vd 2 fun p => (maskCount (mask ma) (vxBits ty) p, 0))
  | .vdot2 vd va vb bs m ty _ =>
    let b := fun p => if bs = 1 then e.val1.toNat % 2 ^ 16 * (2 ^ 16 + 1) else c.vpos 32 vb p
    some (c.vxMap 32 m vd (vxLat ty 2) fun p => vdotLane ty mode (c.vpos 32 va p) (b p) (c.vpos 32 vd p))
  | .vld vd _ _ m ty _ => some { c.vxMap (vxBits ty) m vd 2 fun p =>
      (c.poolRead (e.val1.toNat + p * (vxBits ty / 8)) (vxBits ty / 8), 0) with flags := 0 }
  | .vst v _ _ m ty _ =>
    let n := vxBits ty
    some ⟨(c.vactive n m).flatMap fun p => placed c.ctx.misc.part (e.val1.toNat + p * (n / 8)) (toBytes (n / 8) (c.vpos n v p)),
      none, 0, 2⟩
  | _ => none

/-! `vgath` and `vscat` (R193, R194) -/

/-- R193: the address of each active position, with its position, in ascending order. -/
def Core.vxAddrs (c : Core) (e : Entry) (vb : BitVec 5) (m : BitVec 3) (ty : BitVec 2) : List (Nat × Nat) :=
  (c.vactive (vxBits ty) m).map fun p => (p, e.val1.toNat + c.vpos (vxBits ty) vb p)

/-- R194: the distinct 16-byte words addressed, in the order of the lowest position that addresses each. -/
def Core.vxWords (c : Core) (as : List (Nat × Nat)) : List Nat :=
  as.foldl (fun ws a => let k := phys c.ctx.misc.part a.2 / 16; if ws.contains k then ws else ws ++ [k]) []

/-- R194: the number of a word within its bank. -/
def wordNumber (ws : List Nat) (k : Nat) : Nat :=
  ((ws.takeWhile (· ≠ k)).filter fun x => x % 96 == k % 96).length

/-- R194: C. -/
def wordCount (ws : List Nat) : Nat := max 1 (ws.foldl (fun m k => max m (wordNumber ws k + 1)) 0)

/-- R193: the start checks of `vgath` and `vscat`: cause and address of the lowest failing position. -/
def Core.vxAddrFault (c : Core) (write : Bool) (n : Nat) (as : List (Nat × Nat)) : Option (BitVec 8 × Nat) :=
  (as.find? fun a => a.2 % n != 0 || !admitsAll c.ctx.misc.part (if write then .engineWrite else .engineRead) a.2 n).map
    fun a => (if a.2 % n ≠ 0 then causeMisalign else causePoolBound, a.2)

/-- R411: the watch checks of the positions in turn. -/
def Ctx.watchAll (c : Ctx) (write : Bool) (uid n : Nat) : List (Nat × Nat) → Ctx × Option Nat
  | [] => (c, none)
  | (_, a) :: r =>
    match c.watch write true false uid a n with
    | (c, some b) => (c, some b)
    | (c, none) => c.watchAll write uid n r

/-- R178: an entry has read its operands: writes, mask bits and flags at its offset, and its finish with them. -/
def Ctx.vxPush (c : Ctx) (cid : Nat) (e : Entry) (x : VxEffect) : Ctx :=
  let c := if x.ws = [] then c else c.pushFor e.uid (x.w + 1) (.pool cid x.ws)
  let c := match x.mask with
    | some (m, bits, sel) => c.pushFor e.uid (x.w + 1) (.mask m bits sel)
    | none => c
  let c := if x.flags = 0 then c else c.pushFor e.uid (x.w + 1) (.flags x.flags)
  c.pushFor e.uid (x.w + 1) (.finish e.uid)

/-- R191: the registers `vpack`'s second operand names; under `.tf6` there is none. -/
def packRegs (ty : BitVec 2) (bs : BitVec 1) (vb : BitVec 5) : List (BitVec 5) := if ty = 0 then [] else vbRegs bs vb

/-- R178: the registers an entry reads, va, vb, then vd where it is read too. -/
def vxOperands (i : Instr) : List (BitVec 5) :=
  match i with
  | .vadd _ va vb bs .. | .vsub _ va vb bs .. | .vmul _ va vb bs .. | .vmin _ va vb bs .. | .vmax _ va vb bs ..
  | .vand _ va vb bs .. | .vor _ va vb bs .. | .vxor _ va vb bs .. | .vandn _ va vb bs .. | .vshl _ va vb bs ..
  | .vshr _ va vb bs .. | .vsra _ va vb bs .. | .vcmp _ _ va vb bs .. | .vperm _ va vb bs .. =>
    va :: vbRegs bs vb
  | .vpack _ va vb bs _ ty _ => va :: packRegs ty bs vb
  | .vfma vd va vb bs .. | .vsel vd va vb bs .. | .vdot2 vd va vb bs .. => va :: vbRegs bs vb ++ [vd]
  | .vabs _ va .. | .vneg _ va .. | .vrint _ va .. | .vrcp _ va .. | .vrsq _ va .. | .vexp2 _ va .. | .vlog2 _ va ..
  | .vred _ va .. | .vscan _ va .. | .vrot _ va .. | .vlane _ va .. | .vunpack _ va .. | .vmov _ va .. => [va]
  | .vcvt vd va code .. => if (vcvtForm code.toNat).2.2.2 = 32 then [va] else [va, vd]
  | .vst v .. => [v]
  | .vgath _ _ vb .. => [vb]
  | .vscat v _ vb .. => [vb, v]
  | _ => []

/-- R178, R192, R194: the accesses an entry makes in its start cycle. -/
def Core.vxReads (c : Core) (e : Entry) (i : Instr) : List BankAcc :=
  let p := c.ctx.misc.part
  let cells := match i with
    | .vld .. => (List.range 256).map fun b => phys p (e.val1.toNat + b)
    | _ => (vxOperands i).flatMap fun v => (List.range 256).map fun b => phys p (vregAddr p v.toNat b)
  (readAccs c.cid cells).map (·.ofEntry c.cid e)

/-- R193: the start checks of a `vgath` or `vscat` that would start now, and its occupancy. -/
def State.vxIndexed (s : State) (e : Entry) (scatter : Bool) (vb : BitVec 5) (m : BitVec 3) (ty : BitVec 2) : Except State (Ctx × Nat) :=
  let c := s.core
  let n := vxBits ty / 8
  let as := c.vxAddrs e vb m ty
  match c.vxAddrFault scatter n as with
  | some (cause, a) => .error (s.ctx (·.faultHead e cause (BitVec.ofNat 64 a)))
  | none =>
    match c.ctx.watchAll scatter e.uid n as with
    | (x, some b) => .error { s with core := { c with ctx := x.faultHead e causeWatch (BitVec.ofNat 64 b) } }
    | (x, none) => .ok (x, wordCount (c.vxWords as) + 1)

/-- R194: a `vscat` has read vb and vS: word j of a bank is written at the end of the cycle j + 1 after. -/
def Ctx.vxScatter (x : Ctx) (k : Core) (e : Entry) (v : BitVec 5) (ty : BitVec 2) (as : List (Nat × Nat)) : Ctx :=
  let n := vxBits ty / 8
  let p := k.ctx.misc.part
  let ws := k.vxWords as
  let x := as.foldl (fun x a =>
    x.pushFor e.uid (wordNumber ws (phys p a.2 / 16) + 2) (.pool k.cid (placed p a.2 (toBytes n (k.vpos (8 * n) v a.1))))) x
  x.pushFor e.uid (wordCount ws + 1) (.finish e.uid)

/-- R194: a `vgath` has read vb: word j of a bank is due in the cycle j + 1 after. -/
def State.vxGather (s : State) (k : Core) (e : Entry) (as : List (Nat × Nat)) : State :=
  let ws := k.vxWords as
  let s := s.askFor (some e.uid) (.entry 0 0) (ws.map fun w => { BankAcc.at k.cid w false with wait := wordNumber ws w + 1 } |>.ofEntry k.cid e)
  s.ctx (·.onRun e.uid fun e => { e with uAge := 1, out := as, total := wordCount ws })

/-- R179, R194: a `vgath` has read its words: vd is due C + 1 cycles after vb was read, and later by their greatest delay. -/
def Ctx.vxGathered (x : Ctx) (k : Core) (j : BankJob) (e : Entry) (vd : BitVec 5) (ty : BitVec 2) : Ctx :=
  let n := vxBits ty / 8
  let got := e.out.flatMap fun a => k.vplace (8 * n) vd a.1 (k.poolRead a.2 n)
  let rem := e.total + 2 + j.late - j.age
  let x := if got = [] then x else x.pushFor e.uid rem (.pool k.cid got)
  (x.pushFor e.uid rem (.finish e.uid)).onRun e.uid fun e => { e with out := [] }

/-- R178, R179: a started entry has read what it reads; masks and the generator are as they stood in its start cycle. -/
def State.vxServed (s : State) (j : BankJob) (e : Entry) : State :=
  let k := (s.viewed j).core
  let k := { k with ctx := { k.ctx with masks := j.masks, regs := { k.ctx.regs with seed := j.seed } } }
  let indexed := fun (scatter : Bool) (vb : BitVec 5) (m : BitVec 3) (ty : BitVec 2) (f : List (Nat × Nat) → State) =>
    let as := k.vxAddrs e vb m ty
    match k.vxAddrFault scatter (vxBits ty / 8) as with
    | some (cause, a) => s.ctx (·.faultRun e.uid cause (BitVec.ofNat 64 a))
    | none => f as
  match decode e.img.toNat with
  | .ok (.vgath vd _ vb m ty _) =>
    if e.uAge = 0 then indexed false vb m ty fun as => s.vxGather k e as else s.ctx (·.vxGathered k j e vd ty)
  | .ok (.vscat v _ vb m ty _) => indexed true vb m ty fun as => s.ctx (·.vxScatter k e v ty as)
  | .ok i =>
    match k.vxEffect e i with
    | some x => s.ctx (·.vxPush k.cid e x)
    | none => s.ctx (·.pushFor e.uid 1 (.finish e.uid))
  | .error _ => s

/-- R177: an entry starts, and asks for its reads. -/
def State.vxStart (s : State) (c : Ctx) (e : Entry) (i : Instr) (occupancy : Nat) : State :=
  ({ s with core := { s.core with ctx := c.begin e occupancy } } : State).askFor (some e.uid) (.entry 0 0) (s.core.vxReads e i)

/-- R177, R155: the head of VX's queue in this cycle: a token taken or to be pushed, a start at its cycle, a wait. -/
def State.vxStep (s : State) (e : Entry) : State :=
  let c := s.core.ctx
  let blocked := fun (s : State) => s.ctx fun c => c.onQueue .vx fun q => { q with headAt := c.cyc + 1 }
  if c.cyc ≤ e.placed then s
  else match decode e.img.toNat with
    | .ok (.tokVpop f) =>
      if c.tok f.toNat = 0 then s
      else blocked (s.ctx fun c => (c.popHead .vx).onTok f.toNat (· - 1))
    | .ok (.tokVpush _) =>
      let ahead := (c.run.filter fun x => x.eng == .vx).map (·.uid)
      s.ctx fun c => { (c.popHead .vx).onQueue .vx (fun q => { q with freeAt := max q.freeAt c.cyc }) with
        run := c.run ++ [{ e with started := true, startCyc := c.cyc, out := ahead.map fun u => (u, 0), late := true }] }
    | .ok i =>
      let idle := e.img.toNat % 4
      if c.cyc < c.vxStart e idle then s
      else if 24 ≤ c.busy then blocked s
      else
        let checked := fun (x : Except State (Ctx × Nat)) => match x with
          | .error s => s
          | .ok (c, n) => s.vxStart c e i n
        match i with
        | .vgath _ _ vb m ty _ => checked (s.vxIndexed e false vb m ty)
        | .vscat _ _ vb m ty _ => checked (s.vxIndexed e true vb m ty)
        | .vcvt vd va code bs m _ =>
          (s.vxStart c e i 1).ctx fun c => { c with regs := { c.regs with seed := (s.core.vxConvert e vd va code bs m).2 } }
        | _ => s.vxStart c e i 1
    | .error _ => s.ctx (·.popHead .vx)

/-! The words -/

/-- R181 `vadd`: its entry is placed. -/
def execVadd (vd : BitVec 5) (va : BitVec 5) (vb : BitVec 5) (bs : BitVec 1) (mask : BitVec 3) (ty : BitVec 2) (idle : BitVec 2) (s : State) : Out :=
  s.placeVector (.vadd vd va vb bs mask ty idle) (va :: vbRegs bs vb ++ [vd]) (vbValue s bs vb)

/-- R181 `vsub`: its entry is placed. -/
def execVsub (vd : BitVec 5) (va : BitVec 5) (vb : BitVec 5) (bs : BitVec 1) (mask : BitVec 3) (ty : BitVec 2) (idle : BitVec 2) (s : State) : Out :=
  s.placeVector (.vsub vd va vb bs mask ty idle) (va :: vbRegs bs vb ++ [vd]) (vbValue s bs vb)

/-- R181 `vmul`: its entry is placed. -/
def execVmul (vd : BitVec 5) (va : BitVec 5) (vb : BitVec 5) (bs : BitVec 1) (mask : BitVec 3) (ty : BitVec 2) (idle : BitVec 2) (s : State) : Out :=
  s.placeVector (.vmul vd va vb bs mask ty idle) (va :: vbRegs bs vb ++ [vd]) (vbValue s bs vb)

/-- R181 `vfma`: its entry is placed. -/
def execVfma (vd : BitVec 5) (va : BitVec 5) (vb : BitVec 5) (bs : BitVec 1) (mask : BitVec 3) (ty : BitVec 2) (idle : BitVec 2) (s : State) : Out :=
  s.placeVector (.vfma vd va vb bs mask ty idle) (va :: vbRegs bs vb ++ [vd]) (vbValue s bs vb)

/-- R181 `vmin`: its entry is placed. -/
def execVmin (vd : BitVec 5) (va : BitVec 5) (vb : BitVec 5) (bs : BitVec 1) (mask : BitVec 3) (ty : BitVec 2) (idle : BitVec 2) (s : State) : Out :=
  s.placeVector (.vmin vd va vb bs mask ty idle) (va :: vbRegs bs vb ++ [vd]) (vbValue s bs vb)

/-- R181 `vmax`: its entry is placed. -/
def execVmax (vd : BitVec 5) (va : BitVec 5) (vb : BitVec 5) (bs : BitVec 1) (mask : BitVec 3) (ty : BitVec 2) (idle : BitVec 2) (s : State) : Out :=
  s.placeVector (.vmax vd va vb bs mask ty idle) (va :: vbRegs bs vb ++ [vd]) (vbValue s bs vb)

/-- R181 `vabs`: its entry is placed. -/
def execVabs (vd : BitVec 5) (va : BitVec 5) (mask : BitVec 3) (ty : BitVec 2) (idle : BitVec 2) (s : State) : Out :=
  s.placeVector (.vabs vd va mask ty idle) [va, vd] 0

/-- R181 `vneg`: its entry is placed. -/
def execVneg (vd : BitVec 5) (va : BitVec 5) (mask : BitVec 3) (ty : BitVec 2) (idle : BitVec 2) (s : State) : Out :=
  s.placeVector (.vneg vd va mask ty idle) [va, vd] 0

/-- R181 `vand`: its entry is placed. -/
def execVand (vd : BitVec 5) (va : BitVec 5) (vb : BitVec 5) (bs : BitVec 1) (mask : BitVec 3) (ty : BitVec 2) (idle : BitVec 2) (s : State) : Out :=
  s.placeVector (.vand vd va vb bs mask ty idle) (va :: vbRegs bs vb ++ [vd]) (vbValue s bs vb)

/-- R181 `vor`: its entry is placed. -/
def execVor (vd : BitVec 5) (va : BitVec 5) (vb : BitVec 5) (bs : BitVec 1) (mask : BitVec 3) (ty : BitVec 2) (idle : BitVec 2) (s : State) : Out :=
  s.placeVector (.vor vd va vb bs mask ty idle) (va :: vbRegs bs vb ++ [vd]) (vbValue s bs vb)

/-- R181 `vxor`: its entry is placed. -/
def execVxor (vd : BitVec 5) (va : BitVec 5) (vb : BitVec 5) (bs : BitVec 1) (mask : BitVec 3) (ty : BitVec 2) (idle : BitVec 2) (s : State) : Out :=
  s.placeVector (.vxor vd va vb bs mask ty idle) (va :: vbRegs bs vb ++ [vd]) (vbValue s bs vb)

/-- R181 `vandn`: its entry is placed. -/
def execVandn (vd : BitVec 5) (va : BitVec 5) (vb : BitVec 5) (bs : BitVec 1) (mask : BitVec 3) (ty : BitVec 2) (idle : BitVec 2) (s : State) : Out :=
  s.placeVector (.vandn vd va vb bs mask ty idle) (va :: vbRegs bs vb ++ [vd]) (vbValue s bs vb)

/-- R181 `vshl`: its entry is placed. -/
def execVshl (vd : BitVec 5) (va : BitVec 5) (vb : BitVec 5) (bs : BitVec 1) (mask : BitVec 3) (ty : BitVec 2) (idle : BitVec 2) (s : State) : Out :=
  s.placeVector (.vshl vd va vb bs mask ty idle) (va :: vbRegs bs vb ++ [vd]) (vbValue s bs vb)

/-- R181 `vshr`: its entry is placed. -/
def execVshr (vd : BitVec 5) (va : BitVec 5) (vb : BitVec 5) (bs : BitVec 1) (mask : BitVec 3) (ty : BitVec 2) (idle : BitVec 2) (s : State) : Out :=
  s.placeVector (.vshr vd va vb bs mask ty idle) (va :: vbRegs bs vb ++ [vd]) (vbValue s bs vb)

/-- R181 `vsra`: its entry is placed. -/
def execVsra (vd : BitVec 5) (va : BitVec 5) (vb : BitVec 5) (bs : BitVec 1) (mask : BitVec 3) (ty : BitVec 2) (idle : BitVec 2) (s : State) : Out :=
  s.placeVector (.vsra vd va vb bs mask ty idle) (va :: vbRegs bs vb ++ [vd]) (vbValue s bs vb)

/-- R183 `vcmp`: its entry is placed. -/
def execVcmp (cond : BitVec 2) (md : BitVec 3) (va : BitVec 5) (vb : BitVec 5) (bs : BitVec 1) (mask : BitVec 3) (ty : BitVec 2) (idle : BitVec 2) (s : State) : Out :=
  s.placeVector (.vcmp cond md va vb bs mask ty idle) (va :: vbRegs bs vb) (vbValue s bs vb)

/-- R181 `vsel`: its entry is placed. -/
def execVsel (vd : BitVec 5) (va : BitVec 5) (vb : BitVec 5) (bs : BitVec 1) (mask : BitVec 3) (ty : BitVec 2) (idle : BitVec 2) (s : State) : Out :=
  s.placeVector (.vsel vd va vb bs mask ty idle) (va :: vbRegs bs vb ++ [vd]) (vbValue s bs vb)

/-- R186 `vcvt`: its entry is placed. -/
def execVcvt (vd : BitVec 5) (va : BitVec 5) (code : BitVec 5) (bs : BitVec 1) (mask : BitVec 3) (idle : BitVec 2) (s : State) : Out :=
  s.placeVector (.vcvt vd va code bs mask idle) [va, vd] 0

/-- R187 `vrint`: its entry is placed. -/
def execVrint (vd : BitVec 5) (va : BitVec 5) (mask : BitVec 3) (ty : BitVec 2) (idle : BitVec 2) (s : State) : Out :=
  s.placeVector (.vrint vd va mask ty idle) [va, vd] 0

/-- R188 `vrcp`: its entry is placed. -/
def execVrcp (vd : BitVec 5) (va : BitVec 5) (mask : BitVec 3) (ty : BitVec 2) (idle : BitVec 2) (s : State) : Out :=
  s.placeVector (.vrcp vd va mask ty idle) [va, vd] 0

/-- R188 `vrsq`: its entry is placed. -/
def execVrsq (vd : BitVec 5) (va : BitVec 5) (mask : BitVec 3) (ty : BitVec 2) (idle : BitVec 2) (s : State) : Out :=
  s.placeVector (.vrsq vd va mask ty idle) [va, vd] 0

/-- R188 `vexp2`: its entry is placed. -/
def execVexp2 (vd : BitVec 5) (va : BitVec 5) (mask : BitVec 3) (ty : BitVec 2) (idle : BitVec 2) (s : State) : Out :=
  s.placeVector (.vexp2 vd va mask ty idle) [va, vd] 0

/-- R188 `vlog2`: its entry is placed. -/
def execVlog2 (vd : BitVec 5) (va : BitVec 5) (mask : BitVec 3) (ty : BitVec 2) (idle : BitVec 2) (s : State) : Out :=
  s.placeVector (.vlog2 vd va mask ty idle) [va, vd] 0

/-- R189 `vred`: its entry is placed. -/
def execVred (vd : BitVec 5) (va : BitVec 5) (op : BitVec 3) (mask : BitVec 3) (ty : BitVec 2) (idle : BitVec 2) (s : State) : Out :=
  s.placeVector (.vred vd va op mask ty idle) [va, vd] 0

/-- R189 `vscan`: its entry is placed. -/
def execVscan (vd : BitVec 5) (va : BitVec 5) (op : BitVec 3) (mask : BitVec 3) (ty : BitVec 2) (idle : BitVec 2) (s : State) : Out :=
  s.placeVector (.vscan vd va op mask ty idle) [va, vd] 0

/-- R190 `vperm`: its entry is placed. -/
def execVperm (vd : BitVec 5) (va : BitVec 5) (vb : BitVec 5) (bs : BitVec 1) (mask : BitVec 3) (ty : BitVec 2) (idle : BitVec 2) (s : State) : Out :=
  s.placeVector (.vperm vd va vb bs mask ty idle) (va :: vbRegs bs vb ++ [vd]) (vbValue s bs vb)

/-- R190 `vrot`: its entry is placed. -/
def execVrot (vd : BitVec 5) (va : BitVec 5) (sb : BitVec 5) (mask : BitVec 3) (ty : BitVec 2) (idle : BitVec 2) (s : State) : Out :=
  s.placeVector (.vrot vd va sb mask ty idle) [va, vd] (s.reg sb)

/-- R190 `vlane`: its entry is placed. -/
def execVlane (vd : BitVec 5) (va : BitVec 5) (sb : BitVec 5) (mask : BitVec 3) (ty : BitVec 2) (idle : BitVec 2) (s : State) : Out :=
  s.placeVector (.vlane vd va sb mask ty idle) [va, vd] (s.reg sb)

/-- R191 `vpack`: its entry is placed. -/
def execVpack (vd : BitVec 5) (va : BitVec 5) (vb : BitVec 5) (bs : BitVec 1) (mask : BitVec 3) (ty : BitVec 2) (idle : BitVec 2) (s : State) : Out :=
  s.placeVector (.vpack vd va vb bs mask ty idle) (va :: packRegs ty bs vb ++ [vd]) (vbValue s bs vb)

/-- R191 `vunpack`: its entry is placed. -/
def execVunpack (vd : BitVec 5) (va : BitVec 5) (h : BitVec 1) (mask : BitVec 3) (ty : BitVec 2) (idle : BitVec 2) (s : State) : Out :=
  s.placeVector (.vunpack vd va h mask ty idle) [va, vd] 0

/-- R181 `vmov`: its entry is placed. -/
def execVmov (vd : BitVec 5) (va : BitVec 5) (mask : BitVec 3) (ty : BitVec 2) (idle : BitVec 2) (s : State) : Out :=
  s.placeVector (.vmov vd va mask ty idle) [va, vd] 0

/-- R181 `vmov_broadcast`: its entry is placed. -/
def execVmovBroadcast (vd : BitVec 5) (sb : BitVec 5) (mask : BitVec 3) (ty : BitVec 2) (idle : BitVec 2) (s : State) : Out :=
  s.placeVector (.vmovBroadcast vd sb mask ty idle) [vd] (s.reg sb)

/-- R184 `vmlog`: its entry is placed. -/
def execVmlog (md : BitVec 3) (ma : BitVec 3) (mb : BitVec 3) (op : BitVec 2) (idle : BitVec 2) (s : State) : Out :=
  s.placeVector (.vmlog md ma mb op idle) [] 0

/-- R185 `vmpop`: its entry is placed. -/
def execVmpop (vd : BitVec 5) (ma : BitVec 3) (mask : BitVec 3) (ty : BitVec 2) (idle : BitVec 2) (s : State) : Out :=
  s.placeVector (.vmpop vd ma mask ty idle) [vd] 0

/-- R182 `vdot2`: its entry is placed. -/
def execVdot2 (vd : BitVec 5) (va : BitVec 5) (vb : BitVec 5) (bs : BitVec 1) (mask : BitVec 3) (ty : BitVec 2) (idle : BitVec 2) (s : State) : Out :=
  s.placeVector (.vdot2 vd va vb bs mask ty idle) (va :: vbRegs bs vb ++ [vd]) (vbValue s bs vb)

/-- R192 `vld`: its entry is placed. -/
def execVld (vd : BitVec 5) (sa : BitVec 5) (k : BitVec 5) (mask : BitVec 3) (ty : BitVec 2) (idle : BitVec 2) (s : State) : Out :=
  s.placeVmem (.vld vd sa k mask ty idle) vd sa k false

/-- R192 `vst`: its entry is placed. -/
def execVst (vd : BitVec 5) (sa : BitVec 5) (k : BitVec 5) (mask : BitVec 3) (ty : BitVec 2) (idle : BitVec 2) (s : State) : Out :=
  s.placeVmem (.vst vd sa k mask ty idle) vd sa k true

/-- R193 `vgath`: its entry is placed. -/
def execVgath (vd : BitVec 5) (sa : BitVec 5) (vb : BitVec 5) (mask : BitVec 3) (ty : BitVec 2) (idle : BitVec 2) (s : State) : Out :=
  s.placeVector (.vgath vd sa vb mask ty idle) [vb, vd] (s.reg sa)

/-- R193 `vscat`: its entry is placed. -/
def execVscat (vd : BitVec 5) (sa : BitVec 5) (vb : BitVec 5) (mask : BitVec 3) (ty : BitVec 2) (idle : BitVec 2) (s : State) : Out :=
  s.placeVector (.vscat vd sa vb mask ty idle) [vb, vd] (s.reg sa)

end Sys2Proof.Machine
end

