-- ==== Sys2Proof/Machine/Mover.lean ====
section
/-! DEFINITION. What LD, ST and copy entries share: where each carried byte comes from and goes to, the checks each byte
meets, the 64 bytes a cycle moves or sends, and how an entry ends (06 R152, R166, R167, R455; 09 R224 to R229, R232). -/

namespace Sys2Proof.Machine

/-- Where a carried byte is: engine storage of the core, an address of its own pool, of another core's pool, of device
memory, or a value already in hand. -/
inductive Loc where
  | reg (a : Nat) | own (a : Int) | far (module cid : Nat) (a : Int) | dev (a : Int) | val (x : Byte)
deriving DecidableEq, Repr

/-- A place of a block, whose pool is the issuer's or, with `cid`, another core's. -/
def Place.loc (p : Place) (far : Option (Nat × Nat)) : Loc :=
  if !p.pool then .dev p.addr
  else match far with
    | some (m, cid) => .far m cid p.addr
    | none => .own p.addr

/-- R224: the streams whose rows an index vector selects. -/
def Entry.indexed (e : Entry) : Bool := e.op8 == 0x43 || e.op8 == 0x44

/-- R224: the stream that gives the row geometry of an indexed copy. -/
def Entry.geometry (e : Entry) : Stream := if e.op8 = 0x43 && !e.dkind then e.strB else e.strA

/-- R224: index `r` of the vector fetched so far. -/
def Entry.index (e : Entry) (r : Nat) : Nat := ofBytes ((List.range 4).map fun i => e.buf.getD (4 * r + i) 0)

/-- R224: an indexed row's byte: BASE + idx·S1 and its place in the row. -/
def Entry.indexedPlace (e : Entry) (q : Stream) (b : Nat) : Option Place :=
  let g := e.geometry
  if b < g.dataBytes then
    some ⟨q.inPool, q.base + (e.index (b / g.rowBytes) : Nat) * q.stride 1 + (b % g.rowBytes : Nat)⟩
  else q.place 0 0 b

/-- R223, R328: the pool a source stream's SPACE 1 means. -/
def Entry.srcFar (e : Entry) (own : Nat) : Option (Nat × Nat) :=
  if e.op8 = 0x59 then some (e.f 54 5, e.cpCid) else if e.rside = 1 then some (own, e.cpCid) else none

/-- R223, R328: the pool a destination stream's SPACE 1 means. -/
def Entry.dstFar (e : Entry) (own : Nat) : Option (Nat × Nat) :=
  if e.op8 = 0x58 then some (e.f 54 5, e.cpCid) else if e.rside = 2 then some (own, e.cpCid) else none

/-- R224: the cores of `cp.copym`'s rectangle, row by row. -/
def Entry.rectangle (e : Entry) : List Nat :=
  let x := gridX e.cpCid
  let y := gridY e.cpCid
  (List.range (e.f 51 4 + 1)).flatMap fun j => (List.range (e.f 55 4 + 1)).map fun i => cidAt (x + i) (y + j)

/-- The stage byte of an entry's first claim. -/
def Entry.stageByte (e : Entry) (b : Nat) : Option Loc := e.claims.head?.map fun k => .reg (k.addr b)

/-- R166, R224: where carried byte `b` is read; none in the gap before a scale area. -/
def Entry.srcAt (e : Entry) (own : Nat) (part : Word) (b : Nat) : Option Loc :=
  let op := e.op8
  if op ≤ 2 then (e.strA.place e.off (e.fs 30 16) b).map fun p => p.loc none
  else if op = 3 then e.stageByte b
  else if op = 4 then some (.reg (vregAddr part (e.f 79 5) b))
  else if op = 5 then some (.val (e.buf.getD (b - e.sent) 0))
  else if op = 0x42 then some (.val (BitVec.ofNat 8 (e.val2.toNat / 256 ^ (b % 8))))
  else if op = 0x43 then (e.indexedPlace e.strA b).map fun p => p.loc (e.srcFar own)
  else (e.strA.place e.cpSoff 0 b).map fun p => p.loc (e.srcFar own)

/-- R166, R224: where carried byte `b` goes. -/
def Entry.dstAt (e : Entry) (own : Nat) (part : Word) (b : Nat) : List Loc :=
  let op := e.op8
  if op = 0 then (e.stageByte b).toList
  else if op = 1 then [.reg (vregAddr part (e.f 79 5) b)]
  else if op = 2 then [.reg (e.desc.addr part b)]
  else if op ≤ 5 then ((e.strA.place e.off 0 b).map fun p => p.loc none).toList
  else if e.dkind then (e.stageByte b).toList
  else if op = 0x41 then
    match e.strB.place 0 0 b with
    | some p => if p.pool then e.rectangle.map fun c => .far own c p.addr else [.dev p.addr]
    | none => []
  else if op = 0x44 then ((e.indexedPlace e.strB b).map fun p => p.loc (e.dstFar own)).toList
  else ((e.strB.place e.cpDoff 0 b).map fun p => p.loc (e.dstFar own)).toList

/-- R220: some byte of the block lies in device memory. -/
def Entry.touchesDevice (e : Entry) : Bool :=
  let dev := fun (q : Stream) => !q.inPool || (e.scales && !q.scInPool)
  if e.op8 ≤ 5 then dev e.strA
  else ((fieldOf e.op8 2).isSome && dev e.strA) || ((fieldOf e.op8 3).isSome && !e.dkind && dev e.strB)

/-- R167, R220: the entry sends requests, and its landing is gated. -/
def Entry.gatedMoves (e : Entry) (cid : Nat) : Bool :=
  e.touchesDevice || decide (0x58 ≤ e.op8)
    || (e.rside != 0 && e.cpCid / 128 != cid / 128)
    || (e.op8 == 0x41 && e.rectangle.any fun c => c / 128 != cid / 128)

/-- R225: the size at which an element's address is checked. -/
def Stream.elemBytes (q : Stream) : Nat := if q.fmt = 9 then 3 else fmtBits q.fmt / 8

/-- R224, R225: carried byte `b` begins an element of `z` bytes whose address is no multiple of its size. -/
def Stream.misaligned (q : Stream) (z rowBytes b : Nat) (l : Loc) : Bool :=
  decide (b < q.dataBytes) && b % max rowBytes 1 % max z 1 == 0
    && (match l with
      | .own a | .far _ _ a | .dev a => a % (z : Int) != 0
      | _ => false)

/-- R224, R225: the alignment fault of a copy's byte, with its address; the rows of an indexed copy have the one format of its geometry. -/
def Entry.alignFault (e : Entry) (b : Nat) (src : Option Loc) (dst : List Loc) : Option Int :=
  let addr := fun (l : Loc) => match l with
    | .own a | .far _ _ a | .dev a => a
    | _ => 0
  let rb := fun (q : Stream) => if e.indexed then e.geometry.rowBytes else q.rowBytes
  let z := fun (q : Stream) => if e.indexed then e.geometry.elemBytes else q.elemBytes
  if e.op8 < 0x40 then none
  else match src with
    | some l =>
      if (fieldOf e.op8 2).isSome && e.strA.misaligned (z e.strA) (rb e.strA) b l then some (addr l)
      else match dst with
        | d :: _ => if (fieldOf e.op8 3).isSome && !e.dkind && e.strB.misaligned (z e.strB) (rb e.strB) b d then some (addr d) else none
        | [] => none
    | none => none

/-- R411: the watch check of one side of a byte. -/
def Ctx.watchLoc (c : Ctx) (write : Bool) (uid : Nat) (l : Loc) : Ctx × Option Int :=
  match l with
  | .own a | .far _ _ a => let (c, h) := c.watch write true false uid a.toNat 1; (c, h.map fun x => (x : Int))
  | .dev a => let (c, h) := c.watch write false false uid a.toNat 1; (c, h.map fun x => (x : Int))
  | _ => (c, none)

/-- The watch checks of a byte's sides in turn. -/
def Ctx.watchLocs (c : Ctx) (uid : Nat) : List (Bool × Loc) → Ctx × Option Int
  | [] => (c, none)
  | (w, l) :: r =>
    match c.watchLoc w uid l with
    | (c, some a) => (c, some a)
    | (c, none) => c.watchLocs uid r

/-- R132, R225: a pool address that an engine access of the entry does not admit. `gated` leaves far pools to their own core. -/
def State.boundFault (s : State) (gated write : Bool) (l : Loc) : Option Int :=
  match l with
  | .own a => if engineOk s.core.ctx.misc.part write a then none else some a
  | .far _ cid a =>
    if gated then none
    else if engineOk (s.coreOf cid).ctx.misc.part write a then none else some a
  | .dev a => if a < 0 then some a else none
  | _ => none

/-- A byte's checks: alignment, ranges, watchpoints. The context keeps what watchpoints record. -/
def State.byteChecks (s : State) (e : Entry) (gated : Bool) (b : Nat) : Ctx × Option (BitVec 8 × Int) :=
  let c := s.core.ctx
  let src := e.srcAt s.conn.modnum c.misc.part b
  let dst := e.dstAt s.conn.modnum c.misc.part b
  match e.alignFault b src dst with
  | some a => (c, some (causeMisalign, a))
  | none =>
    match (src.toList.findSome? (s.boundFault gated false)).or (dst.findSome? (s.boundFault gated true)) with
    | some a => (c, some (if (src.toList ++ dst).contains (.dev a) then causeXlateAbsent else causePoolBound, a))
    | none =>
      if wbits c.misc.wctl 63 1 = 0 then (c, none)
      else match c.watchLocs e.uid (src.toList.map (fun l => (false, l)) ++ dst.map fun l => (true, l)) with
        | (c, some a) => (c, some (causeWatch, a))
        | (c, none) => (c, none)

/-- A byte read from a pool or in hand. -/
def State.locByte (s : State) (l : Loc) : Byte :=
  match l with
  | .reg a => s.core.poolByte a
  | .own a => s.core.poolByte a.toNat
  | .far _ cid a => (s.coreOf cid).poolByte a.toNat
  | .dev _ => 0
  | .val x => x

/-- Where a written byte performs: core and physical location. -/
def State.locPhys (s : State) (l : Loc) : Option (Nat × Nat) :=
  match l with
  | .reg a => some (s.core.cid, phys s.core.ctx.misc.part a)
  | .own a => some (s.core.cid, phys s.core.ctx.misc.part a.toNat)
  | .far _ cid a => some (cid, phys (s.coreOf cid).ctx.misc.part a.toNat)
  | _ => none

/-- The bytes of a run that pass their checks, and the fault of the next. -/
def State.runChecks (s : State) (e : Entry) (gated : Bool) : List Nat → Ctx → Nat → Ctx × Nat × Option (BitVec 8 × Int)
  | [], c, n => (c, n, none)
  | b :: r, c, n =>
    match { s with core := { s.core with ctx := c } }.byteChecks e gated b with
    | (c, some f) => (c, n, some f)
    | (c, none) => s.runChecks e gated r c (n + 1)

/-- R227: cycles an indexed copy takes to read its indices. -/
def Entry.lag (e : Entry) : Nat := if e.indexed then chunks 64 (4 * e.geometry.ext 1) else 0

/-- R224: an indexed copy has still to read its indices. -/
def Entry.indexing (e : Entry) : Bool := e.indexed && decide (e.buf.length < 4 * e.geometry.ext 1)

/-- R226: the other cores a timed copy reaches. -/
def Entry.farCores (e : Entry) (cid : Nat) : List Nat :=
  if e.op8 = 0x41 then e.rectangle.filter (· ≠ cid) else if e.rside ≠ 0 ∧ e.cpCid ≠ cid then [e.cpCid] else []

/-- R167, R227: the write offset of a timed entry, as the remaining latency of an effect pushed in the cycle that reads. -/
def Entry.offset (e : Entry) (cid : Nat) : Nat :=
  if e.op8 = 5 then 4 else if e.op8 = 0x41 ∨ (0x40 ≤ e.op8 ∧ e.farCores cid ≠ []) then 5 else 3

/-- R224: the part of an index vector this cycle reads. -/
def State.readIndex (s : State) (e : Entry) : State :=
  let n := 4 * e.geometry.ext 1
  let bs := (chunkRange 64 (e.buf.length / 64) n).map fun i => s.core.poolByte (16 * e.f 37 15 + i)
  s.ctx (·.onRun e.uid fun e => { e with buf := e.buf ++ bs })

/-! Conversion of a tile for `st.acc` (06 R165) -/

/-- R165: the rounding mode of a `st.acc` entry. -/
def Entry.rnd (e : Entry) : BitVec 3 :=
  let r : BitVec 3 := BitVec.ofNat 3 (e.f 27 3)
  if r = 7 then frmMode e.frm else r

/-- Elements converted together: four for TF6. -/
def Stream.group (q : Stream) : Nat := if q.fmt = 9 then 4 else 1

/-- R165: the bytes of element group `g` of a tile, converted, with the generator's steps. -/
def State.convertGroup (s : State) (e : Entry) (seed : Word) (g : Nat) : List Byte × Word :=
  let q := e.strA
  let r := (List.range q.group).foldl (fun (a : Nat × Word) i =>
    let x := s.core.poolRead (e.desc.addr s.core.ctx.misc.part (4 * (g * q.group + i))) 4
    let (y, _, seed) := convert (if e.desc.int then 2 else 6) q.fmt e.rnd x a.2
    (a.1 + y * 2 ^ (fmtBits q.fmt * i), seed)) (0, seed)
  (toBytes q.elemBytes r.1, r.2)

/-- R165: the groups that begin in the chunk now read, appended to the bytes in hand. -/
def State.convertChunk (s : State) (e : Entry) (upto : Nat) : Entry :=
  let z := e.strA.elemBytes
  let last := (upto + z - 1) / max z 1
  (List.range (last - e.chunk)).foldl (fun e _ =>
    let (bs, seed) := s.convertGroup e e.val2 e.chunk
    { e with buf := e.buf ++ bs, val2 := seed, chunk := e.chunk + 1 }) e

/-! Timed chunks (06 R167, 09 R227, R232) -/

/-- R165: the locations of the tile that some element groups are converted from. -/
def State.groupCells (s : State) (e : Entry) (first last : Nat) : List (Nat × Nat) :=
  let p := s.core.ctx.misc.part
  (List.range (last - first)).flatMap fun g => (List.range (4 * e.strA.group)).map fun i =>
    (s.core.cid, phys p (e.desc.addr p (4 * e.strA.group * (first + g) + i)))

/-- R85, R165: the generator as the draws of the groups before `g` leave it, from the start seed and the tile as it stands
(log 58, DESIGN CHOICE). -/
def State.seedAt (s : State) (e : Entry) (g : Nat) : Word :=
  if e.f 27 3 = 5 then (List.range g).foldl (fun seed i => (s.convertGroup e seed i).2) e.val1 else 0

/-- R165: the converted bytes of a timed `st.acc` at carried positions `b` to `b + n - 1`. -/
def State.converted (s : State) (e : Entry) (b n : Nat) : List Byte :=
  let z := max e.strA.elemBytes 1
  let g := b / z
  let r := (List.range ((b + n - 1) / z + 1 - g)).foldl (fun (a : List Byte × Word) i =>
    let (bs, seed) := s.convertGroup e a.2 (g + i)
    (a.1 ++ bs, seed)) ([], s.seedAt e g)
  (r.1.drop (b - g * z)).take n

/-- A timed LD, ST or copy entry: its block is moved in the chunks of R167 and R227. -/
def Entry.timedMover (e : Entry) (cid : Nat) : Bool :=
  (e.eng == .ld || e.eng == .st || e.eng == .cp0 || e.eng == .cp1) && e.op8 != 6 && !e.isPort && !e.gatedMoves cid

/-- R167, R227: the pool locations that a chunk reads. -/
def State.chunkCells (s : State) (e : Entry) (b n : Nat) : List (Nat × Nat) :=
  if e.op8 = 5 then
    let z := max e.strA.elemBytes 1
    s.groupCells e ((b + z - 1) / z) ((b + n + z - 1) / z)
  else (List.range n).filterMap fun i => (e.srcAt s.conn.modnum s.core.ctx.misc.part (b + i)).bind s.locPhys

/-- R9: the writes of a chunk whose bytes have been read, with the bytes by carried position. -/
def State.chunkWrites (s : State) (e : Entry) (b n : Nat) : List (Nat × Nat × Byte) × List (Nat × Byte) :=
  let part := s.core.ctx.misc.part
  let made := if e.op8 = 5 then s.converted e b n else []
  let byte := fun (i : Nat) =>
    if e.op8 = 5 then made[i]? else (e.srcAt s.conn.modnum part (b + i)).map s.locByte
  let all := (List.range n).filterMap fun i => (byte i).map fun x => (b + i, x)
  (all.flatMap fun x => (e.dstAt s.conn.modnum part x.1).filterMap fun d => (s.locPhys d).map fun w => (w.1, w.2, x.2), all)

/-- R167, R227: a chunk has been read: its write falls due at the entry's offset. -/
def State.chunkServed (s : State) (e : Entry) (b n : Nat) : State :=
  let (ws, bs) := s.chunkWrites e b n
  s.ctx fun c => (c.onEntry e.uid fun e => if e.gens = [] then e else { e with wdata := e.wdata ++ bs }).pushFor e.uid
    (e.offset s.core.cid) (.moved b n ws)

/-- R227: an access of a copy's earlier chunk is late: what comes after it waits. -/
def Ctx.lateCopy (c : Ctx) (e : Entry) (reading : Bool) : Bool :=
  decide (0x40 ≤ e.op8) && (reading || c.banks.any fun a => a.uid == some e.uid && a.write && decide (0 < a.late))

/-- R167: with an LD or ST entry's last chunk its change of ring state and its finish are fixed. `uAge` counts what late accesses
add to what follows them. -/
def Ctx.lastChunk (c : Ctx) (e : Entry) (cid : Nat) : Ctx :=
  let settle := if e.op8 = 0 then e.offset cid else 1
  let c := (e.claims.flatMap Claim.settle).foldl (fun c f => c.pushFor e.uid (settle + e.uAge) f) c
  c.pushFor e.uid (e.offset cid + e.uAge) (.finish e.uid)

/-- R167, R227, R232: one cycle of a timed entry: its next chunk is checked, and asks the banks for what it reads; `reading` says that an
earlier chunk still waits for its reads. A copy that meets a fault waits until what it has sent has performed. -/
def State.timedAsk (s : State) (e : Entry) (reading : Bool) : State :=
  if e.indexing ∨ e.total ≤ e.sent ∨ e.failed ≠ [] ∨ s.core.ctx.lateCopy e reading then s
  else
    let b := e.sent
    let upto := min e.total (64 * (b / 64 + 1))
    let (c, k, f) := s.runChecks e false ((List.range (upto - b)).map (· + b)) s.core.ctx 0
    let e := { e with sent := b + k, out := if k = 0 then e.out else e.out ++ [(b, b)] }
    let s : State := { s with core := { s.core with ctx := c.onRun e.uid fun _ => e } }
    let cells := s.chunkCells e b k
    let s :=
      if k = 0 then s
      else if cells = [] then s.chunkServed e b k
      else s.askFor (some e.uid) (.entry b k) ((firsts (cells.map (·.1))).flatMap fun cid =>
        (readAccs cid ((cells.filter (·.1 == cid)).map (·.2))).map (·.ofEntry s.core.cid e))
    match f with
    | some (cause, a) =>
      if 0x40 ≤ e.op8 ∧ e.out ≠ [] then s.ctx (·.onRun e.uid fun e => { e with failed := [(e.sent, cause, (addrWord a).toNat)] })
      else s.ctx (·.faultRun e.uid cause (addrWord a))
    | none => if e.total ≤ e.sent ∧ e.op8 < 0x40 then s.ctx (·.lastChunk e s.core.cid) else s

/-! Requests of a gated entry -/

/-- A run of bytes that one request may carry: consecutive on both sides, in one sector or one 16-byte pool word (log 23, DEDUCED). -/
def sameRun (a b : Loc) (i : Nat) : Bool :=
  match a, b with
  | .dev x, .dev y => y == x + i && decide (x / 128 = y / 128)
  | .far m c x, .far m' c' y => m == m' && c == c' && y == x + i && decide (x / 16 = y / 16)
  | .own x, .own y => y == x + i
  | .reg x, .reg y => y == x + i
  | .val _, .val _ => true
  | _, _ => false

/-- How many bytes from `b` on, at most `n`, one request may carry (log 23, DEDUCED). -/
def Entry.runLength (e : Entry) (own : Nat) (part : Word) (b n : Nat) : Nat :=
  let s₀ := e.srcAt own part b
  let d₀ := e.dstAt own part b
  let ok := fun (i : Nat) =>
    match s₀, e.srcAt own part (b + i), d₀, e.dstAt own part (b + i) with
    | some x, some y, u :: _, v :: _ => sameRun x y i && sameRun u v i
    | none, none, [], [] => true
    | _, _, _, _ => false
  max 1 ((List.range n).takeWhile ok).length

/-- R167, R229: the next `n` source bytes to send: those read in earlier cycles for the request being put together, then those
read now. -/
def State.readOn (s : State) (e : Entry) (n : Nat) : List Byte :=
  (e.half ++ (List.range (n - e.half.length)).map fun i =>
    ((e.srcAt s.conn.modnum s.core.ctx.misc.part (e.sent + e.half.length + i)).map s.locByte).getD 0).take n

/-- What a cycle of sending has come to. -/
inductive Sent where
  | sent (s : State) (n : Nat)
  | stall (s : State)
  | fault (s : State) (cause : BitVec 8) (a : Int)

/-- The home a side of a run names, translated when it is device memory. -/
def State.homeOf (s : State) (kind : Nat) (l : Loc) (landed : Nat) : State × Xlat :=
  match l with
  | .dev a => s.translate kind a.toNat landed
  | .far m _ a => (s, .at m a.toNat)
  | _ => (s, .at s.conn.modnum 0)

/-- The VA or locator of a side. -/
def Loc.name (l : Loc) : Nat :=
  match l with
  | .far _ c a => c * 2 ^ 32 + a.toNat
  | .dev a | .own a => a.toNat
  | .reg a => a
  | .val _ => 0

/-- The kind of a write request to a side. -/
def Entry.writeKind (e : Entry) (c : Ctx) (l : Loc) : ReqKind :=
  match l with
  | .far _ cid _ => .farWrite cid
  | _ => if e.op8 = 0x5A then .gput (e.f 51 3) (vat c.groups .zero (e.f 51 3)).gen else .write

/-- The side is a home: another pool, or device memory. -/
def Loc.remote : Loc → Bool
  | .far .. | .dev _ => true
  | _ => false

/-- One request, or one run of bytes moved in the pool, from carried position `b` on: `n` bytes between two sides. -/
def State.sendRun (s : State) (e : Entry) (b n : Nat) (src dst : Loc) : Sent :=
  let (s, x) := if src.remote then s.homeOf permR src e.prefixLen else (s, .at 0 0)
  match x with
  | .wait => .stall s
  | .fault cause => .fault s cause src.name
  | .at sm spa =>
    let (s, y) := if dst.remote then s.homeOf permW dst e.prefixLen else (s, .at 0 0)
    match y with
    | .wait => .stall s
    | .fault cause => .fault s cause dst.name
    | .at dm dpa =>
      let c := s.core.ctx
      let part := c.misc.part
      let own := s.conn.modnum
      let data := fun (_ : Unit) => s.readOn e n
      let kind := e.writeKind c dst
      let base : Req := { c.blankReq s.core.cid kind with uid := some e.uid, pos := b, counted := e.op8 != 0x5A || src.remote
                                                          job := ((s.launchOf c.lid).map (·.job)).getD 0 }
      let id := s.nextId
      let sent := fun (s : State) (r : Req) =>
        let s := s.dispatch r
        let s := s.ctx (·.onRun e.uid fun e => { e with out := e.out ++ [(id, b)] })
        let s := if dst.remote && !src.remote then s.ctx (·.unheld (match dst with
          | .far .. => true
          | _ => false) dst.name n) else s
        Sent.sent (if e.op8 = 0x5A && !src.remote then
          s.ctx fun c => c.onGroup (e.f 51 3) fun g => { g with out := g.out + 1 } else s) n
      let refusal := if e.op8 = 0x5A then s.gputRefusal s.core.cid c.lid (e.f 51 3) dm (dpa / 2 ^ 36) else none
      if let some cause := refusal then
        .sent (s.ctx fun c => (c.onGroup (e.f 51 3) (·.refused cause)).onRun e.uid fun e => { e with landed := e.landed + n }) n
      else if src.remote then
        let rk := match src with
          | .far _ cid _ => ReqKind.farRead cid
          | _ => .read
        let r := { base with kind := rk, va := src.name, module := sm, pa := spa }
        if dst.remote then
          sent s { r with pairs := (List.range n).map fun i => (spa + i, dpa + i), onward := some (kind, dm, dst.name) }
        else sent s { r with pairs := (List.range n).map fun i => (spa + i, dst.name + i) }
      else if dst.remote then
        sent s { base with va := dst.name, module := dm, pa := dpa, data := data ()
                           pairs := (List.range n).map fun i => (dpa + i, 0) }
      else
        let ws := (List.range n).filterMap fun i =>
          match e.srcAt own part (b + i), e.dstAt own part (b + i) with
          | some l, d :: _ => (s.locPhys d).map fun w => (w.2, s.locByte l)
          | _, _ => none
        let s := s.fresh.ctx (·.onRun e.uid fun e => { e with out := e.out ++ [(id, b)] })
        .sent (s.askEntryAt s.core.cid id (some e.uid) (.landed c.lid id n)
          ((writeAccs s.core.cid ws).map (·.arrived s.core.tick s.core.cid))) n

/-- R229: a run to each of its destinations in turn (several only for `cp.copym`). -/
def State.sendRuns (s : State) (e : Entry) (b n : Nat) (src : Loc) : List Loc → Sent
  | [] => .sent s n
  | d :: r =>
    match s.sendRun e b n src d with
    | .sent s _ => s.sendRuns e b n src r
    | x => x

/-- R229, R267, R331: no further request may be sent for now: a run of `cp.copym` sends one to each destination. -/
def State.sendStalled (s : State) (e : Entry) : Bool :=
  let n := max 1 (e.dstAt s.conn.modnum s.core.ctx.misc.part e.sent).length
  let far := ((e.srcAt s.conn.modnum s.core.ctx.misc.part e.sent).map Loc.remote).getD false
  (0x40 ≤ e.op8 && decide (256 < e.out.length + n))
    || ((e.op8 != 0x5A || far) && !s.core.ctx.ackRoomFor n)
    || (e.op8 == 0x5A && decide (4096 ≤ (vat s.core.ctx.groups .zero (e.f 51 3)).out + s.groupReads s.core.cid s.core.ctx.lid (e.f 51 3)))

/-- R167, R229: requests sent while `budget` bytes last, a request being sent with its last byte; `fuel` bounds them. A fault
ends sending and is recorded. -/
def State.sendBytes : Nat → State → Nat → Nat → State
  | 0, s, _, _ => s
  | fuel + 1, s, uid, budget =>
    match s.core.ctx.run.find? (·.uid = uid) with
    | none => s
    | some e =>
      if budget = 0 ∨ e.total ≤ e.sent ∨ e.failed ≠ [] then s
      else
        let part := s.core.ctx.misc.part
        let own := s.conn.modnum
        let n := e.runLength own part e.sent (min 128 (e.total - e.sent))
        if s.sendStalled e then s
        else if budget < n then s.ctx (·.onRun uid fun e' => { e' with half := s.readOn e budget })
        else
          let (c, k, f) := s.runChecks e true ((List.range n).map (· + e.sent)) s.core.ctx 0
          let s := { s with core := { s.core with ctx := c } }
          let failed := fun (s : State) (cause : BitVec 8) (a : Int) =>
            s.ctx (·.onRun uid fun e => { e with failed := e.failed ++ [(e.sent, cause, (addrWord a).toNat)] })
          if k = 0 then
            match f with
            | some (cause, a) => failed s cause a
            | none => s
          else
            let far := ((e.srcAt own part e.sent).map Loc.remote).getD false
            let data := if e.gens = [] || far then [] else (s.readOn e k).zipIdx.map fun x => (e.sent + x.2, x.1)
            let went := fun (s : State) =>
              sendBytes fuel (s.ctx (·.onRun uid fun e =>
                { e with sent := e.sent + k, half := [], wdata := e.wdata ++ data
                         buf := if e.op8 = 5 then e.buf.drop k else e.buf }))
                uid (budget - k)
            match e.srcAt own part e.sent with
            | none => went (s.ctx (·.onRun uid fun e => { e with landed := e.landed + k }))
            | some src =>
              match s.sendRuns e e.sent k src (e.dstAt own part e.sent) with
              | .sent s _ => went s
              | .stall s => s
              | .fault s cause a => failed s cause a

/-- R150, R229: the engine is free again when the last request has been sent. -/
def Ctx.holdEngine (c : Ctx) (u : Unit7) (last : Bool) : Ctx :=
  c.onQueue u fun q => { q with freeAt := max q.freeAt (c.cyc + (if last then 1 else 2)) }

/-- R152, R167: the last request of an ST entry has been sent: its stages drain and it finishes, its record staying (R455). -/
def Ctx.storeSent (c : Ctx) (e : Entry) : Ctx :=
  let c := (e.claims.flatMap Claim.settle).foldl (fun c f => c.pushFor e.uid 1 f) c
  c.pushFor e.uid 1 (.finish e.uid)

/-- R229: one cycle of a gated entry's sending. -/
def State.gatedCycle (s : State) (e : Entry) : State :=
  if e.indexing then s.readIndex e
  else if e.total ≤ e.sent ∨ e.failed ≠ [] then s
  else
    let s := if e.op8 = 5 then
        let e' := s.convertChunk e (min e.total (e.sent + e.half.length + 64))
        s.ctx (·.onRun e.uid fun _ => e')
      else s
    let s := s.sendBytes 64 e.uid (e.half.length + 64)
    match s.core.ctx.run.find? (·.uid = e.uid) with
    | none => s
    | some e =>
      let last := decide (e.total ≤ e.sent) || e.failed != []
      let s := s.ctx (·.holdEngine e.eng last)
      if e.total ≤ e.sent ∧ e.eng = .st ∧ !e.late then s.ctx (·.storeSent e) else s

/-- R167, R224, R229: the pool locations that an entry reads in this cycle: part of its index vector, or the bytes a gated one
sends. -/
def State.moverReads (s : State) (e : Entry) : List (Nat × Nat) :=
  let p := s.core.ctx.misc.part
  if e.indexing then
    (chunkRange 64 (e.buf.length / 64) (4 * e.geometry.ext 1)).map fun i => (s.core.cid, phys p (16 * e.f 37 15 + i))
  else if e.total ≤ e.sent || e.failed != [] || s.sendStalled e then []
  else
    let b := e.sent + e.half.length
    let upto := min e.total (b + 64)
    if e.op8 = 5 then
      let z := max e.strA.elemBytes 1
      s.groupCells e e.chunk ((upto + z - 1) / z)
    else (List.range (upto - b)).filterMap fun i =>
      match e.srcAt s.conn.modnum p (b + i) with
      | some l => if (s.boundFault true false l).isSome then none
        else match l with
          | .far _ _ _ => none
          | _ => s.locPhys l
      | none => none

/-- R232, R455: the lowest failing carried position, with cause and address. -/
def Entry.lowestFailure (e : Entry) : Option (Nat × BitVec 8 × Nat) :=
  e.failed.foldl (fun (m : Option (Nat × BitVec 8 × Nat)) f =>
    match m with
    | none => some f
    | some x => if f.1 < x.1 then some f else m) none

/-- R232: every request sent has landed or failed, and one has failed. -/
def Entry.failing (e : Entry) : Bool := e.failed != [] && e.out == []

/-- R166, R167: the last byte of a gated load has landed. -/
def Entry.loadDone (e : Entry) : Bool := e.failed == [] && e.out == [] && decide (0 < e.total) && decide (e.total ≤ e.sent)

/-- R232, R455: the fault of an entry whose requests have all ended is raised; what it resends begins at its prefix. -/
def Ctx.raiseFailed (c : Ctx) (uid : Nat) : Ctx :=
  match c.run.find? (·.uid = uid) with
  | none => c
  | some e =>
    if !e.failing then c
    else match e.lowestFailure with
      | none => c
      | some (_, cause, a) => c.faultRun uid cause (BitVec.ofNat 64 a)

/-- R167, R166: a gated load whose last byte has landed fills its stage and finishes. -/
def Ctx.endLoad (c : Ctx) (e : Entry) : Ctx :=
  let c := (e.claims.flatMap Claim.settle).foldl (fun c f => c.pushFor e.uid 1 f) c
  (c.pushFor e.uid 1 (.finish e.uid)).onRun e.uid fun e => { e with done := true }

/-- R230: an entry may have come further: a copy's last byte has performed and its end sequence begins, its completion words have all
performed, or a load's last byte has landed. -/
def Ctx.progressed (c : Ctx) (uid : Nat) : Ctx :=
  match c.run.find? (·.uid = uid) with
  | none => c
  | some e =>
    if e.isPort || !(e.eng == .ld || e.eng == .cp0 || e.eng == .cp1) || !e.loadDone then c
    else if e.eng = .ld then (if e.done || e.op8 == 6 then c else c.endLoad e)
    else if e.stage = 0 then (c.onRun uid fun e => { e with stage := 1 }).pushFor uid 1 (.event (.copyEnd uid))
    else if e.stage = 3 then (c.onRun uid fun e => { e with stage := 4 }).pushFor uid 1 (.event (.copyEnd uid))
    else if e.stage = 5 && e.cside then (c.onRun uid fun e => { e with stage := 6 }).pushFor uid 1 (.finish uid)
    else c

/-- R230, R232: `n` bytes of an entry have performed. A copy whose block has met a fault raises it once all it has sent has. -/
def Ctx.landedAt (c : Ctx) (uid key n : Nat) (timedLd : Bool) : Ctx :=
  let c := c.onEntry uid fun e => { e with out := e.out.filter (·.1 ≠ key), landed := e.landed + n }
  match c.run.find? (·.uid = uid) with
  | none => c
  | some e =>
    if timedLd then c
    else if e.failing && (e.eng == .cp0 || e.eng == .cp1) then c.raiseFailed uid
    else c.progressed uid

/-- R227, R230, R233: the completion words of `cp.copym` at some of its destinations: timed writes on the die, else requests. -/
def State.copymWords (s : State) (e : Entry) (cids : List Nat) : State :=
  let own := s.core.cid
  let bs := toBytes 8 e.val1.toNat
  let s := s.ctx (·.onRun e.uid fun e => { e with stage := 3 })
  if e.gatedMoves own then
    cids.foldl (fun s cid =>
      let id := s.nextId
      let s := s.dispatch { s.core.ctx.blankReq own (.farWrite cid) with
        uid := some e.uid, pos := e.total, va := cid * 2 ^ 32 + e.caddr, module := s.conn.modnum, pa := e.caddr
        pairs := (List.range 8).map fun i => (e.caddr + i, 0), data := bs }
      s.ctx (·.onRun e.uid fun e => { e with out := e.out ++ [(id, e.total)] })) s
  else
    s.askFor (some e.uid) (.event (.copyEnd e.uid)) (cids.flatMap fun cid =>
      (writeAccs cid (placed (s.coreOf cid).ctx.misc.part e.caddr bs)).map (·.ofEntry own e))

/-- R233: the destinations of a `cp.copym` that has sent all of its block and been refused at some: those it was not refused at. -/
def Entry.unrefused (e : Entry) : List Nat :=
  e.rectangle.filter fun c => !e.failed.any fun f => f.2.2 / 2 ^ 32 == c

/-- One cycle of a running gated LD, ST or copy entry. -/
def State.moverCycle (s : State) (e : Entry) : State :=
  if !e.gatedMoves s.core.cid then (if e.indexing then s.readIndex e else s)
  else
    let s := s.gatedCycle e
    match s.core.ctx.run.find? (·.uid = e.uid) with
    | none => s
    | some e =>
      if e.failing && e.op8 == 0x41 && decide (e.total ≤ e.sent) && e.stage == 0 && e.unrefused != [] && s.core.ctx.ackRoomFor 256 then
        s.copymWords e e.unrefused
      else if e.failing && !(e.late && s.core.ctx.trap.inh) && !(e.eng == .st && s.core.ctx.faults.any (·.eng == .st)) then
        s.ctx (·.raiseFailed e.uid)
      else if e.late && e.loadDone then s.ctx fun c => { c with run := c.run.filter (·.uid ≠ e.uid) }
      else if e.stage = 0 ∨ e.eng = .ld then s.ctx (·.progressed e.uid)
      else s

end Sys2Proof.Machine
end

