-- ==== Sys2Proof/Machine/LoadStore.lean ====
section
/-! DEFINITION. The starts of LD and ST entries and of `q.tok` (06 R150, R165, R166; 08 R198). -/

namespace Sys2Proof.Machine

/-- R150, R151: the head of an engine's queue in this cycle: it waits, starts, or raises TIMING. -/
def State.judge (s : State) (u : Unit7) (op : Nat) (slots : Entry → Bool) (start : Entry → State) : Out :=
  match s.core.ctx.head u with
  | none => .next s
  | some e =>
    if e.op8 ≠ op then .next s
    else match s.core.ctx.verdict (slots e) e with
      | .wait => .next s
      | .timing => .next (s.ctx (·.faultHead e causeTiming 0))
      | .start => .next (start e)

/-- A start whose checks fail faults the head; otherwise it begins with its occupancy. -/
def State.startChecked (s : State) (e : Entry) (c : Chk (Entry × Nat)) : State :=
  match c with
  | .ok (e, n) => s.ctx (·.begin e n)
  | .error (cause, tv) => s.ctx (·.faultHead e cause tv)

/-- R198: the accumulator matches the stream's block. -/
def accMatches (d : AccDesc) (q : Stream) : Bool :=
  d.defd && q.dims == 2 && q.ext 0 == d.cols && q.ext 1 == d.rows

/-- R165: a register an entry names lies below VREG. -/
def Ctx.vregOk (c : Ctx) (v : Nat) : Bool := decide (v < wbits c.misc.part 0 6)

/-- The entry with the bytes it moves, and its occupancy (R167). -/
def Entry.sized (e : Entry) (n : Nat) : Entry × Nat := ({ e with total := n }, max 1 (chunks 64 n))

/-- R166 `ld.strm` starts. -/
def execLdStrm (s : State) : Out :=
  s.judge .ld 0 (fun _ => true) fun e => s.startChecked e (.ok (e.sized (e.strA.carried e.scales)))

/-- R166 `ld.vec` starts. -/
def execLdVec (s : State) : Out :=
  s.judge .ld 1 (fun _ => true) fun e =>
    s.startChecked e ((need (s.core.ctx.vregOk (e.f 79 5)) causePoolBound 0).map fun _ => e.sized e.strA.dataBytes)

/-- R165, R198: the checks of an entry that names an accumulator, and its captured descriptor. -/
def Ctx.accChecked (c : Ctx) (e : Entry) (ok : AccDesc → Bool) : Chk (Entry × Nat) := do
  let d := c.acc (e.f 79 5 % 8)
  need (accMatches d e.strA) causeAccShape 0
  need (ok d) causeFieldRange 0
  pure ({ e with desc := d }.sized e.strA.dataBytes)

/-- R166 `ld.acc` starts: FMT equals the tile's type. -/
def execLdAcc (s : State) : Out :=
  s.judge .ld 2 (fun _ => true) fun e =>
    s.startChecked e (s.core.ctx.accChecked e fun d => e.strA.fmt == (if d.int then 2 else 6))

/-- R166 `st.strm` starts. -/
def execStStrm (s : State) : Out :=
  s.judge .st 3 (fun _ => true) fun e => s.startChecked e (.ok (e.sized e.strA.dataBytes))

/-- R166 `st.vec` starts. -/
def execStVec (s : State) : Out :=
  s.judge .st 4 (fun _ => true) fun e =>
    s.startChecked e ((need (s.core.ctx.vregOk (e.f 79 5)) causePoolBound 0).map fun _ => e.sized e.strA.dataBytes)

/-- R85, R165: the generator after the draws of a whole tile as it stands (log 58, DESIGN CHOICE). -/
def State.tileDraws (s : State) (e : Entry) : Word :=
  (List.range (e.desc.elems / e.strA.group)).foldl (fun seed g => (s.convertGroup e seed g).2) s.core.ctx.regs.seed

/-- R165 `st.acc` starts; under STO its draws are the next of the core's generator. -/
def execStAcc (s : State) : Out :=
  s.judge .st 5 (fun _ => true) fun e =>
    match s.core.ctx.accChecked e fun d => e.f 27 3 != 5 || !fmtHolds e.strA.fmt (if d.int then 2 else 6) with
    | .error (cause, tv) => s.ctx (·.faultHead e cause tv)
    | .ok (e, n) =>
      if e.f 27 3 = 5 then
        let e := { e with val1 := s.core.ctx.regs.seed, val2 := s.core.ctx.regs.seed }
        (s.ctx fun c => { c with regs := { c.regs with seed := s.tileDraws e } }).ctx (·.begin e n)
      else s.ctx (·.begin e n)

/-- R165 `q.tok` starts: no data, and it finishes in its start cycle. -/
def execQTok (s : State) : Out :=
  s.judge s.unit 6 (fun _ => true) fun e => (s.ctx (·.begin e 1)).ctx (·.pushFor e.uid 1 (.finish e.uid))

end Sys2Proof.Machine
end

