-- ==== Sys2Proof/Machine/Matrix.lean ====
section
/-! DEFINITION. The matrix engine (08 R195 to R218): starts, fetch and compute cycles, windowed and integer sums. -/

namespace Sys2Proof.Machine

/-- R208: C, the compute cycles of an entry. -/
def Entry.mxC (e : Entry) : Nat :=
  if e.op8 ≤ 0x23 then e.mxM * e.mxN / 32
  else if e.op8 = 0x24 then (e.desc.elems + 1023) / 1024
  else 2 * (e.f 67 3 + 1)

/-- R208: F, the fetch cycles. -/
def Entry.mxF (e : Entry) : Nat := (e.images.map fun i => chunks 256 i.2.1).sum

/-- R208: a matrix entry starts: it has fetched nothing, and computed nothing. -/
def Ctx.mxBegin (c : Ctx) (e : Entry) : Ctx := c.begin { e with uAge := 0, sent := 0, total := e.mxC, chunk := 0 } (max e.mxF 1)

/-- R207: the accumulator of a product entry. -/
def Ctx.mxChecked (c : Ctx) (e : Entry) (int : Bool) : Chk Entry := do
  let d := c.acc (e.f 85 3)
  need (d.defd && d.mcode == e.f 83 2 && d.n == e.f 77 6 && d.int == int) causeAccShape 0
  pure { e with desc := d }

/-- A matrix entry whose checks have been made. -/
def State.mxStart (s : State) (e : Entry) (c : Chk Entry) : State :=
  match c with
  | .ok e => s.ctx (·.mxBegin e)
  | .error (cause, tv) => s.ctx (·.faultHead e cause tv)

/-- R213 `mx.mma` starts. -/
def execMxMma (s : State) : Out :=
  s.judge .mx 0x20 (fun _ => true) fun e => s.mxStart e (s.core.ctx.mxChecked e false)

/-- R205 `mx.mmac` starts. -/
def execMxMmac (s : State) : Out :=
  s.judge .mx 0x21 (fun _ => true) fun e => s.mxStart e (s.core.ctx.mxChecked e false)

/-- R206 `mx.mmi` starts. -/
def execMxMmi (s : State) : Out :=
  s.judge .mx 0x22 (fun _ => true) fun e => s.mxStart e (s.core.ctx.mxChecked e true)

/-- R215: the descriptor a `mx.zero` defines. -/
def Entry.zeroDesc (e : Entry) : AccDesc := ⟨true, e.f 76 1 == 1, e.f 83 2, e.f 77 6, e.f 67 9⟩

/-- R215 `mx.zero` starts. -/
def execMxZero (s : State) : Out :=
  s.judge .mx 0x23 (fun _ => true) fun e =>
    let d := e.zeroDesc
    s.mxStart e ((need (decide (1024 * d.abase + 4 * d.elems ≤ 0x2000 * wbits s.core.ctx.misc.part 6 6)) causePoolBound 0).map
      fun _ => { e with desc := d })

/-- R216 `mx.lsf` starts. -/
def execMxLsf (s : State) : Out :=
  s.judge .mx 0x24 (fun _ => true) fun e =>
    let c := s.core.ctx
    let d := c.acc (e.f 85 3)
    s.mxStart e (do
      need d.defd causeAccShape 0
      need (if e.f 84 1 = 0 then decide (d.elems / 8 ≤ (c.ring (e.f 81 3)).size) else decide (d.elems ≤ 2048)) causeAccShape 0
      need (e.f 84 1 == 0 || c.vregOk (e.f 76 5)) causePoolBound 0
      pure { e with desc := d })

/-- R217: the checks of `mx.tov` and `mx.fromv`. -/
def Ctx.mxMoveChecked (c : Ctx) (e : Entry) : Chk Entry := do
  let d := c.acc (e.f 85 3)
  need (d.defd && decide (64 * (e.f 70 10 + e.f 67 3 + 1) ≤ d.elems)) causeAccShape 0
  need (c.vregOk (e.f 80 5 + e.f 67 3)) causePoolBound 0
  pure { e with desc := d }

/-- R217 `mx.tov` starts. -/
def execMxTov (s : State) : Out :=
  s.judge .mx 0x25 (fun _ => true) fun e => s.mxStart e (s.core.ctx.mxMoveChecked e)

/-- R217 `mx.fromv` starts. -/
def execMxFromv (s : State) : Out :=
  s.judge .mx 0x26 (fun _ => true) fun e => s.mxStart e (s.core.ctx.mxMoveChecked e)

/-! Fetch (R208) -/

/-- The image and the 256-byte part that fetch cycle `k` reads: claim, offset, count. -/
def fetchPart : List (Claim × Nat) → Nat → Option (Claim × Nat × Nat)
  | [], _ => none
  | (k, n) :: r, i =>
    let f := chunks 256 n
    if i < f then some (k, 256 * i, min 256 (n - 256 * i)) else fetchPart r (i - f)

/-- R208: the addresses that the next fetch cycle reads; `sent` counts those done. -/
def Entry.mxFetchCells (e : Entry) : List Nat :=
  match fetchPart (e.claims.zip (e.images.map fun i => i.2.1)) e.sent with
  | none => []
  | some (k, off, n) => (List.range n).map fun i => k.addr (off + i)

/-- R208: one fetch cycle. -/
def State.mxFetch (s : State) (e : Entry) : State :=
  let bs := e.mxFetchCells.map s.core.poolByte
  s.ctx (·.onRun e.uid fun e => { e with buf := e.buf ++ bs, sent := e.sent + 1 })

/-! Sums -/

/-- Bits `lo` upward of bytes, lowest first. -/
def bitsOf (bs : List Byte) (lo n : Nat) : Nat :=
  ofBytes (bs.drop (lo / 8) |>.take 9) / 2 ^ (lo % 8) % 2 ^ n

/-- R200, R202: element `k` of row `r` of an operand image of `n` rows. -/
def imageCode (img : List Byte) (fmt r k : Nat) : Nat :=
  bitsOf img ((r * mxK fmt + k) * fmtBits fmt) (fmtBits fmt)

/-- R200, R202: the scale byte of a block, 127 without a scale area. -/
def imageScale (img : List Byte) (fmt sfmt n r k : Nat) : Nat :=
  if sfmt = 1 then
    (img.getD (align16 (n * (mxK fmt * fmtBits fmt / 8)) + r * (mxK fmt / 32) + k / 32) 0).toNat
  else 127

/-- R202: the exact value of an element. -/
def imageVal (img : List Byte) (fmt sfmt n r k : Nat) : Val :=
  scaledVal fmt (imageScale img fmt sfmt n r k) (imageCode img fmt r k)

/-- The three images an entry has fetched. -/
def Entry.imageA (e : Entry) : List Byte := e.buf.take (imageBytes e.strA.fmt e.strA.sfmt e.mxM)
/-- B. -/
def Entry.imageB (e : Entry) : List Byte :=
  (e.buf.drop (imageBytes e.strA.fmt e.strA.sfmt e.mxM)).take (imageBytes e.strB.fmt e.strB.sfmt e.mxCols)
/-- C-in. -/
def Entry.imageC (e : Entry) : List Byte :=
  e.buf.drop (imageBytes e.strA.fmt e.strA.sfmt e.mxM + imageBytes e.strB.fmt e.strB.sfmt e.mxCols)

/-- R213: t0 of an element: from the tile, from C-in, or zero. -/
def State.mxT0 (s : State) (e : Entry) (i : Nat) : Nat :=
  let src := e.f 56 2
  if src = 0 then s.core.poolRead (e.desc.addr s.core.ctx.misc.part (4 * i)) 4
  else if src = 1 then ofBytes ((e.imageC.drop (4 * i)).take 4)
  else 0

/-- R203: an element of `mx.mma`. -/
def State.mmaElem (s : State) (e : Entry) (i : Nat) : Nat × Bool :=
  let f := e.strA.fmt
  let a := e.imageA
  let b := e.imageB
  let r := i / e.mxN
  let c := i % e.mxN
  let ts := (List.range (mxK f)).map fun k =>
    term (imageVal a f e.strA.sfmt e.mxM r k) (imageVal b f e.strB.sfmt e.mxCols c k)
  wsum ((floatFmt 6).val (s.mxT0 e i) :: ts) (16 * (e.f 74 3 + 1))

/-- R205: one part of a complex output. -/
def State.mmacElem (s : State) (e : Entry) (i : Nat) : Nat × Bool :=
  let f := e.strA.fmt
  let a := e.imageA
  let b := e.imageB
  let r := i / e.mxN
  let j := i % e.mxN / 2
  let x := fun (k : Nat) => imageVal a f 0 e.mxM r k
  let y := fun (k : Nat) => imageVal b f 0 e.mxCols j k
  let ts := (List.range 16).flatMap fun k =>
    if i % 2 = 0 then [term (x (2 * k)) (y (2 * k)), (term (x (2 * k + 1)) (y (2 * k + 1))).neg]
    else [term (x (2 * k)) (y (2 * k + 1)), term (x (2 * k + 1)) (y (2 * k))]
  wsum ((floatFmt 6).val (s.mxT0 e i) :: ts) (16 * (e.f 74 3 + 1))

/-- R206: an element of `mx.mmi`. -/
def State.mmiElem (s : State) (e : Entry) (i : Nat) : Nat × Bool :=
  let a := e.imageA
  let b := e.imageB
  let r := i / e.mxN
  let c := i % e.mxN
  let x := toInt 32 (s.mxT0 e i)
    + ((List.range 64).map fun k => toInt 8 (imageCode a 0 r k) * toInt 8 (imageCode b 0 c k)).sum
  let out := decide (x < -(2 : Int) ^ 31 ∨ (2 : Int) ^ 31 - 1 < x)
  (ofInt 32 (if out && e.f 52 1 == 1 then clampInt 32 x else x), out)

/-! Compute (R208 to R210) -/

/-- The tile or register bytes that compute cycle `c` of an entry reads, by physical location. -/
def Entry.mxReads (e : Entry) (p : Word) (c : Nat) : List Nat :=
  let tile := fun (o : Nat) => (List.range 128).map fun i => phys p (e.desc.addr p (o + i))
  if e.op8 ≤ 0x22 then (if e.f 56 2 = 0 then tile (128 * c) else [])
  else if e.op8 = 0x25 then tile (256 * e.f 70 10 + 128 * c)
  else if e.op8 = 0x26 then
    (List.range 128).map fun i => phys p (vregAddr p (e.f 80 5 + c / 2) (128 * (c % 2) + i))
  else []

/-- The bytes that compute cycle `c` of an entry writes, by physical location. -/
def Entry.mxWrites (e : Entry) (p : Word) (c : Nat) : List Nat :=
  let tile := fun (o : Nat) => (List.range 128).map fun i => phys p (e.desc.addr p (o + i))
  if e.op8 ≤ 0x22 then tile (128 * c)
  else if e.op8 = 0x23 then (if e.f 66 1 = 1 then [] else tile (128 * c))
  else if e.op8 = 0x24 then
    (List.range (min 128 (e.desc.elems / 8 - 128 * c))).map fun i =>
      if e.f 84 1 = 1 then phys p (vregAddr p (e.f 76 5) (128 * c + i))
      else match e.claims with
        | k :: _ => phys p (k.addr (128 * c + i))
        | [] => 0
  else if e.op8 = 0x25 then (List.range 128).map fun i => phys p (vregAddr p (e.f 80 5 + c / 2) (128 * (c % 2) + i))
  else tile (256 * e.f 70 10 + 128 * c)

/-- R210: what earlier matrix entries are still to write, by 16-byte word: writes in flight or waiting for their bank, and those of
chunks not yet computed. -/
def Ctx.mxPending (c : Ctx) (uid : Nat) : List Nat :=
  let earlier := (c.run.takeWhile (·.uid ≠ uid)).filter (·.eng == .mx)
  let flight := c.pend.flatMap fun p =>
    match p.uid, p.eff with
    | some u, .pool _ ws => if earlier.any (·.uid == u) then bankWords (ws.map (·.1)) else []
    | _, _ => []
  let asked := c.banks.filterMap fun a => if a.write && earlier.any (some ·.uid == a.uid) then some a.word else none
  flight ++ asked ++ earlier.flatMap fun x =>
    (List.range (x.total - x.chunk)).flatMap fun i => bankWords (x.mxWrites c.misc.part (x.chunk + i))

/-- R210: bits of plane chunk `k` that earlier matrix entries are still to write: products their LS bits, `mx.lsf` those it clears. -/
def Ctx.mxPlanePending (c : Ctx) (e : Entry) (k : Nat) : Bool :=
  let earlier := (c.run.takeWhile (·.uid ≠ e.uid)).filter (·.eng == .mx)
  let flight := c.pend.any fun p =>
    match p.uid, p.eff with
    | some u, .plane a _ _ lo n =>
      a.toNat == e.f 85 3 && earlier.any (·.uid == u) && decide (lo < 1024 * (k + 1)) && decide (1024 * k < lo + n)
    | _, _ => false
  e.op8 == 0x24 && (flight || earlier.any fun x => x.f 85 3 == e.f 85 3 && decide (x.chunk < x.total)
    && ((decide (0x20 ≤ x.op8 ∧ x.op8 ≤ 0x22) && decide (32 * x.chunk < 1024 * (k + 1)))
      || (x.op8 == 0x24 && x.f 75 1 == 1 && decide (x.chunk ≤ k))))

/-- Plane bits of a chunk of 32 elements, from each element's flag. -/
def planeBits (base : Nat) (fs : List Bool) : BitVec 65536 :=
  (fs.zipIdx.foldl (fun (b : BitVec 65536) f => if f.1 then b ||| (1 <<< (base + f.2)) else b) 0)

/-- R216: the plane bits a compute cycle copies out. -/
def planeChunk (p : BitVec 65536) (c n : Nat) : List Byte :=
  (List.range (min 128 (n / 8 - 128 * c))).map fun i => BitVec.ofNat 8 (p.toNat / 2 ^ (1024 * c + 8 * i))

/-- The values of the bytes that compute cycle `c` writes, and the plane bits it sets. -/
def State.mxChunk (s : State) (e : Entry) (c : Nat) : List Byte × BitVec 65536 :=
  let x := s.core.ctx
  if e.op8 ≤ 0x22 then
    let rs := (List.range 32).map fun i =>
      if e.op8 = 0x20 then s.mmaElem e (32 * c + i)
      else if e.op8 = 0x21 then s.mmacElem e (32 * c + i)
      else s.mmiElem e (32 * c + i)
    (rs.flatMap fun r => toBytes 4 r.1, planeBits (32 * c) (rs.map (·.2)))
  else if e.op8 = 0x23 then (List.replicate 128 0, 0)
  else if e.op8 = 0x24 then (planeChunk (vat x.planes 0 (e.f 85 3)) c e.desc.elems, 0)
  else ((e.mxReads x.misc.part c).map fun a => s.core.pool.read emptyByte a, 0)

/-- R209: what a compute cycle does to its plane and descriptor at its own end. -/
def Ctx.mxOwnEnd (c : Ctx) (e : Entry) (k : Nat) : Ctx :=
  let a : BitVec 3 := BitVec.ofNat 3 (e.f 85 3)
  if e.op8 = 0x23 && k == 0 then c.pushFor e.uid 1 (.accDef a e.desc)
  else if e.op8 = 0x24 && e.f 75 1 == 1 then
    c.pushFor e.uid 1 (.plane a 0 (((BitVec.allOnes 1024).zeroExtend 65536 : BitVec 65536) <<< (1024 * k)) (1024 * k) 1024)
  else c

/-- R208: one compute cycle, whose words have been read; the last retires the entry. -/
def State.mxCompute (s : State) (e : Entry) : State :=
  let x := s.core.ctx
  let k := e.chunk
  let (bs, bits) := s.mxChunk e k
  let ws := (e.mxWrites x.misc.part k).zip bs
  let c := x.mxOwnEnd e k
  let c := if ws = [] then c else c.pushFor e.uid 4 (.pool s.core.cid ws)
  let c := if e.op8 ≤ 0x22 then c.pushFor e.uid 4 (.plane (BitVec.ofNat 3 (e.f 85 3)) bits 0 (32 * k) 32) else c
  let c := c.onRun e.uid fun e => { e with chunk := k + 1 }
  let c := if k + 1 < e.total then c
    else
      let c := ((e.claims.filter fun q => q.fill || q.moves).flatMap Claim.settle).foldl (fun c f => c.pushFor e.uid 4 f) c
      c.pushFor e.uid 4 (.finish e.uid)
  { s with core := { s.core with ctx := c } }

/-- R208: the entry has fetched its images, and its compute stage may begin: after the ones before it, and from V on. -/
def Ctx.mxReady (c : Ctx) (e : Entry) : Bool :=
  decide (e.mxF ≤ e.sent) && (e.uAge != 0
    || (decide (c.mxV ≤ c.cyc) && !(c.run.takeWhile (·.uid ≠ e.uid)).any fun x => x.eng == .mx && x.op8 != 6 && x.uAge == 0))

/-- R208: the compute stage begins in this cycle: U, and with it the V of the next entry. -/
def Ctx.mxBeginCompute (c : Ctx) (e : Entry) : Ctx :=
  if e.uAge ≠ 0 ∨ !c.mxReady e then c
  else { c.onRun e.uid fun e => { e with uAge := 1 } with mxV := c.cyc + e.total }

/-- R208, R210: the locations a running matrix entry reads in this cycle; `none` while it waits or has nothing left to do. -/
def State.mxReads (s : State) (e : Entry) : Option (List (Nat × Nat)) :=
  let c := s.core.ctx
  let p := c.misc.part
  if e.op8 = 6 then none
  else if e.sent < e.mxF then some (e.mxFetchCells.map fun a => (s.core.cid, phys p a))
  else if !c.mxReady e || decide (e.total ≤ e.chunk) || c.mxPlanePending e e.chunk then none
  else some ((e.mxReads p e.chunk).map fun a => (s.core.cid, a))

/-- R208: one cycle of a running matrix entry, its words read. -/
def State.mxCycle (s : State) (e : Entry) : State := if e.sent < e.mxF then s.mxFetch e else s.mxCompute e

end Sys2Proof.Machine
end

