-- ==== Sys2Proof/Machine/Copy.lean ====
section
/-! DEFINITION. Copy entries: their starts (09 R220 to R228, R328) and how they end or fault (09 R230 to R232, 08 R211). -/

namespace Sys2Proof.Machine

/-- R226: the first rule that stops a timed copy at another core. -/
def State.farRefusal (s : State) (cid : Nat) : Option (BitVec 8) :=
  if s.retired cid then some causePeerDead
  else if s.clusterShut cid then some causeRemoteGated
  else if (s.coreOf cid).ctx.live && (s.coreOf cid).ctx.lid == s.core.ctx.lid then none
  else some causePoolBound

/-- R225 to R229: a copy starts. -/
def State.copyStart (s : State) (e : Entry) : State :=
  let n := e.cpBytes (s.core.ctx.ring (e.f 80 3)).size
  let e := { e with total := n }
  if e.gatedMoves s.core.cid then s.ctx (·.begin e (1 + e.lag))
  else match (e.farCores s.core.cid).findSome? s.farRefusal with
    | some cause => s.ctx (·.faultHead e cause 0)
    | none => s.ctx (·.begin e (chunks 64 n + e.lag))

/-- R224 `cp.copy` starts. -/
def execCpCopy (s : State) : Out := s.judge s.unit 0x40 (fun _ => true) s.copyStart

/-- R224 `cp.copym` starts. -/
def execCpCopym (s : State) : Out := s.judge s.unit 0x41 (fun _ => true) s.copyStart

/-- R224 `cp.fill` starts. -/
def execCpFill (s : State) : Out := s.judge s.unit 0x42 (fun _ => true) s.copyStart

/-- R224 `cp.gath` starts. -/
def execCpGath (s : State) : Out := s.judge s.unit 0x43 (fun _ => true) s.copyStart

/-- R224 `cp.scat` starts. -/
def execCpScat (s : State) : Out := s.judge s.unit 0x44 (fun _ => true) s.copyStart

/-- R328 `cp.put` starts. -/
def execCpPut (s : State) : Out := s.judge s.unit 0x58 (fun _ => true) s.copyStart

/-- R328 `cp.get` starts. -/
def execCpGet (s : State) : Out := s.judge s.unit 0x59 (fun _ => true) s.copyStart

/-- R331 `cp.gput` starts. -/
def execCpGput (s : State) : Out := s.judge s.unit 0x5A (fun _ => true) s.copyStart

/-- R231, R310: an earlier copy of the engine, circuit copies apart, is still to write its completion. -/
def Ctx.earlierCopy (c : Ctx) (e : Entry) : Bool := (c.run.takeWhile (·.uid ≠ e.uid)).any fun x => x.eng == e.eng && !x.isPort

/-- R211: the follow-on's placement in MX's queue. -/
def Ctx.followOn (c : Ctx) (e : Entry) (uid : Nat) : Chk Entry := do
  let img := c.tmpl 2 (e.f 52 6)
  need (img != emptyTmpl) causeTemplateUndef 0
  need (imgBits img 119 1 == 1) causeFieldRange 0
  let img ← workingCopy img []
  c.placement .mx img uid

/-- R230 step 3: the completion word's write is due: at the issuer, at another core of the die, or for a gated copy as a gated access
at its pool; the entry finishes once it has performed. -/
def State.completionWrite (s : State) (e : Entry) : State :=
  let bs := toBytes 8 e.val1.toNat
  let own := s.core.cid
  let s := s.ctx (·.onRun e.uid fun e => { e with stage := 5 })
  let accs := fun (cid : Nat) => writeAccs cid (placed (s.coreOf cid).ctx.misc.part e.caddr bs)
  let write := fun (cid : Nat) => (s.ask ((accs cid).map (·.ofEntry own e))).ctx (·.pushFor e.uid 0 (.finish e.uid))
  if e.gatedMoves own then
    let id := s.nextId
    if e.cside then
      let s := s.dispatch { s.core.ctx.blankReq own (.farWrite e.cpCid) with
        uid := some e.uid, pos := e.total, va := e.cpCid * 2 ^ 32 + e.caddr, module := s.conn.modnum, pa := e.caddr
        pairs := (List.range 8).map fun i => (e.caddr + i, 0), data := bs }
      s.ctx (·.onRun e.uid fun e => { e with out := e.out ++ [(id, e.total)] })
    else s.fresh.askEntryAt own id (some e.uid) (.completed s.core.ctx.lid) ((accs own).map (·.arrived s.core.tick own))
  else write (if e.cside then e.cpCid else own)

/-- R230 step 3, R227: what follows the follow-on: `cp.copym` writes the destinations' words first. -/
def State.completions (s : State) (e : Entry) : State :=
  let again := s.ctx (·.pushFor e.uid 1 (.event (.copyEnd e.uid)))
  if e.op8 = 0x41 ∧ e.stage = 2 then
    if e.gatedMoves s.core.cid && !s.core.ctx.ackRoomFor e.rectangle.length then again else s.copymWords e e.rectangle
  else if e.cside && e.gatedMoves s.core.cid && !s.core.ctx.ackRoom then again
  else s.completionWrite e

/-- R230: at the end of the cycle in which the last byte has performed, stages fill; in the next cycle the follow-on is placed, and
only then the completion word's write is due. R231: in the order in which the engine's copies started. -/
def execCopyEnd (uid : Nat) (s : State) : Out :=
  let c := s.core.ctx
  let again := fun (s : State) => s.ctx (·.pushFor uid 1 (.event (.copyEnd uid)))
  match c.run.find? (·.uid = uid) with
  | none => .next s
  | some e =>
    if e.stage < 2 then
      if c.earlierCopy e then .next (again s)
      else
        let c := (e.claims.flatMap Claim.settle).foldl (fun c f => c.pushFor uid 0 f) c
        .next (again { s with core := { s.core with ctx := c.onRun uid fun e => { e with stage := 2 } } })
    else if e.stage = 3 then .next (again (s.ctx (·.onRun uid fun e => { e with stage := 4 })))
    else if e.stage = 2 && e.follows && c.full .mx then .next (again s)
    else if e.stage = 2 && e.follows then
      match c.followOn e s.nextId with
      | .error (cause, tv) => .next (s.ctx (·.faultRun uid cause tv))
      | .ok m =>
        -- placed once, should the completion's write be tried again (R267)
        .next (((s.enqueue m).ctx (·.onRun uid fun e => { e with stage := 4 })).completions { e with stage := 4 })
    else .next (s.completions e)

/-- R232: every request of a copy that failed has ended: the fault of its lowest failing byte is raised. -/
def execCopyFault (uid : Nat) (s : State) : Out := .next (s.ctx (·.raiseFailed uid))

end Sys2Proof.Machine
end

