-- ==== Sys2Proof/Machine/Nmu.lean ====
section
/-! DEFINITION. Near-memory operations: the starts of NM entries (10 R252, R253), the packets they send, and what the NMU does
with each (10 R254 to R261). -/

namespace Sys2Proof.Machine

/-! Entries -/

/-- R253: bytes of an operation's operand block. -/
def Entry.nmOperand (e : Entry) : Nat :=
  let w := 2 ^ e.f 50 2
  if e.op8 = 0x60 then 16 * w
  else if e.op8 = 0x66 then 8 * w
  else if e.op8 = 0x61 then 8
  else if e.op8 = 0x64 then (e.f 42 6 + 1) * (if e.f 48 2 = 0 then 2 else 4)
  else 0

/-- R253 check 4: alignment, span and block of the target. -/
def Entry.nmTarget (e : Entry) : Nat × Nat × Nat :=
  if e.op8 = 0x60 ∨ e.op8 = 0x66 then let n := 8 * 2 ^ e.f 50 2; (n, n, 256)
  else if e.op8 = 0x61 ∨ e.op8 = 0x62 then (16, 16, 512)
  else if e.op8 = 0x63 then (8, 8, 256)
  else if e.op8 = 0x64 then (4, 4 * (e.f 42 6 + 1), 256)
  else (512, 512, 512)

/-- R248: what the target's page must permit. -/
def Entry.nmPerm (e : Entry) : Nat :=
  if e.op8 = 0x63 then permR else if e.op8 = 0x64 then permWA else permRWA

/-- R253: the checks at an NM entry's start: its operand block, then its target's alignment, then a watchpoint. -/
def State.nmStart (s : State) (e : Entry) : State :=
  let c := s.core.ctx
  let va := e.val1.toNat
  let opa := 16 * e.f 52 15
  let n := e.nmOperand
  let (al, span, block) := e.nmTarget
  if !admitsAll c.misc.part .engineRead opa n then s.ctx (·.faultHead e causePoolBound (BitVec.ofNat 64 opa))
  else if va % al ≠ 0 ∨ va / block ≠ (va + span - 1) / block then s.ctx (·.faultHead e causeMisalign e.val1)
  else match c.watch (e.op8 != 0x63) false false e.uid va span with
    | (c, some a) => { s with core := { s.core with ctx := c.faultHead e causeWatch (BitVec.ofNat 64 a) } }
    | (c, none) =>
      { s with core := { s.core with ctx := c.begin e 1 } }

/-- R256 `nm.cas` starts. -/
def execNmCas (s : State) : Out := s.judge .nm 0x60 (fun _ => true) s.nmStart
/-- R257 `nm.enq` starts. -/
def execNmEnq (s : State) : Out := s.judge .nm 0x61 (fun _ => true) s.nmStart
/-- R257 `nm.deq` starts. -/
def execNmDeq (s : State) : Out := s.judge .nm 0x62 (fun _ => true) s.nmStart
/-- R258 `nm.chase` starts. -/
def execNmChase (s : State) : Out := s.judge .nm 0x63 (fun _ => true) s.nmStart
/-- R259 `nm.red` starts. -/
def execNmRed (s : State) : Out := s.judge .nm 0x64 (fun _ => true) s.nmStart
/-- R260 `nm.mlr` starts. -/
def execNmMlr (s : State) : Out := s.judge .nm 0x65 (fun _ => true) s.nmStart
/-- R256 `nm.swap` starts. -/
def execNmSwap (s : State) : Out := s.judge .nm 0x66 (fun _ => true) s.nmStart

/-- R252: the locations of the operand block an NM entry reads in its start cycle. -/
def State.nmReads (s : State) (e : Entry) : List (Nat × Nat) :=
  if e.uAge ≠ 0 then []
  else (List.range e.nmOperand).map fun i => (s.core.cid, phys s.core.ctx.misc.part (16 * e.f 52 15 + i))

/-- R252: the operand block in hand. -/
def State.nmOperandRead (s : State) (e : Entry) : State :=
  s.ctx (·.onRun e.uid fun e => { e with buf := s.core.poolBytes (16 * e.f 52 15) e.nmOperand, uAge := 1 })

/-- R253 check 5, R252: a started NM entry sends its packet once its target has translated, and finishes; at most 64 operations are
outstanding. -/
def State.nmSend (s : State) (e : Entry) : State :=
  let va := e.val1.toNat
  if e.done ∨ !s.core.ctx.ackRoom ∨ 64 ≤ s.core.outstanding Ctx.nmOut then s
  else match s.translate e.nmPerm va 0 with
    | (s, .wait) => s
    | (s, .fault cause) => s.ctx (·.faultRun e.uid cause e.val1)
    | (s, .at m pa) =>
      let c := s.core.ctx
      let s := if e.op8 = 0x63 then s else s.ctx (·.unheld false va e.nmTarget.2.1)
      let s := s.dispatch { c.blankReq s.core.cid (.nm e.img e.buf (8 * e.f 67 16)) with
        va := va, module := m, pa := pa, job := ((s.launchOf c.lid).map (·.job)).getD 0, status := e.val1 }
      s.ctx fun c => ({ c with nmOut := c.nmOut + 1 }.pushFor e.uid 1 (.finish e.uid)).onRun e.uid fun e => { e with done := true }

/-- One cycle of a started NM entry. -/
def State.nmCycle (s : State) (e : Entry) : State :=
  if e.uAge ≠ 0 then s.nmSend e
  else
    let s := s.nmOperandRead e
    match s.core.ctx.run.find? (·.uid = e.uid) with
    | some e => s.nmSend e
    | none => s

/-! Operations at the NMU -/

/-- R255: a pointer translated by the NMU of a site through its cache of 256: module and address (log 61, DESIGN CHOICE). -/
def State.nmXlate (s : State) (site asid kind va : Nat) : State × Except (BitVec 8) (Nat × Nat) :=
  let fill := fun (s : State) (e : TlbEntry) => s.onSite site fun t => { t with xcache := fillXlate 256 t.xcache e }
  match (s.site site).xcache.find? (·.covers asid va) with
  | some e => (fill s e, if e.permits false kind then .ok (e.module, e.locate va) else .error causeXlateProt)
  | none =>
    match s.walk (s.tableRoot asid) asid va kind false with
    | (s, .ok e) => (fill s e, .ok (e.module, e.locate va))
    | (s, .error f) => (s, .error f.cause)

/-- A 64-bit word of this module's memory. -/
def State.mem64 (s : State) (pa : Nat) : Nat := s.devRead s.conn.modnum pa 8

/-- R238, R255: what an NMU's read leaves in its channel's cache. -/
def State.nmTouch (s : State) (pa n : Nat) : State :=
  (sectorPieces pa n).foldl (fun s p => (s.sectorRead ((List.range p.2).map fun i => pa + p.1 + i)).1) s

/-- Bytes written by an NMU from one address on. -/
def State.nmWrite (s : State) (pa : Nat) (bs : List Byte) : State :=
  (sectorPieces pa bs.length).foldl (fun s p =>
    s.sectorWrite (((bs.drop p.1).take p.2).zipIdx.map fun x => (pa + p.1 + x.2, x.1))) s

/-- R254: FAIL. -/
def nmFail : Word := BitVec.ofNat 64 (2 ^ 8)
/-- R254: EMPTY. -/
def nmEmpty : Word := BitVec.ofNat 64 (2 ^ 9)
/-- R254: PEER_ABSENT. -/
def nmAbsent : Word := BitVec.ofNat 64 (2 ^ 10)
/-- R254: SHORT. -/
def nmShort : Word := BitVec.ofNat 64 (2 ^ 11)

/-- R256: compare-and-swap or swap. -/
def State.nmCasAt (s : State) (r : Req) (img : BitVec 128) (opnd : List Byte) : State :=
  let n := 8 * 2 ^ imgBits img 50 2
  let old := (List.range n).map fun i => s.devByte s.conn.modnum (r.pa + i)
  if img.toNat / 2 ^ 120 = 0x66 then (s.nmWrite r.pa (opnd.take n)).answerWith r.id 0 old 0
  else if old = opnd.take n then (s.nmWrite r.pa ((opnd.drop n).take n)).answerWith r.id 0 old 0
  else s.answerWith r.id 0 old nmFail

/-- R257, R240: a node of a list: 8-byte aligned, on the descriptor's site, with R, W and A, its sector fit to be read or
filled. -/
def State.nmNode (s : State) (r : Req) (read : Bool) (va : Nat) : State × Except (BitVec 8) Nat :=
  if va % 8 ≠ 0 then (s, .error causeNmuReject)
  else match s.nmXlate (r.pa / 2 ^ 36) r.asid permRWA va with
    | (s, .error c) => (s, .error c)
    | (s, .ok (m, pa)) =>
      (s, if ¬(m = s.conn.modnum ∧ pa / 2 ^ 36 = r.pa / 2 ^ 36) then .error causeNmuReject
        else if (read && s.poisoned pa) || s.fillFails pa 8 then .error causeMem
        else .ok pa)

/-- R257: enqueue. -/
def State.nmEnqAt (s : State) (r : Req) (opnd : List Byte) : State :=
  let n := ofBytes (opnd.take 8)
  let tail := s.mem64 (r.pa + 8)
  match s.nmNode r false n with
  | (s, .error c) => s.answerWith r.id c [] 0
  | (s, .ok pn) =>
    let link := fun (s : State) => (s.nmWrite (r.pa + 8) (toBytes 8 n)).answerWith r.id 0 (toBytes 8 tail) 0
    if tail = 0 then link ((s.nmWrite pn (toBytes 8 0)).nmWrite r.pa (toBytes 8 n))
    else match s.nmNode r false tail with
      | (s, .error c) => s.answerWith r.id c [] 0
      | (s, .ok pt) => link ((s.nmWrite pn (toBytes 8 0)).nmWrite pt (toBytes 8 n))

/-- R257: dequeue. -/
def State.nmDeqAt (s : State) (r : Req) : State :=
  let head := s.mem64 r.pa
  if head = 0 then s.answerWith r.id 0 (toBytes 8 0) nmEmpty
  else match s.nmNode r true head with
    | (s, .error c) => s.answerWith r.id c [] 0
    | (s, .ok ph) =>
      let next := s.mem64 ph
      let s := (s.nmTouch ph 8).nmWrite r.pa (toBytes 8 next)
      let s := if next = 0 then s.nmWrite (r.pa + 8) (toBytes 8 0) else s
      s.answerWith r.id 0 (toBytes 8 head) 0

/-- How hops of a chase end at one NMU. -/
inductive HopEnd where
  /-- the chase is over: data's p, hops, SHORT, cause. -/
  | over (p h : Nat) (short : Bool) (cause : BitVec 8)
  /-- it goes on at another site or module: the pointer, the last good one, the hops made, where the next word lies. -/
  | moves (p good h module pa : Nat)
deriving DecidableEq, Repr

/-- R258: hops at one site, `left` of them still to make after `h`: `p` is the pointer to follow and `good` the last good one; a bad
pointer leaves `good` in the data. -/
def State.nmHops (asid site noff : Nat) : (left h p good : Nat) → State → State × HopEnd
  | 0, h, p, _, s => (s, .over p h false 0)
  | left + 1, h, p, good, s =>
    if p % 8 ≠ 0 then (s, .over good h false causeNmuReject)
    else match s.nmXlate site asid permR (p + 8 * noff) with
      | (s, .error c) => (s, .over good h false c)
      | (s, .ok (m, pa)) =>
        if m ≠ s.conn.modnum ∨ pa / 2 ^ 36 ≠ site then (s, .moves p good h m pa)
        else match s.homeNat pa 8 with
          | (s, none) => (s, .over p h false causeMem)
          | (s, some 0) => (s, .over 0 (h + 1) (left != 0) 0)
          | (s, some q) => State.nmHops asid site noff left (h + 1) q p s

/-- R258: the data of a chase: p, then the hops done. -/
def chaseData (p h : Nat) : List Byte := toBytes 8 p ++ toBytes 8 h

/-- R258: chase; a request holds the pointer in its VA, the hops made in `pos`, the last good pointer in `status`. A pointer on another
site or module moves the chase there; one on a module that cannot be reached ends it (R317). -/
def State.nmChaseAt (s : State) (r : Req) (img : BitVec 128) : State :=
  match State.nmHops r.asid (r.pa / 2 ^ 36) (imgBits img 33 5) (imgBits img 38 4 + 1 - r.pos) r.pos r.va r.status.toNat s with
  | (s, .over p h short cause) => s.answerWith r.id cause (chaseData p h) (if short then nmShort else 0)
  | (s, .moves p good h m pa) =>
    if !s.reaches m then s.answerWith r.id causePeerDead (chaseData good h) 0
    else
      let r' : Req := { r with
        va := p, pos := h, status := BitVec.ofNat 64 good, module := m, pa := pa
        epoch := if m = s.conn.modnum then (if r.foreign.isSome then r.epoch else none) else some s.conn.epoch }
      let away := decide (m ≠ s.conn.modnum)
      let s := if away && r.foreign.isSome then s.dropReq r.id else s.onReq r.id fun _ => r'
      let s := if away then s.leaves r' else s
      if s.routed r' then s.at (s.tick + 1 + Config.homeDelay r.id) (.nmuOperation r.id) else s

/-- R259: one sum of a reduction into memory. -/
def redSum (rfmt m x : Nat) : Nat :=
  let f := floatFmt 6
  if rfmt = 2 then (m + x) % 2 ^ 32
  else (f.addVal 0 (f.val m) (if rfmt = 0 then (floatFmt 5).val x else f.val x)).1

/-- R259: reduce. -/
def State.nmRedAt (s : State) (r : Req) (img : BitVec 128) (opnd : List Byte) : State :=
  let rfmt := imgBits img 48 2
  let z := if rfmt = 0 then 2 else 4
  let bs := (List.range (imgBits img 42 6 + 1)).flatMap fun i =>
    toBytes 4 (redSum rfmt (s.devRead s.conn.modnum (r.pa + 4 * i) 4) (ofBytes ((opnd.drop (z * i)).take z)))
  (s.nmWrite r.pa bs).answerWith r.id 0 [] 0

/-- R253: the bytes at its target that an operation reads whole; a chase reads pointers as it goes (R258). -/
def Req.nmSpan (r : Req) : Nat :=
  match r.kind with
  | .nm img _ _ =>
    let e : Entry := { Entry.blank 0 .nm with img := img }
    if e.op8 = 0x63 then 0 else e.nmTarget.2.1
  | _ => 0

/-- R254 to R259: how another module's NMU answers: what the operation finds there is free, and the answer is one the operation gives
for what it finds (log 11, DESIGN CHOICE). -/
def State.nmPeer (s : State) (r : Req) : State :=
  match r.kind with
  | .nm img opnd _ =>
    let op := img.toNat / 2 ^ 120
    let bytes := fun (n : Nat) => (List.range n).map (Config.peerByte r.id)
    let bit := Config.peerByte r.id 64 % 2 == 1
    let left := imgBits img 38 4 + 1 - r.pos
    let hop := r.pos + 1 + (Config.peerByte r.id 65).toNat % max left 1
    if r.peerCause ≠ 0 then
      s.answerWith r.id r.peerCause (if op = 0x63 then chaseData (ofBytes (bytes 8)) (hop - 1) else []) 0
    else if op = 0x60 ∨ op = 0x66 then
      let old := bytes (8 * 2 ^ imgBits img 50 2)
      s.answerWith r.id 0 old (if op = 0x60 ∧ old ≠ opnd.take old.length then nmFail else 0)
    else if op = 0x61 then s.answerWith r.id 0 (bytes 8) 0
    else if op = 0x62 then (if bit then s.answerWith r.id 0 (toBytes 8 0) nmEmpty else s.answerWith r.id 0 (bytes 8) 0)
    else if op = 0x63 then
      (if bit then s.answerWith r.id 0 (chaseData 0 hop) (if hop < imgBits img 38 4 + 1 then nmShort else 0)
      else s.answerWith r.id 0 (chaseData (ofBytes (bytes 8)) (imgBits img 38 4 + 1)) 0)
    else s.answerWith r.id 0 [] 0
  | _ => s

/-- R255: an operation packet is performed indivisibly on its line and answered. -/
def execNmuOperation (id : Nat) (s : State) : Out :=
  s.atHome id s.nmPeer fun r =>
    if r.nmSpan ≠ 0 && s.poisonedIn r.pa r.nmSpan then .next (s.answerWith id causeMem [] 0)
    else match r.kind with
      | .nm img opnd _ =>
        let op := img.toNat / 2 ^ 120
        let s := s.nmTouch r.pa r.nmSpan
        .next (if op = 0x60 ∨ op = 0x66 then s.nmCasAt r img opnd
          else if op = 0x61 then s.nmEnqAt r opnd
          else if op = 0x62 then s.nmDeqAt r
          else if op = 0x63 then s.nmChaseAt r img
          else s.nmRedAt r img opnd)
      | _ => .next s

/-! Reduction at memory (R260, R261) -/

/-- R260: a group descriptor as memory holds it. -/
structure MlrGroup where
  w : Nat
  limit : Nat
  arrived : Nat
  epoch : Nat
  members : List (Nat × Nat)
  pad : Nat
deriving DecidableEq, Repr

/-- R260: the descriptor at an address. -/
def State.mlrGroup (s : State) (pa : Nat) : MlrGroup :=
  ⟨s.mem64 pa, s.mem64 (pa + 8), s.mem64 (pa + 16) % 2 ^ 16, s.mem64 (pa + 16) / 2 ^ 16 % 2 ^ 32,
    (List.range 16).map fun m => (s.mem64 (pa + 32 + 24 * m), s.mem64 (pa + 40 + 24 * m)), s.mem64 (pa + 24) + s.mem64 (pa + 16) / 2 ^ 48⟩

/-- R260: G. -/
def MlrGroup.size (g : MlrGroup) : Nat := g.w % 16 + 1
/-- R260: IFMT, OFMT, RND, MASK, E. -/
def MlrGroup.ifmt (g : MlrGroup) : Nat := g.w / 2 ^ 8 % 16
/-- OFMT. -/
def MlrGroup.ofmt (g : MlrGroup) : Nat := g.w / 2 ^ 12 % 16
/-- RND. -/
def MlrGroup.rnd (g : MlrGroup) : Nat := g.w / 2 ^ 16 % 8
/-- MASK. -/
def MlrGroup.mask (g : MlrGroup) : Nat := g.w / 2 ^ 32 % 2 ^ 16
/-- E. -/
def MlrGroup.elems (g : MlrGroup) : Nat := g.w / 2 ^ 48 % 2 ^ 12 + 1
/-- A member's contribution VA. -/
def MlrGroup.va (g : MlrGroup) (m : Nat) : Nat := (g.members.getD m (0, 0)).1
/-- A member's result: module, CID, pool address. -/
def MlrGroup.result (g : MlrGroup) (m : Nat) : Nat × Nat × Nat :=
  let w := (g.members.getD m (0, 0)).2
  (w / 2 ^ 48 % 32, w / 2 ^ 32 % 2 ^ 16, w % 2 ^ 19)

/-- Members the mask takes in. -/
def MlrGroup.taking (g : MlrGroup) : List Nat := (List.range 16).filter fun m => g.mask / 2 ^ m % 2 == 1

/-- R260: a member's fields lie within their limits. -/
def MlrGroup.memberOk (g : MlrGroup) (set : BitVec 32) (m : Nat) : Bool :=
  let (md, cid, a) := g.result m
  let w := (g.members.getD m (0, 0)).2
  decide (g.va m < 2 ^ 57) && w / 2 ^ 53 == 0 && w / 2 ^ 19 % 2 ^ 13 == 0
    && cidOk cid && set.getLsbD md && a % (fmtBits g.ofmt / 8) == 0

/-- R260: the fields lie within their limits, those of every member below G among them. -/
def MlrGroup.ok (g : MlrGroup) (set : BitVec 32) : Bool :=
  let fmt := fun (x : Nat) => x == 4 || x == 5 || x == 6
  g.pad == 0 && fmt g.ifmt && fmt g.ofmt && decide (g.rnd < 5) && g.w / 2 ^ 60 == 0 && g.w / 2 ^ 19 % 2 ^ 13 == 0 && g.w / 2 ^ 4 % 16 == 0
    && decide (g.mask < 2 ^ g.size) && (List.range g.size).all (g.memberOk set)

/-- R261: a member is dropped for the current epoch. -/
def State.mlrDropped (s : State) (g : MlrGroup) (m : Nat) : Bool :=
  let (md, cid, _) := g.result m
  s.conn.dead.getLsbD md || (md == s.conn.modnum && s.retired cid)

/-- R261: an epoch ends: ARRIVED 0, EPOCH one more, the arrivals forgotten. -/
def State.mlrEnd (s : State) (pa : Nat) : State :=
  let g := s.mlrGroup pa
  let s := s.nmWrite (pa + 16) (toBytes 8 ((g.epoch + 1) % 2 ^ 32 * 2 ^ 16))
  s.onSite (pa / 2 ^ 36) fun t => { t with mlr := t.mlr.filter (·.pa ≠ pa) }

/-- R261: the arrivals of a group in the current epoch. -/
def State.mlrArrivals (s : State) (pa : Nat) : List MlrArrival := (s.site (pa / 2 ^ 36)).mlr.filter (·.pa = pa)

/-- R261: every arrived issuer gets a cause, and the epoch ends. -/
def State.mlrFail (s : State) (pa : Nat) (cause : BitVec 8) : State :=
  ((s.mlrArrivals pa).foldl (fun s a => s.answerWith a.id cause [] 0) s).mlrEnd pa

/-- R261: the elements of a contribution, each read with R at its home. -/
def State.mlrContribution (r : Req) (g : MlrGroup) (m : Nat) : (left e : Nat) → State → State × Except (BitVec 8) (List Nat)
  | 0, _, s => (s, .ok [])
  | left + 1, e, s =>
    let n := fmtBits g.ifmt / 8
    let rest := fun (s : State) (x : Nat) =>
      match State.mlrContribution r g m left (e + 1) s with
      | (s, .ok xs) => (s, .ok (x :: xs))
      | (s, .error c) => (s, .error c)
    match s.nmXlate (r.pa / 2 ^ 36) r.asid permR (g.va m + n * e) with
    | (s, .error c) => (s, .error c)
    | (s, .ok (md, pa)) =>
      if md ≠ s.conn.modnum then
        (if !s.reaches md then (s, .error causePeerDead)
        else rest s (ofBytes ((List.range n).map fun i => Config.peerByte r.id (2 ^ 20 * m + n * e + i))))
      else match s.homeNat pa n with
        | (s, none) => (s, .error causeMem)
        | (s, some x) => rest s x

/-- R261: the sums after the members given, in their order. -/
def State.mlrSums (r : Req) (g : MlrGroup) : List Nat → List Nat → State → State × Except (BitVec 8) (List Nat)
  | [], acc, s => (s, .ok acc)
  | m :: rest, acc, s =>
    match State.mlrContribution r g m g.elems 0 s with
    | (s, .error c) => (s, .error c)
    | (s, .ok xs) =>
      let f := floatFmt 6
      State.mlrSums r g rest ((acc.zip xs).map fun x => (f.addVal 0 (f.val x.1) (fmtVal g.ifmt x.2)).1) s

/-- R261: the statuses of a group whose results have all been written or refused, and the end of its epoch. -/
def State.mlrStatuses (s : State) (pa : Nat) : State :=
  let as := s.mlrArrivals pa
  if as.any fun a => a.write.isSome then s
  else (as.foldl (fun s a => s.answerWith a.id a.cause [] a.status) s).mlrEnd pa

/-- R143, R261: a member's result on its way to its pool, as a remote write of its own arrival's launch and job. -/
def State.mlrWrite (s : State) (g : MlrGroup) (bs : List Byte) (status : Word) (a : MlrArrival) : State :=
  let (md, cid, addr) := g.result a.member
  let id := s.nextId
  let s := s.sendReq { Ctx.zero.blankReq (0xC800 + a.pa / 2 ^ 36) (.farWrite cid) with
    lid := a.lid, job := a.job, va := cid * 2 ^ 32 + addr, module := md, pa := addr
    pairs := (List.range bs.length).map fun i => (addr + i, 0), data := bs, counted := false }
  s.onSite (a.pa / 2 ^ 36) fun t => { t with mlr := t.mlr.map fun x =>
    if x.id = a.id then { x with reduced := true, write := some id, status := status } else x }

/-- R261: the reduction, once ARRIVED covers MASK less the dropped members: the results set out for the live members' pools. -/
def State.mlrRun (s : State) (pa : Nat) (r : Req) : State :=
  let g := s.mlrGroup pa
  let live := g.taking.filter fun m => !s.mlrDropped g m
  match State.mlrSums r g live (List.replicate g.elems 0) s with
  | (s, .error c) => s.mlrFail pa c
  | (s, .ok sums) =>
    let n := fmtBits g.ofmt / 8
    let bs := sums.flatMap fun v => toBytes n (convert 6 g.ofmt (BitVec.ofNat 3 g.rnd) v 0).1
    let absent := decide (g.mask ≠ 2 ^ g.size - 1) || g.taking.any fun m => s.mlrDropped g m
    let status := if absent then nmAbsent else 0
    let arr := s.mlrArrivals pa
    let s := s.onSite (pa / 2 ^ 36) fun t => { t with mlr := t.mlr.map fun x =>
      if x.pa = pa then { x with reduced := true, status := status } else x }
    ((arr.filter fun a => live.contains a.member).foldl (fun s a => s.mlrWrite g bs status a) s).mlrStatuses pa

/-- R261: the reduction runs if the set is complete. -/
def State.mlrCheck (s : State) (pa : Nat) : State :=
  let g := s.mlrGroup pa
  match s.mlrArrivals pa with
  | [] => s
  | a :: _ =>
    if !a.reduced && g.taking.all fun m => g.arrived / 2 ^ m % 2 == 1 || s.mlrDropped g m then
      match s.req a.id with
      | some r => s.mlrRun pa r
      | none => s.mlrFail pa causeFabricError
    else s

/-- R261: the answer to a result's write: a refusal gives that member's issuer its cause. -/
def State.mlrWritten (s : State) (r : Req) : State :=
  let site := r.cid - 0xC800
  let s := s.dropReq r.id
  match (s.site site).mlr.find? fun a => a.write == some r.id with
  | none => s
  | some a =>
    let s := s.onSite site fun t => { t with mlr := t.mlr.map fun x => if x.id = a.id then { x with write := none, cause := r.cause } else x }
    s.mlrStatuses a.pa

/-- R321: a root on another module: its receipt ends the time-out, and later its answer comes, which is free (log 11, DESIGN CHOICE). -/
def State.mlrPeer (s : State) (r : Req) : State :=
  if r.timed then (s.onReq r.id fun r => { r with timed := false }).at (s.tick + 1 + Config.responseDelay r.id) (.mlrArrival r.id)
  else s.answerWith r.id r.peerCause [] (if r.peerCause = 0 ∧ Config.peerByte r.id 64 % 2 = 1 then nmAbsent else 0)

/-- R260, R261: a member's arrival at the root's NMU. -/
def State.mlrArrive (s : State) (r : Req) (img : BitVec 128) : State :=
  let g := s.mlrGroup r.pa
  let m := imgBits img 29 4
  let s := s.nmTouch r.pa 512
  if !g.ok s.conn.members || g.mask / 2 ^ m % 2 == 0 || g.arrived / 2 ^ m % 2 == 1 then s.answerWith r.id causeNmuReject [] 0
  else
    let first := (s.mlrArrivals r.pa).isEmpty
    let d := match s.mlrArrivals r.pa with
      | a :: _ => a.deadline
      | [] => s.tick + g.limit
    let s := s.nmWrite (r.pa + 16) (toBytes 8 (g.arrived + 2 ^ m + g.epoch * 2 ^ 16))
    let s := s.onSite (r.pa / 2 ^ 36) fun t => { t with mlr := t.mlr ++ [⟨r.pa, m, r.id, r.lid, r.job, d, false, none, 0, 0⟩] }
    let s := s.onReq r.id fun r => { r with timed := false }
    let s := if first then s.at d (.mlrLimitExpiry r.pa) else s
    s.mlrCheck r.pa

/-- R260, R261: a member's arrival at the root's NMU, or the answer to the write of a member's result. -/
def execMlrArrival (id : Nat) (s : State) : Out :=
  match s.req id with
  | none => .next s
  | some r =>
    if r.bySite then .next (s.mlrWritten r)
    else s.atHome id s.mlrPeer fun r =>
      if s.poisonedIn r.pa 512 then .next (s.answerWith id causeMem [] 0)
      else match r.kind with
        | .nm img _ _ => .next (s.mlrArrive r img)
        | _ => .next s

/-- R261: the limit of the current epoch runs out before the set is complete. -/
def execMlrLimitExpiry (pa : Nat) (s : State) : Out :=
  match s.mlrArrivals pa with
  | a :: _ => if a.deadline ≤ s.tick ∧ !a.reduced then .next (s.mlrFail pa causeFabricTimeout) else .next s
  | [] => .next s

end Sys2Proof.Machine
end

