-- ==== Sys2Proof/Machine/Waits.lean ====
section
/-! DEFINITION. Waiting on pool words and signals from the engines (09 R234 to R236). -/

namespace Sys2Proof.Machine

/-- R234: the pool addresses of the words watched. -/
def waitaAddrs (v : Word) (n : Nat) : List Nat := (List.range (n + 1)).map fun j => 8 * wbits v (16 * j) 16

/-- A limit in ticks from now; none when it is all ones. -/
def State.limit (s : State) (v : Word) : Option Nat := if v = BitVec.allOnes 64 then none else some (s.core.tick + v.toNat)

/-- R234 `waita`: the slots are armed, or stay armed. Only writes from this cycle on count. -/
def execWaita (sd sa : BitVec 5) (nz : BitVec 1) (n : BitVec 2) (s : State) : Out :=
  match s.waiting (.waita (nz == 1)) with
  | some w => .next (s.holdOn w)
  | none =>
    let as := waitaAddrs (s.reg sa) n.toNat
    match as.find? fun a => !admitsAll s.core.ctx.misc.part .remote a 8 with
    | some a => s.wordFault causePoolBound (BitVec.ofNat 64 a)
    | none =>
      let s := { s with core := { s.core with wrote := [] } }
      .next (s.holdOn ⟨.waita (nz == 1), s.limit (s.reg (sa + 1)), as, 0, sd.toNat⟩)

/-- R234: the slots that fire in this cycle, judged at its end. -/
def State.waitaFired (s : State) (nz : Bool) (as : List Nat) : Option Nat :=
  let p := s.core.ctx.misc.part
  (as.zipIdx.find? fun x =>
    if nz then s.core.poolRead x.1 8 != 0
    else (List.range 8).any fun i => s.core.wrote.contains (phys p (x.1 + i))).map (·.2)

/-- R234: the wait ends with a result after this cycle; the next word issues in the cycle after the next. -/
def State.endWaita (s : State) (w : Wait) (v : Nat) : State :=
  let s := s.push 0 (.sreg (BitVec.ofNat 5 w.value) (BitVec.ofNat 64 v))
  s.ctx fun c =>
    let c := c.advance c.sq.pc.toNat
    { c with sq := { c.sq with pause := 1 } }

/-- The `waita` in progress. -/
def State.waita (s : State) : Option (Bool × Wait) :=
  match s.core.ctx.sq.wait with
  | some w => match w.kind with
    | .waita nz => some (nz, w)
    | _ => none
  | none => none

/-- R234: the lowest slot that fires ends the wait. -/
def execWaitaFire (s : State) : Out :=
  match s.waita with
  | some (nz, w) =>
    match s.waitaFired nz w.addrs with
    | some j => .next (s.endWaita w j)
    | none => .next s
  | none => .next s

/-- R234: the limit ends it with 4; an event of the same cycle comes first. -/
def execWaitaExpiry (s : State) : Out :=
  match s.waita with
  | some (nz, w) =>
    match s.waitaFired nz w.addrs, w.deadline with
    | none, some d => if d ≤ s.tickEnd then .next (s.endWaita w 4) else .next s
    | _, _ => .next s
  | none => .next s

/-! Signals (R236) -/

/-- R236: the entries an engine holds or has started and not finished. -/
def Ctx.unfinished (c : Ctx) (u : Unit7) : List Nat :=
  (c.queue u).wait.map (·.uid) ++ ((c.run.filter fun e => e.eng == u && !e.late).map (·.uid))

/-- R236: the lowest free signal slot. -/
def Ctx.freeSig (c : Ctx) : Option Nat := (List.range 8).find? fun i => !c.sigs.any (·.1 == i)

/-- R236 `fsig`. -/
def execFsig (sa : BitVec 5) (eng : BitVec 3) (flag : BitVec 6) (s : State) : Out :=
  let c := s.core.ctx
  let u := Unit7.ofCode eng
  match c.freeSig with
  | none => .next (s.holdOn fullHold)
  | some i =>
    let es := c.unfinished u
    let sig : Sig := ⟨s.reg sa, flag.toNat, u == .cp0 || u == .cp1 || u == .nm, es, false⟩
    let s := s.ctx fun c => { c with sigs := c.sigs ++ [(i, sig)] }
    .next (if es = [] then s.push 2 (.event .fsigWrite) else s).retire

/-- R236: an entry has finished: signals that waited on it alone are due in the next cycle. -/
def Ctx.signalled (c : Ctx) (uid : Nat) : Ctx :=
  let due := (c.sigs.filter fun x => x.2.waiting == [uid]).length
  let c := { c with sigs := c.sigs.map fun x => (x.1, { x.2 with waiting := x.2.waiting.filter (· ≠ uid) }) }
  (List.range due).foldl (fun c _ => { c with pend := c.pend ++ [⟨1, none, .event .fsigWrite⟩] }) c

/-- A signal that waits on no entry, and has asked for its write or not. -/
def freedSig (sent : Bool) (l : List (Nat × Sig)) : Option (Nat × Sig) := l.find? fun x => x.2.waiting == [] && x.2.sent == sent

/-- The slots without slot `i`. -/
def dropSig (i : Nat) (l : List (Nat × Sig)) : List (Nat × Sig) := l.filter (·.1 ≠ i)

/-- R236: a signal that waits on no entry asks for the write of its flag, timed or gated as its engine is; once it has performed
the slot is free, among those set aside by a trap or a stop too. -/
def execFsigWrite (s : State) : Out :=
  let c := s.core.ctx
  match freedSig false c.sigs with
  | some (i, x) =>
    let as := writeAccs s.core.cid (placed c.misc.part (8 * x.flag) (toBytes 8 x.value.toNat))
    let s := s.ctx fun c => { c with sigs := c.sigs.map fun y => if y.1 = i then (y.1, { y.2 with sent := true }) else y }
    .next (if x.gated then s.askAt s.core.cid s.nextId (.event .fsigWrite) (as.map (·.arrived s.core.tick s.core.cid))
      else s.askFor none (.event .fsigWrite) as)
  | none =>
    match freedSig true c.sigs with
    | some (i, _) => .next (s.ctx fun c => { c with sigs := dropSig i c.sigs })
    | none =>
      let aside := fun (a : Aside) => match freedSig true a.sigs with
        | some (i, _) => { a with sigs := dropSig i a.sigs }
        | none => a
      .next (s.ctx fun c => { c with aside := c.aside.map aside, frameAside := c.frameAside.map aside })

end Sys2Proof.Machine
end

