-- ==== Sys2Proof/Machine/Monitors.lean ====
section
/-! DEFINITION. Conservation monitors: what entries contribute, how a release compares, and the four words (15 R339 to R351). -/

namespace Sys2Proof.Machine

/-- A monitor. -/
def Ctx.mon (c : Ctx) (k : Nat) : Monitor := vat c.mons .zero k

/-- A monitor changed. -/
def Ctx.onMon (c : Ctx) (k : Nat) (f : Monitor → Monitor) : Ctx := { c with mons := vmod c.mons .zero k f }

/-- R340: bytes of a field. -/
def monSize (nom : Word) : Nat := if wbits nom 51 2 = 1 then 2 else 4

/-- R341: positions a block has for records; a scale area has none. -/
def Entry.monBytes (e : Entry) : Nat :=
  if e.scales then min e.total (if e.op8 = 0x42 ∨ e.op8 = 0x51 then e.strB else e.strA).dataBytes else e.total

/-- R341: the places of a monitor's fields in a block. -/
def monPlaces (nom : Word) (n : Nat) : List Nat :=
  let stride := wbits nom 16 16
  let off := wbits nom 0 16
  if n < off + monSize nom then []
  else (List.range ((n - off - monSize nom) / max stride 1 + 1)).map fun r => r * stride + off

/-- R341: the byte an entry last wrote at a carried position. -/
def Entry.wrote (e : Entry) (b : Nat) : Byte := ((e.wdata.reverse.find? (·.1 == b)).map (·.2)).getD 0

/-- A value in units of 2^-160. -/
def accUnits (v : Val) : Int :=
  match v with
  | .fin neg m e => atExp neg m e (-160)
  | _ => 0

/-- R342: a field's value in units of 2^-160, or none for a NaN or an infinity. -/
def monField (nom : Word) (x : Nat) : Option Int :=
  if wbits nom 51 2 = 2 then some (toInt 32 x * 2 ^ 160)
  else match (floatFmt (if wbits nom 51 2 = 1 then 5 else 6)).val x with
    | .nan _ | .inf _ => none
    | v => some (accUnits v)

/-- R341, R342: a monitor after fields are added. -/
def Monitor.add (m : Monitor) (xs : List (Option Int)) : Monitor :=
  let s := m.acc + (xs.map (·.getD 0)).sum
  { m with
    acc := toInt 320 (ofInt 320 s)
    spec := m.spec || xs.contains none
    ovf := m.ovf || decide (s < -(2 : Int) ^ 319 ∨ 2 ^ 319 ≤ s)
    nrec := (m.nrec + xs.length) % 2 ^ 32 }

/-- R341: the contribution of an entry that finishes, to the monitors whose generation it captured. -/
def Ctx.contribute (c : Ctx) (e : Entry) : Ctx :=
  e.gens.foldl (fun c g =>
    if (c.mon g.1).gen ≠ g.2 then c
    else
      let nom := (c.mon g.1).nom
      let xs := (monPlaces nom e.monBytes).map fun p =>
        monField nom (ofBytes ((List.range (monSize nom)).map fun i => e.wrote (p + i)))
      c.onMon g.1 (·.add xs)) c

/-- R345: a binary64 value in units of 2^-1100. -/
def f64Units (w : Word) : Int :=
  match (⟨11, 52⟩ : FloatFmt).val w.toNat with
  | .fin neg m e => atExp neg m e (-1100)
  | _ => 0

/-- R345: the sum left the range of an accumulator. -/
def sumOut (s : Int) : Bool := decide (s < -(2 : Int) ^ 319 ∨ 2 ^ 319 ≤ s)

/-- R345: the comparison of a total with a monitor's REF and BOUND fails. -/
def Monitor.fails (m : Monitor) (s : Int) (spec ovf : Bool) : Bool :=
  let bound := (⟨11, 52⟩ : FloatFmt).val m.bound.toNat
  spec || ovf || sumOut s
    || (bound != .inf false && decide (f64Units m.bound < (s * 2 ^ 940 - f64Units m.ref).natAbs))

/-- R346: DIFF. -/
def Monitor.diff (m : Monitor) (s : Int) (special : Bool) : Word :=
  if special then 0x7FF8000000000000
  else BitVec.ofNat 64 ((⟨11, 52⟩ : FloatFmt).roundSum 0 (s * 2 ^ 940 - f64Units m.ref) (-1100)).1

/-- R345, R346: the comparisons of a release on the checking core; a failure writes MONST and MONDIFF and raises CONSERVATION. -/
def Ctx.checkTotals (c : Ctx) (n phase : Nat) (r : Release) : Ctx :=
  let bad := r.totals.filter fun t => (c.mon t.1).fails t.2.1 t.2.2.1 t.2.2.2
  match bad with
  | [] => c
  | b :: _ =>
    let t := bad.foldl (fun (m : Nat × Int × Bool × Bool) x => if x.1 < m.1 then x else m) b
    let ovf := t.2.2.2 || sumOut t.2.1
    let mask := (bad.map fun x => 2 ^ x.1).sum
    { c with
      misc := { c.misc with
        monst := BitVec.ofNat 64 (2 ^ 63 + r.short.toNat * 2 ^ 62 + t.2.2.1.toNat * 2 ^ 61 + ovf.toNat * 2 ^ 60 + mask * 2 ^ 52
          + n * 2 ^ 48 + phase % 2 ^ 32 * 2 ^ 16 + t.1)
        mondiff := (c.mon t.1).diff t.2.1 (t.2.2.1 || ovf) }
      consTrap := some (n, BitVec.ofNat 64 (n * 2 ^ 8 + mask)) }

/-- R287, R291, R345: the oldest phase not yet released to the core releases. -/
def Ctx.takeRelease (c : Ctx) (n : Nat) (r : Release) : Ctx :=
  let k := (c.bar n).rel
  (c.onBar n fun b => { b with rel := k + 1, short := if r.short then b.short ++ [k] else b.short }).checkTotals n k r

/-! The words -/

/-- R347: the first check of a nomination that fails. -/
def Ctx.nomFault (c : Ctx) (v : Word) : Option (BitVec 8) :=
  let b := wbits v 60 3
  if wbits v 32 19 ≠ 0 ∨ wbits v 58 2 = 3 ∨ wbits v 51 2 = 3 then some causeFieldRange
  else if wbits v 57 1 = 1 ∧ 7 < wbits v 53 4 then some causeFieldRange
  else if wbits v 63 1 = 0 then none
  else if wbits v 16 16 = 0 ∨ wbits v 16 16 < wbits v 0 16 + monSize v then some causeFieldRange
  else if partBars c.misc.part ≤ b then some causePoolBound
  else if !domEN (vat c.domain 0 b) then some causeFieldRange
  else none

/-- R347 `monset`. -/
def execMonset (sa : BitVec 5) (k : BitVec 2) (s : State) : Out :=
  match s.core.ctx.nomFault (s.reg sa) with
  | some cause => s.wordFault cause (s.reg sa)
  | none => .next (s.push 1 (.monSet k (s.reg sa))).retire

/-- R348: REF may be neither NaN nor infinite. -/
def refOk (w : Word) : Bool :=
  match (⟨11, 52⟩ : FloatFmt).val w.toNat with
  | .nan _ | .inf _ => false
  | _ => true

/-- R348: BOUND may be neither NaN nor negative. -/
def boundOk (w : Word) : Bool :=
  match (⟨11, 52⟩ : FloatFmt).val w.toNat with
  | .nan _ | .inf true | .zero true | .fin true _ _ => false
  | _ => true

/-- R348 `monref`. -/
def execMonref (sa : BitVec 5) (k : BitVec 2) (s : State) : Out :=
  let ref := s.reg sa
  let bound := s.reg (sa + 1)
  if !refOk ref then s.wordFault causeFieldRange ref
  else if !boundOk bound then s.wordFault causeFieldRange bound
  else .next (s.push 1 (.monRef k ref bound)).retire

/-- R349: what `monrd` reads. -/
def Monitor.part (m : Monitor) (part : Nat) : Word :=
  if part < 5 then BitVec.ofNat 64 (ofInt 320 m.acc / 2 ^ (64 * part))
  else if part = 5 then BitVec.ofNat 64 (m.nrec * 2 ^ 32 + m.ovf.toNat * 2 + m.spec.toNat)
  else m.nom

/-- R349 `monrd`. -/
def execMonrd (sd : BitVec 5) (part : BitVec 3) (k : BitVec 2) (s : State) : Out :=
  .next (s.push 1 (.monRead sd k part)).retire

/-- R350: what `monchk` answers. -/
def Monitor.checked (m : Monitor) : Word :=
  if wbits m.nom 63 1 = 0 || m.fails m.acc m.spec m.ovf then 1 else 0

/-- R343, R347, R350: ACC, SPEC, OVF and NREC at zero. -/
def Monitor.cleared (m : Monitor) : Monitor := { m with acc := 0, spec := false, ovf := false, nrec := 0 }

/-- R350 `monchk`. -/
def execMonchk (sd : BitVec 5) (clr : BitVec 1) (k : BitVec 2) (s : State) : Out :=
  .next (s.push 1 (.monCheck sd k (clr == 1))).retire

/-- R347 to R350: a monitor word's effect at the end of its cycle, on the monitors as that cycle's contributions leave them. -/
def Ctx.monEffect (c : Ctx) (e : Eff) : Ctx :=
  match e with
  | .monSet k v => c.onMon k.toNat fun m => { m.cleared with nom := v, gen := m.gen + 1 }
  | .monRef k r b => c.onMon k.toNat fun m => { m with ref := r, bound := b }
  | .monRead d k p => { c with regs := c.regs.put d ((c.mon k.toNat).part p.toNat) }
  | .monCheck d k clr =>
    let c := { c with regs := c.regs.put d (c.mon k.toNat).checked }
    if clr then c.onMon k.toNat Monitor.cleared else c
  | _ => c

end Sys2Proof.Machine
end

