-- ==== Sys2Proof/Machine/Barriers.lean ====
section
/-! DEFINITION. Counters, barriers and realignment: arrivals, reports up the trees, releases, excuses, and the words `rtick`,
`rcyc`, `bar`, `barw`, `bart`, `align` (12 R280 to R294; 14 R323; 15 R343 to R345). -/

namespace Sys2Proof.Machine

/-! Segments -/

/-- A segment of a die. -/
def Die.seg (d : Die) (i : Nat) : Segment := vat d.segs .zero i

/-- A segment changed. -/
def State.onSeg (s : State) (die i : Nat) (f : Segment → Segment) : State :=
  s.onDie die fun d => { d with segs := vmod d.segs .zero i f }

/-- R285: the segments that serve a launch's barrier, by die and number. -/
def State.segsOf (s : State) (lid bar : Nat) : List (Nat × Nat) :=
  s.dies.flatMap fun d => (d.segs.toList.zipIdx.filter fun g => g.1.used && g.1.lid == lid && g.1.bar == bar).map fun g => (d.num, g.2)

/-- R285: the segment of a die that serves a launch's barrier at levels 3 to 5. -/
def Die.segOf (d : Die) (lid bar : Nat) : Option Nat :=
  (d.segs.toList.zipIdx.find? fun g => g.1.used && g.1.lid == lid && g.1.bar == bar && decide (3 ≤ g.1.level)).map (·.2)

/-- R287, R290: every participant, and every child, has arrived for the parity. A child whose subtree holds no participant
has reported for every phase, under the number 2. -/
def Segment.complete (g : Segment) (par : Nat) : Bool :=
  g.mask &&& ~~~(vat g.arrived 0 par) == 0
    && g.children.all fun c => g.reports.contains (par, c) || g.reports.contains (2, c)

/-- R290: no participant is left below. -/
def Segment.dormant (g : Segment) : Bool := g.mask == 0 && g.children.all fun c => g.reports.contains (2, c)

/-- The phase of a parity has begun here. -/
def Segment.begun (g : Segment) (par : Nat) : Bool := vat g.arrived 0 par != 0 || g.reports.any (·.1 == par)

/-- R291: a phase of a tree is short when one of its participants has been excused, but for `kend`. -/
def State.treeShort (s : State) (lid bar k : Nat) : Bool :=
  (s.segsOf lid bar).any fun x => ((s.die x.1).seg x.2).excused.contains k

/-- R291: the phases of which a core that is excused now is a participant: the one in progress, and the next when the core has
arrived for it; the one in progress is not this segment's next while the release before it is on its way (log 53, DEDUCED). -/
def Segment.phasesOf (g : Segment) (core : Nat) (onWay : Bool) : List Nat :=
  let here := fun (k : Nat) => if (vat g.arrived 0 (k % 2)).getLsbD core then [k] else []
  if onWay then here g.rel else g.rel :: here (g.rel + 1)

/-- R344: totals of deltas: monitor, sum, SPEC, OVF. -/
def sumDeltas (ds : List (Nat × Nat × Nat × Int × Bool × Bool)) : List (Nat × Int × Bool × Bool) :=
  ([0, 1, 2, 3].filter fun k => ds.any (·.2.2.1 == k)).map fun k =>
    let es := ds.filter (·.2.2.1 == k)
    (k, (es.map (·.2.2.2.1)).sum, es.any (·.2.2.2.2.1), es.any (·.2.2.2.2.2))

/-- R344: the totals of a phase over the segments given. -/
def State.totalsOf (s : State) (segs : List (Nat × Nat)) (par : Nat) : List (Nat × Int × Bool × Bool) :=
  sumDeltas (segs.flatMap fun x => ((s.die x.1).seg x.2).deltas.filter (·.1 == par))

/-- R345: the participant with the lowest CID whose arrival stands. -/
def State.checkingCore (s : State) (segs : List (Nat × Nat)) (par : Nat) : Option Nat :=
  (segs.flatMap fun x => ((List.range 100).filter fun i => (vat ((s.die x.1).seg x.2).arrived 0 par).getLsbD i).map
    fun i => x.1 * 128 + i).min?

/-- A phase is over at a segment: its vector, reports, deltas and totals go. -/
def Segment.cleared (g : Segment) (par : Nat) : Segment :=
  { g with
    arrived := vput g.arrived par 0
    reports := g.reports.filter (·.1 ≠ par)
    deltas := g.deltas.filter (·.1 ≠ par)
    totals := g.totals.filter (·.1 ≠ par)
    rel := g.rel + 1 }

/-- R291, R344, R345: the release of a phase of a segment at level 1 or 2 as one of its cores takes it: whether it is short, and on the
checking core, the lowest whose arrival stands, the totals. -/
def Segment.releaseFor (g : Segment) (phase core left : Nat) : Release :=
  match g.phases.find? (·.phase = phase) with
  | none => ⟨left, false, []⟩
  | some r =>
    let check := (List.range 100).find? fun i => r.arrived.getLsbD i
    ⟨left, r.short, if check = some core then sumDeltas r.deltas else []⟩

/-- R288: a phase completes at level 1 or 2 in the cycle that begins at `ref`: each participant takes the release in that
cycle plus 3 or 4. A participant not running takes it where it is. -/
def State.completeLocal (s : State) (die seg par : Nat) (ref : Nat × Nat) : State :=
  let g := (s.die die).seg seg
  let r : PhaseRec := ⟨g.rel, g.excused.contains g.rel, vat g.arrived 0 par, g.deltas.filter (·.1 == par)⟩
  let s := s.onSeg die seg fun g => { g.cleared par with phases := (g.phases ++ [r]).drop (g.phases.length - 1) }
  let g := (s.die die).seg seg
  let base := if g.level = 1 then 3 else 4
  let cores := (List.range 100).filter fun i => g.mask.getLsbD i
  cores.foldl (fun s i =>
    let cid := die * 128 + i
    if (s.coreOf cid).runs g.lid then
      s.onCore cid fun k =>
        let ahead := decide (ref.1 < k.tick) || (k.tick == ref.1 && decide (ref.2 < k.frac))
        { k with ctx := k.ctx.onBar g.bar fun b => { b with due := b.due ++ [⟨if ahead then base - 1 else base, false, []⟩] } }
    else s.onTaskCtx cid g.lid (·.takeRelease g.bar (g.releaseFor r.phase i 0))) s

/-- R288, R293: the releases of levels 1 and 2 that are on their way to a context which stops taking cycles are taken at once; one of
level 0 stays. -/
def State.takeDue (s : State) (cid : Nat) (c : Ctx) : Ctx :=
  (List.range 8).foldl (fun (c : Ctx) n =>
    let d := vat c.domain 0 n
    if domLevel d = 0 then c
    else
      let g := (s.die (cid / 128)).seg (domSeg d)
      (c.bar n).due.foldl (fun (c : Ctx) _ => c.takeRelease n (g.releaseFor (c.bar n).rel (cid % 128) 0))
        (c.onBar n fun b => { b with due := [] })) c

/-- R288, R290: a segment's vector for a parity is evaluated at tick `t`; at level 1 or 2 in the cycle beginning at `ref`. -/
def State.evaluate (s : State) (die seg par t : Nat) (ref : Nat × Nat) : State :=
  let g := (s.die die).seg seg
  if !g.used || !g.complete par then s
  else if g.level ≤ 2 then (if g.begun par then s.completeLocal die seg par ref else s)
  else if g.reports.contains (par, die) || !(g.begun par || (g.dormant && g.parent.isSome)) then s
  else
    let leave := max t (vat g.own 0 par + 2)
    let s := s.onSeg die seg fun g => { g with reports := g.reports ++ [(par, die)] }
    s.at (if g.parent.isSome then leave + 8 else leave) (.barrierReport die seg par)

/-- R292, R343: the focus core's arrival, at the end of its cycle. -/
def State.arrival (s : State) (n par : Nat) : State :=
  let c := s.core.ctx
  let d := vat c.domain 0 n
  let ds := c.deltas n
  let s := s.ctx (·.closeDeltas n)
  if domLevel d = 0 then
    s.ctx fun c => c.onBar n fun b => { b with due := b.due ++ [⟨0, false, ds⟩] }
  else
    let die := s.core.cid / 128
    let i := s.core.cid % 128
    let s := s.onSeg die (domSeg d) fun g =>
      { g with
        arrived := vmod g.arrived 0 par fun v => v ||| (1 <<< i)
        own := vput g.own par s.tickAfter
        ref := vput g.ref par (s.core.tick, s.core.frac)
        deltas := g.deltas ++ ds.map fun x => (par, s.core.cid, x.1, x.2.1, x.2.2.1, x.2.2.2) }
    s.evaluate die (domSeg d) par s.tickAfter (s.core.tick, s.core.frac)

/-! Level 5 -/

/-- R286: this module's root is the set root: the lowest number of the set. -/
def State.setRoot (s : State) : Bool := (List.range s.conn.modnum).all fun m => !s.conn.members.getLsbD m

/-- R288, R323: a level-5 barrier by the name its module gives it (log 13, DEDUCED). -/
def bar5 (lid n : Nat) : Nat := 8 * lid + n

/-- R323: a management message to another module, by the first port on which it has been heard. -/
def State.toModule (s : State) (m : Nat) (body : List Byte) : State :=
  match s.opticalLinks.find? fun l => (s.link l).peer == some m with
  | some l => s.sendFlit l true 3 body
  | none => s

/-- R288: every module of the set that is not dead has reported: the release tick is sent (log 13, DEDUCED). -/
def State.level5Check (s : State) (bar par : Nat) : State :=
  let live := (List.range 32).filter fun m => s.conn.members.getLsbD m && !s.conn.dead.getLsbD m
  if s.setRoot && (live.all fun m => s.conn.reports.contains (m, bar, par))
      && s.conn.reports.any (fun r => r.2 == (bar, par)) then
    let s : State := { s with conn := { s.conn with reports := s.conn.reports.filter fun r => r.2 ≠ (bar, par) } }
    let t := s.tick + 2 + Config.homeDelay s.nextId
    let s := (live.filter (· ≠ s.conn.modnum)).foldl (fun s m =>
      s.toModule m (s.message 4 s.conn.modnum 0 (toBytes 8 bar ++ toBytes 1 par ++ toBytes 8 t))) s
    s.fresh.at (s.tick + 1) (.level5Release bar par t)
  else s

/-- R288, R323: a module root's report reaches the set root. -/
def execLevel5BarrierReport (m bar par : Nat) (s : State) : Out :=
  .next (({ s with conn := { s.conn with reports := s.conn.reports ++ [(m, bar, par)] } } : State).level5Check bar par)

/-- R288, R323: the release tick, converted to this module's TICK. -/
def execLevel5Release (bar par rootTick : Nat) (s : State) : Out :=
  let t := (((rootTick : Int) - s.conn.offset) % 2 ^ 64).toNat
  .next ((s.segsOf (bar / 8) (bar % 8)).foldl (fun s x => s.at t (.barrierRelease x.1 x.2 par)) s)

/-- R344: what the participants of other modules add to a level-5 phase's totals (log 11, DESIGN CHOICE). -/
def withPeers (key : Nat) (ts : List (Nat × Int × Bool × Bool)) : List (Nat × Int × Bool × Bool) :=
  [0, 1, 2, 3].filterMap fun k =>
    match ts.find? (·.1 == k) with
    | some t => some (k, t.2.1 + Config.peerSum key k, t.2.2.1 || Config.peerFlag key k 1, t.2.2.2 || Config.peerFlag key k 2)
    | none => if Config.peerFlag key k 0 then some (k, Config.peerSum key k, Config.peerFlag key k 1, Config.peerFlag key k 2) else none

/-- R344, R345: as a phase of a tree releases its totals go to the segment of the checking core: at level 5, where the lowest CID may be
another module's, only if it is this module's (log 11, DESIGN CHOICE). -/
def State.setTotals (s : State) (segs : List (Nat × Nat)) (g : Segment) (par : Nat) : State :=
  let key := bar5 g.lid g.bar * 2 + par
  let peers := g.level = 5 ∧ s.conn.members ≠ 1 <<< s.conn.modnum
  match s.checkingCore segs par with
  | none => s
  | some cid =>
    if peers ∧ (Config.peerCid key < cid ∨ (Config.peerCid key = cid ∧ !s.setRoot)) then s
    else
      let totals := if peers then withPeers key (s.totalsOf segs par) else s.totalsOf segs par
      match (s.die (cid / 128)).segOf g.lid g.bar with
      | some i => s.onSeg (cid / 128) i fun x => { x with totals := x.totals ++ totals.map fun t => (par, cid, t) }
      | none => s

/-- R288: the root of a tree completes at this tick: the release tick goes to every die, or the module's report to the set root. -/
def State.rootComplete (s : State) (die seg par : Nat) : State :=
  let g := (s.die die).seg seg
  if g.level = 5 then
    let root := ((List.range 32).find? fun m => s.conn.members.getLsbD m).getD 0
    if s.setRoot then s.at (s.tick + 1) (.level5BarrierReport s.conn.modnum (bar5 g.lid g.bar) par)
    else s.toModule root (s.message 3 s.conn.modnum 0 (toBytes 8 (bar5 g.lid g.bar) ++ toBytes 1 par))
  else (s.segsOf g.lid g.bar).foldl (fun s x => s.at (s.tick + 8 * g.depth + 2) (.barrierRelease x.1 x.2 par)) s

/-- R288: a segment's report reaches its parent, or the root completes. -/
def execBarrierReport (die seg par : Nat) (s : State) : Out :=
  let g := (s.die die).seg seg
  if !g.used then .next s
  else match g.parent with
    | none => .next (if g.dormant then s else s.rootComplete die seg par)
    | some p =>
      match (s.die p).segOf g.lid g.bar with
      | none => .next s
      | some i =>
        let s := s.onSeg p i fun x => { x with reports := x.reports ++ (par, die) :: (if g.dormant then [(2, die)] else []) }
        .next ((s.evaluate p i par s.tick (0, 0)).evaluate p i (1 - par) s.tick (0, 0))

/-- R288: a release. At levels 0 to 2 the focus core takes the one that is due to it; above, at T_r, every participant of the
die does. -/
def execBarrierRelease (die seg par : Nat) (s : State) : Out :=
  let g := (s.die die).seg seg
  if 64 ≤ seg ∨ g.level ≤ 2 then
    let n := if 64 ≤ seg then seg - 64 else g.bar
    let d := vat s.core.ctx.domain 0 n
    match (s.core.ctx.bar n).due with
    | [] => .next s
    | r :: rest =>
      if r.left = 0 && (domLevel d != 0 || s.core.ctx.drainedAll (domEMask d)) then
        let r := if domLevel d = 0 then r
          else (s.myDie.seg (domSeg d)).releaseFor (s.core.ctx.bar n).rel (s.core.cid % 128) 0
        .next ((s.ctx fun c => (c.onBar n fun b => { b with due := rest }).takeRelease n r).traceHeads s.core.cid 4)
      else .next s
  else if !g.used then .next s
  else
    let segs := s.segsOf g.lid g.bar
    let first := segs.all fun x => ((s.die x.1).seg x.2).rel == g.rel
    let s := if first then s.setTotals segs g par else s
    let g := (s.die die).seg seg
    let short := s.treeShort g.lid g.bar g.rel
    let cores := (List.range 100).filter fun i => g.mask.getLsbD i
    let s := cores.foldl (fun s i =>
      let cid := die * 128 + i
      s.onTaskCtx cid g.lid fun c =>
        let totals := (g.totals.filter fun t => t.1 == par && t.2.1 == cid).map (·.2.2)
        (c.takeRelease g.bar ⟨0, short, totals⟩).onBar g.bar fun b => { b with tr := s.tick }) s
    let s := (cores.filter fun i => (s.coreOf (die * 128 + i)).runs g.lid).foldl (fun s i => s.traceHeads (die * 128 + i) 4) s
    .next ((s.onSeg die seg (·.cleared par)).evaluate die seg par s.tick (0, 0))

/-- R290: the earliest cycle beginning of a die's running cores. -/
def State.dieRef (s : State) (die : Nat) : Nat × Nat :=
  let cs := (s.core :: s.others).filter fun c => c.cid / 128 == die && c.clocked
  let t := ((cs.map (·.tick)).min?).getD s.tick
  (t, (((cs.filter (·.tick == t)).map (·.frac)).min?).getD 0)

/-- R290, R291: a core's bit is cleared in the segments that serve it: those of the launch whose task ended with `kend`, or all
of them, which makes releases short, one that is on its way too; an arrival of the same tick counts after the clearing
(log 53, DEDUCED). -/
def State.excuse (s : State) (die core : Nat) (lid : Option Nat) : State :=
  let serves := fun (g : Segment) => g.used && g.mask.getLsbD core && (lid == none || lid == some g.lid)
  let mine := ((s.die die).segs.toList.zipIdx.filter fun g => serves g.1).map (·.2)
  let bit : BitVec 100 := 1 <<< core
  let onWay := fun (g : Segment) => ((s.core :: s.others).any fun k =>
    k.cid / 128 == die && k.runs g.lid && g.mask.getLsbD (k.cid % 128) && decide ((k.ctx.bar g.bar).due ≠ []))
  let last := mine.map fun i => (i, (s.die die).seg i)
  let s := mine.foldl (fun s i => s.onSeg die i fun g =>
    let way := decide (g.level ≤ 2) && onWay g
    { g with
      mask := g.mask &&& ~~~bit
      arrived := g.arrived.each fun v => v &&& ~~~bit
      own := g.own.map fun _ => s.tick
      deltas := g.deltas.filter (·.2.1 ≠ die * 128 + core)
      excused := if lid.isNone then g.excused ++ g.phasesOf core way else g.excused
      phases := if !way then g.phases else g.phases.map fun r =>
        if r.phase + 1 = g.rel then
          { r with
            short := r.short || lid.isNone
            arrived := r.arrived &&& ~~~bit
            deltas := r.deltas.filter (·.2.1 ≠ die * 128 + core) }
        else r }) s
  last.foldl (fun s x =>
    let ref := fun (par : Nat) => if s.tick ≤ vat x.2.own 0 par then vat x.2.ref (0, 0) par else s.dieRef die
    (s.evaluate die x.1 0 s.tick (ref 0)).evaluate die x.1 1 s.tick (ref 1)) s

/-- R290: the service core or the launch controller excuses a core. -/
def execBarrierExcuse (die core : Nat) (lid : Option Nat) (s : State) : Out := .next (s.excuse die core lid)

/-! The words -/

/-- R280 `rtick`. -/
def execRtick (sd : BitVec 5) (s : State) : Out := s.scalar 1 sd (BitVec.ofNat 64 (tickSeen s.core))

/-- R280 `rcyc`. -/
def execRcyc (sd : BitVec 5) (s : State) : Out := s.scalar 1 sd (BitVec.ofNat 64 s.core.ctx.cyc)

/-- R292, R293: the checks on a barrier id. -/
def State.barChecked (s : State) (n : Nat) (f : Unit → Out) : Out :=
  if partBars s.core.ctx.misc.part ≤ n then s.wordFault causePoolBound (BitVec.ofNat 64 n)
  else if !domEN (vat s.core.ctx.domain 0 n) then s.wordFault causeFieldRange (BitVec.ofNat 64 n)
  else f ()

/-- R287: the oldest phase observed. -/
def State.observe (s : State) (n : Nat) : State := s.ctx (·.onBar n Bar.observe)

/-- R275, R294: every phase up to the latest arrival observed, in order. -/
def State.observeAll (s : State) (n : Nat) : State :=
  (List.range (s.core.ctx.bar n).out).foldl (fun s _ => s.observe n) s

/-- R287, R292: a third arrival waits for the oldest phase, which it observes. -/
def State.arriveWhenFree (s : State) (n : Nat) (w : Wait) (f : State → Out) : Out :=
  let b := s.core.ctx.bar n
  if b.out < 2 then f (s.arrive n)
  else if b.released then f ((s.observe n).arrive n)
  else .next (s.holdOn w)

/-- R292 `bar`. -/
def execBar (n : BitVec 3) (s : State) : Out :=
  s.barChecked n.toNat fun _ => s.arriveWhenFree n.toNat ⟨.bar, none, [], 0, n.toNat⟩ fun s => .next s.retire

/-- R293: a limit in ticks, none when sa = 0. -/
def State.limitOf (s : State) (sa : BitVec 5) : Option Nat :=
  if sa = 0 then none else some (s.core.tick + (s.reg sa).toNat)

/-- R293 `barw`; its limit is tested at the end of each cycle (`barwExpiry`). -/
def execBarw (sd sa : BitVec 5) (n : BitVec 3) (s : State) : Out :=
  s.barChecked n.toNat fun _ =>
    let b := s.core.ctx.bar n.toNat
    let w := (s.waiting .barw).getD ⟨.barw, s.limitOf sa, [], sd.toNat, n.toNat⟩
    if b.out = 0 then .next (s.endHold sd 0x200)
    else if b.released then .next ((s.observe n.toNat).endHold sd 0)
    else .next (s.holdOn w)

/-- A hold ends at the end of its cycle with a result of latency 1. -/
def State.endAfter (s : State) (sd : Nat) (v : Word) : State :=
  (s.push 0 (.sreg (BitVec.ofNat 5 sd) v)).ctx fun c => c.advance c.sq.pc.toNat

/-- R281: ticks are not counted toward a limit on a level-5 barrier while a module of the set is halted. -/
def State.suspended5 (s : State) (n : Nat) : Bool :=
  domLevel (vat s.core.ctx.domain 0 n) == 5 && s.conn.halted &&& s.conn.members != 0

/-- R293: the limit of a `barw`, at the end of a cycle in which it has not ended. -/
def execBarwExpiry (s : State) : Out :=
  match s.waiting .barw with
  | some w =>
    match w.deadline with
    | some d => if d ≤ s.tickEnd && !s.suspended5 w.value then .next (s.endAfter w.progress 0x100) else .next s
    | none => .next s
  | none => .next s

/-- R293 `bart`. -/
def execBart (sd : BitVec 5) (n : BitVec 3) (s : State) : Out :=
  s.barChecked n.toNat fun _ =>
    let b := s.core.ctx.bar n.toNat
    if b.out = 0 then s.scalar 1 sd 0x200
    else if b.released then (s.observe n.toNat).scalar 1 sd 0
    else s.scalar 1 sd 0x100

/-- R294: an `align` in progress: 0 draining, 1 arrived, 2 released and waiting for its restart, 3 released while its context
was not resident; C and sd in `addrs`, T_a in the deadline (log 30, DEDUCED). -/
def State.alignOn (s : State) (w : Wait) : Out :=
  let n := w.value
  let b := s.core.ctx.bar n
  let d := vat s.core.ctx.domain 0 n
  if w.progress = 0 then
    if s.core.ctx.drainedMask 0xFF then s.arriveWhenFree n w fun s => .next (s.holdOn { w with progress := 1 })
    else .next (s.holdOn w)
  else if w.progress = 1 && decide (b.arr ≤ b.rel) then
    .next ((s.observeAll n).holdOn { w with
      progress := 2
      deadline := if domLevel d ≤ 2 then none else some (b.tr + if domBand d = 4 then 40 else 4) })
  else .next (s.holdOn w)

/-- R294 `align`. -/
def execAlign (sd sa : BitVec 5) (n : BitVec 3) (s : State) : Out :=
  match s.waiting .align with
  | some w => s.alignOn w
  | none =>
    s.barChecked n.toNat fun _ =>
      if domLevel (vat s.core.ctx.domain 0 n.toNat) = 0 then s.wordFault causeFieldRange (n.zeroExtend 64)
      else s.alignOn ⟨.align, none, [(s.reg sa).toNat, sd.toNat], 0, n.toNat⟩

/-- R294: the restart cycle has come. -/
def State.alignDue (s : State) : Option Wait :=
  match s.waiting .align with
  | some w =>
    if w.progress = 3 then some w
    else if w.progress = 2 && (match w.deadline with
      | some t => decide (t ≤ s.core.tick)
      | none => true) then some w
    else none
  | none => none

/-- R294: as the restart cycle begins, CYC := C, sd := 0 (1 where the context had not been resident), and the next word issues in
it. Nothing is measured on the old CYC. -/
def execAlignRestart (s : State) : Out :=
  match s.alignDue with
  | none => .next s
  | some w =>
    .next (s.ctx fun c =>
      let c := c.advance c.sq.pc.toNat
      { c with
        cyc := w.addrs.getD 0 0
        regs := c.regs.put (BitVec.ofNat 5 (w.addrs.getD 1 0)) (if w.progress = 3 then 1 else 0)
        queues := c.queues.each fun q => { q with freeAt := 0, headAt := 0 }
        mxV := 0 })

end Sys2Proof.Machine
end

