-- ==== Sys2Proof/Machine/Visibility.lean ====
section
/-! DEFINITION. Bindings, locks and fences (11 R268 to R279). -/

namespace Sys2Proof.Machine

/-- A binding slot. -/
def Ctx.binding (c : Ctx) (k : Nat) : Binding := vat c.binds .zero k

/-- A binding slot changed. -/
def Ctx.onBinding (c : Ctx) (k : Nat) (f : Binding → Binding) : Ctx := { c with binds := vmod c.binds .zero k f }

/-! bind (R271, R273) -/

/-- R271: the bits marked zero of a descriptor's four words are zero. -/
def descZeros (w0 w1 w2 w3 : Word) : Bool :=
  let far := wbits w3 1 1 == 1
  let barrier := wbits w3 0 1 == 1
  (if far then wbits w0 48 16 == 0 && wbits w0 19 13 == 0 else wbits w0 57 7 == 0)
    && wbits w1 40 24 == 0
    && (if barrier then wbits w2 3 61 == 0 else wbits w2 57 7 == 0)
    && wbits w3 4 60 == 0

/-- R271: the binding a descriptor describes. -/
def descBinding (w0 w1 w2 w3 : Word) : Binding :=
  ⟨true, false, false, false, wbits w3 0 1 == 1, w2.toNat, wbits w3 1 1 == 1, w0.toNat, w1.toNat, wbits w3 2 2⟩

/-- R273 `bind`: SQ holds until both accesses of the descriptor are served; the slot takes its contents two cycles later. -/
def execBind (sa : BitVec 5) (k : BitVec 3) (s : State) : Out :=
  let d := s.reg sa
  if (s.waiting .served).isNone && decide (d.toNat % 32 ≠ 0) then s.wordFault causeMisalign d
  else if (s.waiting .served).isNone && !admitsAll s.core.ctx.misc.part .scalarRead d.toNat 32 then s.wordFault causePoolBound 0
  else s.servedHold [d.toNat] (fun _ => .next (s.askSq (.word d.toNat 32) false d.toNat 32)) fun v =>
    let d := BitVec.ofNat 64 (v.addrs.headD 0)
    let w := fun (i : Nat) => BitVec.ofNat 64 (v.value / 2 ^ (64 * i))
    let b := descBinding (w 0) (w 1) (w 2) (w 3)
    if !descZeros (w 0) (w 1) (w 2) (w 3) then s.wordFault causeFieldRange d
    else if b.barrier && decide (partBars s.core.ctx.misc.part ≤ b.object) then s.wordFault causePoolBound (w 2)
    else if !b.barrier && b.object % 8 != 0 then s.wordFault causeMisalign (w 2)
    else if b.farPool && b.length != 0 && !cidOk (wbits (w 0) 32 16) then s.wordFault causeFieldRange 0
    else if (s.core.ctx.binding k.toNat).held then s.wordFault causeFieldRange (k.zeroExtend 64)
    else .next (s.push 2 (.bind k b)).retire

/-! Locks at the near-memory unit (R274) -/

/-- R274: the token of a core. -/
def lockToken (module cid : Nat) : Nat := 2 ^ 63 + module * 2 ^ 16 + cid

/-- R274, R327: the module of the core that sent a request. -/
def State.issuer (s : State) (r : Req) : Nat :=
  match r.foreign with
  | some f => f.module
  | none => s.conn.modnum

/-- R274: the token of a request's sender. -/
def State.token (s : State) (r : Req) : Nat := lockToken (s.issuer r) r.cid

/-- Answers to an acquire or a cancel, besides causes. -/
def lockGrant : Nat := 0
/-- BUSY. -/
def lockBusy : Nat := 0x100
/-- PARK. -/
def lockPark : Nat := 0x101
/-- CANCELLED. -/
def lockCancelled : Nat := 0x102

/-- An answer to a lock packet sets out: to this module's core, or by the port of another module's (log 60, DESIGN CHOICE). -/
def State.lockAnswer (s : State) (id code : Nat) : State :=
  match s.req id with
  | some r =>
    if r.foreign.isSome then (s.onReq id fun r => { r with status := BitVec.ofNat 64 code }).at (s.tick + 1 + Config.responseDelay id) (.requestResponse id)
    else s.at (s.tick + 1 + Config.responseDelay id) (.acqAnswer id code)
  | none => s

/-- How another module's NMU answers a lock packet: an answer of R274, which one being free (log 11, DESIGN CHOICE). -/
def Req.peerLock (r : Req) : Nat :=
  let causes := [causePeerDead, causeNmuReject, causeMem, causeXlateAbsent, causeXlateProt].map (·.toNat)
  let answers := match r.kind with
    | .acquire true _ => [lockGrant, lockBusy, lockPark] ++ causes
    | .acquire false _ => [lockGrant, lockBusy] ++ causes
    | _ => [lockCancelled]
  if answers.contains (Config.peerLock r.id) then Config.peerLock r.id else lockGrant

/-- R274, R248: the NMU's check of a lock word's page, as for a compare-and-swap. A packet of another module names its page by no VA,
and its page has been checked there (log 62, DEDUCED). -/
def State.lockPage (s : State) (r : Req) : State × Option (BitVec 8) :=
  if r.foreign.isSome then (s, none)
  else match s.nmXlate (r.pa / 2 ^ 36) r.asid permRWA r.va with
    | (s, .ok _) => (s, none)
    | (s, .error c) => (s, some c)

/-- R239, R240, R274: a lock packet at its home: the page, the word, and what follows of the word. -/
def State.atLock (s : State) (r : Req) (refuse : State → BitVec 8 → Out) (f : State → Nat → Out) : Out :=
  match s.lockPage r with
  | (s, some c) => refuse s c
  | (s, none) =>
    match s.homeNat r.pa 8 with
    | (s, none) => refuse s causeMem
    | (s, some w) => f s w

/-- A lock word written. -/
def State.lockWrite (s : State) (pa v : Nat) : State := s.sectorWrite ((toBytes 8 v).zipIdx.map fun x => (pa + x.2, x.1))

/-- R274: an acquire, at its home. -/
def execLockAcquirePacket (id : Nat) (s : State) : Out :=
  s.atHome id (fun r => s.lockAnswer id r.peerLock) fun r =>
    let site := r.pa / 2 ^ 36
    s.atLock r (fun s c => .next (s.lockAnswer id c.toNat)) fun s w =>
      let t := s.site site
      let park := match r.kind with
        | .acquire p _ => p
        | _ => false
      if w / 2 ^ 62 % 2 = 1 then .next (s.lockAnswer id causePeerDead.toNat)
      else if w = s.token r then .next (s.lockAnswer id causeNmuReject.toNat)
      else if w = 0 then
        if t.locks.length < 1024 then
          .next (((s.lockWrite r.pa (s.token r)).onSite site fun t => { t with locks := t.locks ++ [r.pa] }).lockAnswer id lockGrant)
        else .next (s.lockAnswer id lockBusy)
      else if park && decide (t.parks.length < 64) then
        .next ((s.onSite site fun t => { t with parks := t.parks ++ [⟨r.pa, id, s.issuer r, r.cid⟩] }).lockAnswer id lockPark)
      else .next (s.lockAnswer id lockBusy)

/-- R274: a release, at its home. -/
def execLockReleasePacket (id : Nat) (s : State) : Out :=
  s.atHome id s.peerAnswer fun r =>
    let site := r.pa / 2 ^ 36
    s.atLock r (fun s c => .next (s.answerWith id c [] 0)) fun s w =>
      if w ≠ s.token r then .next (s.answerWith id 0 [] 1)
      else match (s.site site).parks.find? (·.pa = r.pa) with
        | some p =>
          let s := (s.lockWrite r.pa (lockToken p.module p.cid)).onSite site fun t => { t with parks := t.parks.erase p }
          .next ((s.lockAnswer p.id lockGrant).answerWith id 0 [] 0)
        | none => .next ((s.lockWrite r.pa 0).answerWith id 0 [] 0)

/-- R274: a cancel, at its home. -/
def execLockCancelPacket (id : Nat) (s : State) : Out :=
  s.atHome id (fun r => if r.peerLock = lockCancelled then s.lockAnswer id lockCancelled else s) fun r =>
    let site := r.pa / 2 ^ 36
    match (s.site site).parks.find? fun p => p.pa == r.pa && p.module == s.issuer r && p.cid == r.cid with
    | some p => .next ((s.onSite site fun t => { t with parks := t.parks.erase p }).lockAnswer id lockCancelled)
    | none => .next s

/-- R274: lock words whose holder has died are orphaned, and the acquires parked on them answered PEER_DEAD. -/
def State.orphan (s : State) (site : Nat) (dead : Nat → Bool) : State :=
  (s.site site).locks.foldl (fun s pa =>
    let w := s.devRead s.conn.modnum pa 8
    if w / 2 ^ 63 = 1 ∧ dead (w % 2 ^ 21) then
      let s := s.lockWrite pa (w ||| 2 ^ 62)
      let ps := (s.site site).parks.filter (·.pa = pa)
      let s := s.onSite site fun t => { t with parks := t.parks.filter (·.pa ≠ pa) }
      ps.foldl (fun s p => s.lockAnswer p.id causePeerDead.toNat) s
    else s) s

/-! acq (R275) -/

/-- R275: how far a lock's acquire has come: not sent, sent, parked, waiting to send again, cancel sent, ended. -/
def acqUnsent : Nat := 0
/-- Sent. -/
def acqSent : Nat := 1
/-- Parked. -/
def acqParked : Nat := 2
/-- BUSY; sent again at the tick in `value`. -/
def acqWaits : Nat := 3
/-- Cancel sent. -/
def acqCancelling : Nat := 4
/-- Ended with the result in `value`. -/
def acqEnded : Nat := 5

/-- R275: the lock of a slot, translated for R, W and A, and what follows. -/
def State.lockHome (s : State) (k : Nat) (wait : State → Out) (f : State → (module pa : Nat) → Out) : Out :=
  let va := (s.core.ctx.binding k).object
  match s.translate permRWA va 0 with
  | (s, .wait) => wait s
  | (s, .fault cause) => s.wordFault cause (BitVec.ofNat 64 va)
  | (s, .at m pa) => f s m pa

/-- R275: an acquire is sent, a try-acquire when `value` is 1. `addrs` holds the slot, the packet sent and its home. -/
def State.acqSend (s : State) (w : Wait) : Out :=
  let k := w.addrs.headD 0
  s.lockHome k (fun s => .next (s.holdOn w)) fun s m pa =>
    let id := s.nextId
    .next ((s.dispatch { s.core.ctx.blankReq s.core.cid (.acquire (w.value != 1) k) with
      module := m, pa := pa, va := (s.core.ctx.binding k).object, counted := false }).holdOn
      { w with progress := acqSent, addrs := [k, id, m, pa] })

/-- R275: an `acq` of a lock in progress. -/
def State.acqLockOn (s : State) (sd : BitVec 5) (w : Wait) : Out :=
  if w.progress = acqEnded then .next (s.endHold sd (BitVec.ofNat 64 w.value))
  else if w.progress = acqUnsent then s.acqSend w
  else .next (s.holdOn w)

/-- R275: an `acq` of a barrier. -/
def State.acqBarrierOn (s : State) (sd : BitVec 5) (k : Nat) (w : Wait) : Out :=
  let n := w.value
  let b := s.core.ctx.bar n
  if b.arr ≤ b.rel then
    .next (((s.observeAll n).ctx (·.onBinding k fun b => { b with held := true })).endHold sd 0)
  else match w.deadline with
    | some d => if d ≤ s.core.tick && !s.suspended5 n then .next (s.endHold sd 0x100) else .next (s.holdOn w)
    | none => .next (s.holdOn w)

/-- R275 `acq`. -/
def execAcq (sd sa : BitVec 5) (k : BitVec 3) (s : State) : Out :=
  match s.waiting .acqLock, s.waiting .acqBarrier with
  | some w, _ => s.acqLockOn sd w
  | _, some w => s.acqBarrierOn sd k.toNat w
  | none, none =>
    let b := s.core.ctx.binding k.toNat
    if !b.valid || b.held then s.wordFault causeFieldRange (k.zeroExtend 64)
    else if b.barrier then s.acqBarrierOn sd k.toNat ⟨.acqBarrier, s.limitOf sa, [k.toNat], 0, b.object⟩
    else s.acqLockOn sd ⟨.acqLock, s.limitOf sa, [k.toNat], acqUnsent, if sa ≠ 0 ∧ s.reg sa = 0 then 1 else 0⟩

/-- R275: the wait of an `acq` after an answer, and whether the lock is now held. -/
def Wait.answered (w : Wait) (code now : Nat) : Wait × Bool :=
  let expired := match w.deadline with
    | some d => decide (d ≤ now)
    | none => false
  if code = lockGrant then ({ w with progress := acqEnded, value := 0 }, true)
  else if code = lockBusy then
    (if expired then { w with progress := acqEnded, value := 0x100 }
     else { w with progress := acqWaits, value := now + 256 }, false)
  else if code = lockPark then (if w.progress = acqSent then { w with progress := acqParked } else w, false)
  else if code = lockCancelled then ({ w with progress := acqEnded, value := 0x100 }, false)
  else ({ w with progress := acqEnded, value := code }, false)

/-- The sequencer's wait replaced. -/
def Ctx.withSqWait (c : Ctx) (w : Option Wait) : Ctx := { c with sq := { c.sq with wait := w } }

/-- R275: the wait is that of an `acq` for the answer to a packet. -/
def Wait.awaits (w : Wait) (id : Nat) : Bool := w.kind == .acqLock && w.progress != acqEnded && w.addrs.tail.contains id

/-- R275: what an answer makes of a wait. -/
def answeredWait (id code now : Nat) (w : Option Wait) : Option Wait :=
  w.map fun w => if w.awaits id then (w.answered code now).1 else w

/-- R275, R279: an answer reaches the `acq` that waits for it: in the stream, and set aside by a trap or in a stop frame. -/
def Ctx.acqAnswered (c : Ctx) (id code now : Nat) : Ctx :=
  let ws := c.sq.wait.toList ++ (c.aside.toList ++ c.frameAside.toList).filterMap (·.wait)
  let aside := fun (a : Aside) => { a with wait := answeredWait id code now a.wait }
  let c := { c.withSqWait (answeredWait id code now c.sq.wait) with aside := c.aside.map aside, frameAside := c.frameAside.map aside }
  match ws.find? (·.awaits id) with
  | some w => if (w.answered code now).2 then c.onBinding (w.addrs.headD 0) fun b => { b with held := true } else c
  | none => c

/-- R275, R279, R321: an answer arrives at the core, or in the context its launch keeps for it. PARK ends the time-out; what follows PARK
from another module is a grant (log 11, DESIGN CHOICE). -/
def execAcqAnswer (id code : Nat) (s : State) : Out :=
  match s.req id with
  | none => .next s
  | some r =>
    let s := if code = lockPark then s.onReq id fun r => { r with timed := false } else s.dropReq id
    let s := s.onTaskCtx r.cid r.lid (·.acqAnswered id code s.tick)
    .next (if code = lockPark ∧ r.abroad then s.lockAnswer id lockGrant else s)

/-- R275: 256 ticks after BUSY the acquire is sent again. -/
def execAcqBusyResend (s : State) : Out :=
  match s.waiting .acqLock with
  | some w =>
    if w.progress = acqWaits ∧ w.value ≤ s.core.tick ∧ w.deadline.all (s.core.tick < ·) then
      .next (s.sq fun q => { q with wait := some { w with progress := acqUnsent, value := 0 } })
    else .next s
  | none => .next s

/-- R326: the lock's module is halted, and the limit stands still. -/
def Wait.onHalted (w : Wait) (halted : BitVec 32) : Bool := halted.getLsbD (w.addrs.getD 2 0) && decide (2 < w.addrs.length)

/-- R275: the limit: with an acquire outstanding a cancel is sent, once; after a BUSY, before the acquire is sent again, the word
ends. -/
def execAcqLimitExpiry (s : State) : Out :=
  match s.waiting .acqLock with
  | some w =>
    match w.deadline with
    | none => .next s
    | some d =>
      if s.core.tick < d || w.onHalted s.conn.halted then .next s
      else if w.progress = acqWaits ∨ (w.progress = acqUnsent ∧ 1 < w.addrs.length) then
        .next (s.sq fun q => { q with wait := some { w with progress := acqEnded, value := 0x100 } })
      else if w.progress = acqSent ∨ w.progress = acqParked then
        let id := s.nextId
        let s := s.dispatch { s.core.ctx.blankReq s.core.cid .cancel with
          module := w.addrs.getD 2 0, pa := w.addrs.getD 3 0, va := (s.core.ctx.binding (w.addrs.headD 0)).object
          counted := false, timed := false }
        .next (s.sq fun q => { q with wait := some { w with progress := acqCancelling, addrs := w.addrs ++ [id] } })
      else .next s
  | none => .next s

/-! rel and fence (R268, R276, R277) -/

/-- R268: the entry has requests still to send; one that has met a fault has until it raises it. -/
def State.unsent (s : State) (e : Entry) : Bool :=
  !e.started || (e.eng == .nm && !e.done)
    || (e.gatedMoves s.core.cid && decide (e.sent < e.total))
    || s.reqs.any fun r => r.uid == some e.uid && r.onward.isSome

/-- R276: engines whose entries `rel` and `fence` wait for. -/
def fenced (u : Unit7) : Bool := u != .mx && u != .vx

/-- R276, R277: the entries placed before a word are marked as the word begins. -/
def Ctx.markFence (c : Ctx) (on : Entry → Bool) : Ctx :=
  { c with
    queues := c.queues.each fun q => { q with wait := q.wait.map fun e => { e with fences := on e } }
    run := c.run.map fun e => { e with fences := on e } }

/-- R276, R277: every marked entry has sent its last request. -/
def State.allSent (s : State) : Bool :=
  let c := s.core.ctx
  !(c.queues.toList.flatMap (·.wait) ++ c.run).any fun e => e.fences && s.unsent e

/-- R276: the counters of a scope and of every narrower one are zero. -/
def Ctx.acked (c : Ctx) (scope : Nat) : Bool := (List.range (scope + 1)).all fun i => vat c.ackc 0 i == 0

/-- R276, R277: the state in which a fencing word is judged: its marks are set in its issue cycle. -/
def State.fencing (s : State) (k : WaitKind) (on : Entry → Bool) : State :=
  if (s.waiting k).isSome then s else s.ctx (·.markFence on)

/-- Entries that `rel` and `fence` wait for: all but a `cp.gput`. -/
def Entry.fencable (e : Entry) : Bool := fenced e.eng && !((e.eng == .cp0 || e.eng == .cp1) && e.op8 == 0x5A)

/-- R276, R335: a slot's object is released: a lock's release is sent, or the barrier arrived at; `w` is the hold. -/
def State.releaseObject (s : State) (k : Nat) (w : Wait) (f : State → Out) : Out :=
  let b := s.core.ctx.binding k
  let drop := fun (s : State) => s.ctx (·.onBinding k fun b => { b with held := false })
  if b.barrier then
    s.barChecked b.object fun _ => s.arriveWhenFree b.object w fun s => f (drop s)
  else if !s.core.ctx.ackRoom then .next (s.holdOn w)
  else s.lockHome k (fun s => .next (s.holdOn w)) fun s m pa =>
    f (drop (s.dispatch { s.core.ctx.blankReq s.core.cid (.release k) with module := m, pa := pa, va := b.object }))

/-- R276 `rel`. -/
def execRel (ovr : BitVec 1) (scope : BitVec 2) (k : BitVec 3) (s : State) : Out :=
  let b := s.core.ctx.binding k.toNat
  if !b.valid || (!b.barrier && !b.held) then s.wordFault causeFieldRange (k.zeroExtend 64)
  else
    let s := s.fencing .rel Entry.fencable
    let w : Wait := ⟨.rel, none, [], 0, k.toNat⟩
    let waited := (s.waiting .rel).any (·.progress == 1)
    if waited || (s.allSent && s.core.ctx.acked (if ovr = 1 then scope.toNat else b.scope)) then
      s.releaseObject k.toNat { w with progress := 1 } fun s => .next s.retire
    else .next (s.holdOn w)

/-- R277 `fence`. -/
def execFence (scope : BitVec 2) (s : State) : Out :=
  let s := s.fencing .fence Entry.fencable
  if s.allSent && s.core.ctx.acked scope.toNat then .next s.retire else .next (s.holdOn ⟨.fence, none, [], 0, 0⟩)

end Sys2Proof.Machine
end

