-- ==== Sys2Proof/Machine/Groups.lean ====
section
/-! DEFINITION. Commit groups: stores held at their sites, publication, and the words `cgopen`, `cgcommit`, `cgabort`, `cgstat`
(14 R330 to R338). -/

namespace Sys2Proof.Machine

/-! Sites (R331, R332) -/

/-- R331: the store was held for the group under the tag's module, core and group. -/
def Held.tagged (h : Held) (module cid group : Nat) : Bool := h.module == module && h.cid == cid && h.group == group

/-- R331: a request of a group at its site: held in one of 32,768 slots, or refused. An older generation's stores go. -/
def execCommitHold (id : Nat) (s : State) : Out :=
  s.atHome id s.peerAnswer fun r =>
    match r.kind with
    | .gput group gen =>
      let site := r.pa / 2 ^ 36
      let s := s.onSite site fun t =>
        { t with held := t.held.filter fun h => !h.tagged (s.issuer r) r.cid group || h.gen == gen }
      if 32768 ≤ (s.site site).held.length then .next (s.answerWith id causeCommitOverflow [] 0)
      else
        let h : Held := ⟨s.issuer r, r.cid, group, gen, s.conn.epoch, r.pa, (r.pairs.map (·.1)).zip r.data⟩
        .next ((s.onSite site fun t => { t with held := t.held ++ [h] }).answerWith id 0 [] 0)
    | _ => .next s

/-- R331: a packet of a core, in a formation of the set, names a held store. -/
def Req.names (r : Req) (module epoch : Nat) (h : Held) : Bool :=
  match r.kind with
  | .commit g _ => h.tagged module r.cid g && h.gen == r.status.truncate 16 && h.epoch == epoch
  | _ => false

/-- R332: a commit packet at a site: every store held under its tag is applied, in the order held, in one step. -/
def execPublish (id : Nat) (s : State) : Out :=
  s.atHome id s.peerAnswer fun r =>
    let site := r.pa / 2 ^ 36
    let names := r.names (s.issuer r) s.conn.epoch
    let mine := (s.site site).held.filter names
    let s := s.onSite site fun t => { t with held := t.held.filter fun h => !names h }
    .next ((mine.foldl (fun s h => s.sectorWrite h.data) s).answerWith id 0 [] 0)

/-- R332: an abort packet at a site: the stores held under its tag are discarded. -/
def execDiscard (id : Nat) (s : State) : Out :=
  s.atHome id s.peerAnswer fun r =>
    let names := r.names (s.issuer r) s.conn.epoch
    .next ((s.onSite (r.pa / 2 ^ 36) fun t => { t with held := t.held.filter fun h => !names h }).answerWith id 0 [] 0)

/-! Answers (R331, R335, R338) -/

/-- R331: a HELD answer or a refusal. -/
def Group.putAnswer (g : Group) (r : Req) : Group :=
  let site := (r.module, r.pa / 2 ^ 36)
  let g := g.less
  if r.cause = 0 then (if g.sites.contains site then g else { g with sites := g.sites ++ [site] }) else g.refused r.cause

/-- R335: every site has answered. -/
def Group.answered (g : Group) : Bool := g.sites.all fun x => g.answers.any fun a => (a.1, a.2.1) == x

/-- R335, R338: a site's PUBLISHED or DISCARDED answer, its death, or its time-out. A group the controller aborts is then free. -/
def Group.packetAnswer (g : Group) (r : Req) (now : Nat) : Group :=
  let g := { g with answers := g.answers ++ [(r.module, r.pa / 2 ^ 36, now)] }
  if g.result = ctrlSent then (if g.answered then { g with state := .free, result := 0 } else g)
  else if r.cause = causePeerDead then { g with result := causePeerDead }
  else if r.cause ≠ 0 ∧ g.result = 0 then { g with result := causeFabricError }
  else g

/-- R331, R335, R338: an answer reaches the issuer's group. -/
def execCommitAnswer (id : Nat) (s : State) : Out :=
  match s.req id with
  | none => .next s
  | some r =>
    let s := s.dropReq id
    match r.kind with
    | .gput g _ =>
      let s := s.onIssuer r fun c =>
        let c := c.onGroup g (·.putAnswer r)
        match r.uid with
        | some u => c.onEntry u (·.settled { r with cause := 0 })
        | none => c
      .next (s.ctrlAborts r.cid r.lid)
    | .commit g _ => .next (s.onIssuer r (·.onGroup g (·.packetAnswer r s.tick)))
    | _ => .next s

/-! The words -/

/-- A commit group of the focus core. -/
def State.groupOf (s : State) (g : Nat) : Group := vat s.core.ctx.groups .zero g

/-- R334 `cgopen`. -/
def execCgopen (sa : BitVec 5) (k cg : BitVec 3) (s : State) : Out :=
  let g := s.groupOf cg.toNat
  let m := s.reg sa
  if g.state = .opened ∨ g.state = .committing ∨ g.state = .aborting then s.wordFault causeFieldRange (cg.zeroExtend 64)
  else if !(s.core.ctx.binding k.toNat).valid then s.wordFault causeFieldRange (k.zeroExtend 64)
  else if wbits m 32 32 ≠ 0 || m == 0 || (m.truncate 32 &&& ~~~s.conn.members) != 0 then s.wordFault causeFieldRange m
  else .next (s.push 1 (.group cg.toNat ⟨.opened, m.truncate 32, k.toNat, g.gen + 1, 0, [], 0, [], 0⟩)).retire

/-- R335: one packet, replicated to every site of the group. -/
def State.sendPackets (s : State) (g : Nat) (publish : Bool) : State :=
  let s := s.ctx (·.onGroup g fun x => { x with state := if publish then .committing else .aborting, answers := [], result := 0 })
  (s.groupOf g).sites.foldl (fun s st => s.sendReq (s.core.ctx.groupPacket s.core.cid g publish st)) s

/-- R335: the object's release, then the end of the word with the result in `value`. -/
def State.groupRelease (s : State) (sd : BitVec 5) (g : Nat) (w : Wait) : Out :=
  s.releaseObject (s.groupOf g).slot w fun s => .next (s.endHold sd (BitVec.ofNat 64 w.value))

/-- R335: the sites' answers to a commit (true) or abort packet are waited for. -/
def State.groupAnswers (s : State) (sd : BitVec 5) (g : Nat) (publish : Bool) (w : Wait) : Out :=
  let x := s.groupOf g
  if !x.answered then .next (s.holdOn w)
  else
    let s := s.ctx (·.onGroup g fun x => { x with state := if publish then .committed else .aborted })
    let b := s.core.ctx.binding x.slot
    let v := if publish then x.result.toNat else w.value
    let w := { w with progress := 3, value := v }
    if publish || b.held || b.barrier then s.groupRelease sd g w else .next (s.endHold sd (BitVec.ofNat 64 v))

/-- R335: a `cgcommit` whose puts have all been held waits for the counters, and publishes. -/
def State.groupPublish (s : State) (sd : BitVec 5) (g : Nat) (w : Wait) : Out :=
  if s.core.ctx.acked (s.core.ctx.binding (s.groupOf g).slot).scope then
    (s.sendPackets g true).groupAnswers sd g true { w with progress := 1 }
  else .next (s.holdOn { w with progress := 4 })

/-- R335: a `cgcommit` (true) or `cgabort` in progress: 0 waiting for the puts, 1 for PUBLISHED, 2 for DISCARDED, 3 for the
release, 4 for the counters. -/
def State.groupOn (s : State) (sd : BitVec 5) (g : Nat) (commit : Bool) (w : Wait) : Out :=
  let x := s.groupOf g
  if w.progress = 3 then s.groupRelease sd g w
  else if w.progress = 1 then s.groupAnswers sd g true w
  else if w.progress = 2 then s.groupAnswers sd g false w
  else if w.progress = 4 then s.groupPublish sd g w
  else if !s.allSent || x.out != 0 then .next (s.holdOn w)
  else if commit && x.cause == 0 then s.groupPublish sd g w
  else
    (s.sendPackets g false).groupAnswers sd g false
      { w with progress := 2, value := if commit then causeCommitAborted.toNat else 0 }

/-- R335: the start of either word. -/
def State.groupWord (s : State) (sd : BitVec 5) (g : Nat) (commit : Bool) : Out :=
  match s.waiting .commit with
  | some w => s.groupOn sd g commit w
  | none =>
    let x := s.groupOf g
    let b := s.core.ctx.binding x.slot
    if x.state ≠ .opened then s.wordFault causeFieldRange (BitVec.ofNat 64 g)
    else if commit && !b.barrier && !b.held then s.wordFault causeFieldRange (BitVec.ofNat 64 x.slot)
    else
      (s.fencing .commit fun e => e.eng == .cp0 || e.eng == .cp1).groupOn sd g commit ⟨.commit, none, [], 0, 0⟩

/-- R335 `cgcommit`. -/
def execCgcommit (sd : BitVec 5) (cg : BitVec 3) (s : State) : Out := s.groupWord sd cg.toNat true

/-- R335 `cgabort`. -/
def execCgabort (sd : BitVec 5) (cg : BitVec 3) (s : State) : Out := s.groupWord sd cg.toNat false

/-- R337 `cgstat`. -/
def execCgstat (sd : BitVec 5) (cg : BitVec 3) (s : State) : Out := s.scalar 1 sd (s.groupOf cg.toNat).status

end Sys2Proof.Machine
end

