-- ==== Sys2Proof/Machine/Circuits.lean ====
section
/-! DEFINITION. Optical circuits: handles and their transitions, the fabric sequencers' words, sending and landing, and the words
`cstat` and `cwait` (13 R295 to R313; 17 R381). -/

namespace Sys2Proof.Machine

/-! Handles (R295 to R300) -/

/-- R299: CIRC_SETTLE. -/
def circSettle : Nat := 1024

/-- A handle of a die. -/
def State.handle (s : State) (die h : Nat) : Handle := vat (s.die die).handles .zero h

/-- A handle changed. -/
def State.onHandle (s : State) (die h : Nat) (f : Handle → Handle) : State :=
  s.onDie die fun d => { d with handles := vmod d.handles .zero h f }

/-- SETTLING or LIVE. -/
def Handle.up (x : Handle) : Bool := x.state == .settling || x.state == .live

/-- R295: the launch holds the handle. -/
def Handle.heldBy (x : Handle) (lid : Nat) : Bool := x.owner == some lid

/-- R312: what `cstat` sees from tick `t` on; of older views one is kept. -/
def Handle.see (x : Handle) (t : Nat) (moved : Bool) : Handle :=
  let trans := if moved then t else (x.hist.head?.map fun (v : Snap) => v.trans).getD 0
  let now : Snap := ⟨t, trans, x.state, (x.route.map fun (r : Route) => r.die).getD 0, (x.route.map fun (r : Route) => r.port).getD 0, x.frec⟩
  let older := x.hist.filter fun v => v.tick != t
  { x with hist := now :: ((older.takeWhile fun v => decide (t < v.tick + 8)) ++ (older.dropWhile fun v => decide (t < v.tick + 8)).take 1) }

/-- R312: the view at a tick. -/
def Handle.seen (x : Handle) (t : Nat) : Snap :=
  (x.hist.find? fun v => decide (v.tick ≤ t)).getD ⟨0, 0, .dark, 0, 0, Handle.zero.frec⟩

/-- R299: a transition in tick `t`. R303: a hold lasts until its end is DARK. -/
def Handle.move (x : Handle) (t : Nat) (st : HandleState) : Handle :=
  ({ x with state := st, holdEnd := if st = .dark then none else x.holdEnd } : Handle).see t true

/-- R306: a fault record. -/
def faultRecord (tick region port lgrp code : Nat) : Word :=
  BitVec.ofNat 64 (tick % 2 ^ 32 * 2 ^ 32 + region * 2 ^ 14 + port * 2 ^ 11 + lgrp * 2 ^ 8 + code)

/-- R306: FCODE. -/
def Handle.code (x : Handle) : Nat := wbits x.frec 0 4

/-- R303: the far end whose `est` matches this end's: same step, its route naming this die, port and handle. -/
def State.peerOf (s : State) (die h : Nat) : Option (Nat × Nat) :=
  let x := s.handle die h
  match x.route with
  | none => none
  | some r =>
    let y := s.handle r.die r.fh
    match y.route with
    | none => none
    | some q =>
      if x.estAt.isSome && x.estAt == y.estAt && q.die == die && q.fh == h && q.port == r.fport && q.fport == r.port then
        some (r.die, r.fh)
      else none

/-- Numbers from `a` to `b`, up or down. -/
def span (a b : Nat) : List Nat :=
  if a ≤ b then (List.range (b - a + 1)).map (a + ·) else (List.range (a - b + 1)).map (a - ·)

/-- R21, R303: row and column of a die's site. -/
def dieSite (d : Nat) : Nat × Nat := (d / 20, 2 * (d % 20) + d / 20 % 2)

/-- R298, R303: the switch regions of a path. -/
def circuitPath (a b : Nat) (alt : Bool) : List Nat :=
  let (r0, c0) := dieSite a
  let (r1, c1) := dieSite b
  let ps := if alt then (span r0 r1).map (fun r => (r, c0)) ++ ((span c0 c1).drop 1).map (fun c => (r1, c))
    else (span c0 c1).map (fun c => (r0, c)) ++ ((span r0 r1).drop 1).map (fun r => (r, c1))
  ps.map fun p => 40 * p.1 + p.2

/-- R303: the regions that the initiating end commands; none at the other end. -/
def Handle.path (x : Handle) (die : Nat) : List Nat :=
  match x.route with
  | some r => if die < r.die then circuitPath die r.die r.alt else []
  | none => []

/-- R298: circuits through regions counted. -/
def State.onRegions (s : State) (f : Nat → Nat) (rs : List Nat) : State :=
  { s with regions := rs.foldl (fun m r => m.write 0 r (f (m.read 0 r))) s.regions }

/-! Ends of circuits (R311) -/

/-- Entries of a die's cores changed, captured ones too. -/
def State.onEntries (s : State) (die : Nat) (f : Entry → Entry) : State :=
  let g := fun (k : Core) =>
    if k.cid / 128 = die then
      { k with ctx := { k.ctx with run := k.ctx.run.map f, replay := k.ctx.replay.map f, frame := k.ctx.frame.map f } }
    else k
  { s with core := g s.core, others := s.others.map g }

/-- An entry of a core changed, captured or not. -/
def State.onEntry (s : State) (cid uid : Nat) (f : Entry → Entry) : State :=
  s.onCore cid fun k => { k with ctx := k.ctx.onEntry uid f }

/-- An entry of a core. -/
def State.entryOf (s : State) (cid uid : Nat) : Option Entry := (s.coreOf cid).ctx.entry uid

/-- The handle an entry names (R308). -/
def Entry.handle (e : Entry) : Nat := e.f 47 5

/-- The address of a carried byte of a circuit copy. -/
def Entry.circuitAddr (e : Entry) (b : Nat) : Int :=
  (((if e.op8 = 0x50 then e.strA else e.strB).place 0 0 b).map fun (p : Place) => p.addr).getD 0

/-- R309: units of the part of a send that began at its prefix. -/
def Entry.unitCount (e : Entry) : Nat := chunks 64 (e.total - e.chunk)

/-- R309: bytes of a send that have left before tick `t`, once its last unit's tick is fixed (`uAge` is the tick after it). -/
def Entry.leftBefore (e : Entry) (t : Nat) : Nat :=
  if !e.done then e.chunk
  else
    let first := e.uAge - 1 - (e.unitCount - 1) / 7
    min e.total (e.chunk + 448 * (t - first))

/-- R311: a send whose last unit has not left before tick `t`, when its circuit is lost in `t`. -/
def Entry.lostSend (e : Entry) (h t : Nat) : Entry :=
  if e.started && e.op8 == 0x50 && e.handle == h && e.failed == [] && !e.late && (!e.done || decide (t < e.uAge)) then
    let n := e.leftBefore t
    { e with landed := n, failed := [(n, causeCircuitLost, (addrWord (e.circuitAddr n)).toNat)] }
  else e

/-- R311: an open window whose circuit is lost. -/
def Entry.lostWindow (e : Entry) : Entry :=
  if e.failed = [] then { e with failed := [(e.sent, causeCircuitLost, 0)] } else e

/-- R309, R311: units that an end has still to send, or to see landed in tick `t` or later. -/
def State.unitsDue (s : State) (die h t : Nat) : List CircuitUnit :=
  s.units.filter fun u => u.stage == 0 && u.srcDie == die && u.srcH == h && decide (t ≤ u.lands)

/-- R309: the first tick that no unit of an end's earlier sends takes. -/
def State.freeSends (s : State) (die h : Nat) : State :=
  let n := (s.unitsDue die h 0).foldl (fun n u => max n (u.leaves + 1)) 0
  s.onHandle die h fun x => { x with sendFree := n }

/-- R311: the windows at the far end of units that are lost. -/
def State.loseWindows (s : State) (die h : Nat) : State :=
  match s.peerOf die h with
  | none => s
  | some (d, k) =>
    ((s.handle d k).windows.foldl (fun s w => s.onEntry w.1 w.2 Entry.lostWindow) s).onHandle d k fun x => { x with windows := [] }

/-- R299, R311: what an end's leaving SETTLING or LIVE does: switches released, units lost, its sends faulted, and the far end's windows
where units of a send were still to leave or to land, those of a send that DROP cut short among them (log 16, DEDUCED). -/
def State.cut (s : State) (die h : Nat) : State :=
  let x := s.handle die h
  let s := if x.up then s.onRegions (· - 1) (x.path die) else s
  if x.state ≠ .live then s
  else
    let lost := s.unitsDue die h s.tick
    let s := if x.senders = [] ∧ lost = [] ∧ x.cutShort = false then s else s.loseWindows die h
    let s := ({ s with units := s.units.filter fun u => !lost.contains u } : State).onEntries die (·.lostSend h s.tick)
    (s.onHandle die h fun x => { x with senders := [], cutShort := false }).freeSends die h

/-- R299: an end becomes DARK. -/
def State.darken (s : State) (die h : Nat) : State := (s.cut die h).onHandle die h (·.move s.tick .dark)

/-- R299, R306: an end becomes FAULTED with its record. -/
def State.faultHandle (s : State) (die h code lgrp region : Nat) : State :=
  (s.cut die h).onHandle die h fun x =>
    ({ x with frec := faultRecord s.tick region ((x.route.map fun (r : Route) => r.port).getD 0) lgrp code } : Handle).move s.tick .faulted

/-- R296: the launch controller tears a handle and frees it. -/
def State.freeHandle (s : State) (die h : Nat) : State :=
  let s := if (s.handle die h).state = .dark then s else s.darken die h
  s.onHandle die h fun x =>
    ({ x with owner := none, route := none, lgroup := 0xF, spare := false, estAt := none, senders := [], windows := [], cutShort := false
              buffer := [], feeding := false } : Handle).see s.tick false

/-! Sequencers (R301, R302) -/

/-- The slice that executes a word. -/
def State.slice (s : State) : Seq := ((s.die s.seqDie).seqs.find? fun q => q.lid == s.seqLid).getD .zero

/-- That slice changed. -/
def State.onSlice (s : State) (f : Seq → Seq) : State :=
  s.onDie s.seqDie fun d => { d with seqs := d.seqs.map fun q => if q.lid = s.seqLid then f q else q }

/-- R302: the index after the word at `pc`: the jump from a body's last word back to its first costs no tick. -/
def Seq.follow (q : Seq) : Seq :=
  match q.body with
  | some (first, last, left) =>
    if q.pc ≠ last then { q with pc := q.pc + 1 }
    else if 2 ≤ left then { q with pc := first, body := some (first, last, left - 1) }
    else { q with pc := q.pc + 1, body := none }
  | none => { q with pc := q.pc + 1 }

/-- R301: the next word, one tick on. -/
def State.seqNext (s : State) : State := s.onSlice fun q => { q.follow with next := s.tick + 1 }

/-- R301: the slice stops at this word with a reason code. -/
def State.seqStop (s : State) (reason : Nat) : State :=
  s.onSlice fun q => { q with running := false, stopped := true, reason := reason }

/-- R301: a word that names a handle: reason 4 unless the launch holds it. -/
def State.seqHandle (s : State) (h : BitVec 5) (f : Handle → State) : Out :=
  let x := s.handle s.seqDie h.toNat
  .next (if x.heldBy s.seqLid then f x else s.seqStop 4)

/-- R302 `route`. -/
def execRoute (h : BitVec 5) (die : BitVec 9) (port fport : BitVec 3) (fh : BitVec 5) (alt : BitVec 2) (s : State) : Out :=
  if 2 ≤ alt.toNat then .next (s.seqStop 1)
  else s.seqHandle h fun x =>
    if x.state ≠ .dark then s.seqStop 7
    else if die.toNat = s.seqDie ∨ 400 ≤ die.toNat then s.seqStop 8
    else
      (s.onHandle s.seqDie h.toNat fun x =>
        ({ x with route := some ⟨die.toNat, port.toNat, fport.toNat, fh.toNat, alt == 1⟩ } : Handle).see s.tick false).seqNext

/-- R298: another circuit of the die uses the port. -/
def Die.portBusy (d : Die) (h port : Nat) : Bool :=
  d.handles.toList.zipIdx.any fun x => x.2 != h && x.1.up && (x.1.route.map fun (r : Route) => r.port) == some port

/-- R303, R307: an end begins to settle, unless its port is busy or a region full (R306 names the first full one of the path).
Nothing of an earlier settling is left. -/
def State.settle (s : State) (die h : Nat) (r : Route) : State :=
  let s := s.onHandle die h fun x => { x with estAt := some s.tick }
  if (s.die die).portBusy h r.port then s.faultHandle die h 6 7 0x3FF
  else match (s.handle die h).path die |>.find? fun g => decide (16 ≤ s.regions.read 0 g) with
  | some g => s.faultHandle die h 5 7 g
  | none =>
    let s := { s with timers := s.timers.filter fun t => match t.2 with
      | .circuitSettleEnd d k _ => !(d == die && k == h)
      | _ => true }
    ((s.onRegions (· + 1) ((s.handle die h).path die)).onHandle die h (·.move s.tick .settling)).at
      (s.tick + circSettle) (.circuitSettleEnd die h none)

/-- R302, R303 `est`. While BISQUE is set it leaves its handle DARK (R300). -/
def execEst (h : BitVec 5) (s : State) : Out :=
  s.seqHandle h fun x =>
    match x.route with
    | none => s.seqStop 3
    | some r =>
      if x.state ≠ .dark then s.seqStop 3
      else if s.svc.bisque then s.seqNext
      else (s.settle s.seqDie h.toNat r).seqNext

/-- R303: HOLDEND at one end. -/
def State.setHold (s : State) (die h n : Nat) : State :=
  let t := s.tick + n
  let s := s.onHandle die h fun x => { x with holdEnd := if n = 0 then none else some t }
  if n = 0 then s else s.at t (.holdEnd die h)

/-- R302, R303 `hold`: at either end it governs both. -/
def execHold (h : BitVec 5) (n : BitVec 23) (s : State) : Out :=
  s.seqHandle h fun x =>
    if !x.up then s.seqNext
    else match s.peerOf s.seqDie h.toNat with
      | some (d, k) => ((s.setHold s.seqDie h.toNat n.toNat).setHold d k n.toNat).seqNext
      | none => (s.setHold s.seqDie h.toNat n.toNat).seqNext

/-- R303: the hold's end: both ends become DARK. -/
def execHoldEnd (die h : Nat) (s : State) : Out :=
  let x := s.handle die h
  if x.up && x.holdEnd == some s.tick then
    match s.peerOf die h with
    | some (d, k) => .next (if (s.handle d k).up then (s.darken die h).darken d k else s.darken die h)
    | none => .next (s.darken die h)
  else .next s

/-- R299: a `tear` that finds its end FAULTED by the far end's `tear` of the same tick takes that record back. -/
def Handle.unfault (x : Handle) (t : Nat) : Handle :=
  if x.code = 8 ∧ wbits x.frec 32 32 = t % 2 ^ 32 then
    { x with frec := ((x.hist.find? fun v => decide (v.tick < t)).map fun (v : Snap) => v.frec).getD Handle.zero.frec }
  else x

/-- R302 `tear`. -/
def execTear (h : BitVec 5) (s : State) : Out :=
  let die := s.seqDie
  s.seqHandle h fun x =>
    match x.state with
    | .dark => s.seqNext
    | .faulted => ((s.onHandle die h.toNat (·.unfault s.tick)).darken die h.toNat).seqNext
    | _ =>
      let far := s.peerOf die h.toNat
      let s := s.darken die h.toNat
      match far with
      | some (d, k) => (if (s.handle d k).up then s.faultHandle d k 8 7 0x3FF else s).seqNext
      | none => s.seqNext

/-- R302 `atstep`: R = 1 counts from the step of the previous `atstep` (log 15, DEDUCED). -/
def execAtstep (r : BitVec 1) (n : BitVec 27) (s : State) : Out :=
  let q := s.slice
  let t := q.t0 + n.toNat + (if r = 1 then q.mark else 0)
  .next (if t ≤ s.tick then s.seqStop 2
    else s.onSlice fun q => { q.follow with next := t, mark := s.tick - q.t0 })

/-- R302 `rpt`: c = 0 skips the body. -/
def execRpt (b : BitVec 8) (c : BitVec 20) (s : State) : Out :=
  let q := s.slice
  .next (if q.body.isSome then s.seqStop 6
    else if c = 0 then s.onSlice fun q => { q with pc := q.pc + b.toNat + 2, next := s.tick + 1 }
    else s.onSlice fun q =>
      { q with pc := q.pc + 1, next := s.tick + 1, body := some (q.pc + 1, q.pc + b.toNat + 1, c.toNat) })

/-- R302 `nop`. -/
def execNop (s : State) : Out := .next s.seqNext

/-- R302 `fend`. -/
def execFend (s : State) : Out := .next (s.onSlice fun q => { q with running := false })

/-- R301: the slices whose common tick has come start with their first word. -/
def execSliceStart (s : State) : Out :=
  .next { s with dies := s.dies.map fun d =>
    { d with seqs := d.seqs.map fun q =>
        if q.t0 = s.tick ∧ !q.running ∧ !q.stopped ∧ q.pc = 0 then { q with running := true, next := s.tick } else q } }

/-- A unit put in flight, to be looked at in tick `t`. -/
def State.fly (s : State) (t : Nat) (u : CircuitUnit) : State :=
  ({ s.fresh with units := s.units ++ [{ u with id := s.nextId }] } : State).at t (.circuitUnitLanding s.nextId)

/-- A unit with nothing in it. -/
def CircuitUnit.blank (die h stage : Nat) : CircuitUnit := ⟨0, die, h, [], 0, 0, die, h, 0, 0, 0, stage⟩

/-- R302, R304 `sig`. -/
def execSig (core : BitVec 7) (flag : BitVec 6) (val : BitVec 15) (s : State) : Out :=
  if 99 < core.toNat then .next (s.seqStop 5)
  else
    let cid := s.seqDie * 128 + core.toNat
    let c := s.coreOf cid
    if !(c.ctx.live && c.ctx.lid == s.seqLid) || s.clusterShut cid then .next s.seqNext
    else .next ((s.fly (s.tick + 2) { CircuitUnit.blank s.seqDie 0 4 with
      bytes := toBytes 8 val.toNat, cid := cid, uid := s.seqLid, pos := flag.toNat }).seqNext)

/-! Settling, faults, re-establishment (R299, R306, R307) -/

/-- The lower of two groups that failed to lock. -/
def lowestGroup (a : Option Nat) (g : Nat) : Option Nat := some (match a with
  | some x => min x g
  | none => g)

/-- R299: the end of settling. Before its tick, a group in use that will not lock may be named; in it, the handle and its
matching far end become LIVE, or FAULTED with LOCK; without such a far end it becomes FAULTED with NO_PEER. -/
def execCircuitSettleEnd (die h : Nat) (unlocked : Option Nat) (s : State) : Out :=
  let x := s.handle die h
  if x.state ≠ .settling then .next s
  else
    let due := x.estAt.getD 0 + circSettle
    if s.tick < due then
      match unlocked with
      | none => .next s
      | some g =>
        if !x.lgroup.getLsbD g then .next s
        else
          let far := s.peerOf die h
          .next { s with timers := s.timers.map fun t => match t.2 with
            | .circuitSettleEnd d k u =>
              if t.1 = due ∧ ((d, k) = (die, h) ∨ far = some (d, k)) then (t.1, .circuitSettleEnd d k (lowestGroup u g)) else t
            | _ => t }
    else match s.peerOf die h with
      | some (d, k) =>
        if (s.handle d k).state ≠ .settling then .next (s.faultHandle die h 7 7 0x3FF)
        else match unlocked with
          | none => .next ((s.onHandle die h (·.move s.tick .live)).onHandle d k (·.move s.tick .live))
          | some g => .next ((s.faultHandle die h 1 g 0x3FF).faultHandle d k 1 g 0x3FF)
      | none => .next (s.faultHandle die h 7 7 0x3FF)

/-- R299, R306: a LIVE circuit loses light (2) or lock (3) on a group in use, or a switch region
of its path (4). -/
def execCircuitFault (die h code lgrp region : Nat) (s : State) : Out :=
  let x := s.handle die h
  let onPath := (x.path die ++ ((s.peerOf die h).map fun p => (s.handle p.1 p.2).path p.1).getD []).contains region
  let ok := x.state == .live && ((code == 4 && onPath) || ((code == 2 || code == 3) && x.lgroup.getLsbD lgrp))
  if !ok then .next s
  else
    let g := if code = 4 then 7 else lgrp
    let r := if code = 4 then region else 0x3FF
    let far := s.peerOf die h
    let s := s.faultHandle die h code g r
    match far with
    | some (d, k) => .next (if (s.handle d k).state = .live then s.faultHandle d k code g r else s)
    | none => .next s

/-- R307: the other path, or the spare group in place of the group at fault. -/
def Handle.repaired (x : Handle) : Handle :=
  if x.code = 4 then { x with route := x.route.map fun (r : Route) => { r with alt := !r.alt } }
  else { x with lgroup := (x.lgroup &&& ~~~((1 : BitVec 5) <<< wbits x.frec 8 3)) ||| 0x10, spare := true }

/-- R307: a routable fault, 64 ticks old, with no spare substitution needed twice. -/
def Handle.repairable (x : Handle) (t : Nat) : Bool :=
  x.state == .faulted && decide (1 ≤ x.code ∧ x.code ≤ 4) && (x.code == 4 || !x.spare)
    && decide (((x.hist.head?.map fun (v : Snap) => v.trans).getD 0) + 64 ≤ t)

/-- R307: re-establishment by the service core of the initiating end. -/
def execCircuitReestablish (die h : Nat) (s : State) : Out :=
  match s.peerOf die h with
  | none => .next s
  | some (d, k) =>
    if !(decide (die < d) && (s.handle die h).repairable s.tick && (s.handle d k).repairable s.tick) || s.svc.bisque then .next s
    else
      let s := (s.onHandle die h Handle.repaired).onHandle d k Handle.repaired
      match (s.handle die h).route, (s.handle d k).route with
      | some r, some q => .next ((s.settle die h r).settle d k q)
      | _, _ => .next s

/-! Sending (R308, R309) -/

/-- R308: the launch of the focus core's task holds the handle. -/
def State.holdsHandle (s : State) (h : Nat) : Bool := (s.handle (s.core.cid / 128) h).heldBy s.core.ctx.lid

/-- R308, R309 `cp.csend` starts. -/
def execCpCsend (s : State) : Out :=
  s.judge s.unit 0x50 (fun _ => true) fun e =>
    let die := s.core.cid / 128
    if !(s.holdsHandle e.handle && (s.handle die e.handle).state == .live) then s.ctx (·.faultHead e causeCircuitDark 0)
    else
      let n := e.cpBytes 0
      (s.ctx (·.begin { e with total := n } (chunks 256 n))).onHandle die e.handle fun x =>
        { x with senders := x.senders ++ [(s.core.cid, e.uid)] }

/-- R308: the lowest failing address of a window, with its cause: alignment, then the engine ranges (log 16, DEDUCED). -/
def Ctx.windowFault (c : Ctx) (e : Entry) : Option (Int × BitVec 8) :=
  let bad := (List.range e.total).filterMap fun b =>
    match e.strB.place 0 0 b with
    | none => none
    | some p =>
      if e.strB.misaligned e.strB.elemBytes e.strB.rowBytes b (.own p.addr) then some (p.addr, causeMisalign)
      else if !p.pool || !engineOk c.misc.part true p.addr then some (p.addr, causePoolBound)
      else none
  bad.foldl (fun m x => match m with
    | none => some x
    | some y => if x.1 < y.1 then some x else some y) none

/-- R411: the first watched byte of a circuit copy's block from position `b` on (log 16, DEDUCED). -/
def Ctx.circuitWatch (c : Ctx) (e : Entry) (write : Bool) : List Nat → Ctx × Option Int
  | [] => (c, none)
  | b :: r =>
    match (if write then e.strB else e.strA).place 0 0 b with
    | none => c.circuitWatch e write r
    | some p =>
      match c.watchLoc write e.uid (.own p.addr) with
      | (c, some a) => (c, some a)
      | (c, none) => c.circuitWatch e write r

/-- R310: bytes that wait in the landing buffer begin to enter the windows in tick `t`. -/
def State.startFeed (s : State) (die h t : Nat) : State :=
  let x := s.handle die h
  if x.buffer = [] ∨ x.feeding ∨ x.windows = [] then s
  else (s.onHandle die h fun x => { x with feeding := true }).fly t (CircuitUnit.blank die h 3)

/-- R308, R310 `cp.cbind` starts: its window opens. -/
def execCpCbind (s : State) : Out :=
  let die := s.core.cid / 128
  s.judge s.unit 0x51 (fun e => !s.holdsHandle e.handle || decide ((s.handle die e.handle).windows.length < 4)) fun e =>
    let e := { e with total := e.cpBytes 0 }
    if !s.holdsHandle e.handle then s.ctx (·.faultHead e causeCircuitDark 0)
    else match s.core.ctx.windowFault e with
      | some (a, cause) => s.ctx (·.faultHead e cause (addrWord a))
      | none =>
        let watched := if wbits s.core.ctx.misc.wctl 63 1 = 0 then (s.core.ctx, none)
          else s.core.ctx.circuitWatch e true (List.range e.total)
        let s := { s with core := { s.core with ctx := watched.1 } }
        match watched.2 with
        | some a => s.ctx (·.faultHead e causeWatch (addrWord a))
        | none =>
          let s := s.ctx (·.begin e 1)
          (s.onHandle die e.handle fun x => { x with windows := x.windows ++ [(s.core.cid, e.uid)] }).startFeed die e.handle s.tickAfter

/-- R309: the checks of the bytes a cycle reads: alignment, ranges, watchpoints. -/
def State.sendChecks (s : State) (e : Entry) : List Nat → Ctx → Ctx × Option (BitVec 8 × Int)
  | [], c => (c, none)
  | b :: r, c =>
    match e.strA.place 0 0 b with
    | none => s.sendChecks e r c
    | some p =>
      if e.strA.misaligned e.strA.elemBytes e.strA.rowBytes b (.own p.addr) then (c, some (causeMisalign, p.addr))
      else if !p.pool || !engineOk c.misc.part false p.addr then (c, some (causePoolBound, p.addr))
      else match (if wbits c.misc.wctl 63 1 = 0 then (c, none) else c.watchLoc false e.uid (.own p.addr)) with
        | (c, some a) => (c, some (causeWatch, a))
        | (c, none) => s.sendChecks e r c

/-- R309 steps 2 and 3: the units of a send whose first leaves in tick `ts`. -/
def State.sendUnits (s : State) (die : Nat) (r : Route) (e : Entry) (cid ts : Nat) : State :=
  let opt := wbits (s.fuses.zlt.read 0 (die * 512 + r.die)) 32 16
  (List.range e.unitCount).foldl (fun s u =>
    s.fly (ts + u / 7 + opt) { CircuitUnit.blank r.die r.fh 0 with
      bytes := (e.buf.drop (64 * u)).take 64, leaves := ts + u / 7, lands := ts + u / 7 + opt
      srcDie := die, srcH := e.handle, cid := cid, uid := e.uid, pos := e.chunk + 64 * u }) s

/-- R309: the sends of a handle take their ticks in the order of their starts, each after the last of the one before. -/
def State.assignSends (s : State) (die h : Nat) : List (Nat × Nat) → State
  | [] => s.onHandle die h fun x => { x with senders := [] }
  | (cid, uid) :: rest =>
    match s.entryOf cid uid with
    | none => s.assignSends die h rest
    | some e =>
      let x := s.handle die h
      if e.uAge = 0 then s.onHandle die h fun x => { x with senders := (cid, uid) :: rest }
      else match x.route with
        | none => s
        | some r =>
          let ts := max e.uAge x.sendFree
          let last := ts + (e.unitCount - 1) / 7
          let s := s.sendUnits die r e cid ts
          let s := s.onHandle die h fun x => { x with sendFree := last + 1 }
          (s.onEntry cid uid fun e => { e with done := true, uAge := last + 1, buf := [] }).assignSends die h rest

/-- A sender is one no longer; those behind it take their ticks from the next one on. -/
def State.dropSender (s : State) (die h cid uid : Nat) : State :=
  let left := (s.handle die h).senders.filter (· ≠ (cid, uid))
  let s := s.freeSends die h
  (s.onHandle die h fun x => { x with senders := left, sendFree := max x.sendFree (s.tick + 1) }).assignSends die h left

/-- R381: the outcome of a circuit copy: a fault of a running one traps; one captured keeps it in its record. -/
def State.portFault (s : State) (e : Entry) (frozen : Bool) (cause : BitVec 8) (tv : Word) : State :=
  if frozen then s.ctx (·.onEntry e.uid fun e => { e with fault := true, cause := cause, tval := tv })
  else s.ctx (·.faultRun e.uid cause tv)

/-- R230, R381: the completion word of a circuit copy; a captured one has then ended. -/
def State.portDone (s : State) (e : Entry) (frozen : Bool) : State :=
  if frozen then
    (s.ask ((writeAccs s.core.cid (placed s.core.ctx.misc.part e.caddr (toBytes 8 e.val1.toNat))).map (·.ofEntry s.core.cid e))).ctx
      (·.onEntry e.uid fun e => { e with late := true })
  else s.completionWrite e

/-- R309: a send has still to read bytes of its block. -/
def Entry.csendReads (e : Entry) : Bool := e.op8 == 0x50 && e.failed == [] && !e.done && decide (e.sent < e.total)

/-- R309: the locations a send reads in its next reading cycle. -/
def State.csendCells (s : State) (e : Entry) : List (Nat × Nat) :=
  if !e.csendReads then []
  else (List.range (min 256 (e.total - e.sent))).filterMap fun b =>
    match e.strA.place 0 0 (e.sent + b) with
    | some p => if engineOk s.core.ctx.misc.part false p.addr && p.pool then
        some (s.core.cid, phys s.core.ctx.misc.part p.addr.toNat) else none
    | none => none

/-- R309: one cycle of a `cp.csend`. -/
def State.csendCycle (s : State) (e : Entry) (frozen : Bool) : State :=
  let die := s.core.cid / 128
  match e.failed with
  | (_, cause, a) :: _ => s.portFault e frozen cause (BitVec.ofNat 64 a)
  | [] =>
    if e.done then
      let s := s.ctx (·.onEntry e.uid fun e => { e with landed := e.leftBefore s.core.tick })
      if e.uAge ≤ s.core.tick then s.portDone { e with landed := e.total } frozen else s
    else if e.sent < e.total then
      let bs := (List.range (min 256 (e.total - e.sent))).map (· + e.sent)
      match s.sendChecks e bs s.core.ctx with
      | (c, some (cause, a)) =>
        (({ s with core := { s.core with ctx := c } } : State).dropSender die e.handle s.core.cid e.uid).portFault e frozen cause (addrWord a)
      | (c, none) =>
        let data := bs.map fun b => match e.strA.place 0 0 b with
          | some p => s.core.poolByte p.addr.toNat
          | none => 0
        ({ s with core := { s.core with ctx := c } } : State).ctx (·.onEntry e.uid fun e =>
          { e with sent := e.sent + bs.length, buf := e.buf ++ data })
    else if e.uAge = 0 then
      let s := s.ctx (·.onEntry e.uid fun e => { e with uAge := s.tickAfter })
      s.assignSends die e.handle (s.handle die e.handle).senders
    else s

/-- R310, R211: a window whose last byte has performed: its follow-on, when it is not captured, then its completion word. -/
def State.windowEnd (s : State) (e : Entry) (frozen : Bool) : State :=
  if !e.follows then s.portDone e frozen
  else if frozen || s.core.ctx.full .mx then s
  else match s.core.ctx.followOn e s.nextId with
    | .error (cause, tv) => s.ctx (·.faultRun e.uid cause tv)
    | .ok m => (s.enqueue m).completionWrite e

/-- R310: a window takes its place behind those open; one put back by a handler waits while four are open. -/
def State.openWindow (s : State) (e : Entry) : State :=
  let die := s.core.cid / 128
  let w := (s.core.cid, e.uid)
  let x := s.handle die e.handle
  if e.total ≤ e.sent ∨ x.windows.contains w ∨ 4 ≤ x.windows.length then s
  else (s.onHandle die e.handle fun x => { x with windows := x.windows ++ [w] }).startFeed die e.handle s.tickAfter

/-- R211, R310: a window at its end whose follow-on is placed in its turn among the copies'. -/
def Entry.bound (e : Entry) : Bool := e.op8 == 0x51 && e.isPort && e.follows && !e.late && e.failed == [] && e.landed == e.total

/-- R310: one cycle of a `cp.cbind`: its fault once the bytes placed have performed, or its end. -/
def State.cbindCycle (s : State) (e : Entry) (frozen : Bool) : State :=
  match e.failed with
  | (_, cause, a) :: _ => if e.landed = e.sent then s.portFault e frozen cause (BitVec.ofNat 64 a) else s
  | [] => if e.landed = e.total then (if e.bound && !frozen then s else s.windowEnd e frozen) else s.openWindow e

/-- One cycle of a circuit copy in its port. -/
def State.portCycle (s : State) (e : Entry) (frozen : Bool) : State :=
  if e.late || (frozen && e.fault) || (!frozen && s.core.ctx.pend.any fun p => p.uid == some e.uid) then s
  else if e.op8 = 0x50 then s.csendCycle e frozen else s.cbindCycle e frozen

/-! Landing (R310) -/

/-- A window is open no longer. -/
def State.dropWindow (s : State) (die h cid uid : Nat) : State :=
  s.onHandle die h fun x => { x with windows := x.windows.filter (· ≠ (cid, uid)) }

/-- R310: bytes placed in a window perform in the first cycle of its core that begins a tick on or later. -/
def State.placeBytes (s : State) (die h cid : Nat) (e : Entry) (bs : List Byte) : State :=
  let s := s.fly (s.tick + 1) { CircuitUnit.blank die h 1 with bytes := bs, cid := cid, uid := e.uid, pos := e.sent }
  let s := s.onEntry cid e.uid fun e => { e with sent := e.sent + bs.length }
  if e.total ≤ e.sent + bs.length then s.dropWindow die h cid e.uid else s

/-- R310: bytes fill the oldest open windows in turn; those left over are answered. -/
def State.fillWindows (s : State) (die h : Nat) : Nat → List Byte → State × List Byte
  | 0, bs => (s, bs)
  | n + 1, bs =>
    if bs = [] then (s, [])
    else match (s.handle die h).windows with
      | [] => (s, bs)
      | (cid, uid) :: _ =>
        match s.entryOf cid uid with
        | none => (s.dropWindow die h cid uid).fillWindows die h n bs
        | some e =>
          let k := e.total - e.sent
          (s.placeBytes die h cid e (bs.take k)).fillWindows die h n (bs.drop k)

/-- R310: bytes that wait in the landing buffer of a port, whichever handles they came on. -/
def Die.stashed (d : Die) (port : Nat) : Nat :=
  d.handles.toList.foldl (fun n x => n + (x.buffer.filter fun b => b.1 == port && b.2.isSome).length) 0

/-- R310: bytes of a handle into its port's 64 KiB landing buffer; those beyond it are discarded and leave one gap. -/
def State.stash (s : State) (die h : Nat) (bs : List Byte) : State :=
  let port := ((s.handle die h).route.map fun (r : Route) => r.port).getD 0
  let room := 65536 - (s.die die).stashed port
  s.onHandle die h fun x =>
    let buf := x.buffer ++ (bs.take room).map fun b => (port, some b)
    { x with buffer := if room < bs.length ∧ (buf.getLast?.map fun b => b.2) ≠ some none then buf ++ [(port, none)] else buf }

/-- R310: bytes reach the port in this tick. -/
def State.deliver (s : State) (die h : Nat) (bs : List Byte) : State :=
  if (s.handle die h).buffer ≠ [] then s.stash die h bs
  else
    let (s, rest) := s.fillWindows die h 5 bs
    s.stash die h rest

/-- R310: the window a gap would have filled. -/
def Entry.gapWindow (e : Entry) : Entry :=
  { e with failed := [(e.sent, causeFabricError, (addrWord (e.circuitAddr e.sent)).toNat)] }

/-- R310: what the landing buffer gives the windows in one tick, 448 bytes at most. -/
def State.feed (s : State) (die h : Nat) : Nat → Nat → State
  | 0, _ => s
  | n + 1, left =>
    let x := s.handle die h
    match x.buffer, x.windows with
    | (_, none) :: rest, (cid, uid) :: _ =>
      let s := (s.onHandle die h fun x => { x with buffer := rest }).dropWindow die h cid uid
      (s.onEntry cid uid Entry.gapWindow).feed die h n left
    | (_, some _) :: _, _ :: _ =>
      if left = 0 then s
      else
        let bs := ((x.buffer.takeWhile (·.2.isSome)).take left).filterMap (·.2)
        let (s, rest) := s.fillWindows die h 5 bs
        let k := bs.length - rest.length
        (s.onHandle die h fun x => { x with buffer := x.buffer.drop k }).feed die h n (left - k)
    | _, _ => s

/-- R304, R310: where a core's bytes go: its flag, or its window; none when its task or its window is gone. -/
def Core.unitCells (c : Core) (u : CircuitUnit) : List (Nat × Byte) :=
  if 4 ≤ u.stage then
    (if c.ctx.held && c.ctx.lid == u.uid then placed c.ctx.misc.part (8 * u.pos) u.bytes else [])
  else match c.ctx.entry u.uid with
    | none => []
    | some e => u.bytes.zipIdx.filterMap fun b => (e.strB.place 0 0 (u.pos + b.2)).map fun (p : Place) =>
        (phys c.ctx.misc.part p.addr.toNat, b.1)

/-- R304, R310: bytes have performed at a core, in its window or its flag. -/
def State.unitPerform (s : State) (u : CircuitUnit) : State :=
  let s := { s with units := s.units.filter (·.id ≠ u.id) }
  if 4 ≤ u.stage then s
  else s.onEntry u.cid u.uid fun e =>
    { e with
      landed := e.landed + u.bytes.length
      wdata := if e.gens = [] then e.wdata else e.wdata ++ u.bytes.zipIdx.map fun b => (u.pos + b.2, b.1) }

/-- R304, R310: bytes are due at a core in its next cycle, as accesses ranked after its SQ. -/
def State.unitDue (s : State) (u : CircuitUnit) : State :=
  let s := { s with units := s.units.map fun (x : CircuitUnit) => if x.id = u.id then { x with stage := x.stage + 1 } else x }
  s.askAt u.cid u.id (.event (.circuitUnitLanding u.id)) ((writeAccs u.cid ((s.coreOf u.cid).unitCells u)).map fun a =>
    { a with rank := opticRank, uid := some u.id })

/-- R304, R309, R310: circuit bytes reach a port, are due at a core, or have performed there. -/
def execCircuitUnitLanding (id : Nat) (s : State) : Out :=
  match s.units.find? (·.id = id) with
  | none => .next s
  | some u =>
    if u.stage = 0 then .next (({ s with units := s.units.filter (·.id ≠ id) } : State).deliver u.die u.h u.bytes)
    else if u.stage = 3 then
      let s : State := { s with units := s.units.filter (·.id ≠ id) }
      let s := (s.feed u.die u.h 1024 448).onHandle u.die u.h fun x => { x with feeding := false }
      .next (s.startFeed u.die u.h (s.tick + 1))
    else if u.stage = 1 ∨ u.stage = 4 then .next (s.unitDue u)
    else .next (s.unitPerform u)

/-! The words (R312, R313) -/

/-- R312: the handle as the task reads it. -/
def State.handleSeen (s : State) (h : BitVec 5) : Snap :=
  if s.holdsHandle h.toNat then (s.handle (s.core.cid / 128) h.toNat).seen (tickSeen s.core)
  else ⟨0, 0, .dark, 0, 0, Handle.zero.frec⟩

/-- R312: STATE as a number. -/
def HandleState.num : HandleState → Nat
  | .dark => 0 | .settling => 1 | .live => 2 | .faulted => 3

/-- R312 `cstat sd, hN`. -/
def execCstat (sd h : BitVec 5) (s : State) : Out :=
  let v := s.handleSeen h
  s.scalar 1 sd (BitVec.ofNat 64 (v.trans % 2 ^ 32 * 2 ^ 32 + s.svc.bisque.toNat * 2 ^ 20 + v.far * 2 ^ 11 + v.port * 2 ^ 8 + v.state.num))

/-- R312 `cstat sd, settle`. -/
def execCstatSettle (sd : BitVec 5) (s : State) : Out := s.scalar 1 sd (BitVec.ofNat 64 circSettle)

/-- R312 `cstat sd, start`. -/
def execCstatStart (sd : BitVec 5) (s : State) : Out :=
  let lid := s.core.ctx.lid
  let stopped := s.myDie.seqs.any fun q => q.lid == lid && q.stopped
  let t0 := ((s.launchOf lid).map fun (l : Launch) => l.t0).getD 0
  s.scalar 1 sd (BitVec.ofNat 64 (stopped.toNat * 2 ^ 63 + t0 % 2 ^ 63))

/-- R312 `cstat sd, frec, hN`. -/
def execCstatFrec (sd h : BitVec 5) (s : State) : Out := s.scalar 1 sd (s.handleSeen h).frec

/-- R313 `cwait`; its limit is tested at the end of each cycle (`cwaitExpiry`). -/
def execCwait (sd sa h : BitVec 5) (s : State) : Out :=
  let w := (s.waiting .cwait).getD ⟨.cwait, s.limitOf sa, [], sd.toNat, h.toNat⟩
  let st := (s.handleSeen h).state
  if s.svc.bisque ∨ st = .faulted then .next (s.endHold sd (causeCircuitDark.zeroExtend 64))
  else if st = .live then .next (s.endHold sd 0)
  else .next (s.holdOn w)

/-- R313: the limit of a `cwait`, at the end of a cycle in which it has not ended. -/
def execCwaitExpiry (s : State) : Out :=
  match s.waiting .cwait with
  | some w =>
    match w.deadline with
    | some d => if d ≤ s.tickEnd then .next (s.endAfter w.progress 0x100) else .next s
    | none => .next s
  | none => .next s

end Sys2Proof.Machine
end

