-- ==== Sys2Proof/Machine/Control.lean ====
section
/-! DEFINITION. Branches, calls, loops and idle (04 R98 to R104, R121 to R125, R127). -/

namespace Sys2Proof.Machine

/-- R99: a control word where none may stand, whatever its guard. -/
def State.control (s : State) (f : Unit → Out) : Out := if s.misplaced s.core.ctx.sq.pc.toNat then s.illegal else f ()

/-- R99: the branch, unless its target lies outside the schedule. -/
def State.branchTo (s : State) (target : Int) (f : Nat → Out) : Out :=
  if target < 0 ∨ 8191 < target then s.wordFault causeFieldRange (BitVec.ofInt 64 target) else f target.toNat

/-- R121 `br`. -/
def execBr (g : BitVec 4) (off : BitVec 20) (s : State) : Out :=
  s.control fun _ =>
    if s.guard g then s.branchTo (sbTarget s off) fun t => .next (s.retireBranch (some t))
    else .next (s.retireBranch none)

/-- R121 `call`: s31 takes PC + 2. -/
def execCall (g : BitVec 4) (off : BitVec 20) (s : State) : Out :=
  s.control fun _ =>
    if s.guard g then
      s.branchTo (sbTarget s off) fun t => .next ((s.push 1 (.sreg 31 (linkValue s))).retireBranch (some t))
    else .next (s.retireBranch none)

/-- R122 `jr`. -/
def execJr (sd sa : BitVec 5) (g : BitVec 4) (s : State) : Out :=
  s.control fun _ =>
    if s.guard g then
      s.branchTo (s.reg sa).toNat fun t => .next ((s.push 1 (.sreg sd (linkValue s))).retireBranch (some t))
    else .next (s.retireBranch none)

/-- R101: a loop started at the word that issues. -/
def State.startLoop (s : State) (l : BitVec 2) (count : BitVec 32) (b : Nat) : Out :=
  let i := s.core.ctx.sq.pc.toNat
  if 8191 < i + b then s.wordFault causeFieldRange (BitVec.ofNat 64 (i + b))
  else
    let s := s.push 1 (.loop l (BitVec.ofNat 13 (i + 1)) (BitVec.ofNat 13 (i + b)) count (count != 0))
    .next (s.retireTo (if count = 0 then i + b + 1 else i + 1))

/-- R124 `loop`: the count is sa's low 32 bits. -/
def execLoop (l : BitVec 2) (sa : BitVec 5) (g : BitVec 4) (b : BitVec 10) (s : State) : Out :=
  s.control fun _ =>
    s.guarded g fun _ => s.startLoop l ((s.reg sa).truncate 32) (b.toNat + 1)

/-- R124 `loopi`. -/
def execLoopi (l : BitVec 2) (c : BitVec 9) (b : BitVec 10) (s : State) : Out :=
  s.control fun _ => s.startLoop l (c.zeroExtend 32) (b.toNat + 1)

/-- R125: the levels that `lbrk l` ends: `l` and every active level whose body lies within its body. -/
def brokenLevels (p : Loops) (l : Nat) : List Nat :=
  [0, 1, 2, 3].filter fun m => m == l ||
    (vat p.act false m && decide (vat p.lb 0 l ≤ vat p.lb 0 m) && decide (vat p.le 0 m ≤ vat p.le 0 l))

/-- R125 `lbrk`. -/
def execLbrk (l : BitVec 2) (g : BitVec 4) (s : State) : Out :=
  s.control fun _ =>
    let p := s.core.ctx.loops
    if s.guard g && vat p.act false l.toNat then
      s.branchTo ((vat p.le 0 l.toNat).toNat + 1 : Nat) fun t =>
        .next (((brokenLevels p l.toNat).foldl
          (fun s m => s.push 1 (.loop (BitVec.ofNat 2 m) (vat p.lb 0 m) (vat p.le 0 m) 0 false)) s).retireBranch (some t))
    else .next (s.retireBranch none)

/-- R99: the second word of a `jmpf` or `callf` may end no active loop body either. -/
def State.farJump (s : State) (f : Unit → Out) : Out :=
  s.wide fun _ => if endsLoop s.core.ctx.loops (s.core.ctx.sq.pc.toNat + 1) then s.illegal else f ()

/-- R123 `jmpf`. -/
def execJmpf (tgt : BitVec 13) (s : State) : Out := s.farJump fun _ => .next (s.retireTo tgt.toNat)

/-- R123 `callf`: the link is the index following the second word. -/
def execCallf (sd : BitVec 5) (tgt : BitVec 13) (s : State) : Out :=
  s.farJump fun _ => .next ((s.push 1 (.sreg sd (linkValue s))).retireTo tgt.toNat)

/-- R127: the cycles an idle word has still to hold after this one, from its own cycle or its hold. -/
def State.idleRest (s : State) (sa : BitVec 5) (n : BitVec 10) : Nat :=
  match s.waiting .idle with
  | some w => w.value - 1
  | none => (s.reg sa).toNat % 2 ^ 32 + n.toNat

/-- R127 `idle`: no word issues for sa[31:0] + n cycles after its own. -/
def execIdle (sa : BitVec 5) (g : BitVec 4) (n : BitVec 10) (s : State) : Out :=
  if (s.waiting .idle).isNone && !s.guard g then .next s.retire
  else
    let rest := s.idleRest sa n
    if rest = 0 then .next s.retire else .next (s.holdOn ⟨.idle, none, [], 0, rest⟩)

end Sys2Proof.Machine
end

