-- ==== Sys2Proof/Machine/Traps.lean ====
section
/-! DEFINITION. Traps and the return from them: which fault is taken, the replay queue's words, re-injection, the stop frame, and
the words `trap`, `rett`, `rqrd`, `rqwr` (17 R373 to R385; 19 R405, R406). -/

namespace Sys2Proof.Machine

/-! Which fault is taken (R374, R378) -/

/-- R378: the fault of the unit that comes first. -/
def firstFault : List Entry → Option Entry
  | [] => none
  | e :: r =>
    match firstFault r with
    | some x => if x.eng.rank < e.eng.rank then some x else some e
    | none => some e

/-- R377, R378: the trap of the engines' and the wheel's faults of the cycle before. -/
def State.faultTrap (s : State) : State :=
  let c := s.core.ctx
  match firstFault c.faults with
  | some e =>
    let i := (c.captured.takeWhile (·.uid ≠ e.uid)).length
    s.trapNext (tcause false true i e.eng.trapUnit e.cause) e.tval
  | none =>
    if c.wheel.faulted then s.trapNext (tcause false true 0x1F 7 c.wheel.cause) (BitVec.ofNat 64 c.wheel.at_)
    else s

/-! The replay queue's words (R380, R384) -/

/-- R380: the entry names a first stream in its source field, or else in its destination field. -/
def Entry.namesFirst (e : Entry) : Bool := decide (e.op8 < 0x40) || (fieldOf e.op8 2).isSome

/-- R380: a captured stream: the first named, or the second. -/
def Entry.captureOf (e : Entry) (second : Bool) : Stream :=
  if e.namesFirst then (if second then e.strB else e.strA) else if second then .zero else e.strB

/-- R380: a captured stream changed. -/
def Entry.onCapture (e : Entry) (second : Bool) (f : Stream → Stream) : Entry :=
  if e.namesFirst then (if second then { e with strB := f e.strB } else { e with strA := f e.strA })
  else if second then e else { e with strB := f e.strB }

/-- R380: cycles to the entry's next effect. -/
def Ctx.remOf (c : Ctx) (e : Entry) : Nat :=
  if !e.started || e.port then 0
  else
    let ps := match c.aside with
      | some a => a.pend.filter fun (p : Pend) => p.uid == some e.uid
      | none => []
    ((ps.map fun (p : Pend) => p.rem).min?).getD 0

/-- R232, R380: the prefix of bytes that have performed, or the next chunk. -/
def Entry.progress (e : Entry) : Nat :=
  if e.op8 = 0x50 ∨ e.op8 = 0x51 then e.landed
  else if e.eng = .mx ∨ e.eng = .vx then e.chunk
  else if e.eng = .nm then 0
  else e.prefixLen

/-- R380: word `w` of a replay entry (log 14, DESIGN CHOICE). -/
def Ctx.replayWord (c : Ctx) (e : Entry) (w : Nat) : Word :=
  let fault := e.fault || e.failed != []
  let cause := if e.fault then e.cause else match e.failed with
    | (_, k, _) :: _ => k
    | [] => 0
  if w = 0 then
    BitVec.ofNat 64 (fault.toNat * 2 ^ 63 + e.started.toNat * 2 ^ 62 + e.drop.toNat * 2 ^ 61 + e.port.toNat * 2 ^ 60
      + cause.toNat * 2 ^ 40 + e.eng.trapUnit * 2 ^ 36 + c.remOf e % 2 ^ 32)
  else if w = 1 then e.img.truncate 64
  else if w = 2 then (e.img >>> 64).truncate 64
  else if w = 3 then (if e.op8 = 5 then 0 else e.val1)
  else if w = 4 then (if e.op8 = 5 then 0 else e.val2)
  else if w < 12 then (e.captureOf false).word (w - 5)
  else if w < 19 then (e.captureOf true).word (w - 12)
  else if w = 19 then BitVec.ofNat 64 e.progress
  else if w = 20 then BitVec.ofNat 64 e.landed
  else if e.started then Config.engineState e.uid w
  else 0

/-- R384: word `w` of a replay entry written, where it may be (log 14, DESIGN CHOICE). -/
def Entry.writeWord (e : Entry) (w : Nat) (v : Word) : Entry :=
  if w = 0 then { e with drop := v.getLsbD 61 }
  else if e.started ∨ 18 < w then e
  else if w = 1 then
    { e with img := if e.eng = .vx then v.zeroExtend 128 &&& 0xFFFFFFFF else (e.img >>> 64) <<< 64 ||| v.zeroExtend 128 }
  else if w = 2 then (if e.eng = .vx then e else { e with img := (v.zeroExtend 128) <<< 64 ||| ((e.img.truncate 64).zeroExtend 128) })
  else if w = 3 then { e with val1 := v }
  else if w = 4 then { e with val2 := v }
  else if w < 12 then e.onCapture false fun q => { q with w := vput q.w (w - 5) v }
  else e.onCapture true fun q => { q with w := vput q.w (w - 12) v }

/-- R384 `rqrd`. -/
def execRqrd (sd i w : BitVec 5) (s : State) : Out :=
  let c := s.core.ctx
  s.scalar 1 sd (match c.replay[i.toNat]? with
    | some e => c.replayWord e w.toNat
    | none => 0)

/-- R384 `rqwr`: in its issue cycle. -/
def execRqwr (sa i w : BitVec 5) (s : State) : Out :=
  let v := s.reg sa
  .next (s.ctx fun c => { c with replay := c.replay.modify i.toNat (·.writeWord w.toNat v) }).retire

/-! Re-injection (R233, R385) -/

/-- R176: the register fields a class 01 word's entry uses; none for a word VX's queue does not take. -/
def vxRegs (i : Instr) : Option (List (BitVec 5)) :=
  match i with
  | .vadd vd va vb bs _ _ _ | .vsub vd va vb bs _ _ _ | .vmul vd va vb bs _ _ _ | .vfma vd va vb bs _ _ _
    | .vmin vd va vb bs _ _ _ | .vmax vd va vb bs _ _ _ | .vand vd va vb bs _ _ _ | .vor vd va vb bs _ _ _
    | .vxor vd va vb bs _ _ _ | .vandn vd va vb bs _ _ _ | .vshl vd va vb bs _ _ _ | .vshr vd va vb bs _ _ _
    | .vsra vd va vb bs _ _ _ | .vsel vd va vb bs _ _ _ | .vperm vd va vb bs _ _ _
    | .vdot2 vd va vb bs _ _ _ => some (va :: vbRegs bs vb ++ [vd])
  | .vpack vd va vb bs _ ty _ => some (va :: packRegs ty bs vb ++ [vd])
  | .vabs vd va _ _ _ | .vneg vd va _ _ _ | .vcvt vd va _ _ _ _ | .vrint vd va _ _ _ | .vrcp vd va _ _ _
    | .vrsq vd va _ _ _ | .vexp2 vd va _ _ _ | .vlog2 vd va _ _ _ | .vred vd va _ _ _ _ | .vscan vd va _ _ _ _
    | .vrot vd va _ _ _ _ | .vlane vd va _ _ _ _ | .vunpack vd va _ _ _ _ | .vmov vd va _ _ _ => some [va, vd]
  | .vcmp _ _ va vb bs _ _ _ => some (va :: vbRegs bs vb)
  | .vmovBroadcast vd _ _ _ _ | .vmpop vd _ _ _ _ | .vld vd _ _ _ _ _ | .vst vd _ _ _ _ _ => some [vd]
  | .vmlog _ _ _ _ _ => some []
  | .vgath vd _ vb _ _ _ | .vscat vd _ vb _ _ _ => some [vb, vd]
  | .tokVpop _ | .tokVpush _ => some []
  | _ => none

/-- R176, R192: the checks of a VX entry made again on the word it now holds. -/
def Ctx.recheckVx (c : Ctx) (e : Entry) : Chk Unit :=
  let p := c.misc.part
  let addr := fun (k : Access) => do
    need (e.val1.toNat % 16 == 0) causeMisalign e.val1
    need (admitsAll p k e.val1.toNat 256) causePoolBound e.val1
  match decode e.img.toNat with
  | .error _ => .error (causeFieldRange, 0)
  | .ok i =>
    match vxRegs i with
    | none => .error (causeFieldRange, 0)
    | some rs =>
      match rs.find? fun r => decide (wbits p 0 6 ≤ r.toNat) with
      | some r => .error (causePoolBound, r.zeroExtend 64)
      | none =>
        match i with
        | .vld .. => addr .engineRead
        | .vst .. => addr .engineWrite
        | _ => .ok ()

/-- R385: the checks 2 to 5 of R52 and those of R158, R161, R199, R223 made again on captured values. -/
def Ctx.recheck (c : Ctx) (e : Entry) : Chk Entry := do
  if e.eng = .vx then
    c.recheckVx e
    pure e
  else
    let img ← workingCopy e.img []
    let e := { e with img := img }
    need (opAccepted e.eng e.op8) causeTemplateUndef 0
    match e.eng with
    | .ld | .st => c.placeLdSt e
    | .mx => if e.op8 = 6 then pure () else c.placeMx e
    | .cp0 | .cp1 => c.placeCp e
    | .nm => c.placeNm e
    | .vx => pure ()
    pure e

/-- R385: an entry not yet started goes to the head of its queue, or faults. -/
def Ctx.replace (c : Ctx) (e : Entry) : Ctx :=
  match c.recheck e with
  | .ok x =>
    c.onQueue e.eng fun q =>
      { q with wait := { x with fault := false, cause := 0, tval := 0, placed := c.cyc } :: q.wait, lastS := e.prevS }
  | .error (cause, tv) => { c with faults := c.faults ++ [{ e with fault := true, cause := cause, tval := tv }] }

/-- R380, R381, R385: a dropped entry: nothing of it performs any more. -/
def State.dropEntry (s : State) (e : Entry) : State :=
  let s := s.ctx fun c => { c with
    pend := c.pend.filter fun p => p.uid != some e.uid
    banks := c.banks.filter fun a => a.uid != some e.uid
    jobs := c.jobs.filter fun j => j.uid != some e.uid }
  if !e.started then
    (if e.gatedMode ∨ e.eng = .vx then s.ctx fun c => c.onQueue e.eng fun q => { q with lastS := some c.cyc } else s)
  else if e.isPort then
    let die := s.core.cid / 128
    let unsent := s.units.filter fun u => u.stage == 0 && u.cid == s.core.cid && u.uid == e.uid && decide (s.tick ≤ u.leaves)
    let s : State := { s with units := s.units.filter fun u => !unsent.contains u }
    let s := if unsent = [] then s else s.onHandle die e.handle fun x => { x with cutShort := true }
    (s.dropSender die e.handle s.core.cid e.uid).dropWindow die e.handle s.core.cid e.uid
  else s

/-- R381: a circuit copy whose fault has been handled goes on from its prefix. -/
def State.restartPort (s : State) (e : Entry) : State :=
  let die := s.core.cid / 128
  let e := { e with sent := e.landed, chunk := e.landed, buf := [], done := false, uAge := 0, failed := [] }
  if e.op8 = 0x50 then
    if s.holdsHandle e.handle && (s.handle die e.handle).state == .live then
      (s.ctx fun c => { c with run := c.run ++ [e] }).onHandle die e.handle fun x => { x with senders := x.senders ++ [(s.core.cid, e.uid)] }
    else s.ctx fun c => { c with faults := c.faults ++ [{ e with fault := true, cause := causeCircuitDark, tval := 0 }] }
  else (s.ctx fun c => { c with run := c.run ++ [e] }).openWindow e

/-- R165, R233: what a resent `st.acc` has in hand: the group its prefix lies in, converted from the tile as it stands. -/
def State.reconvert (s : State) (e : Entry) : Entry :=
  let z := max e.strA.elemBytes 1
  let g := e.sent / z
  let e := { e with chunk := g, buf := [], val2 := (List.range g).foldl (fun seed i => (s.convertGroup e seed i).2) e.val1 }
  if e.sent % z = 0 then e
  else
    let (bs, seed) := s.convertGroup e e.val2 g
    { e with buf := bs.drop (e.sent % z), val2 := seed, chunk := g + 1 }

/-- R233, R455: an entry that sends requests resends every byte from its prefix on: a copy always, LD and ST after a failure. -/
def State.resent (s : State) (e : Entry) : Entry :=
  if (e.eng = .ld ∨ e.eng = .st ∨ e.eng = .cp0 ∨ e.eng = .cp1) ∧ e.gatedMoves s.core.cid ∧ (0x40 ≤ e.op8 ∨ e.failed ≠ []) then
    let n := e.prefixLen
    let e := { e with sent := n, landed := n, failed := [], half := [], done := false
                      stage := if e.stage = 5 then 4 else if e.op8 = 0x41 then 0 else min e.stage 2
                      out := e.out.filter fun o => decide (e.total ≤ o.2) }
    if e.op8 = 5 then s.reconvert e else e
  else { e with failed := [] }

/-- R385: a started entry resumes. -/
def State.resumeEntry (s : State) (e : Entry) : State :=
  let fault := e.fault
  let e := { e with fault := false, port := false, cause := 0, tval := 0 }
  if e.isPort ∧ fault then s.restartPort e
  else s.ctx fun c => { c with run := c.run ++ [s.resent e] }

/-- R378, R381, R385: one entry of a replay queue or a stop frame put back; `reported` is the one whose fault has been taken.
R154: an entry whose push found a full FIFO has finished. -/
def State.putBack (s : State) (reported : Option Nat) (x : Entry × Nat) : State :=
  let e := x.1
  if e.drop then s.dropEntry e
  else if !e.started then s.ctx (·.replace e)
  else if e.port ∧ e.late then s.ctx (·.signalled e.uid)
  else if e.fault ∧ reported ≠ some x.2 then s.ctx fun c => { c with faults := c.faults ++ [{ e with port := false }] }
  else if e.fault ∧ e.cause = causeTokenFull then s
  else s.resumeEntry e

/-- R385: the state set aside restored under what now runs (log 66, DEDUCED). -/
def Ctx.restore (c : Ctx) (a : Aside) : Ctx :=
  { c with
    queues := a.queues
    amends := a.amends
    wheel := { c.wheel with running := a.wheel.running, rem := a.wheel.rem, idx := a.wheel.idx, at_ := a.wheel.at_
                            start := a.wheel.start, faulted := false, cause := 0 }
    sigs := a.sigs
    mxV := a.mxV
    pend := a.pend ++ c.pend
    banks := a.banks ++ c.banks
    jobs := a.jobs ++ c.jobs
    sq := { c.sq with wait := if a.pc = c.sq.pc then a.wait else none, idleEnd := a.idleEnd } }

/-- R385, R406: entries put back in their order, then the trap of those that fault. -/
def State.reinject (s : State) (reported : Option Nat) (es : List Entry) : State :=
  (es.zipIdx.foldl (fun s x => s.putBack reported x) s).faultTrap

/-- R375, R385: the task resumes: CYC, the resume point, the set-aside state, and the replay queue. -/
def State.resume (s : State) : State :=
  let c := s.core.ctx
  let t := c.trap
  let es := c.replay
  let rqi := wbits t.cause 16 5
  let s := s.ctx fun c =>
    let bpend := wbits t.pc 31 1 == 1
    { c with
      cyc := t.cyc
      replay := []
      aside := none
      trap := { t with inh := false }
      sq := { c.sq with
        pc := BitVec.ofNat 13 (wbits t.pc 0 13), delay := bpend, second := false, pause := 0, idle := t.idleRem, wait := none
        target := if bpend then some (BitVec.ofNat 13 (wbits t.pc 16 13)) else none } }
  let s := match c.aside with
    | some a => s.ctx (·.restore a)
    | none => s
  s.reinject (if rqi = 0x1F then none else some rqi) es

/-- R385: every scalar result and access of the handler's own words has been served. -/
def Ctx.settledWords (c : Ctx) : Bool := c.pend == [] && c.banks.all fun a => c.ofPort a.uid

/-- R385 `rett`: it holds until the handler's work is done; eight cycles after the hold's last the task's word issues. -/
def execRett (s : State) : Out :=
  let hold := fun (s : State) (n : Nat) => Host.Outcome.next (s.holdOn ⟨.rett, none, [], n, 0⟩)
  match s.waiting .rett with
  | some w =>
    if 8 ≤ w.progress then .next s.resume
    else if 0 < w.progress then hold s (w.progress + 1)
    else if s.core.ctx.drainedMask 0xFF ∧ s.core.ctx.settledWords then hold s 1
    else hold s 0
  | none =>
    if !s.core.ctx.trap.inh then s.wordFault causeFieldRange 0
    else
      let s := s.ctx fun c => { c with amends := Vector.replicate 6 [] }
      if s.core.ctx.drainedMask 0xFF ∧ s.core.ctx.settledWords then hold s 1 else hold s 0

/-- R373: the codes a `trap` word may raise. -/
def trapCodes : List Nat :=
  [0x01, 0x02, 0x03, 0x04, 0x05, 0x06, 0x07, 0x08, 0x09, 0x0A, 0x10, 0x11, 0x12, 0x13, 0x14, 0x18, 0x19, 0x1A, 0x1B, 0x1C,
   0x20, 0x21, 0x24, 0x28, 0x29, 0x2A, 0x30]

/-- R383 `trap`: the trap is taken in the cycle after the word, at the word R92 selects. -/
def execTrap (sa : BitVec 5) (code : BitVec 8) (s : State) : Out :=
  if !trapCodes.contains code.toNat then s.illegal
  else .next (s.ctx fun c => { c with pendTrap := some (tcause true false 0x1F 8 code, c.regs.get sa) }).retire

/-! The stop frame (R405, R406) -/

/-- R405: a core's engines frozen into a stop frame; the sequencer keeps its place (log 64, DEDUCED). -/
def Ctx.freeze (c : Ctx) : Ctx :=
  { c with
    frame := c.captured
    run := c.run.filter (·.late)
    faults := []
    frameAside := some ⟨c.sq.pc, c.queues, c.amends, c.wheel, c.sigs, c.sq.wait, c.pend,
      c.banks.filter fun a => !c.ofPort a.uid, c.jobs.filter fun j => !c.ofPort j.uid, c.mxV, c.sq.idleEnd⟩
    banks := c.banks.filter fun a => c.ofPort a.uid
    jobs := c.jobs.filter fun j => c.ofPort j.uid
    queues := Vector.replicate 7 .empty
    amends := Vector.replicate 6 []
    wheel := { c.wheel with running := false, faulted := false, cause := 0 }
    sigs := []
    mxV := 0
    pend := [] }

/-- R405: a core stops with a REASON. -/
def Core.stop (k : Core) (reason : BitVec 3) : Core :=
  { k with ctx := k.ctx.freeze, dbg := { k.dbg with stopped := true, reason := reason, stopReq := none, stepping := false } }

/-- R288, R405, R413: one core stops; releases on their way to it are taken where it is. -/
def State.stopCore (s : State) (cid : Nat) (reason : BitVec 3) : State :=
  (s.traceHeads cid 1).onCore cid fun k => ({ k with ctx := s.takeDue cid k.ctx } : Core).stop reason

/-- R405, R408: a stop of the focus core; under ZONE its die-mates stop on the same edge, with REASON 4. -/
def State.stopHere (s : State) (reason : BitVec 3) : State :=
  let cid := s.core.cid
  let s := s.stopCore cid reason
  if !s.core.dbg.zone then s
  else ((s.others.filter fun k => k.cid / 128 == cid / 128 && k.clocked).map (·.cid)).foldl (fun s p =>
    if (s.coreOf p).ended then
      s.onCore p fun k => { k with dbg := { k.dbg with stopReq := k.dbg.stopReq.or (some 4) } }
    else s.stopCore p 4) s

/-- R406: the focus core's stop frame put back, with no delay. -/
def State.unfreeze (s : State) : State :=
  let c := s.core.ctx
  let es := c.frame
  let s := s.ctx fun c => { c with frame := [], frameAside := none }
  let s := match c.frameAside with
    | some a => s.ctx fun c =>
      -- R378: a fault of the wheel that the stop has captured is pending
      let c := c.restore a
      { c with wheel := { c.wheel with faulted := a.wheel.faulted, cause := a.wheel.cause } }
    | none => s
  let s : State := { s with core := { s.core with dbg := { s.core.dbg with stopped := false } } }
  s.reinject none es

end Sys2Proof.Machine
end

