-- ==== Sys2Proof/Machine/Power.lean ====
section
/-! DEFINITION. Power: the words `pbr` and `pack`, the level and its demand episodes, skipping, stretching and frequency,
fabric energy, cluster gating, and the margin plan (18 R390 to R402). -/

namespace Sys2Proof.Machine

/-! The level (R392 to R397) -/

/-- R396 `pbr`. -/
def execPbr (pd : BitVec 3) (lvl : BitVec 2) (s : State) : Out :=
  if pd = 0 ∨ lvl = 0 ∨ lvl = 3 then s.illegal
  else s.predicate pd (decide (lvl.toNat ≤ levelSeen s.myDie s.core.tick))

/-- R397 `pack`: the 20,000 ticks of R393 run from here (log 33, DEDUCED). -/
def execPack (sd : BitVec 5) (s : State) : Out :=
  let d := s.myDie
  let t := s.core.tick
  if levelSeen d t = 2 ∧ !d.acked then
    ((s.onDie d.num fun d => { d with acked := true, ackAt := t }).at (t + 20000) (.demandEpisodeExpiry d.num)).scalar 1 sd 1
  else s.scalar 1 sd 0

/-- R392: the level after an evaluation at a power in mW; the rise to 2 is tried first (log 19, DEDUCED). -/
def Die.levelAfter (d : Die) (mw : Nat) : Nat :=
  if d.level < 2 ∧ (64000 < mw ∨ d.fabricShare) then 2
  else if d.level = 0 then (if 57600 < mw then 1 else 0)
  else if d.level = 1 then (if mw ≤ 54400 then 0 else 1)
  else if mw ≤ 64000 ∧ !d.fabricShare then 1
  else 2

/-- R392: a new level at a tick (log 19, DEDUCED). -/
def Die.rise (d : Die) (lvl t : Nat) : Die :=
  if lvl = d.level then d else { d with level := lvl, levelWas := d.level, levelAt := t }

/-- R392: a demand episode begins. -/
def Die.beginEpisode (d : Die) (t : Nat) : Die :=
  { d with acked := false, demands := d.demands + 1, episode := some t, forced := none }

/-- R393: an episode ends; skipping forced in the same tick is not forced. -/
def Die.endEpisode (d : Die) (t : Nat) : Die :=
  match d.forced with
  | some (at_, before) =>
    if at_ = t then { d with episode := none, forced := none, skip := before, skips := d.skips - 1 }
    else { d with episode := none, forced := none }
  | none => { d with episode := none }

/-- R394: SKIP at an evaluation in which the level stays. -/
def Die.skipAfter (d : Die) (t : Nat) : Nat :=
  match d.level, d.forced with
  | 2, some (at_, _) => if at_ < t then min 12 (d.skip + 2) else d.skip
  | 0, _ => if d.levelAt + 10000 ≤ t then 0 else d.skip
  | _, _ => d.skip

/-- R392 to R394: one evaluation. -/
def execPowerEvaluation (die milliwatt : Nat) (s : State) : Out :=
  let d := s.die die
  let t := s.tick
  let lvl := d.levelAfter milliwatt
  if lvl = d.level then .next (s.onDie die fun d => { d with skip := d.skipAfter t })
  else if lvl = 2 then .next ((s.onDie die fun d => (d.rise lvl t).beginEpisode t).at (t + 10000) (.demandEpisodeExpiry die))
  else if d.level = 2 then .next (s.onDie die fun d => (d.rise lvl t).endEpisode t)
  else .next (s.onDie die fun d => d.rise lvl t)

/-- R393: the tick at which the die's episode forces skipping. -/
def Die.forceAt (d : Die) : Option Nat :=
  match d.episode, d.forced with
  | some e, none => some (if d.acked then d.ackAt + 20000 else e + 10000)
  | _, _ => none

/-- R393, R394: an episode's period runs out: SKIP starts at 4. -/
def execDemandEpisodeExpiry (die : Nat) (s : State) : Out :=
  match (s.die die).forceAt with
  | some t =>
    if t ≤ s.tick then
      .next (s.onDie die fun d => { d with forced := some (s.tick, d.skip), skip := 4, skips := d.skips + 1 })
    else .next s
  | none => .next s

/-! Clocks (R390, R391) -/

/-- R391: a detection. -/
def execDroopDetect (die : Nat) (s : State) : Out :=
  .next (s.onDie die fun d =>
    { d with
      strcnt := d.strcnt + 1
      droop := true
      stretch := if 16 < d.stretch then d.stretch else if d.stretched then 16 else 18 })

/-- R391: the detector clears. -/
def execDroopDetectorClear (die : Nat) (s : State) : Out := .next (s.onDie die fun d => { d with droop := false })

/-- R390: the frequencies the manager may set. -/
def State.clockAllowed (s : State) (d : Die) (mhz : Nat) : Bool :=
  decide (mhz % 50 = 0 ∧ 800 ≤ mhz ∧ mhz ≤ min 2000 (wbits d.margin 52 12)) && (!s.svc.bisque || decide (mhz ≤ 1200))
    && match d.changedAt with
      | some t => decide (t + 10000 ≤ s.tick)
      | none => true

/-- R390: a frequency set; what its cores' clocks have run of a tick keeps its share (log 12, DEDUCED). -/
def State.setClock (s : State) (die mhz : Nat) : State :=
  let old := max (s.die die).fmhz 1
  let scale := fun (c : Core) => if c.cid / 128 = die then { c with frac := c.frac * mhz / old } else c
  let s := s.onDie die fun d => { d with fmhz := mhz, changedAt := some s.tick }
  { s with core := scale s.core, others := s.others.map scale }

/-- R390: a change at a cycle boundary, within the manager's limits. -/
def execFrequencyChange (die mhz : Nat) (s : State) : Out :=
  if s.clockAllowed (s.die die) mhz then .next (s.setClock die mhz) else .next s

/-! Fabric energy (R398) -/

/-- R41, R398: how many steps of 50 MHz a die's share of the fabric's excess costs its clock: as many times one as its share holds the
least (log 19, DEDUCED). -/
def shareSteps (shares : List (Nat × Nat)) (die : Nat) : Nat :=
  let share := fun (n : Nat) => ((shares.filter fun x => x.1 == n).map (·.2)).sum
  let least := ((shares.map (·.2)).filter (· != 0)).min?.getD 1
  share die / least

/-- R41, R398: what the fabric and the whole module draw, in mW: when the fabric draws more than 9.6 kW, every die with a share of the excess goes to level 2 at its next evaluation; its
clock is lowered, in proportion to its share, while the module's total is above 48 kW. -/
def execFabricEnergyCheck (milliwatt : Nat × Nat) (shares : List (Nat × Nat)) (s : State) : Out :=
  let much := decide (9600000 < milliwatt.1)
  let has := fun (n : Nat) => much && shares.any fun x => x.1 == n && x.2 != 0
  let s := (shares.map (·.1)).foldl (fun s n => s.onDie n id) s
  let s : State := { s with dies := s.dies.map fun (d : Die) => { d with fabricShare := has d.num } }
  if milliwatt.2 ≤ 48000000 then .next s
  else .next ((s.dies.filter (·.fabricShare)).foldl (fun s d =>
    s.post (.frequencyChange d.num (max 800 (d.fmhz - 50 * shareSteps shares d.num)))) s)

/-! Cluster gating (R399 to R401) -/

/-- A cluster changed. -/
def State.onCluster (s : State) (die c : Nat) (f : Cluster → Cluster) : State :=
  s.onDie die fun d => { d with clusters := vmod d.clusters .zero c f }

/-- A cluster. -/
def State.cluster (s : State) (die c : Nat) : Cluster := vat (s.die die).clusters .zero c

/-- R399: CLOSING is written. It sets only when no core of the cluster holds a task or a swapped-out context (log 34, DEDUCED). -/
def execClusterClosing (die c : Nat) (value : Bool) (s : State) : Out :=
  let k := s.cluster die c
  if k.clkoff ∨ k.gating ∨ k.retained then .next s
  else if !value then .next (s.onCluster die c fun k => { k with closing := false, drained := false })
  else if k.closing then .next (s.drainCheck die c)
  else if (s.clusterCores die c).any fun x => x.ctx.held || x.bank.isSome then .next s
  else
    .next ((s.onCluster die c fun k => { k with closing := true, closedAt := s.tick, drained := false }).at (s.tick + 1)
      (.clusterClosing die c true))

/-- R399, R400: GATE (log 34, DEDUCED). -/
def execClusterGate (die c : Nat) (s : State) : Out :=
  let k := s.cluster die c
  if k.closing ∧ k.drained ∧ !k.gating ∧ !k.retained then
    .next ((s.onCluster die c fun k => { k with gating := true }).at (s.tick + 100) (.clusterGateProgress die c))
  else .next s

/-- R400: what is not retained is lost: pool, sagger bank and template stores stay. -/
def Core.loseLogic (c : Core) : Core :=
  { Core.zero c.cid with
    pool := c.pool, bank := c.bank, tick := c.tick, frac := c.frac, edge := c.edge
    ctx := { Ctx.zero with tmpls := c.ctx.tmpls } }

/-- R401: the wake sequence begins. -/
def State.startWake (s : State) (die c : Nat) : State := s.at (s.tick + 1500) (.clusterWakeProgress die c)

/-- R400: RETAINED, then CLKOFF, then RAILOFF; a wake asked for meanwhile begins then (R401). -/
def execClusterGateProgress (die c : Nat) (s : State) : Out :=
  let k := s.cluster die c
  if !k.gating then .next s
  else if !k.retained then
    .next ((s.onCluster die c fun k => { k with retained := true }).at (s.tick + 10) (.clusterGateProgress die c))
  else if !k.clkoff then
    .next ((s.onCluster die c fun k => { k with clkoff := true }).at (s.tick + 500) (.clusterGateProgress die c))
  else
    let s := (s.clusterCores die c).foldl (fun s x => s.onCore x.cid Core.loseLogic) s
    let s := s.onCluster die c fun k => { k with railoff := true, gating := false }
    .next (if k.waking then s.startWake die c else s)

/-- R401: a wake of a cluster asked for. -/
def State.wake (s : State) (die c : Nat) : State :=
  let k := s.cluster die c
  if k.waking ∨ !(k.gating ∨ k.railoff) then s
  else
    let s := s.onCluster die c fun k => { k with waking := true }
    if k.railoff then s.startWake die c else s

/-- R399, R401: WAKE. -/
def execClusterWake (die c : Nat) (s : State) : Out := .next (s.wake die c)

/-- R401: RAILOFF, then CLKOFF, then RETAINED, CLOSING and DRAINED clear. -/
def execClusterWakeProgress (die c : Nat) (s : State) : Out :=
  let k := s.cluster die c
  if !k.waking ∨ k.gating then .next s
  else if k.railoff then
    .next ((s.onCluster die c fun k => { k with railoff := false }).at (s.tick + 100) (.clusterWakeProgress die c))
  else if k.clkoff then
    .next ((s.onCluster die c fun k => { k with clkoff := false }).at (s.tick + 400) (.clusterWakeProgress die c))
  else .next (s.onCluster die c fun k => { k with retained := false, closing := false, drained := false, waking := false }).poke

/-! Margins (R402) -/

/-- R402: a new plan: MARGIN published, the clock lowered under it; below 800 MHz the die's cores are retired. -/
def execMarginReplan (die fmax vguard hours : Nat) (s : State) : Out :=
  let fmax := min fmax 2000
  let s := s.onDie die fun d =>
    { d with margin := BitVec.ofNat 64 (fmax * 2 ^ 52 + vguard % 2 ^ 12 * 2 ^ 24 + hours % 2 ^ 24) }
  if fmax < 800 then
    .next (((List.range 100).filter fun i => !s.retired (die * 128 + i)).foldl (fun s i => s.post (.coreRetire (die * 128 + i))) s)
  else if fmax < (s.die die).fmhz then
    -- R390: not before 10,000 ticks have passed since the last change
    .next (match (s.die die).changedAt with
      | some t => if s.tick < t + 10000 then s.at (t + 10000) (.frequencyChange die (fmax / 50 * 50))
        else s.post (.frequencyChange die (fmax / 50 * 50))
      | none => s.post (.frequencyChange die (fmax / 50 * 50)))
  else .next s

end Sys2Proof.Machine
end

