-- ==== Sys2Proof/Machine/Debug.lean ====
section
/-! DEFINITION. Debug: stops, resumption, steps, BKCYC, the module halt, `bkpt`, head counters and samples (19 R403 to R414),
machine checks and the retirement of cores (17 R389; 23 R453). -/

namespace Sys2Proof.Machine

/-! Stops (R404, R405, R407, R409) -/

/-- R409 `bkpt`. -/
def execBkpt (code : BitVec 12) (s : State) : Out :=
  if s.core.dbg.bkstop then
    .next ({ s with core := { s.core with dbg := { s.core.dbg with stopReq := some 2 } } } : State).retire
  else s.wordFault causeBreak (code.zeroExtend 64)

/-- R405: a stop asked for by the agent. A core whose swap runs stops after it. -/
def State.askStop (s : State) (cid : Nat) : State :=
  let k := s.coreOf cid
  if k.dbg.stopped then s
  else if k.swap ≠ 0 then s.onCore cid fun k => { k with dbg := { k.dbg with stopReq := some 0 } }
  else s.stopCore cid 0

/-- R405: STOPREQ, for the die under ZONE. -/
def execDebugStopreq (cid : Nat) (s : State) : Out :=
  let peers := if (s.coreOf cid).dbg.zone then
      ((s.core :: s.others).filter fun k => k.cid / 128 == cid / 128 && k.cid != cid && k.clocked).map (·.cid)
    else []
  .next (peers.foldl (fun s p => s.stopCore p 4) (s.askStop cid))

/-- R404: the cycle about to run is the one BKCYC names (log 48, DEDUCED). -/
def Core.atBkcyc (k : Core) : Bool :=
  k.dbg.bken && k.clocked && !k.ctx.trap.inh && k.dbg.bkcyc.toNat == k.ctx.cyc

/-- R404: BKCYC stops the core (log 48, DEDUCED). -/
def execBkcycStop (s : State) : Out := .next (if s.core.atBkcyc then s.stopHere 1 else s)

/-- R407: every core stops at this tick, and heartbeats carry HALT. -/
def execModuleHalt (s : State) : Out :=
  let s := ((s.core :: s.others).map (·.cid)).foldl (fun s c => s.askStop c) s
  .next { s with
    svc := { s.svc with halt := true }
    conn := { s.conn with halted := s.conn.halted ||| 1 <<< s.conn.modnum } }

/-! Resumption and steps (R406, R408) -/

/-- R25: the next edge of a core's zone: tick, part of the tick run, number of the edge; the core's own when it is the only one
there (log 12, DEDUCED). -/
def State.zoneClock (s : State) (cid : Nat) : Nat × Nat × Nat :=
  let k := s.coreOf cid
  match (s.core :: s.others).filter fun c => c.cid / 128 == cid / 128 && c.clocked with
  | [] => if s.tick ≤ k.tick then (k.tick, k.frac, k.edge) else (s.tick, 0, 0)
  | c :: r =>
    let b := r.foldl (fun a b => if b.tick < a.tick ∨ (b.tick = a.tick ∧ b.frac < a.frac) then b else a) c
    (b.tick, b.frac, b.edge)

/-- A core put on its zone's next edge, or the one after it. -/
def State.syncClock (s : State) (cid : Nat) (later : Bool) : State :=
  let d := s.die (cid / 128)
  let (t, f, e) := s.zoneClock cid
  s.onCore cid fun k =>
    let k := { k with tick := t, frac := f, edge := e }
    if later then
      let (t, f, e) := k.clockAfter d
      { k with tick := t, frac := f, edge := e }
    else k

/-- R407: HALT is carried until the last die has resumed. -/
def State.haltEnds (s : State) : State :=
  if (s.core :: s.others).any (·.dbg.stopped) then s
  else { s with
    svc := { s.svc with halt := false }
    conn := { s.conn with halted := s.conn.halted &&& ~~~((1 : BitVec 32) <<< s.conn.modnum) } }

/-- R406: the word at the resume point issues in the second cycle after the write. -/
def State.resumeCore (s : State) (cid : Nat) : State :=
  if !(s.coreOf cid).dbg.stopped then s
  else (((s.focus cid).syncClock cid true).unfreeze).haltEnds

/-- R406: RESUME. -/
def execDebugResume (cid : Nat) (s : State) : Out := .next (s.resumeCore cid)

/-- R408: a step begins: what is in flight is set apart from what the word will start. -/
def State.beginStep (s : State) (cid : Nat) : State :=
  if !(s.coreOf cid).dbg.stopped then s
  else
    let s := s.resumeCore cid
    let mark := s.nextId
    let s := s.fresh.onCore cid fun k =>
      { k with
        ctx := { k.ctx with pend := k.ctx.pend.map fun p => if p.uid = none then { p with uid := some mark } else p }
        dbg := { k.dbg with stepping := true, stepIssued := false, stepPc := k.ctx.sq.pc, stepCyc := 0, stepMark := mark + 1 } }
    s

/-- R408: STEP, for the die's stopped cores under ZONE. -/
def execDebugStep (cid : Nat) (s : State) : Out :=
  let peers := if (s.coreOf cid).dbg.zone then
      ((s.core :: s.others).filter fun k => k.cid / 128 == cid / 128 && k.cid != cid && k.dbg.stopped).map (·.cid)
    else []
  .next ((peers ++ [cid]).foldl (fun s c => s.beginStep c) s)

/-- R408: every effect that the stepped word started has ended (log 51, DEDUCED). -/
def State.stepOver (s : State) : Bool :=
  let k := s.core
  let c := k.ctx
  let mark := k.dbg.stepMark
  let whlgo := match decode (ibufWord k k.dbg.stepPc.toNat) with
    | .ok (.whlgo ..) => true
    | _ => false
  k.dbg.stepping && k.dbg.stepIssued && c.sq.wait.isNone && !c.sq.second
    && (c.pend.all fun p => match p.uid with
      | none => false
      | some u => decide (u < mark))
    && (c.banks.all fun a => decide (a.seq < mark)) && (c.jobs.all fun j => decide (j.id < mark))
    && (c.run.all fun e => decide (e.uid < mark) || e.late)
    && (c.queues.toList.all fun q => q.wait.all fun e => decide (e.uid < mark))
    && (s.reqs.all fun r => decide (r.id < mark) || !(r.cid == k.cid && r.lid == c.lid))
    && !(whlgo && c.wheel.running)

/-- R408, R413: a step ends, with a stop or a STEP trap. -/
def State.finishStep (s : State) : State :=
  let s := s.traceHeads s.core.cid 2
  if s.core.dbg.steptrap then
    let s : State := { s with core := { s.core with dbg := { s.core.dbg with stepping := false } } }
    s.trapNext (tcause false true 0x1F 8 causeStep) (s.core.dbg.stepPc.zeroExtend 64)
  else s.stopHere 3

/-! Head counters (R413, R414) -/

/-- R414: CLR. -/
def execPrctlClr (s : State) : Out := .next { s with core := s.core.clearHeads }

/-- R414: a sample. -/
def execSampleRecord (s : State) : Out := .next (s.traceHeads s.core.cid 5)

/-- R414: the counters after a counted cycle. -/
def Core.countHeads (k : Core) : Core :=
  { k with heads := (List.range 8).foldl (fun (h : Cells Nat) q =>
      let (cls, i) := k.ctx.headClass q
      let key := headKey q cls i
      h.write 0 key ((h.read 0 key + 1) % 2 ^ 48)) k.heads }

/-! Machine checks and retirement (R389, R453) -/

/-- R386, R389: the focus core's task ends with MACHINE_CHECK; no handler is entered. -/
def State.checkEnd (s : State) : State :=
  if !s.core.ctx.live then s
  else
    let s := s.ctx Ctx.pastIdle
    let q := s.core.ctx.sq
    (s.trapFrame (tcause false false 0x1F 8 causeMachineCheck) 0 q.pc q.target q.wait).faultEnd

/-- R389, R422: an error recorded in the service registers (log 38, DEDUCED). -/
def State.logCheck (s : State) (cid unit : Nat) : State :=
  { s with svc := { s.svc with mchk := s.svc.mchk + 1, mlog := s.svc.mlog ++ [(cid, unit, s.tick)] } }

/-- R389: an error that cannot be corrected (log 38, DEDUCED). -/
def execMachineCheck (cid : Nat) (s : State) : Out := .next ((s.logCheck cid 8).focus cid).checkEnd

/-- R453: the completion entry of a task that has ended by fault, with state RETIRED. A task that had not started never does (log 40, DEDUCED). -/
def State.entryRetired (s : State) (cid : Nat) (c : Ctx) : State :=
  match s.launchOf c.lid with
  | some l =>
    match (l.tasks.find? fun t => t.cid == cid).map Task.state with
    | some .faulted =>
      let va := l.record + taskOffset c.index
      let old := (s.vaNat l.asid va 1).getD 3
      ((s.vaTouched l.asid va 1).vaWrite l.asid va [BitVec.ofNat 8 (old / 8 * 8 + 5)]).onTask c.lid cid fun t => { t with state := .retired }
    | some .notStarted =>
      (s.recordWrite l (taskOffset c.index) (taskEntry 5 c 0 0 0 0)).onTask c.lid cid fun t => { t with state := .retired }
    | _ => s
  | none => s

/-- R274, R261: holders and members that have died: lock words orphaned, group reductions judged again. -/
def State.buryHolders (s : State) (dead : Nat → Bool) : State :=
  let s := (s.sites.map (·.num)).foldl (fun s n => s.orphan n dead) s
  ((s.sites.flatMap fun t => t.mlr.map (·.pa)).dedup).foldl (fun s pa => s.mlrCheck pa) s

/-- The focus core's two contexts exchanged. -/
def State.exchange (s : State) : State :=
  match s.core.bank with
  | some b => { s with core := { s.core with ctx := b, bank := some s.core.ctx } }
  | none => s

/-- R453: a core retired: its tasks end by fault, then the map bit, the segment bits and the entries (log 40, DEDUCED). -/
def execCoreRetire (cid : Nat) (s : State) : Out :=
  if s.retired cid then .next s
  else
    let s := (s.focus cid).checkEnd
    let s := if s.core.bank.isSome then (s.exchange.checkEnd).exchange else s
    let s : State := { s with fuses := { s.fuses with cores := s.fuses.cores ++ [coreBit cid] } }
    let s := (s.excuse (cid / 128) (cid % 128) none).buryHolders fun w => w == s.conn.modnum * 2 ^ 16 + cid
    let held := (s.core.ctx :: s.core.bank.toList).filter (·.held)
    let s := held.foldl (fun s c => s.entryRetired cid c) s
    let s := match s.launchOf s.core.ctx.lid with
      | some l => if s.core.ctx.held then s.mapWrite cid 4 l else s.mapPut cid 0 4 0
      | none => s.mapPut cid 0 4 0
    .next (held.foldl (fun s c => s.post (.launchClose c.lid)) s)

end Sys2Proof.Machine
end

