-- ==== Sys2Proof/Machine/Float.lean ====
section
/-! DEFINITION. The floating words (04 R118 to R120). -/

namespace Sys2Proof.Machine

/-- R118 `fadd`. -/
def execFadd (sd sa sb : BitVec 5) (g : BitVec 4) (p : BitVec 1) (rm : BitVec 3) (s : State) : Out :=
  s.guarded g fun _ => s.floatResult 4 sd ((floatP p).addVal (fmode s rm) (fopVal p (s.reg sa)) (fopVal p (s.reg sb)))

/-- R118 `fsub`. -/
def execFsub (sd sa sb : BitVec 5) (g : BitVec 4) (p : BitVec 1) (rm : BitVec 3) (s : State) : Out :=
  s.guarded g fun _ =>
    s.floatResult 4 sd ((floatP p).addVal (fmode s rm) (fopVal p (s.reg sa)) (fopVal p (s.reg sb)).neg)

/-- R118 `fmul`. -/
def execFmul (sd sa sb : BitVec 5) (g : BitVec 4) (p : BitVec 1) (rm : BitVec 3) (s : State) : Out :=
  s.guarded g fun _ => s.floatResult 4 sd ((floatP p).mulVal (fmode s rm) (fopVal p (s.reg sa)) (fopVal p (s.reg sb)))

/-- R118 `fdiv`. -/
def execFdiv (sd sa sb : BitVec 5) (g : BitVec 4) (p : BitVec 1) (rm : BitVec 3) (s : State) : Out :=
  s.guarded g fun _ => s.floatResult 18 sd ((floatP p).divVal (fmode s rm) (fopVal p (s.reg sa)) (fopVal p (s.reg sb)))

/-- R118 `fsqrt`. -/
def execFsqrt (sd sa : BitVec 5) (g : BitVec 4) (p : BitVec 1) (rm : BitVec 3) (s : State) : Out :=
  s.guarded g fun _ => s.floatResult 18 sd ((floatP p).sqrtVal (fmode s rm) (fopVal p (s.reg sa)))

/-- R118 `fma`: sd is the addend, read in the issue cycle. -/
def execFma (sd sa sb : BitVec 5) (g : BitVec 4) (p : BitVec 1) (rm : BitVec 3) (s : State) : Out :=
  s.guarded g fun _ =>
    s.floatResult 4 sd
      ((floatP p).fmaVal (fmode s rm) (fopVal p (s.reg sa)) (fopVal p (s.reg sb)) (fopVal p (s.reg sd)))

/-- R118: an operand's code. -/
def fopCode (p : BitVec 1) (x : Word) : Nat := if p = 1 then x.toNat % 2 ^ 32 else x.toNat

/-- R119 `fmin`. -/
def execFmin (sd sa sb : BitVec 5) (g : BitVec 4) (p : BitVec 1) (s : State) : Out :=
  s.guarded g fun _ => s.floatResult 4 sd ((floatP p).minMax false (fopCode p (s.reg sa)) (fopCode p (s.reg sb)))

/-- R119 `fmax`. -/
def execFmax (sd sa sb : BitVec 5) (g : BitVec 4) (p : BitVec 1) (s : State) : Out :=
  s.guarded g fun _ => s.floatResult 4 sd ((floatP p).minMax true (fopCode p (s.reg sa)) (fopCode p (s.reg sb)))

/-- R119 `fcmp`: the predicate and the flags have latency 4. -/
def execFcmp (pd : BitVec 3) (sa sb : BitVec 5) (g : BitVec 4) (p : BitVec 1) (cond : BitVec 3) (s : State) : Out :=
  s.guarded g fun _ =>
    let r := (floatP p).compare cond.toNat (fopCode p (s.reg sa)) (fopCode p (s.reg sb))
    .next ((s.push 4 (.pred pd r.1)).push 4 (.flags r.2)).retire

/-- R120: the mode of a conversion: stochastic, toward zero, or FRM. -/
def fcvtMode (s : State) (sto rtz : BitVec 1) : BitVec 3 :=
  if sto = 1 then 5 else if rtz = 1 then 1 else frmMode s.core.ctx.regs.frm

/-- R120: a converted code as a register holds it: integers sign-extended, the rest zero-extended. -/
def fcvtValue (dst : BitVec 4) (code : Nat) : Word :=
  if dst.toNat < 4 then BitVec.ofInt 64 (toInt (fmtBits dst.toNat) code) else BitVec.ofNat 64 code

/-- R120 `fcvt`: a draw of R85 changes SEED in the issue cycle. -/
def execFcvt (sd sa : BitVec 5) (sto : BitVec 1) (dst g : BitVec 4) (rtz : BitVec 1) (src : BitVec 4) (s : State) : Out :=
  s.guarded g fun _ =>
    let x := (s.reg sa).toNat % 2 ^ fmtBits src.toNat
    let (code, k, seed) := convert src.toNat dst.toNat (fcvtMode s sto rtz) x s.core.ctx.regs.seed
    let s := s.ctx fun c => { c with regs := { c.regs with seed := seed } }
    .next ((s.push 4 (.sreg sd (fcvtValue dst code))).push 4 (.flags k)).retire

end Sys2Proof.Machine
end

