-- ==== Sys2Proof/Machine/Launch.lean ====
section
/-! DEFINITION. Launches: submission and admission, barrier trees, what the controller loads, task start, swaps and pre-emption,
equivalence points, budgets, `kend`, and the close of a launch (16 R355 to R372). -/

namespace Sys2Proof.Machine

/-! The region (R355) -/

/-- R30, R355: the live cores of a region with their task indices. -/
def State.regionCores (s : State) (l : Launch) : List (Nat × Nat) :=
  ((List.range (l.rows * l.cols)).map fun i => (cidAt (l.col0 + i % l.cols) (l.row0 + i / l.cols), i)).filter
    fun x => !s.retired x.1

/-- R286: die columns and rows that a region covers: first and count of each. -/
def Launch.dieSpan (l : Launch) : (Nat × Nat) × (Nat × Nat) :=
  ((l.col0 / 10, (l.col0 + l.cols - 1) / 10 - l.col0 / 10 + 1), (l.row0 / 10, (l.row0 + l.rows - 1) / 10 - l.row0 / 10 + 1))

/-- The dies of a region in ascending DIE. -/
def Launch.dies (l : Launch) : List Nat :=
  let ((x, w), (y, h)) := l.dieSpan
  (List.range h).flatMap fun j => (List.range w).map fun i => 20 * (y + j) + x + i

/-- R355: the anchor die. -/
def Launch.anchor (l : Launch) : Nat := cidAt l.col0 l.row0 / 128

/-- R355: the image of a launch. -/
def State.imageOf (s : State) (l : Launch) : Option Image := s.images.find? fun i => i.asid == l.asid && i.va == l.image

/-- R355: the schedule for an extent: the first that matches it, or the only one of an image without shapes. -/
def Image.shapeFor (i : Image) (rows cols : Nat) : Option Nat :=
  match i.shapes.findIdx? fun x => x.1 == rows && x.2.1 == cols with
  | some k => some k
  | none => if !i.shaped && i.shapes.length == 1 then some 0 else none

/-- R131: P, the size of the `.pool` image rounded up to 256 B. -/
def Image.poolSize (i : Image) : Nat := (i.pool.length + 255) / 256 * 256

/-- R130, R131: the partition is within its limits and leaves room for the image. -/
def Image.partOk (i : Image) : Bool :=
  let p := i.part
  decide (p.toNat < 2 ^ 20) && decide (wbits p 0 6 ≤ 32) && decide (wbits p 6 6 ≤ 40) && decide (wbits p 12 4 ≤ 8)
    && decide (wbits p 16 4 ≤ 8)
    && decide (0x400 + i.poolSize + 0x2000 * wbits p 6 6 + 256 * wbits p 0 6 + 0x4000 * wbits p 12 4 ≤ 0x60000)

/-- R296: the handles that an image's slices name, by die. -/
def Image.handles (i : Image) : List (Nat × Nat) :=
  (i.slices.flatMap fun x => x.2.filterMap fun w =>
    match decodeSeq w.toNat with
    | .ok (.route h _ _ _ _ _) => some (x.1, h.toNat)
    | .ok (.est h) => some (x.1, h.toNat)
    | .ok (.hold h _) => some (x.1, h.toNat)
    | .ok (.tear h) => some (x.1, h.toNat)
    | _ => none).dedup

/-! Barrier segments (12 R284 to R289) -/

/-- R352: the level of a barrier id. -/
def Image.level (i : Image) (n : Nat) : Nat := i.levels.toNat / 8 ^ n % 8

/-- R286: the neighbour one step nearer a root, along dy first. -/
def stepToward (root die : Nat) : Nat :=
  if die / 20 < root / 20 then die + 20
  else if root / 20 < die / 20 then die - 20
  else if die % 20 < root % 20 then die + 1
  else if root % 20 < die % 20 then die - 1
  else die

/-- The dies passed on the way to a root, the first and the root among them. -/
def pathToward (root : Nat) : Nat → Nat → List Nat
  | 0, die => [die]
  | n + 1, die => if die = root then [die] else die :: pathToward root n (stepToward root die)

/-- R286: Manhattan distance of two dies. -/
def dieDistance (a b : Nat) : Nat :=
  let d := fun (x y : Nat) => (x - y) + (y - x)
  d (a / 20) (b / 20) + d (a % 20) (b % 20)

/-- R286: root and dies of the tree of a level-3 to level-5 barrier: the dies given, which hold participants, and those on their ways
to the root. -/
def Launch.tree (l : Launch) (level : Nat) (dies : List Nat) : Nat × List Nat :=
  let ((x, w), (y, h)) := l.dieSpan
  let root := if level = 3 then 20 * (y + (h - 1) / 2) + x + (w - 1) / 2 else 210
  (root, (dies.flatMap fun d => pathToward root 40 d).dedup)

/-- R285: the region's live cores on a die, all of them or one cluster's. -/
def State.dieMask (s : State) (l : Launch) (die : Nat) (cluster : Option Nat) : BitVec 100 :=
  (s.regionCores l).foldl (fun m x =>
    if x.1 / 128 = die ∧ (cluster == none || cluster == some (clusterOf x.1)) then m ||| (1 <<< (x.1 % 128)) else m) 0

/-- R285: the segments a launch needs for one barrier id, each with its die. -/
def State.segmentsFor (s : State) (l : Launch) (n level : Nat) : List (Nat × Segment) :=
  let seg := fun (mask : BitVec 100) =>
    ({ Segment.zero with used := true, lid := l.lid, bar := n, level := level, mask := mask } : Segment)
  if level = 0 then []
  else if level = 1 then
    l.dies.flatMap fun d => ((List.range 4).map fun c => s.dieMask l d (some c)).filterMap fun m => if m = 0 then none else some (d, seg m)
  else if level = 2 then l.dies.filterMap fun d => let m := s.dieMask l d none; if m = 0 then none else some (d, seg m)
  else
    let (root, dies) := l.tree level (l.dies.filter fun d => s.dieMask l d none != 0)
    let depth := (dies.map (dieDistance root)).foldl max 0
    dies.map fun d =>
      (d, { seg (s.dieMask l d none) with
              children := dies.filter fun x => x != root && stepToward root x == d
              parent := if d = root then none else some (stepToward root d)
              depth := depth })

/-- R285: every segment a launch needs. -/
def State.segmentPlan (s : State) (l : Launch) (i : Image) : List (Nat × Segment) :=
  (List.range (wbits i.part 16 4)).flatMap fun n => s.segmentsFor l n (i.level n)

/-- R285: free segments of a die. -/
def State.freeSegs (s : State) (die : Nat) : Nat := ((s.die die).segs.toList.filter fun (g : Segment) => !g.used).length

/-- R357: every die has the segments that a plan needs. -/
def State.segsFit (s : State) (plan : List (Nat × Segment)) : Bool :=
  plan.all fun x => decide ((plan.filter fun y => y.1 == x.1).length ≤ s.freeSegs x.1)

/-- R285: one segment allotted, the die's lowest free. -/
def State.allotSeg (s : State) (x : Nat × Segment) : State :=
  match (s.die x.1).segs.toList.findIdx? fun (g : Segment) => !g.used with
  | some i => s.onSeg x.1 i fun _ => x.2
  | none => s

/-- R285: the segment that serves a core's barrier id. -/
def State.segmentOf (s : State) (lid n cid : Nat) : Option (Nat × Segment) :=
  let bit := cid % 128
  ((s.die (cid / 128)).segs.toList.zipIdx.find? fun x =>
    x.1.used && x.1.lid == lid && x.1.bar == n && x.1.mask.getLsbD bit).map fun x => (x.2, x.1)

/-- R289: the band of a segment. -/
def Segment.band (g : Segment) : Nat :=
  if g.level = 5 then 4 else if g.level < 3 ∨ g.depth = 0 then 0 else if g.depth ≤ 2 then 1 else if g.depth ≤ 6 then 2 else 3

/-- R284: DOMAIN of a barrier id at a core. -/
def State.domainWord (s : State) (l : Launch) (i : Image) (cid n : Nat) : Word :=
  if wbits i.part 16 4 ≤ n then 0
  else if i.level n = 0 then BitVec.ofNat 64 (2 ^ 63 + wbits i.emask (8 * n) 8)
  else match s.segmentOf l.lid n cid with
    | some (k, g) => BitVec.ofNat 64 (2 ^ 63 + i.level n * 2 ^ 60 + g.band * 2 ^ 57 + k * 2 ^ 51)
    | none => 0

/-! What the controller loads (R359) -/

/-- R360: LINFO. -/
def Launch.info (l : Launch) : Word := BitVec.ofNat 64 (l.cls * 2 ^ 48 + l.job % 2 ^ 16 * 2 ^ 32 + l.lid)

/-- R360: ENERGY. -/
def Launch.energy (l : Launch) : Word := if l.budget = 0 then BitVec.allOnes 64 else BitVec.ofNat 64 l.remain

/-- R97, R366: the registers at task start. -/
def Launch.regs (l : Launch) (part : Word) : Regs :=
  let r : Regs := { Regs.zero with seed := l.seed, s := Regs.zero.s.set 30 (BitVec.ofNat 64 (spTop part)) }
  match l.resumeAt with
  | some e => l.carry.foldl (fun (r : Regs) x => { r with s := vput r.s x.1 x.2 }) { r with s := vput r.s 1 (BitVec.ofNat 64 e) }
  | none => r

/-- R365: the word index of an equivalence point in a schedule; 0x1FFF for none. -/
def Image.pointAt (i : Image) (e shape : Nat) : Nat :=
  match i.points.find? (·.1 == e) with
  | some x => x.2.2.getD shape 0x1FFF
  | none => 0x1FFF

/-- R359: the context of a task before its start. -/
def State.freshCtx (s : State) (l : Launch) (i : Image) (cid index : Nat) (part : Word) : Ctx :=
  { Ctx.zero with
    held := true
    lid := l.lid
    index := index
    asid := l.asid
    root := s.tableRoot l.asid
    sq := { Sq.zero with pc := match l.resumeAt with
      | some e => BitVec.ofNat 13 (i.pointAt e l.shape)
      | none => 0 }
    regs := l.regs part
    misc := { MiscRegs.zero with part := part, linfo := l.info, energy := l.energy }
    tmpls := Cells.writes emptyTmpl [] i.tmpls
    domain := (Vector.replicate 8 ()).eachIdx fun n _ => s.domainWord l i cid n }

/-- R129: the task information block, 64 bytes; the rest of it reads zero. -/
def State.taskInfo (s : State) (l : Launch) (cid index : Nat) : List Byte :=
  [cid, gridX cid + gridY cid * 2 ^ 16, l.col0 + l.row0 * 2 ^ 16, l.cols + l.rows * 2 ^ 16, l.shape, l.lid, index,
    s.conn.modnum].flatMap (toBytes 8)

/-- R135: PART of a task in a slice of `size` bytes. -/
def slicePart (i : Image) (size : Nat) : Word :=
  let wlo := (0x400 + i.poolSize) / 256
  BitVec.ofNat 64 (2 ^ 63 + (0x60000 - size + 256 * wlo) / 256 * 2 ^ 48 + wlo * 2 ^ 32 + i.part.toNat)

/-- R136: a launch fits a slice. -/
def Image.fits (i : Image) (size : Nat) : Bool :=
  wbits i.part 12 4 == 0 && decide (0x400 + i.poolSize + 256 * wbits i.part 0 6 + 0x2000 * wbits i.part 6 6 ≤ size)

/-- R359: the pool as loaded: fixed blocks, image, and zeros up to SBASE; in a slice, the slice's own bytes. -/
def State.loadedPool (s : State) (l : Launch) (i : Image) (k : Core) (index : Nat) (part : Word) (size : Nat) : Cells Byte :=
  let keep := fun (a : Nat) => if size = 0 then decide (sBase part ≤ a) else decide (a < 0x60000 - size)
  let ws := placed part 0x200 l.params ++ placed part 0x300 (s.taskInfo l k.cid index) ++ placed part 0x400 i.pool
  Cells.writes emptyByte (k.pool.filter fun x => keep x.1) ws

/-- The words of a schedule in an instruction buffer. -/
def ibufOf (ws : List (BitVec 32)) : Cells (BitVec 32) := Cells.writes emptyWord [] (ws.zipIdx.map fun x => (x.2, x.1))

/-- R371: the header of a completion record (log 46, DEDUCED). -/
def State.headerWrite (s : State) (l : Launch) (state reason : Nat) : State :=
  s.recordWrite l 0 (toBytes 8 (state + reason * 2 ^ 8 + l.drops % 2 ^ 32 * 2 ^ 16) ++ toBytes 8 l.lid ++ toBytes 8 (l.rows * l.cols))

/-! Submission (R357) -/

/-- R355: a launch as its record gives it, before its id. -/
def launchOfRecord (bs : List Byte) (asid minCls : Nat) (job : Option Nat) (graph : Option (Nat × Nat)) (now : Nat) : Launch :=
  let f := fun (off lo n : Nat) => ofBytes ((bs.drop off).take 8) / 2 ^ lo % 2 ^ n
  { lid := 0, die := 0, asid := asid, job := job.getD (f 16 16 16), cls := max (f 16 0 2) minCls
    budget := f 24 0 64, remain := f 24 0 64, drops := 0, seed := BitVec.ofNat 64 (f 32 0 64), record := f 40 0 57
    image := f 0 0 57, shape := 0, row0 := f 8 16 16, col0 := f 8 0 16, rows := f 8 48 16, cols := f 8 32 16
    params := bs.drop 256, submitted := now, admitted := false, t0 := 0, tasks := [], graph := graph
    resumeAt := none, carry := [], raised := none }

/-- R357: the reason for which a launch whose record has been read is refused. -/
def State.refusal (s : State) (l : Launch) : Option Nat :=
  if l.rows = 0 ∨ l.cols = 0 ∨ 200 < l.col0 + l.cols ∨ 200 < l.row0 + l.rows then some 1
  else match s.imageOf l with
    | none => some 7
    | some i =>
      if (i.shapeFor l.rows l.cols).isNone then some 1
      else if !i.partOk then some 2
      else if i.handles.any fun x => ((s.handle x.1 x.2).owner).isSome then some 3
      else if !s.segsFit (s.segmentPlan l i) then some 4
      else none

/-- R356, R357: a record submitted: a new launch, or the reason of its refusal (log 43, DEDUCED). -/
def State.submit (s : State) (asid va minCls : Nat) (job : Option Nat) (graph : Option (Nat × Nat)) : State × Except Nat Nat :=
  match s.vaAccess asid va 512 with
  | (s, none) => (s, .error 8)
  | (s, some bs) =>
    let l := launchOfRecord bs asid minCls job graph s.tick
    match s.refusal l with
    | some reason => (s.headerWrite l 3 reason, .error reason)
    | none =>
      let die := l.anchor
      let seq := (s.die die).seqNo
      let lid := die * 2 ^ 23 + seq
      let l := { l with
        lid := lid, die := die
        shape := ((s.imageOf l).bind fun i => i.shapeFor l.rows l.cols).getD 0
        tasks := (s.regionCores l).map fun x => ⟨x.1, x.2, .notStarted, none⟩ }
      let s := s.onDie die fun d => { d with seqNo := (seq + 1) % 2 ^ 23 }
      let s : State := { s with launches := s.launches ++ [l] }
      ((s.headerWrite l 0 0).poke, .ok lid)

/-- R357: the reason for which the record at a VA would be refused. -/
def State.recordRefusal (s : State) (asid va : Nat) : Option Nat :=
  match s.vaRead asid va 512 with
  | none => some 8
  | some bs => s.refusal (launchOfRecord bs asid 0 none none s.tick)

/-- R357: a record submitted to the controller of its anchor die. -/
def execLaunchSubmit (asid va minClass die : Nat) (s : State) : Out :=
  let other := (s.vaNat asid (va + 8) 4).any fun w =>
    decide (w % 2 ^ 16 < 200) && decide (w / 2 ^ 16 < 200) && cidAt (w % 2 ^ 16) (w / 2 ^ 16) / 128 != die
  if other then .next s else .next (s.submit asid va minClass none none).1

/-! Admission (R358) -/

/-- R361: the class that governs admission and pre-emption in tick `t`: one that has risen does from the next tick on. -/
def Launch.rank (l : Launch) (t : Nat) : Nat := if l.raised = some t then l.cls - 1 else l.cls

/-- R358: the admission order at tick `t`. -/
def Launch.before (t : Nat) (a b : Launch) : Bool :=
  decide (a.rank t < b.rank t) || (a.rank t == b.rank t && (decide (a.submitted < b.submitted) || (a.submitted == b.submitted && decide (a.lid < b.lid))))

/-- R358, R364: the launch waits to be admitted, or for its spilled tasks to return. -/
def State.waitsIn (s : State) (l : Launch) : Bool := !l.admitted || s.saves.any fun x => x.ctx.lid == l.lid

/-- The cores for which a waiting launch waits. -/
def State.wantedCores (s : State) (l : Launch) : List Nat :=
  if l.admitted then (s.saves.filter fun x => x.ctx.lid == l.lid).map (·.cid) else (s.regionCores l).map (·.1)

/-- A core that holds nothing. -/
def Core.free (k : Core) : Bool := !k.ctx.held && k.bank.isNone && k.swap == 0 && k.spill.isNone

/-- R297: a launch none of whose slices runs and none of whose handles is lit. -/
def State.holdsNoCircuit (s : State) (lid : Nat) : Bool :=
  s.dies.all fun d => (d.seqs.all fun q => q.lid != lid || !q.running || q.stopped)
    && d.handles.toList.all fun h => h.owner != some lid || h.state == .dark

/-- R358, R364: the core's task can be pre-empted by a launch of a class. -/
def State.canPreempt (s : State) (k : Core) (cls : Nat) : Bool :=
  k.ctx.live && k.bank.isNone && k.swap == 0 && !k.dbg.stopped && !partSlice k.ctx.misc.part
    && match s.launchOf k.ctx.lid with
      | some v => decide (cls < v.rank s.tick) && s.holdsNoCircuit v.lid
      | none => false

/-- R358: nothing that an earlier launch in the order waits for is in the way. -/
def State.noneAhead (s : State) (l : Launch) (i : Image) : Bool :=
  s.launches.all fun a =>
    !(s.waitsIn a && a.before s.tick l) ||
      (!((s.wantedCores a).any fun c => (s.wantedCores l).contains c)
        && match s.imageOf a with
          | some j => a.admitted ||
            (!(j.handles.any fun h => i.handles.contains h)
              && !((s.segmentPlan a j).any fun x => l.dies.contains x.1))
          | none => true)

/-- R358: the cores a launch wants are free, or can be freed. -/
def State.coresReady (s : State) (l : Launch) : Bool :=
  (s.wantedCores l).all fun c => let k := s.coreOf c; !s.retired c && (k.free || s.canPreempt k (l.rank s.tick))

/-! Swaps (R362) -/

/-- R288, R362: a context that leaves its core: releases on their way are taken where it is, its engines and results frozen. What
runs is captured as by a trap, beside the replay queue that a handler may have (log 64, DEDUCED). -/
def State.swapOut (s : State) (cid : Nat) (c : Ctx) : Ctx := (s.takeDue cid c).freeze

/-- R90, R359: the schedule of a launch's tasks in an instruction buffer. -/
def State.schedule (s : State) (lid : Nat) : Option (Cells (BitVec 32)) :=
  (s.launchOf lid).bind fun l => ((s.imageOf l).bind fun i => i.shapes[l.shape]?).map fun x => ibufOf x.2.2

/-- R371: a task's completion entry rewritten as PRE-EMPTED. -/
def State.entryPreempted (s : State) (cid : Nat) (c : Ctx) : State :=
  match s.launchOf c.lid with
  | some l =>
    (s.recordWrite l (taskOffset c.index) (taskEntry 4 c 0 c.sq.pc.toNat 0 0)).onTask c.lid cid fun t => { t with state := .preempted }
  | none => s

/-- R362, R424: a swap begins at a core's cycle boundary: `next` comes in with its schedule, the context that ran goes to the bank. -/
def State.beginSwap (s : State) (cid : Nat) (next : Ctx) : State :=
  let k := s.coreOf cid
  let s := if k.clocked then s else s.syncClock cid false
  let out := s.swapOut cid k.ctx
  let s := s.onCore cid fun k =>
    { k with ctx := next, bank := if out.held then some out else none, swap := 32
             ibuf := if next.held then (s.schedule next.lid).getD k.ibuf else k.ibuf }
  let s := if out.live then s.entryPreempted cid out else s
  match s.launchOf (if next.held then next.lid else out.lid) with
  | some l => s.mapWrite cid (if next.held then 1 else 2) l
  | none => s

/-- R362: the two contexts are exchanged. A swap that runs, or a stopped core, is waited for. -/
def execSaggerSwap (cid : Nat) (s : State) : Out :=
  let k := s.coreOf cid
  match k.bank with
  | none => .next s
  | some b => if k.swap ≠ 0 ∨ k.dbg.stopped then .next (s.at (s.tick + 1) (.saggerSwap cid)) else .next (s.beginSwap cid b)

/-- R294: an `align` released while its context was away restarts at once, CYC saved as C. -/
def Ctx.alignMissed (c : Ctx) (tick : Nat) : Ctx :=
  match c.sq.wait with
  | some w =>
    let b := c.bar w.value
    let d := vat c.domain 0 w.value
    if w.kind = .align ∧ (w.progress = 1 ∨ w.progress = 2) ∧ b.arr ≤ b.rel
        ∧ (domLevel d ≤ 2 ∨ b.tr + (if domBand d = 4 then 40 else 4) ≤ tick) then
      let c := (List.range b.out).foldl (fun (c : Ctx) _ => c.onBar w.value Bar.observe) c
      { c with sq := { c.sq with wait := some { w with progress := 3 } } }
    else c
  | none => c

/-- R362, R363: the swap's last cycle is over: the incoming context runs on, or waits for its start; with an empty one in place the
victim's drain wait begins. -/
def State.endSwap (s : State) : State :=
  let s := if s.core.ctx.live then (s.unfreeze).ctx (·.alignMissed s.core.tick) else s.poke
  if !s.core.ctx.held && s.core.bank.isSome then
    ({ s with core := { s.core with drain := true } } : State).post (.fullPreemption s.core.cid)
  else s

/-! Admission's acts (R358, R359, R363) -/

/-- R359: a task loaded on a free core. -/
def State.loadFree (s : State) (l : Launch) (i : Image) (x : Nat × Nat) : State :=
  let part := i.part
  let ws := ((i.shapes[l.shape]?).map (·.2.2)).getD []
  s.onCore x.1 fun k =>
    { k with ctx := s.freshCtx l i x.1 x.2 part, pool := s.loadedPool l i k x.2 part 0, ibuf := ibufOf ws }

/-- R362, R363: a victim core: the incoming task staged in its slice and the bank, or a full pre-emption. -/
def State.loadVictim (s : State) (l : Launch) (i : Image) (slice : Bool) (x : Nat × Nat) : State :=
  if !slice then s.post (.fullPreemption x.1)
  else
    let k := s.coreOf x.1
    let size := 0x4000 * wbits k.ctx.misc.part 12 4
    let part := slicePart i size
    (s.onCore x.1 fun k =>
      { k with bank := some (s.freshCtx l i x.1 x.2 part), pool := s.loadedPool l i k x.2 part size }).post (.saggerSwap x.1)

/-- R296, R301: the handles and slices of a launch. -/
def State.allotCircuits (s : State) (l : Launch) (i : Image) : State :=
  let s := i.handles.foldl (fun s x => s.onHandle x.1 x.2 fun h => { h with owner := some l.lid }) s
  i.slices.foldl (fun s x => s.onDie x.1 fun d => { d with seqs := d.seqs ++ [{ Seq.zero with store := x.2, lid := l.lid }] }) s

/-- R401: the clusters of a launch's cores are woken. -/
def State.wakeFor (s : State) (l : Launch) : State :=
  ((s.wantedCores l).map fun c => (c / 128, clusterOf c)).dedup.foldl (fun s x => s.wake x.1 x.2) s

/-- R359: every task of a launch is loaded and resident, and its clusters are in service. -/
def State.allResident (s : State) (l : Launch) : Bool :=
  (s.regionCores l).all fun x =>
    let k := s.coreOf x.1
    k.ctx.held && k.ctx.lid == l.lid && k.swap == 0 && !s.clusterShut x.1

/-- R358: a launch that still waits is tried again in the next tick (log 55, DEDUCED). -/
def State.retryAdmit (s : State) (lid : Nat) : State :=
  if s.timers.any (·.2 == .launchAdmit lid) then s else s.at (s.tick + 1) (.launchAdmit lid)

/-- R361: launches that wait are tried again in the next tick (log 55, DEDUCED). -/
def State.pokeNext (s : State) : State :=
  (s.launches.filter fun l => s.waitsIn l).foldl (fun s l => s.retryAdmit l.lid) s

/-- R361: the next debit of a launch with a budget, 10 µs on (log 65, DESIGN CHOICE). -/
def State.armDebit (s : State) (l : Launch) : State :=
  let armed := s.timers.any fun t => match t.2 with
    | .budgetDebit lid _ => lid == l.lid
    | _ => false
  if l.budget = 0 ∨ armed then s else s.at (s.tick + 10000) (.budgetDebit l.lid (Config.launchEnergy l.lid (s.tick + 10000)))

/-- R301, R359: the start barrier releases: T0, the slices' start, and word 0 of every task 4 ticks on. -/
def State.startTasks (s : State) (l : Launch) : State :=
  let t := s.tick + 1 + Config.startDelay s.nextId
  let s := s.fresh.onLaunch l.lid fun l => { l with t0 := t }
  let s : State := { s with dies := s.dies.map fun (d : Die) =>
    { d with seqs := d.seqs.map fun q => if q.lid = l.lid ∧ q.t0 = 0 then { q with t0 := t } else q } }
  let s := (s.headerWrite l 1 0).armDebit l
  let s := s.at t .sliceStart
  let cs := s.regionCores l
  if cs = [] then s.at t (.launchClose l.lid) else cs.foldl (fun s x => s.at (t + 4) (.taskStart l.lid x.1)) s

/-- R371: the entries of the region's retired cores, which receive no task (R30). -/
def State.writeRetired (s : State) (l : Launch) : State :=
  (List.range (l.rows * l.cols)).foldl (fun s i =>
    if s.retired (cidAt (l.col0 + i % l.cols) (l.row0 + i / l.cols)) then
      s.recordWrite l (taskOffset i) (taskEntry 5 .zero 0 0 0 0)
    else s) s

/-- R358: a launch is admitted. -/
def State.seatLaunch (s : State) (l : Launch) (i : Image) : State :=
  let s := s.wakeFor l
  let s := if l.resumeAt.isSome then s else s.allotCircuits l i
  let s := (s.segmentPlan l i).foldl (fun s x => s.allotSeg x) s
  let victims := (s.regionCores l).filter fun x => !(s.coreOf x.1).free
  let slice := victims.all fun x => i.fits (0x4000 * wbits (s.coreOf x.1).ctx.misc.part 12 4)
  let s := s.onLaunch l.lid fun l =>
    { l with admitted := true, tasks := (s.regionCores l).map fun x => ⟨x.1, x.2, .notStarted, none⟩ }
  let s := (s.regionCores l).foldl (fun s x =>
    if victims.contains x then s.loadVictim l i slice x else (s.loadFree l i x).mapWrite x.1 1 l) s
  (s.writeRetired l).poke

/-! The spill engine (R134, R363) -/

/-- R363: where a save block begins: at the core's home site (log 63, DESIGN CHOICE). -/
def saveBlockAt (cid : Nat) : Nat := cid / 128 * 2 ^ 36 + 128 * Config.saveBlock cid

/-- R363: where a pool byte of a save block lies: the context's part, of 16 KiB, comes first (log 63, DESIGN CHOICE). -/
def blockByte (block a : Nat) : Nat := block + 0x4000 + a

/-- R363: the pool bytes of chunk `n` below SBASE: one access of each bank. -/
def spillCells (part : Word) (n : Nat) : List Nat := (List.range (min 4096 (sBase part - 4096 * n))).map (4096 * n + ·)

/-- R134 rule 5: the spill engine asks a core's banks for the accesses of a chunk; its traffic follows every other of its tick. -/
def State.spillAsk (s : State) (cid : Nat) (lid : Option Nat) (n : Nat) (as : List BankAcc) : State :=
  (s.fresh.onCore cid fun k => { k with spill := some (lid, n) }).askAt cid s.nextId (.event (.fullPreemption cid))
    (as.map (·.arrived s.tick (2 ^ 16)))

/-- The addresses of a chunk by the sectors of its save block. -/
def chunkPieces (block : Nat) (as : List Nat) : List (List Nat) :=
  (sectorPieces (blockByte block (as.headD 0)) as.length).map fun p => (as.drop p.1).take p.2

/-- R363 step 3: a chunk's bytes in a save block. -/
def State.blockWrite (s : State) (cid block : Nat) (as : List Nat) : State :=
  let pool := (s.coreOf cid).pool
  (chunkPieces block as).foldl (fun s p => s.sectorWrite (p.map fun a => (blockByte block a, pool.read emptyByte a))) s

/-- R363: a chunk's bytes read back from a save block; a sector that cannot be corrected gives them as they lie
(log 63, DESIGN CHOICE). -/
def State.blockRead (s : State) (block : Nat) (as : List Nat) : State × List (Nat × Byte) :=
  ((chunkPieces block as).foldl (fun s p => (s.sectorRead (p.map fun a => blockByte block a)).1) s,
    as.map fun a => (a, s.devByte s.conn.modnum (blockByte block a)))

/-- R364: a chunk of a spilled task's pool on its way to its core. -/
def State.restoreChunk (s : State) (x : Saved) (n : Nat) : State :=
  let (s, ws) := s.blockRead x.block (spillCells x.ctx.misc.part n)
  s.spillAsk x.cid (some x.ctx.lid) n (writeAccs x.cid ws)

/-- R364: a spilled task returns to a core that is free, or makes it so. -/
def State.restoreSave (s : State) (x : Saved) : State :=
  if (s.coreOf x.cid).free && !s.retired x.cid then s.restoreChunk x 0 else s.post (.fullPreemption x.cid)

/-- R364: a task whose pool is back runs on by a swap. -/
def State.restored (s : State) (x : Saved) : State :=
  let s := s.onCore x.cid fun k => { k with spill := none }
  let s := { s with saves := s.saves.filter fun y => !(y.cid == x.cid && y.ctx.lid == x.ctx.lid) }
  (s.beginSwap x.cid x.ctx).onTask x.ctx.lid x.cid fun t => { t with state := .running }

/-! Other cores for a launch that is swapped out (R364) -/

/-- A number moved by `k`. -/
def moved (k : Int) (x : Nat) : Nat := ((x : Int) + k).toNat

/-- A segment on a die `k` further on, what it names of other dies moved alike. -/
def Segment.moved (k : Int) (g : Segment) : Segment :=
  let core := Machine.moved (128 * k)
  let die := Machine.moved k
  let phase := fun (r : PhaseRec) => { r with deltas := r.deltas.map fun x => (x.1, core x.2.1, x.2.2) }
  { g with
    children := g.children.map die
    parent := g.parent.map die
    reports := g.reports.map fun r => (r.1, die r.2)
    deltas := g.deltas.map fun x => (x.1, core x.2.1, x.2.2)
    totals := g.totals.map fun x => (x.1, core x.2.1, x.2.2)
    phases := g.phases.map phase }

/-- R285: a launch's segments are free again. -/
def State.freeSegments (s : State) (lid : Nat) : State :=
  { s with dies := s.dies.map fun (d : Die) =>
      { d with segs := d.segs.each fun g => if g.used && g.lid == lid then Segment.zero else g } }

/-- The segments of a launch, by die. -/
def State.segmentsHeld (s : State) (lid : Nat) : List (Nat × Segment) :=
  s.dies.flatMap fun d => (d.segs.toList.filter fun g => g.used && g.lid == lid).map fun g => (d.num, g)

/-- How many dies on a region's origin lies. -/
def Launch.dieShift (l : Launch) (col row : Nat) : Int :=
  20 * ((row : Int) / 10 - (l.row0 : Int) / 10) + ((col : Int) / 10 - (l.col0 : Int) / 10)

/-- R364: the controller may seat the launch at another origin: every task is swapped out, the origin lies alike on its dies, the
cores are free, and nothing of the launch is tied to where it was (log 63, DESIGN CHOICE). -/
def State.movable (s : State) (l : Launch) (i : Image) (col row : Nat) : Bool :=
  let k := l.dieShift col row
  let mine := s.saves.filter fun x => x.ctx.lid == l.lid
  let segs := s.segmentsHeld l.lid
  (l.tasks.all fun t => t.state == .ended || (t.point.isNone && mine.any fun x => x.cid == t.cid))
    && (col != l.col0 || row != l.row0) && col % 10 == l.col0 % 10 && row % 10 == l.row0 % 10
    && decide (col + l.cols ≤ 200) && decide (row + l.rows ≤ 200)
    && i.handles == [] && (List.range (wbits i.part 16 4)).all (fun n => decide (i.level n ≤ 3))
    && (mine.all fun x => x.ctx.groups.toList.all (·.state != .opened) && x.ctx.binds.toList.all (!·.held)
      && (s.coreOf (moved (128 * k) x.cid)).free && !s.retired (moved (128 * k) x.cid))
    && s.segsFit (segs.map fun x => (moved k x.1, x.2))
    && (s.timers.all fun t => match t.2 with
      | .barrierReport d g _ | .barrierRelease d g _ => ((s.die d).seg g).lid != l.lid
      | _ => true)

/-- R364: the launch and its tasks at another origin. -/
def State.moveLaunch (s : State) (l : Launch) (i : Image) (col row : Nat) : State :=
  let k := l.dieShift col row
  let core := moved (128 * k)
  let segs := (s.segmentsHeld l.lid).map fun x => (moved k x.1, x.2.moved k)
  let m := { l with col0 := col, row0 := row, tasks := l.tasks.map fun t => { t with cid := core t.cid } }
  let s := (segs.foldl (fun s x => s.allotSeg x) (s.freeSegments l.lid)).onLaunch l.lid fun _ => m
  { s with saves := s.saves.map fun x =>
      if x.ctx.lid ≠ l.lid then x
      else { x with cid := core x.cid
                    ctx := { x.ctx with domain := x.ctx.domain.eachIdx fun n _ => s.domainWord m i (core x.cid) n } } }

/-- R358, R359, R364: a waiting launch is tried: admitted, its spilled tasks returned, or its start barrier released. -/
def execLaunchAdmit (lid : Nat) (s : State) : Out :=
  match s.launchOf lid with
  | none => .next s
  | some l =>
    match s.imageOf l with
    | none => .next s
    | some i =>
      if !l.admitted then
        let free := i.handles.all fun x => let o := (s.handle x.1 x.2).owner; o == none || o == some lid
        if free && s.coresReady l && s.segsFit (s.segmentPlan l i) && s.noneAhead l i then .next (s.seatLaunch l i) else .next (s.retryAdmit lid)
      else if l.t0 = 0 then (if s.allResident l then .next (s.startTasks l) else .next s)
      else
        let out := s.saves.filter fun x => x.ctx.lid == lid
        let (col, row) := Config.regionPick s.nextId l.col0 l.row0
        if !out.isEmpty && s.movable l i col row && s.noneAhead l i then
          let s := s.moveLaunch l i col row
          .next ((s.saves.filter fun x => x.ctx.lid == lid).foldl (fun s x => s.restoreSave x) s)
        else if l.tasks.all (fun t => t.point.isNone) && !out.isEmpty && s.coresReady l && s.noneAhead l i then
          .next (out.foldl (fun s x => s.restoreSave x) s)
        else if out.isEmpty then .next s
        else .next (s.retryAdmit lid)

/-- R359: a task's first word issues in the first cycle of its zone that begins now or later. -/
def execTaskStart (lid cid : Nat) (s : State) : Out :=
  let k := s.coreOf cid
  if k.ctx.held && k.ctx.lid == lid && !k.ctx.live && (s.launchOf lid).any (fun l =>
      l.tasks.any fun t => t.cid == cid && t.state == .notStarted) then
    let s := (s.syncClock cid false).onCore cid fun k => { k with ctx := { k.ctx with live := true } }
    let s := s.onTask lid cid fun t => { t with state := .running }
    .next (if (s.coreOf cid).atBkcyc then (s.focus cid).stopHere 1 else s)
  else .next s

/-! Full pre-emption (R363) -/

/-- R363: the incoming task of a core whose victim has been spilled. -/
def State.incoming (s : State) (cid : Nat) : Option (Launch × Nat) :=
  (s.launches.filter fun l => l.admitted && l.t0 == 0).findSome? fun l =>
    ((s.regionCores l).find? (·.1 == cid)).map fun x => (l, x.2)

/-- R363: no request of the victim is incomplete and no operation for it is queued. -/
def State.quietVictim (s : State) (cid lid : Nat) : Bool :=
  (s.reqs.all fun r => !(r.cid == cid && r.lid == lid))
    && (s.coreOf cid).inbound.all fun op => op.lid != lid || op.late

/-- R363 step 3: the victim's context in its save block, its pool's last chunk written. -/
def State.spill (s : State) (cid : Nat) (b : Ctx) : State :=
  { s.onCore cid fun k => { k with bank := none, drain := false, spill := none } with
    saves := s.saves ++ [⟨cid, b, saveBlockAt cid⟩] }

/-- R363 step 4: what comes in after a spill: the incoming task, or a spilled one that may return. -/
def State.afterSpill (s : State) (cid : Nat) : State :=
  match s.incoming cid with
  | some (l, index) =>
    match s.imageOf l with
    | some i =>
      let s := s.loadFree l i (cid, index)
      let next := (s.coreOf cid).ctx
      (s.onCore cid fun k => { k with ctx := Ctx.zero }).beginSwap cid next
    | none => s
  | none => s.poke

/-- R134, R363: the accesses of a chunk have been served: its bytes go to the save block, or are in the pool, and the next follow. -/
def State.spillOn (s : State) (cid : Nat) (lid : Option Nat) (n : Nat) : State :=
  match lid with
  | none =>
    match (s.coreOf cid).bank with
    | none => s.onCore cid fun k => { k with drain := false, spill := none }
    | some b =>
      let s := s.blockWrite cid (saveBlockAt cid) (spillCells b.misc.part n)
      let next := spillCells b.misc.part (n + 1)
      if next = [] then (s.spill cid b).afterSpill cid else s.spillAsk cid none (n + 1) (readAccs cid next)
  | some j =>
    match s.saves.find? fun x => x.cid == cid && x.ctx.lid == j with
    | none => s.onCore cid fun k => { k with spill := none }
    | some x => if spillCells x.ctx.misc.part (n + 1) = [] then s.restored x else s.restoreChunk x (n + 1)

/-- R363: a full pre-emption: the victim is swapped out, drained, spilled and replaced. A launch that holds circuits is waited for
(R297). -/
def execFullPreemption (cid : Nat) (s : State) : Out :=
  let k := s.coreOf cid
  if k.jobs.any fun j => j.what == .event (.fullPreemption cid) then .next s
  else match k.spill with
  | some (lid, n) => .next (s.spillOn cid lid n)
  | none =>
    if k.swap ≠ 0 ∨ k.dbg.stopped then .next (s.at (s.tick + 1) (.fullPreemption cid))
    else if k.drain then
      match k.bank with
      | some b =>
        if s.quietVictim cid b.lid then .next (s.spillAsk cid none 0 (readAccs cid (spillCells b.misc.part 0)))
        else .next (s.at (s.tick + 1) (.fullPreemption cid))
      | none => .next (s.onCore cid fun k => { k with drain := false })
    else if k.ctx.live && k.bank.isNone then
      if s.holdsNoCircuit k.ctx.lid then .next (s.beginSwap cid Ctx.zero) else .next (s.at (s.tick + 1) (.fullPreemption cid))
    else if k.free then .next (s.afterSpill cid)
    else .next s

/-! Equivalence points (R365, R366) -/

/-- R365: the equivalence point at which the core is quiescent (log 39, DEDUCED). -/
def State.atPoint (s : State) (cid : Nat) : Option Nat :=
  let c := (s.coreOf cid).ctx
  let quiet := c.live && c.drainedMask 0xFF && c.pend == [] && c.banks == [] && c.ackc.toList.all (· == 0)
    && c.groups.toList.all (·.state != .opened) && c.binds.toList.all (!·.held)
    && c.sq.wait.isNone && !c.sq.second && !c.sq.overrun && c.sq.pause == 0 && c.sq.idle == 0
  if !quiet then none
  else match s.launchOf c.lid with
    | none => none
    | some l => (s.imageOf l).bind fun i =>
      ((i.points.find? fun x => x.2.2.getD l.shape 0x1FFF == c.sq.pc.toNat && c.sq.pc.toNat != 0x1FFF).map (·.1))

/-- R365: every task of the launch runs or is swapped out. -/
def Launch.stoppable (l : Launch) : Bool := l.tasks.all fun t => t.state == .running || t.state == .preempted

/-- R365: a task stops at its next equivalence point, in the cycle in which it is quiescent there (log 39, DEDUCED). -/
def execEquivalenceStop (cid : Nat) (s : State) : Out :=
  let k := s.coreOf cid
  match s.launchOf k.ctx.lid with
  | none => .next s
  | some l =>
    if !k.ctx.live || k.swap != 0 || k.dbg.stopped || k.bank.isSome || !(k.equiv || l.stoppable) then .next s
    else if !s.holdsNoCircuit l.lid then .next (s.onCore cid fun k => { k with equiv := true })
    else match s.atPoint cid with
      | none => .next (s.onCore cid fun k => { k with equiv := true })
      | some e =>
        .next (((s.onTask l.lid cid fun t => { t with point := some e }).beginSwap cid Ctx.zero).onCore cid fun k =>
          { k with equiv := false })

/-- R366: the registers carried from task index 0. -/
def State.carried (s : State) (l : Launch) (i : Image) (e : Nat) : List (Nat × Word) :=
  let mask := ((i.points.find? (·.1 == e)).map (·.2.1)).getD 0
  match s.saves.find? fun x => x.ctx.lid == l.lid && x.ctx.index == 0 with
  | some x => ((List.range 14).filter fun j => mask.getLsbD j).map fun j => (16 + j, vat x.ctx.regs.s 0 (16 + j))
  | none => []

/-- R366: a launch whose tasks all stopped at one point resumes on a shape, at an origin of the controller's choice (log 63, DESIGN CHOICE);
stopped elsewhere, only on its own. -/
def execMigrationResume (lid shape point : Nat) (s : State) : Out :=
  match s.launchOf lid with
  | none => .next s
  | some l =>
    match s.imageOf l with
    | none => .next s
    | some i =>
      let out := l.tasks.all fun t => s.saves.any fun x => x.cid == t.cid && x.ctx.lid == lid
      let same := l.tasks.all fun t => t.point == some point
      let (rows, cols) := ((i.shapes[shape]?).map fun x => if i.shaped then (x.1, x.2.1) else (l.rows, l.cols)).getD (0, 0)
      let (col, row) := Config.regionPick s.nextId l.col0 l.row0
      let (col, row) := if col + cols ≤ 200 ∧ row + rows ≤ 200 then (col, row) else (l.col0, l.row0)
      if !out then .next s
      else if same && i.pointAt point shape != 0x1FFF && decide (0 < rows * cols) && decide (col + cols ≤ 200)
          && decide (row + rows ≤ 200) then
        let carry := s.carried l i point
        let s : State := { s.freeSegments lid with saves := s.saves.filter fun x => x.ctx.lid != lid }
        let m := { l with rows := rows, cols := cols, shape := shape, col0 := col, row0 := row }
        let tasks := (s.regionCores m).map fun x => (⟨x.1, x.2, .notStarted, none⟩ : Task)
        let s := s.onLaunch lid fun l =>
          { l with rows := rows, cols := cols, shape := shape, col0 := col, row0 := row, tasks := tasks, admitted := false, t0 := 0
                   resumeAt := some point, carry := carry }
        .next s.poke
      else if shape = l.shape then
        .next ((s.onLaunch lid fun l => { l with tasks := l.tasks.map fun t => { t with point := none } }).poke)
      else .next s

/-! Budgets (R361) -/

/-- Every context of a launch, wherever it is. -/
def State.onContexts (s : State) (lid : Nat) (f : Ctx → Ctx) : State :=
  let g := fun (k : Core) => k.onCtx lid f
  { s with
    core := g s.core
    others := s.others.map g
    saves := s.saves.map fun x => if x.ctx.lid = lid then { x with ctx := f x.ctx } else x }

/-- R361: a debit of one launch; each exhaustion adds 1 to the record's DROPS, and a class that rises governs from the next tick
(log 46, DEDUCED) (log 65, DESIGN CHOICE). -/
def execBudgetDebit (lid cones : Nat) (s : State) : Out :=
  match s.launchOf lid with
  | none => .next s
  | some l =>
    if l.budget = 0 then .next s
    else
      let l := { l with remain := l.remain - cones }
      let out := l.remain = 0
      let rises := decide (l.cls < 3)
      let l := if out then
          { l with remain := l.budget, cls := min 3 (l.cls + 1), drops := l.drops + 1, raised := if rises then some s.tick else l.raised }
        else l
      let s := s.onLaunch lid fun _ => l
      let s := if out then s.headerWrite l (if l.t0 = 0 then 0 else 1) 0 else s
      let s := s.onContexts lid fun c => { c with misc := { c.misc with linfo := l.info, energy := l.energy } }
      .next ((if out ∧ rises then s.pokeNext else s).armDebit l)

/-! The end of a task and of a launch (R370 to R372) -/

/-- R364: a core that its task has left: a pre-empted context returns by a swap, an incoming task is loaded, or the core is
free. -/
def State.vacate (s : State) (cid : Nat) : State :=
  match (s.coreOf cid).bank with
  | some b =>
    let s := (s.onCore cid fun k => { k with ctx := Ctx.zero }).beginSwap cid b
    if b.live then s.onTask b.lid cid fun t => { t with state := .running } else s
  | none =>
    let s := s.onCore cid fun k => { k with ctx := Ctx.zero }
    if (s.incoming cid).isSome then s.post (.fullPreemption cid) else s.poke

/-- R338: groups that the controller still aborts. -/
def Ctx.aborting (c : Ctx) : Bool := c.groups.toList.any fun g => g.result == ctrlWaits || g.result == ctrlSent

/-- R370: the task has ended: its entry, its segments, its core. The core's cycle is over (log 32, DEDUCED). -/
def State.endTask (s : State) (exit : Word) : State :=
  let c := s.core.ctx
  let cid := s.core.cid
  let s := match s.launchOf c.lid with
    | some l => s.recordWrite l (taskOffset c.index) (taskEntry 2 c 0 0 exit 0)
    | none => s
  let s := s.onTask c.lid cid fun t => { t with state := .ended }
  let s := s.excuse (cid / 128) (cid % 128) (some c.lid)
  let (t, f, e) := s.clockNext
  let s : State := { s with core := { s.core with tick := t, frac := f, edge := e }, phase := .issue, judged := [] }
  (s.vacate cid).at (s.tick + 1) (.launchClose c.lid)

/-- R370: a `kend` in progress: 0 draining, 1 its groups aborted. -/
def State.kendOn (s : State) (w : Wait) : Out :=
  let c := s.core.ctx
  if w.progress = 0 then
    if c.drainedMask 0xFF && c.ackc.toList.all (· == 0) then
      let s := (s.ctx (·.abortOpen)).ctrlAborts s.core.cid c.lid
      if s.core.ctx.aborting then .next (s.holdOn { w with progress := 1 }) else .next (s.endTask (BitVec.ofNat 64 w.value))
    else .next (s.holdOn w)
  else if c.aborting then .next (s.holdOn w)
  else .next (s.endTask (BitVec.ofNat 64 w.value))

/-- R370 `kend`. -/
def execKend (sa : BitVec 5) (s : State) : Out :=
  s.kendOn ((s.waiting .kend).getD ⟨.kend, none, [], 0, (s.reg sa).toNat⟩)

/-- R371: a region die's word: its slice stopped, word index, reason. -/
def State.dieEntry (s : State) (lid die : Nat) : List Byte :=
  match (s.die die).seqs.find? (·.lid == lid) with
  | some q => if q.stopped then toBytes 8 (2 ^ 63 + q.pc % 2 ^ 12 * 2 ^ 32 + q.reason) else toBytes 8 0
  | none => toBytes 8 0

/-- R296: a launch's handles torn and freed, its slices gone. -/
def State.freeCircuits (s : State) (lid : Nat) : State :=
  let mine := s.dies.flatMap fun d => (d.handles.toList.zipIdx.filter fun h => h.1.heldBy lid).map fun h => (d.num, h.2)
  mine.foldl (fun s x => s.freeHandle x.1 x.2) s

/-- R372, R424: a core released by a launch that has closed: its context goes, its map entry returns to free. -/
def State.releaseCore (s : State) (l : Launch) (cid : Nat) : State :=
  let k := s.coreOf cid
  let s := if k.ctx.held && k.ctx.lid == l.lid then s.vacate cid
    else s.onCore cid fun k => { k with bank := k.bank.filter fun b => b.lid != l.lid }
  let pa := s.svc.compmap + 16 * coreBit cid
  match s.homeNat pa 4 with
  | (s, some n) => if n = l.lid ∧ !s.retired cid then s.mapPut cid 0 0 0 else s
  | (s, none) => s

/-- R372: every task has ended. -/
def Launch.over (l : Launch) : Bool := l.admitted && l.tasks.all fun t => t.state == .ended || t.state == .faulted || t.state == .retired

/-- R372: a launch closes: handles torn, segments freed, die words and header written, cores released. A group that the
controller still aborts is waited for (R338). -/
def execLaunchClose (lid : Nat) (s : State) : Out :=
  match s.launchOf lid with
  | none => .next s
  | some l =>
    if !l.over then .next s
    else
      let s := (s.freeCircuits lid).freeSegments lid
      if l.tasks.any fun t => ((s.coreOf t.cid).ctxOf lid).any (·.aborting) then .next (s.at (s.tick + 1) (.launchClose lid))
      else
        let s := s.recordWrite l (taskOffset (l.rows * l.cols)) (l.dies.flatMap fun d => s.dieEntry lid d)
        let s := s.headerWrite l 2 0
        let s : State := { s with
          launches := s.launches.filter fun x => x.lid != lid
          dies := s.dies.map fun (d : Die) => { d with seqs := d.seqs.filter fun q => q.lid != lid } }
        let s := l.tasks.foldl (fun s t => s.releaseCore l t.cid) s
        let s := match l.graph with
          | some (g, n) => s.post (.graphNodeComplete g n)
          | none => s
        .next s.poke

end Sys2Proof.Machine
end

