-- ==== Sys2Proof/Machine/Graph.lean ====
section
/-! DEFINITION. Kernel graphs and the word `launch` (16 R367 to R369). -/

namespace Sys2Proof.Machine

/-! Nodes (R367) -/

/-- R367: the eight words of a node. -/
def State.nodeWords (s : State) (g : Graph) (n : Nat) : Option (List Nat) :=
  (s.vaRead g.asid (g.va + 64 + 64 * n) 64).map fun bs => (List.range 8).map fun i => ofBytes ((bs.drop (8 * i)).take 8)

/-- KIND. -/
def nodeKind (w : List Nat) : Nat := w.getD 0 0 % 16
/-- DEPS. -/
def nodeDeps (w : List Nat) : Nat := w.getD 0 0 / 256 % 256
/-- SUCCi. -/
def nodeSucc (w : List Nat) (i : Nat) : Nat := w.getD 1 0 / 2 ^ (16 * i) % 2 ^ 16
/-- A loop's first body node. -/
def nodeFirst (w : List Nat) : Nat := w.getD 3 0 % 2 ^ 16
/-- A loop's last body node. -/
def nodeLast (w : List Nat) : Nat := w.getD 3 0 / 2 ^ 16 % 2 ^ 16
/-- Those of SUCC0 to SUCC3 that name a node. -/
def nodeSuccs (w : List Nat) : List Nat := ((List.range 4).map (nodeSucc w)).filter (· != 0xFFFF)

/-- R367, R368: a node's fields are within their limits. -/
def nodeOk (count : Nat) (w : List Nat) : Bool :=
  let kind := nodeKind w
  decide (kind ≤ 5) && decide (w.getD 0 0 / 2 ^ 16 = 0) && decide (w.getD 0 0 / 16 % 16 = 0)
    && (nodeSuccs w).all (fun n => decide (n < count)) && (w.drop 5).all (· == 0)
    && (kind != 1 || decide (w.getD 4 0 < 2 ^ 40))
    && (kind != 3 || (nodeSucc w 2 == 0xFFFF && nodeSucc w 3 == 0xFFFF))
    && (kind != 4 || (decide (w.getD 3 0 < 2 ^ 32) && decide (nodeFirst w ≤ nodeLast w) && decide (nodeLast w < count)))

/-- A graph by number. -/
def State.graphOf (s : State) (gid : Nat) : Option Graph := s.graphs.find? (·.gid == gid)

/-- A node's run state. -/
def Graph.node (g : Graph) (n : Nat) : NodeState := (g.nodes.find? (·.node == n)).getD ⟨n, 0, false, false, none⟩

/-- A node's run state changed. -/
def State.onNode (s : State) (gid n : Nat) (f : NodeState → NodeState) : State :=
  { s with graphs := s.graphs.map fun (g : Graph) =>
      if g.gid = gid then { g with nodes := g.nodes.map fun x => if x.node = n then f x else x } else g }

/-- The loop nodes of a graph with their words. -/
def State.loopsOf (s : State) (g : Graph) : List (Nat × List Nat) :=
  (List.range g.count).filterMap fun n => (s.nodeWords g n).bind fun w => if nodeKind w = 4 then some (n, w) else none

/-- The loops whose body holds a node. -/
def State.around (s : State) (g : Graph) (n : Nat) : List (Nat × List Nat) :=
  (s.loopsOf g).filter fun x => decide (nodeFirst x.2 ≤ n) && decide (n ≤ nodeLast x.2)

/-- R368: a loop nests at most 8 deep, and its body's successors lie in it. -/
def State.loopOk (s : State) (g : Graph) (n : Nat) (w : List Nat) : Bool :=
  decide ((s.around g n).length < 8) &&
    (List.range (nodeLast w + 1 - nodeFirst w)).all fun i =>
      ((s.nodeWords g (nodeFirst w + i)).map nodeSuccs).any fun (ss : List Nat) =>
        ss.all fun x => decide (nodeFirst w ≤ x) && decide (x ≤ nodeLast w)

/-- R357: why a node cannot be made ready: 8 unreadable, 5 outside its limits, 6 busy. -/
def State.nodeRefusal (s : State) (g : Graph) (n : Nat) : Option Nat :=
  if g.count ≤ n then some 5
  else match s.nodeWords g n with
    | none => some 8
    | some w =>
      if !nodeOk g.count w || (nodeKind w == 4 && !s.loopOk g n w) then some 5
      else if (g.node n).ready || (g.node n).running || (s.around g n).any (fun x => !(g.node x.1).running) then some 6
      else none

/-- R357: why a node cannot be made ready: the first of the conditions in their order, for a kernel node its record's among them. -/
def State.readyRefusal (s : State) (g : Graph) (n : Nat) : Option Nat :=
  let record := match s.nodeWords g n with
    | some w => if n < g.count ∧ nodeKind w = 0 then s.recordRefusal g.asid (w.getD 2 0) else none
    | none => none
  ((s.nodeRefusal g n).toList ++ record.toList).min?

/-! Running a graph (R368) -/

/-- R368: a graph ends: its completion word, and the graph is gone (log 20, DEDUCED). -/
def State.endGraph (s : State) (gid word : Nat) : State :=
  match s.graphOf gid with
  | some g => { s.vaWrite g.asid g.done (toBytes 8 (2 ^ 63 + word)) with graphs := s.graphs.filter (·.gid != gid) }
  | none => s

/-- R368: a refusal ends the graph with the cause, the reason and the node (log 20, DEDUCED). -/
def State.refuseNode (s : State) (gid n reason : Nat) : State :=
  s.endGraph gid (causeLaunchRefused.toNat + reason * 2 ^ 8 + n * 2 ^ 16)

/-- What happens to a ready node of a kind. -/
def nodeEvent (kind : Nat) : Instr :=
  match kind with
  | 0 => .graphKernelNode
  | 1 => .graphCopyNode
  | 2 => .graphBarrierNode
  | 3 => .graphCondNode
  | 4 => .graphLoopNode
  | _ => .graphEndNode

/-- R368: a node becomes ready. -/
def State.readyNode (s : State) (gid n : Nat) : State :=
  match s.graphOf gid with
  | none => s
  | some g =>
    match s.readyRefusal g n with
    | some reason => s.refuseNode gid n reason
    | none => ((s.vaTouched g.asid (g.va + 64 + 64 * n) 64).onNode gid n fun x => { x with ready := true }).post (nodeEvent (((s.nodeWords g n).map nodeKind).getD 5))

/-- R368: a predecessor of a node has completed. -/
def State.releaseNode (s : State) (gid n : Nat) : State :=
  match s.graphOf gid with
  | none => s
  | some g =>
    let k := (g.node n).count
    let s := s.onNode gid n fun x => { x with count := k - 1 }
    if k = 1 then s.readyNode gid n else s

/-- R368: an iteration of a loop begins. -/
def State.iterate (s : State) (gid : Nat) (w : List Nat) : State :=
  match s.graphOf gid with
  | none => s
  | some g =>
    let s := (List.range (nodeLast w + 1 - nodeFirst w)).foldl (fun s i =>
      let n := nodeFirst w + i
      s.onNode gid n fun x => { x with count := ((s.nodeWords g n).map nodeDeps).getD 0 }) s
    s.readyNode gid (nodeFirst w)

/-- R368: the innermost loop that runs and whose body a node closes ends an iteration. -/
def State.closeIteration (s : State) (gid n : Nat) : State :=
  match s.graphOf gid with
  | none => s
  | some g =>
    let ls := (s.around g n).filter fun x => nodeLast x.2 == n && (g.node x.1).running
    match ls.foldl (fun (a : Option (Nat × List Nat)) x =>
        match a with
        | some y => if nodeFirst y.2 < nodeFirst x.2 then some x else a
        | none => some x) none with
    | none => s
    | some (l, w) =>
      let left := ((g.node l).left.getD 1) - 1
      let s := s.onNode gid l fun x => { x with left := some left }
      if left = 0 then s.post (.graphNodeComplete gid l) else s.iterate gid w

/-- R368: a node has completed: the successors given are released, and a loop's iteration may end. -/
def State.completeNode (s : State) (gid n : Nat) (succs : List Nat) : State :=
  let s := s.onNode gid n fun x => { x with ready := false, running := false, left := none }
  (succs.foldl (fun s x => s.releaseNode gid x) s).closeIteration gid n

/-- R368: a running node completes. -/
def execGraphNodeComplete (gid node : Nat) (s : State) : Out :=
  match s.graphOf gid with
  | none => .next s
  | some g =>
    if (g.node node).running then .next (s.completeNode gid node (((s.nodeWords g node).map nodeSuccs).getD [])) else .next s

/-- The first node of a kind that is ready, or that runs where `going` is asked for: graph, node, words. -/
def State.firstNode (s : State) (kind : Nat) (going : Bool) : Option (Nat × Nat × List Nat) :=
  s.graphs.findSome? fun g => g.nodes.findSome? fun x =>
    if x.ready || (going && x.running) then
      (s.nodeWords g x.node).bind fun w => if nodeKind w = kind then some (g.gid, x.node, w) else none
    else none

/-- A ready node begins to run. -/
def NodeState.begin (x : NodeState) (left : Option Nat) : NodeState := { x with ready := false, running := true, left := left }

/-- R368 kernel: its record is submitted. -/
def execGraphKernelNode (s : State) : Out :=
  match s.firstNode 0 false with
  | none => .next s
  | some (gid, n, w) =>
    match s.submit (((s.graphOf gid).map (·.asid)).getD 0) (w.getD 2 0) 0 none (some (gid, n)) with
    | (s, .ok _) => .next (s.onNode gid n (·.begin none))
    | (s, .error reason) => .next (s.refuseNode gid n reason)

/-- R368 copy: bytes copied in the graph's address space, a piece within one sector on each side at a time; it completes with
its last byte. -/
def execGraphCopyNode (s : State) : Out :=
  match s.firstNode 1 true with
  | none => .next s
  | some (gid, n, w) =>
    match s.graphOf gid with
    | none => .next s
    | some g =>
      let done := (g.node n).left.getD 0
      let src := w.getD 2 0 + done
      let dst := w.getD 3 0 + done
      let len := min (w.getD 4 0 - done) (min (128 - src % 128) (128 - dst % 128))
      let (s, bs) := s.vaAccess g.asid src len
      match bs, (s.walk (s.tableRoot g.asid) g.asid dst permW true).2 with
      | some bs, .ok _ =>
        let s := s.vaWrite g.asid dst bs
        if done + len = w.getD 4 0 then .next ((s.onNode gid n (·.begin none)).completeNode gid n (nodeSuccs w))
        else
          let s := s.onNode gid n (·.begin (some (done + len)))
          .next (s.fresh.at (s.tick + 1 + Config.homeDelay s.nextId) .graphCopyNode)
      | _, _ => .next (s.refuseNode gid n 8)

/-- R368 barrier. -/
def execGraphBarrierNode (s : State) : Out :=
  match s.firstNode 2 false with
  | none => .next s
  | some (gid, n, w) => .next (s.completeNode gid n (nodeSuccs w))

/-- R368 cond: one successor is released. -/
def execGraphCondNode (s : State) : Out :=
  match s.firstNode 3 false with
  | none => .next s
  | some (gid, n, w) =>
    let asid := ((s.graphOf gid).map (·.asid)).getD 0
    let v := s.vaNat asid (w.getD 2 0) 8
    let s := s.vaTouched asid (w.getD 2 0) 8
    match v with
    | none => .next (s.refuseNode gid n 8)
    | some v => .next (s.completeNode gid n ([nodeSucc w (if v = 0 then 1 else 0)].filter (· != 0xFFFF)))

/-- R368 loop: the body runs N times. -/
def execGraphLoopNode (s : State) : Out :=
  match s.firstNode 4 false with
  | none => .next s
  | some (gid, n, w) =>
    let asid := ((s.graphOf gid).map (·.asid)).getD 0
    let k := s.vaNat asid (w.getD 2 0) 8
    let s := s.vaTouched asid (w.getD 2 0) 8
    match k with
    | none => .next (s.refuseNode gid n 8)
    | some 0 => .next (s.completeNode gid n (nodeSuccs w))
    | some k => .next ((s.onNode gid n (·.begin (some k))).iterate gid w)

/-- R368 end: the graph completes. -/
def execGraphEndNode (s : State) : Out :=
  match s.firstNode 5 false with
  | none => .next s
  | some (gid, _, _) => .next (s.endGraph gid 0)

/-- R367, R421: a graph begins with its entry node, or is refused. -/
def State.startGraph (s : State) (asid va : Nat) : State × Option Nat :=
  match s.vaNat asid va 8, s.vaNat asid (va + 8) 8 with
  | some h, some done =>
    let count := h % 2 ^ 16
    let entry := h / 2 ^ 16 % 2 ^ 16
    let die := h / 2 ^ 32 % 2 ^ 9
    if va % 64 ≠ 0 ∨ count = 0 ∨ count ≤ entry ∨ 400 ≤ die ∨ 2 ^ 41 ≤ h then (s, some 5)
    else
      let g : Graph := ⟨s.nextId, asid, va, count, done, []⟩
      let ws := (List.range count).map fun n => (n, s.nodeWords g n)
      if ws.any fun x => x.2.isNone then (s, some 8)
      else
        let g := { g with nodes := ws.map fun x => ⟨x.1, (x.2.map nodeDeps).getD 0, false, false, none⟩ }
        match s.nodeRefusal g entry with
        | some reason => (s, some (if reason = 6 then 5 else reason))
        | none => (({ (s.vaTouched asid va (64 + 64 * count)).fresh with graphs := s.graphs ++ [g] } : State).readyNode g.gid entry, none)
  | _, _ => (s, some 8)

/-! The word `launch` (R369) -/

/-- R369 `launch`. -/
def execLaunch (sa : BitVec 5) (addr : BitVec 15) (s : State) : Out :=
  s.wide fun _ =>
    let a := 16 * addr.toNat
    let c := s.core.ctx
    if !admitsAll c.misc.part .remote a 16 then s.wordFault causePoolBound (BitVec.ofNat 64 a)
    else
      let v := match s.waiting .full with
        | some w => w.value
        | none => (s.reg sa).toNat
      if 8 ≤ s.core.outstanding Ctx.launches ∨ !c.ackRoom then .next (s.holdOn ⟨.full, none, [], 0, v⟩)
      else
        let s := s.ctx fun c => { c with launches := c.launches + 1 }
        .next (s.sendReq { c.blankReq s.core.cid (.launch v a) with
          module := s.conn.modnum, scope := 1, job := ((s.launchOf c.lid).map (·.job)).getD 0 }).retireWide

/-- R369: the request's status and id (log 45, DEDUCED). -/
def State.launchReply (s : State) (id : Nat) (x : Except Nat Nat) : State :=
  match x with
  | .ok lid => s.answerWith id 0 (toBytes 8 lid) 0
  | .error reason => s.answerWith id causeLaunchRefused (toBytes 8 (Config.noLaunchId id).toNat) (BitVec.ofNat 64 (reason * 2 ^ 8))

/-- R369: the node a task's request names, made ready at once, whatever its count; a kernel node's record is submitted at the greater
class. A node of another kind gives no launch, and what is written as its id is open (log 45, DEDUCED). -/
def State.launchNode (s : State) (r : Req) (l : Launch) (gid va : Nat) : State × Except Nat Nat :=
  match s.graphOf gid with
  | none => (s, .error 5)
  | some g =>
    let n := (va - g.va - 64) / 64
    if va < g.va + 64 ∨ (va - g.va) % 64 ≠ 0 then (s, .error 5)
    else match s.readyRefusal g n, s.nodeWords g n with
      | some reason, _ => (s, .error reason)
      | none, none => (s, .error 8)
      | none, some w =>
        if nodeKind w ≠ 0 then (s.fresh.readyNode gid n, .ok (Config.noLaunchId s.nextId).toNat)
        else match s.submit r.asid (w.getD 2 0) l.cls (some l.job) (some (gid, n)) with
          | (s, .ok lid) => (s.onNode gid n (·.begin none), .ok lid)
          | (s, .error reason) => (s.refuseNode gid n reason, .error reason)

/-- R369: the anchor controller takes a request. -/
def execLaunchRequestAccept (id : Nat) (s : State) : Out :=
  match s.req id with
  | none => .next s
  | some r =>
    match r.kind with
    | .launch va _ =>
      match s.launchOf r.lid with
      | none => .next (s.launchReply id (.error 5))
      | some l =>
        let (s, x) := match l.graph with
          | none => s.submit r.asid va l.cls (some l.job) none
          | some (gid, _) => s.launchNode r l gid va
        .next (s.launchReply id x)
    | _ => .next s

end Sys2Proof.Machine
end

