-- ==== Sys2Proof/Machine/Scalar.lean ====
section
/-! DEFINITION. The integer, predicate and constant words (04 R109 to R117). -/

namespace Sys2Proof.Machine

/-- R109 `add`. -/
def execAdd (sd sa sb : BitVec 5) (g : BitVec 4) (u : BitVec 2) (s : State) : Out :=
  s.guarded g fun _ => s.scalar 1 sd (addBy u (s.reg sa) (s.reg sb))

/-- R109 `sub`. -/
def execSub (sd sa sb : BitVec 5) (g : BitVec 4) (u : BitVec 2) (s : State) : Out :=
  s.guarded g fun _ => s.scalar 1 sd (subBy u (s.reg sa) (s.reg sb))

/-- R109 `mul`. -/
def execMul (sd sa sb : BitVec 5) (g : BitVec 4) (u : BitVec 1) (s : State) : Out :=
  s.guarded g fun _ => s.scalar 3 sd (mulBy u (s.reg sa) (s.reg sb))

/-- R109 `mulh`. -/
def execMulh (sd sa sb : BitVec 5) (g : BitVec 4) (u : BitVec 2) (s : State) : Out :=
  s.guarded g fun _ => s.scalar 3 sd (mulhBy u (s.reg sa) (s.reg sb))

/-- R110 `div`. -/
def execDiv (sd sa sb : BitVec 5) (g : BitVec 4) (u : BitVec 1) (s : State) : Out :=
  s.guarded g fun _ => s.scalar 18 sd (divRem u (s.reg sa) (s.reg sb)).1

/-- R110 `rem`. -/
def execRem (sd sa sb : BitVec 5) (g : BitVec 4) (u : BitVec 1) (s : State) : Out :=
  s.guarded g fun _ => s.scalar 18 sd (divRem u (s.reg sa) (s.reg sb)).2

/-- R109 `and`. -/
def execAnd (sd sa sb : BitVec 5) (g : BitVec 4) (s : State) : Out :=
  s.guarded g fun _ => s.scalar 1 sd (s.reg sa &&& s.reg sb)

/-- R109 `or`. -/
def execOr (sd sa sb : BitVec 5) (g : BitVec 4) (s : State) : Out :=
  s.guarded g fun _ => s.scalar 1 sd (s.reg sa ||| s.reg sb)

/-- R109 `xor`. -/
def execXor (sd sa sb : BitVec 5) (g : BitVec 4) (s : State) : Out :=
  s.guarded g fun _ => s.scalar 1 sd (s.reg sa ^^^ s.reg sb)

/-- R109 `shl`. -/
def execShl (sd sa sb : BitVec 5) (g : BitVec 4) (u : BitVec 1) (s : State) : Out :=
  s.guarded g fun _ => s.scalar 1 sd (shlBy (u == 1) (s.reg sa) (s.reg sb).toNat)

/-- R109 `shr`. -/
def execShr (sd sa sb : BitVec 5) (g : BitVec 4) (u : BitVec 1) (s : State) : Out :=
  s.guarded g fun _ => s.scalar 1 sd (shrBy (u == 1) (s.reg sa) (s.reg sb).toNat)

/-- R109 `sra`. -/
def execSra (sd sa sb : BitVec 5) (g : BitVec 4) (u : BitVec 1) (s : State) : Out :=
  s.guarded g fun _ => s.scalar 1 sd (sraBy (u == 1) (s.reg sa) (s.reg sb).toNat)

/-- R109 `min`. -/
def execMin (sd sa sb : BitVec 5) (g : BitVec 4) (u : BitVec 1) (s : State) : Out :=
  s.guarded g fun _ => s.scalar 1 sd (pickBy u false (s.reg sa) (s.reg sb))

/-- R109 `max`. -/
def execMax (sd sa sb : BitVec 5) (g : BitVec 4) (u : BitVec 1) (s : State) : Out :=
  s.guarded g fun _ => s.scalar 1 sd (pickBy u true (s.reg sa) (s.reg sb))

/-- R109 `clz`. -/
def execClz (sd sa : BitVec 5) (g : BitVec 4) (u : BitVec 1) (s : State) : Out :=
  s.guarded g fun _ => s.scalar 1 sd (BitVec.ofNat 64 (leading (s.reg sa).toNat (widthBy u)))

/-- R109 `popc`. -/
def execPopc (sd sa : BitVec 5) (g : BitVec 4) (u : BitVec 1) (s : State) : Out :=
  s.guarded g fun _ => s.scalar 1 sd (BitVec.ofNat 64 (ones (s.reg sa).toNat (widthBy u)))

/-- R111 `sel`. -/
def execSel (sd sa sb : BitVec 5) (g : BitVec 4) (n : BitVec 3) (s : State) : Out :=
  s.guarded g fun _ => s.scalar 1 sd (if s.core.ctx.regs.getP n then s.reg sa else s.reg sb)

/-- R112 `cmp`. -/
def execCmp (pd : BitVec 3) (sa sb : BitVec 5) (g : BitVec 4) (w : BitVec 1) (cond : BitVec 3) (s : State) : Out :=
  s.guarded g fun _ => s.predicate pd (cmpBy cond w (s.reg sa) (s.reg sb))

/-- R113 `plog`. -/
def execPlog (pd pa pb : BitVec 3) (g : BitVec 4) (op : BitVec 5) (s : State) : Out :=
  s.guarded g fun _ => s.predicate pd (plogBy op (s.core.ctx.regs.getP pa) (s.core.ctx.regs.getP pb))

/-- R114 `addi`. -/
def execAddi (sd sa : BitVec 5) (g : BitVec 4) (imm : BitVec 10) (s : State) : Out :=
  s.guarded g fun _ => s.scalar 1 sd (s.reg sa + simm imm)

/-- R114 `andi`. -/
def execAndi (sd sa : BitVec 5) (g : BitVec 4) (imm : BitVec 10) (s : State) : Out :=
  s.guarded g fun _ => s.scalar 1 sd (s.reg sa &&& simm imm)

/-- R114 `ori`. -/
def execOri (sd sa : BitVec 5) (g : BitVec 4) (imm : BitVec 10) (s : State) : Out :=
  s.guarded g fun _ => s.scalar 1 sd (s.reg sa ||| zimm imm)

/-- R114 `xori`. -/
def execXori (sd sa : BitVec 5) (g : BitVec 4) (imm : BitVec 10) (s : State) : Out :=
  s.guarded g fun _ => s.scalar 1 sd (s.reg sa ^^^ zimm imm)

/-- R114 `shli`. -/
def execShli (sd sa : BitVec 5) (g : BitVec 4) (w : BitVec 1) (amt : BitVec 6) (s : State) : Out :=
  s.guarded g fun _ => s.scalar 1 sd (shlBy (w == 1) (s.reg sa) amt.toNat)

/-- R114 `shri`. -/
def execShri (sd sa : BitVec 5) (g : BitVec 4) (w : BitVec 1) (amt : BitVec 6) (s : State) : Out :=
  s.guarded g fun _ => s.scalar 1 sd (shrBy (w == 1) (s.reg sa) amt.toNat)

/-- R114 `srai`. -/
def execSrai (sd sa : BitVec 5) (g : BitVec 4) (w : BitVec 1) (amt : BitVec 6) (s : State) : Out :=
  s.guarded g fun _ => s.scalar 1 sd (sraBy (w == 1) (s.reg sa) amt.toNat)

/-- R115 `cmpi`. -/
def execCmpi (cond : BitVec 2) (pd : BitVec 3) (sa : BitVec 5) (g : BitVec 4) (imm : BitVec 10) (s : State) : Out :=
  s.guarded g fun _ => s.predicate pd (cmpiBy cond (s.reg sa) (simm imm))

/-- R116 `lhi`. -/
def execLhi (sd : BitVec 5) (imm : BitVec 19) (s : State) : Out :=
  s.scalar 1 sd (simm (imm ++ (0 : BitVec 10)))

/-- R117: what the second word of `li` writes. -/
def liValue (old : Word) (h : BitVec 1) (hi : BitVec 16) (lo : BitVec 32) : Word :=
  if h = 0 then simm (hi ++ lo) else lo ++ old.truncate 32

/-- R117 `li`: sd is read and written in the second word's cycle. -/
def execLi (sd : BitVec 5) (h : BitVec 1) (hi : BitVec 16) (lo : BitVec 32) (s : State) : Out :=
  s.wide fun _ => .next (s.push 1 (.sreg sd (liValue (s.reg sd) h hi lo))).retireWide

end Sys2Proof.Machine
end

