-- ==== Sys2Proof/Machine/Crypto.lean ====
section
/-! DEFINITION. The published algorithms of boot and attestation: SHA-256 and SHA-384 (FIPS 180-4), ECDSA over P-384 (FIPS 186-5), and
LMS with LMS_SHA256_M24_H20 and LMOTS_SHA256_N24_W4 (RFC 8554, NIST SP 800-208), as 00 R14 and 20 R429 to R431 name them. -/

namespace Sys2Proof.Machine

/-! SHA-2 (FIPS 180-4) -/

/-- FIPS 180-4, 4.2.3: the round constants of SHA-384. -/
def sha512K : List Nat :=
  [0x428A2F98D728AE22, 0x7137449123EF65CD, 0xB5C0FBCFEC4D3B2F, 0xE9B5DBA58189DBBC,
    0x3956C25BF348B538, 0x59F111F1B605D019, 0x923F82A4AF194F9B, 0xAB1C5ED5DA6D8118,
    0xD807AA98A3030242, 0x12835B0145706FBE, 0x243185BE4EE4B28C, 0x550C7DC3D5FFB4E2,
    0x72BE5D74F27B896F, 0x80DEB1FE3B1696B1, 0x9BDC06A725C71235, 0xC19BF174CF692694]
  ++ [0xE49B69C19EF14AD2, 0xEFBE4786384F25E3, 0x0FC19DC68B8CD5B5, 0x240CA1CC77AC9C65,
    0x2DE92C6F592B0275, 0x4A7484AA6EA6E483, 0x5CB0A9DCBD41FBD4, 0x76F988DA831153B5,
    0x983E5152EE66DFAB, 0xA831C66D2DB43210, 0xB00327C898FB213F, 0xBF597FC7BEEF0EE4,
    0xC6E00BF33DA88FC2, 0xD5A79147930AA725, 0x06CA6351E003826F, 0x142929670A0E6E70]
  ++ [0x27B70A8546D22FFC, 0x2E1B21385C26C926, 0x4D2C6DFC5AC42AED, 0x53380D139D95B3DF,
    0x650A73548BAF63DE, 0x766A0ABB3C77B2A8, 0x81C2C92E47EDAEE6, 0x92722C851482353B,
    0xA2BFE8A14CF10364, 0xA81A664BBC423001, 0xC24B8B70D0F89791, 0xC76C51A30654BE30,
    0xD192E819D6EF5218, 0xD69906245565A910, 0xF40E35855771202A, 0x106AA07032BBD1B8]
  ++ [0x19A4C116B8D2D0C8, 0x1E376C085141AB53, 0x2748774CDF8EEB99, 0x34B0BCB5E19B48A8,
    0x391C0CB3C5C95A63, 0x4ED8AA4AE3418ACB, 0x5B9CCA4F7763E373, 0x682E6FF3D6B2B8A3,
    0x748F82EE5DEFB2FC, 0x78A5636F43172F60, 0x84C87814A1F0AB72, 0x8CC702081A6439EC,
    0x90BEFFFA23631E28, 0xA4506CEBDE82BDE9, 0xBEF9A3F7B2C67915, 0xC67178F2E372532B]
  ++ [0xCA273ECEEA26619C, 0xD186B8C721C0C207, 0xEADA7DD6CDE0EB1E, 0xF57D4F7FEE6ED178,
    0x06F067AA72176FBA, 0x0A637DC5A2C898A6, 0x113F9804BEF90DAE, 0x1B710B35131C471B,
    0x28DB77F523047D84, 0x32CAAB7B40C72493, 0x3C9EBE0A15C9BEBC, 0x431D67C49C100D4C,
    0x4CC5D4BECB3E42B6, 0x597F299CFC657E2A, 0x5FCB6FAB3AD6FAEC, 0x6C44198C4A475817]

/-- FIPS 180-4, 4.2.2: the round constants of SHA-256. -/
def sha256K : List Nat :=
  [0x428A2F98, 0x71374491, 0xB5C0FBCF, 0xE9B5DBA5, 0x3956C25B, 0x59F111F1, 0x923F82A4, 0xAB1C5ED5,
    0xD807AA98, 0x12835B01, 0x243185BE, 0x550C7DC3, 0x72BE5D74, 0x80DEB1FE, 0x9BDC06A7, 0xC19BF174]
  ++ [0xE49B69C1, 0xEFBE4786, 0x0FC19DC6, 0x240CA1CC, 0x2DE92C6F, 0x4A7484AA, 0x5CB0A9DC, 0x76F988DA,
    0x983E5152, 0xA831C66D, 0xB00327C8, 0xBF597FC7, 0xC6E00BF3, 0xD5A79147, 0x06CA6351, 0x14292967]
  ++ [0x27B70A85, 0x2E1B2138, 0x4D2C6DFC, 0x53380D13, 0x650A7354, 0x766A0ABB, 0x81C2C92E, 0x92722C85,
    0xA2BFE8A1, 0xA81A664B, 0xC24B8B70, 0xC76C51A3, 0xD192E819, 0xD6990624, 0xF40E3585, 0x106AA070]
  ++ [0x19A4C116, 0x1E376C08, 0x2748774C, 0x34B0BCB5, 0x391C0CB3, 0x4ED8AA4A, 0x5B9CCA4F, 0x682E6FF3,
    0x748F82EE, 0x78A5636F, 0x84C87814, 0x8CC70208, 0x90BEFFFA, 0xA4506CEB, 0xBEF9A3F7, 0xC67178F2]

/-- FIPS 180-4, 5.3.4: the initial hash value of SHA-384. -/
def sha384Start : List Nat :=
  [0xCBBB9D5DC1059ED8, 0x629A292A367CD507, 0x9159015A3070DD17, 0x152FECD8F70E5939,
    0x67332667FFC00B31, 0x8EB44A8768581511, 0xDB0C2E0D64F98FA7, 0x47B5481DBEFA4FA4]

/-- FIPS 180-4, 5.3.3: the initial hash value of SHA-256. -/
def sha256Start : List Nat :=
  [0x6A09E667, 0xBB67AE85, 0x3C6EF372, 0xA54FF53A, 0x510E527F, 0x9B05688C, 0x1F83D9AB, 0x5BE0CD19]

/-- What distinguishes the two functions: the word width, the rotations of the four sigma functions (the third of the small ones a
shift), and the round constants. -/
structure Sha where
  width : Nat
  big0 : Nat × Nat × Nat
  big1 : Nat × Nat × Nat
  small0 : Nat × Nat × Nat
  small1 : Nat × Nat × Nat
  consts : List Nat
deriving DecidableEq, Repr

/-- FIPS 180-4, 4.1.3 and 4.2.3. -/
def sha512 : Sha := ⟨64, (28, 34, 39), (14, 18, 41), (1, 8, 7), (19, 61, 6), sha512K⟩

/-- FIPS 180-4, 4.1.2 and 4.2.2. -/
def sha256 : Sha := ⟨32, (2, 13, 22), (6, 11, 25), (7, 18, 3), (17, 19, 10), sha256K⟩

/-- A rotation to the right. -/
def rotr (w n x : Nat) : Nat := x / 2 ^ n + x % 2 ^ n * 2 ^ (w - n)

/-- The capital sigmas. -/
def bigSigma (w : Nat) (r : Nat × Nat × Nat) (x : Nat) : Nat := rotr w r.1 x ^^^ rotr w r.2.1 x ^^^ rotr w r.2.2 x

/-- The small sigmas. -/
def smallSigma (w : Nat) (r : Nat × Nat × Nat) (x : Nat) : Nat := rotr w r.1 x ^^^ rotr w r.2.1 x ^^^ x / 2 ^ r.2.2

/-- The bits of `y` where `x` is 1, those of `z` where it is 0. -/
def choose (w x y z : Nat) : Nat := (x &&& y) ^^^ ((2 ^ w - 1 - x) &&& z)

/-- The bits of which two are 1. -/
def majority (x y z : Nat) : Nat := (x &&& y) ^^^ (x &&& z) ^^^ (y &&& z)

/-- FIPS 180-4, 6.2.2 and 6.4.2 step 1: the message schedule, kept as its last 16 words with the latest first. -/
def Sha.schedule (h : Sha) : Nat → List Nat → List Nat
  | 0, _ => []
  | n + 1, last =>
    let v := (smallSigma h.width h.small1 (last.getD 1 0) + last.getD 6 0 + smallSigma h.width h.small0 (last.getD 14 0)
      + last.getD 15 0) % 2 ^ h.width
    v :: h.schedule n (v :: last.take 15)

/-- Step 3: one round on the working variables a to h, with the word and the constant added. -/
def Sha.round (h : Sha) (v : List Nat) (kw : Nat) : List Nat :=
  match v with
  | [a, b, c, d, e, f, g, x] =>
    let t1 := x + bigSigma h.width h.big1 e + choose h.width e f g + kw
    let t2 := bigSigma h.width h.big0 a + majority a b c
    [(t1 + t2) % 2 ^ h.width, a, b, c, (d + t1) % 2 ^ h.width, e, f, g]
  | _ => v

/-- One block of 16 words. -/
def Sha.block (h : Sha) (hash words : List Nat) : List Nat :=
  let ws := words ++ h.schedule (h.consts.length - 16) words.reverse
  let v := (ws.zip h.consts).foldl (fun v x => h.round v (x.1 + x.2)) hash
  (hash.zip v).map fun x => (x.1 + x.2) % 2 ^ h.width

/-- A number from its bytes, the highest first. -/
def fromBig (bs : List Byte) : Nat := bs.foldl (fun n b => n * 256 + b.toNat) 0

/-- A number as `n` bytes, the highest first. -/
def toBig (n v : Nat) : List Byte := (List.range n).map fun i => BitVec.ofNat 8 (v / 256 ^ (n - 1 - i))

/-- FIPS 180-4, 5.1: a message with its padding: a 1, zeros and the length fill blocks of 16 words. -/
def Sha.padded (h : Sha) (m : List Byte) : List Byte :=
  let block := 2 * h.width
  let tail := h.width / 4
  let zeros := (2 * block - (m.length + 1 + tail) % block) % block
  m ++ [0x80] ++ List.replicate zeros 0 ++ toBig tail (8 * m.length)

/-- The digest of a message, its first `n` bytes. -/
def Sha.digest (h : Sha) (start : List Nat) (n : Nat) (m : List Byte) : List Byte :=
  let bs := h.padded m
  let word := h.width / 8
  let hash := (List.range (bs.length / (16 * word))).foldl (fun hash i =>
    let block := (bs.drop (16 * word * i)).take (16 * word)
    h.block hash ((List.range 16).map fun j => fromBig ((block.drop (word * j)).take word))) start
  (hash.flatMap (toBig word)).take n

/-- SHA-384. -/
def sha384 (m : List Byte) : List Byte := sha512.digest sha384Start 48 m

/-- SHA-256 truncated to its first 192 bits (SP 800-208). -/
def sha192 (m : List Byte) : List Byte := sha256.digest sha256Start 24 m

/-! P-384 and ECDSA (FIPS 186-5) -/

/-- The field's prime. -/
def p384 : Nat := 2 ^ 384 - 2 ^ 128 - 2 ^ 96 + 2 ^ 32 - 1

/-- The order of the base point. -/
def n384 : Nat := 0xFFFFFFFFFFFFFFFFFFFFFFFFFFFFFFFFFFFFFFFFFFFFFFFFC7634D81F4372DDF581A0DB248B0A77AECEC196ACCC52973

/-- The base point. -/
def g384 : Nat × Nat :=
  (0xAA87CA22BE8B05378EB1C71EF320AD746E1D3B628BA79B9859F741E082542A385502F25DBF55296C3A545E3872760AB7,
    0x3617DE4A96262C6F5D9E98BF9292DC29F8F41DBD289A147CE9DA3113B5F0B8C00A60B1CE1D7E819D7A431D7C90EA0E5F)

/-- A power modulo `m`, the exponent given in `n` bits. -/
def powMod (m x : Nat) : Nat → Nat → Nat
  | 0, _ => 1 % m
  | n + 1, e => let y := powMod (m := m) (x * x % m) n (e / 2); if e % 2 = 1 then x * y % m else y

/-- The inverse modulo a prime. -/
def invMod (m x : Nat) : Nat := powMod m (x % m) 384 (m - 2)

/-- The sum of two points of the curve y² = x³ - 3x + b; `none` is the point at infinity. -/
def addPoint (a b : Option (Nat × Nat)) : Option (Nat × Nat) :=
  match a, b with
  | none, q => q
  | p, none => p
  | some (x1, y1), some (x2, y2) =>
    if x1 = x2 ∧ (y1 + y2) % p384 = 0 then none
    else
      let l := if x1 = x2 then (3 * x1 * x1 + (p384 - 3)) * invMod p384 (2 * y1) % p384
        else (y2 + p384 - y1) * invMod p384 (x2 + p384 - x1) % p384
      let x := (l * l + 2 * p384 - x1 - x2) % p384
      some (x, (l * (x1 + p384 - x) + p384 - y1) % p384)

/-- A multiple of a point, the factor given in `n` bits. -/
def mulPoint (p : Option (Nat × Nat)) : Nat → Nat → Option (Nat × Nat)
  | 0, _ => none
  | n + 1, k => let q := mulPoint (addPoint p p) n (k / 2); if k % 2 = 1 then addPoint p q else q

/-- FIPS 186-5, 6.4.2: a signature (r, s) verifies under a public key on a message hashed with SHA-384. -/
def ecdsaVerifies (key : Nat × Nat) (m : List Byte) (r s : Nat) : Bool :=
  let e := fromBig (sha384 m)
  let w := invMod n384 s
  0 < r && r < n384 && 0 < s && s < n384 &&
    match addPoint (mulPoint (some g384) 384 (e * w % n384)) (mulPoint (some key) 384 (r * w % n384)) with
    | some (x, _) => x % n384 == r
    | none => false

/-- FIPS 186-5, 6.4.1: the signature (r, s) of a message under a private key, with the per-message number `k`. -/
def ecdsaSign (key k : Nat) (m : List Byte) : Nat × Nat :=
  let r := ((mulPoint (some g384) 384 k).map (·.1 % n384)).getD 0
  (r, invMod n384 k * (fromBig (sha384 m) + r * key) % n384)

/-! LMS (RFC 8554 with SP 800-208's SHA-256/192) -/

/-- RFC 8554, 3.1.3: digit `i` of four bits of a string. -/
def coef (bs : List Byte) (i : Nat) : Nat := (bs.getD (i / 2) 0).toNat / 16 ^ (1 - i % 2) % 16

/-- RFC 8554, 4.4: the checksum of the 48 digits of a hash, left-shifted by ls = 4. -/
def lmsChecksum (q : List Byte) : Nat := ((List.range 48).map fun i => 15 - coef q i).sum * 16

/-- RFC 8554, 4.6 step 3: a chain from link `j` on, `n` links long. -/
def lmsChain (head : List Byte) : Nat → Nat → List Byte → List Byte
  | 0, _, x => x
  | n + 1, j, x => lmsChain head n (j + 1) (sha192 (head ++ toBig 1 j ++ x))

/-- RFC 8554, 5.4.2 step 4: up the tree from a node, along a path of hashes. -/
def lmsClimb (id : List Byte) : Nat → List (List Byte) → List Byte → List Byte
  | _, [], x => x
  | node, p :: r, x =>
    lmsClimb id (node / 2) r (sha192 (id ++ toBig 4 (node / 2) ++ [0x83, 0x83] ++ (if node % 2 = 1 then p ++ x else x ++ p)))

/-- RFC 8554, Algorithms 4b and 6a: a signature of 1,740 bytes verifies on a message under a public key of 48 bytes: type code,
one-time type code, identifier, root. -/
def lmsVerifies (key m sig : List Byte) : Bool :=
  let part := fun (off n : Nat) => (sig.drop off).take n
  let id := (key.drop 8).take 16
  let q := part 0 4
  let hash := sha192 (id ++ q ++ [0x81, 0x81] ++ part 8 24 ++ m)
  let digits := hash ++ toBig 2 (lmsChecksum hash)
  let z := (List.range 51).flatMap fun i =>
    let a := coef digits i
    lmsChain (id ++ q ++ toBig 2 i) (15 - a) a (part (32 + 24 * i) 24)
  let leaf := 2 ^ 20 + fromBig q
  let x := sha192 (id ++ toBig 4 leaf ++ [0x82, 0x82] ++ sha192 (id ++ q ++ [0x80, 0x80] ++ z))
  sig.length == 1740 && key.take 8 == toBig 4 0xD ++ toBig 4 0x7 && part 4 4 == toBig 4 0x7 && part 1256 4 == toBig 4 0xD
    && decide (fromBig q < 2 ^ 20)
    && lmsClimb id leaf ((List.range 20).map fun i => part (1260 + 24 * i) 24) x == (key.drop 24).take 24

end Sys2Proof.Machine
end

