-- ==== Sys2Proof/Machine/Sets.lean ====
section
/-! DEFINITION. Connected sets: links, flits and their replay, heartbeats, death, halted modules, and the formation of a set
(10 R241, R242; 14 R314 to R326). -/

namespace Sys2Proof.Machine

/-! Links (R319 to R322) -/

/-- R319: packets that cross the panel when a link fails may be lost with it, and are not sent again (log 59, DESIGN CHOICE). -/
def State.losePackets (s : State) (link : Nat) : State :=
  let gone := s.reqs.filter fun r => (s.toPos r != some r.fromPos) && Config.lostWith r.id link
  { s with timers := s.timers.filter fun x => !gone.any fun r => x.2 == r.arrival || x.2 == r.reply r.cause }

/-- R319: a link fails: it leaves every route, and the map shows it (R422) (log 21, DEDUCED). -/
def State.failLink (s : State) (link : Nat) : State :=
  let s := s.losePackets (link / 2)
  if 2 * meshLinks ≤ link then s.onLink link fun e => { e with failed := true }
  else
    let s := (s.onLink link fun e => { e with failed := true }).onLink (link ^^^ 1) fun e => { e with failed := true }
    let n := link / 2
    { s with fuses := { s.fuses with links := if s.fuses.links.contains n then s.fuses.links else s.fuses.links ++ [n] } }

/-- R23, R319: a link end that routes may use. -/
def State.usable (s : State) (link : Nat) : Bool :=
  !(s.link link).failed && if 2 * meshLinks ≤ link then !s.svc.bisque else !s.fuses.links.contains (link / 2)

/-- R319: the flits kept that have not been acknowledged are sent again, in their order. -/
def State.replayFlits (s : State) (link : Nat) : State :=
  let e := s.link link
  let n := (e.txSeq - e.acked).toNat
  (s.onLink link fun e => { e with wire := e.replay.drop (e.replay.length - n) }).carry link

/-- R319: an idle flit, by which a receiver asks for the flits after the last good one (log 59, DESIGN CHOICE). -/
def State.askReplay (s : State) (link : Nat) : State :=
  (s.onLink link fun e => { { e with wire := [] }.put 2 [] false with resend := true }).carry link

/-- R320: the outgoing flits that carry slots of an incoming flit leave: with their CRC inverted if the incoming flit has failed. -/
def State.sendForwards (s : State) (inLink : Nat) (seq : BitVec 12) (bad : Bool) : State :=
  s.links.foldl (fun s (e : LinkEnd) =>
    let mine := fun (x : Forward) => x.inLink == inLink && x.inSeq == seq && x.outSeq.isNone
    if !e.outgoing.any mine then s
    else
      let body := (e.outgoing.filter mine).flatMap fun x => toBytes 60 x.slot.toNat
      (s.onLink e.num fun e =>
        { { e with wire := [] }.put 0 body bad with
          outgoing := if bad then e.outgoing.map fun x => if mine x then { x with outSeq := some e.txSeq } else x
            else e.outgoing.filter fun x => !mine x }).carry e.num) s

/-- R320: a flit kept for replay, with the good slots of an incoming flit in place of those it carried before. -/
def goodFlit (f : BitVec 2048) (slots : List (BitVec 480)) : BitVec 2048 :=
  flitOf (flitField f 52 12) (flitField f 40 12) 0 (flitField f 24 12) (slots.flatMap fun x => toBytes 60 x.toNat)

/-- R320: the upstream replay has brought the good slots: the outgoing flits that were sent inverted are replayed with them (log 21, DEDUCED). -/
def State.goodForwards (s : State) (inLink : Nat) (flit : BitVec 2048) : State :=
  let seq := BitVec.ofNat 12 (flitField flit 52 12)
  let slots := flitSlots flit
  s.links.foldl (fun s (e : LinkEnd) =>
    let mine := fun (x : Forward) => x.inLink == inLink && x.inSeq == seq && x.outSeq.isSome
    if !e.outgoing.any mine then s
    else
      (s.onLink e.num fun e =>
        let out := (e.outgoing.filter mine).filterMap (·.outSeq)
        let good := (e.outgoing.filter mine).map fun x => slots.getD x.idx x.slot
        { e with
          replay := e.replay.map fun f => if out.contains (BitVec.ofNat 12 (flitField f 52 12)) then goodFlit f good else f
          outgoing := e.outgoing.filter fun x => !mine x }).replayFlits e.num) s

/-- R17, R22, R320: a slot sent on before its flit has fully arrived, from one link end of a site to another there, once the flit's
header and the slot's have checked. -/
def execSlotForward (inLink outLink : Nat) (slot : Nat × BitVec 64 × BitVec 480) (s : State) : Out :=
  let (idx, head, slot) := slot
  if !headOk head || !slotOk slot || endPos inLink ≠ endPos outLink || inLink == outLink || !s.usable inLink || !s.usable outLink then
    .next s
  else .next (s.onLink outLink fun e =>
    { e with outgoing := e.outgoing ++ [⟨inLink, BitVec.ofNat 12 (head.toNat / 2 ^ 52), idx, slot, none⟩] })

/-- R322: a lane shed once every flit sent has been acknowledged; a link with fewer than half its 64 lanes fails. -/
def execLaneShed (link : Nat) (s : State) : Out :=
  let e := s.link link
  if e.failed || e.acked != e.txSeq || e.lanes == 0 then .next s
  else
    let s := s.onLink link fun e => { e with lanes := e.lanes - 1 }
    .next (if 2 * (e.lanes - 1) < 64 then s.failLink link else s)

/-- R315, R323: a heartbeat's message: during a formation it carries the number and MEMBERS asked for (log 36, DESIGN CHOICE). -/
def State.beat (s : State) : List Byte :=
  if s.conn.busy then s.message 1 s.conn.reqNum 0 (toBytes 4 s.conn.reqMembers.toNat) else s.message 1 s.conn.modnum 0 []

/-- R324: a heartbeat at least once every 2,000 ticks. -/
def execHeartbeatSend (link : Nat) (s : State) : Out :=
  if !s.usable link then .next s
  else .next ((s.sendFlit link true 3 s.beat).at (s.tick + 2000) (.heartbeatSend link))

/-- R324: a link end begins: it sends heartbeats and is to hear them. -/
def State.startLink (s : State) (link : Nat) : State :=
  ((s.onLink link fun e => { e with heard := s.tick }).post (.heartbeatSend link)).at (s.tick + 10000) (.linkSilenceTimeout link)

/-- R324: a link end that has heard nothing for 10,000 ticks. -/
def execLinkSilenceTimeout (link : Nat) (s : State) : Out :=
  let e := s.link link
  if !e.failed && decide (e.heard + 10000 ≤ s.tick) then .next (s.failLink link) else .next s

/-! Death (R324, R325) -/

/-- R325, R327: requests toward a dead module complete with PEER_DEAD, and its own are gone. -/
def State.killRequests (s : State) (m : Nat) : State :=
  let s : State := { s with reqs := s.reqs.filter fun r => !r.foreign.any (·.module == m) }
  (s.reqs.filter fun r => r.abroad && r.module == m).foldl (fun s r =>
    (s.onReq r.id fun r => { r with cause := causePeerDead, data := [], status := 0, timed := false, atHome := true }).post
      (r.reply causePeerDead)) s

/-- R335, R338: groups with a site on a dead module: an open one records PEER_DEAD; a commit sent answers so, unless every site there
has answered in this very tick. -/
def Ctx.groupsDead (c : Ctx) (m now : Nat) : Ctx :=
  { c with groups := c.groups.each fun g =>
      if !g.sites.any (·.1 == m) then g
      else if g.state = .opened then g.refused causePeerDead
      else if g.state = .committing ∧ !(g.sites.filter (·.1 == m)).all fun x => g.answers.contains (x.1, x.2, now) then
        { g with result := causePeerDead }
      else g }

/-- R291: the death of a module excuses its cores from the phases of level-5 barriers in progress. -/
def Segment.moduleExcused (g : Segment) : Segment := if g.used ∧ g.level = 5 then { g with excused := g.excused ++ [g.rel] } else g

/-- R325: everything that follows from a module's death. -/
def State.moduleDead (s : State) (m : Nat) : State :=
  let s : State := { s with conn := { s.conn with dead := s.conn.dead ||| 1 <<< m } }
  let s := s.killRequests m
  let g := fun (k : Core) => { k with ctx := k.ctx.groupsDead m s.tick, bank := k.bank.map (·.groupsDead m s.tick) }
  let s : State := { s with
    core := g s.core
    others := s.others.map g
    saves := s.saves.map fun x => { x with ctx := x.ctx.groupsDead m s.tick }
    dies := s.dies.map fun d => { d with segs := d.segs.each Segment.moduleExcused }
    sites := s.sites.map fun (t : Site) => { t with held := t.held.filter fun h => h.module != m } }
  let s := s.buryHolders fun w => w / 2 ^ 16 % 32 == m
  ((s.conn.reports.map (·.2)).dedup).foldl (fun s r => s.level5Check r.1 r.2) s

/-- R324: the notice sent once on each optical port. -/
def State.flood (s : State) (m : Nat) : State := s.opticalLinks.foldl (fun s l => s.sendFlit l true 3 (s.message 2 s.conn.modnum m [])) s

/-- R324, R325: a module learns of a death in its epoch. -/
def execDeathNotice (m epoch : Nat) (s : State) : Out :=
  if epoch ≠ s.conn.epoch ∨ 32 ≤ m ∨ m = s.conn.modnum ∨ s.conn.dead.getLsbD m ∨ !s.conn.members.getLsbD m then .next s
  else .next ((s.moduleDead m).flood m)

/-- R324: a module that has been silent for 10,000 ticks, and is not halted, is declared dead. -/
def execModuleSilenceTimeout (m : Nat) (s : State) : Out :=
  if 32 ≤ m ∨ m = s.conn.modnum ∨ s.conn.dead.getLsbD m ∨ s.conn.halted.getLsbD m ∨ !s.conn.members.getLsbD m
      ∨ s.tick < s.conn.heard.read 0 m + 10000 then .next s
  else .next ((s.moduleDead m).flood m)

/-! Halted modules (R326) -/

/-- R261, R326: a group reduction waits on a member of a halted module. -/
def State.mlrStands (s : State) (pa : Nat) : Bool :=
  let g := s.mlrGroup pa
  g.taking.any fun m => g.arrived / 2 ^ m % 2 == 0 && s.conn.halted.getLsbD (g.result m).1

/-- R321, R326: what a halted module suspends. -/
def State.suspended (s : State) (i : Instr) : Bool :=
  match i with
  | .ackTimeout id => (s.req id).any fun r => s.conn.halted.getLsbD r.module
  | .mlrLimitExpiry pa => s.mlrStands pa
  | _ => false

/-- R281, R326: the limit of a wait stands still: of an `acq` on a lock of a halted module, or of a level-5 barrier. -/
def Ctx.waitStands (c : Ctx) (halted members : BitVec 32) (w : Wait) : Bool :=
  match w.kind with
  | .acqLock => w.onHalted halted
  | .barw | .acqBarrier => domLevel (vat c.domain 0 w.value) == 5 && halted &&& members != 0
  | _ => false

/-- R27, R281: ticks in which a limit stands still do not count toward it. -/
def Ctx.standStill (c : Ctx) (halted members : BitVec 32) (n : Nat) : Ctx :=
  let f := fun (w : Wait) => if c.waitStands halted members w then { w with deadline := w.deadline.map (· + n) } else w
  let aside := fun (a : Aside) => { a with wait := a.wait.map f }
  { c.withSqWait (c.sq.wait.map f) with aside := c.aside.map aside, frameAside := c.frameAside.map aside }

/-- R261, R321, R326: limits that stand still toward halted modules do not count the `n` ticks that pass. -/
def State.standStill (s : State) (n : Nat) : State :=
  let f := fun (c : Ctx) => c.standStill s.conn.halted s.conn.members n
  let core := fun (k : Core) => { k with ctx := f k.ctx, bank := k.bank.map f }
  { s with
    timers := s.timers.map fun x => if s.suspended x.2 then (x.1 + n, x.2) else x
    sites := s.sites.map fun (t : Site) =>
      { t with mlr := t.mlr.map fun a => if s.mlrStands a.pa then { a with deadline := a.deadline + n } else a }
    core := core s.core
    others := s.others.map core
    saves := s.saves.map fun x => { x with ctx := f x.ctx } }

/-- Time goes on to a tick. -/
def State.toTick (s : State) (t : Nat) : State :=
  let s' := if s.conn.halted ≠ 0 ∧ s.tick < t then s.standStill (t - s.tick) else s
  { s' with tick := t }

/-- R315: two modules claim one number, or MEMBERS differ. -/
def SetState.disagrees (c : SetState) : Bool :=
  c.claims.any fun x => x.members != c.reqMembers || x.num == c.reqNum || c.claims.any fun y => y.num == x.num && y.epoch != x.epoch

/-- R315: every other member has been heard. -/
def SetState.complete (c : SetState) : Bool :=
  (List.range 32).all fun m => !c.reqMembers.getLsbD m || m == c.reqNum || c.claims.any (·.num == m)

/-- R318: how far the set root's TICK is ahead, as measured (log 31, DEDUCED). -/
def SetState.measured (c : SetState) : Int :=
  let root := ((List.range 32).find? fun m => c.reqMembers.getLsbD m).getD 0
  if root = c.reqNum then 0
  else match c.claims.find? (·.num == root) with
    | some x => x.ahead + Config.offsetError c.epoch
    | none => 0

/-- R315: the greatest EPOCH that this module and those heard have had. -/
def SetState.lastEpoch (c : SetState) : Nat := (c.claims.map (·.epoch)).foldl max c.epoch

/-- R315: what has been heard of a formation is looked at. -/
def State.postForm (s : State) : State := s.post (.setForm s.conn.lastEpoch s.conn.measured !s.conn.disagrees)

/-- R315: a claim heard during a formation takes the place of what was heard on that port before. -/
def State.claim (s : State) (link num : Nat) (members : BitVec 32) (epoch tick : Nat) : State :=
  if !s.conn.busy || members == 0 then s
  else
    let c : SetClaim := ⟨link, num, members, epoch, (tick : Int) - s.tick⟩
    ({ s with conn := { s.conn with claims := s.conn.claims.filter (·.link ≠ link) ++ [c] } } : State).postForm

/-- R323, R324, R326: a heartbeat of a module. -/
def State.heartbeat (s : State) (link m : Nat) (halt : Bool) : State :=
  let s := s.onLink link fun e => { e with heard := s.tick, peer := if 2 * meshLinks ≤ link then some m else none }
  let s := s.at (s.tick + 10000) (.linkSilenceTimeout link)
  if m = s.conn.modnum ∨ !s.conn.members.getLsbD m then s
  else
    let bit : BitVec 32 := 1 <<< m
    let halted := if halt then s.conn.halted ||| bit else s.conn.halted &&& ~~~bit
    ({ s with conn := { s.conn with heard := s.conn.heard.write 0 m s.tick, halted := halted } } : State).at (s.tick + 10000)
      (.moduleSilenceTimeout m)

/-- R323: a management flit (log 36, DESIGN CHOICE). -/
def State.managed (s : State) (link : Nat) (f : BitVec 2048) : State :=
  let b := fun (i n : Nat) => ofBytes (flitBytes f (8 + i) n)
  let m := b 2 2 % 32
  let epoch := b 4 2
  if s.conn.dead.getLsbD m then s
  else if b 0 1 = 1 then
    (s.heartbeat link m (b 1 1 % 2 == 1)).claim link m (BitVec.ofNat 32 (b 15 4)) epoch (b 6 8)
  else if b 0 1 = 2 then s.post (.deathNotice (b 14 1) epoch)
  else if epoch ≠ s.conn.epoch then s
  else if b 0 1 = 3 then s.post (.level5BarrierReport m (b 15 8) (b 23 1 % 2))
  else if b 0 1 = 4 then s.post (.level5Release (b 15 8) (b 23 1 % 2) (b 24 8))
  else s

/-! Requests of other modules (R327, R329, R331, R332) -/

/-- R242: the kind of request a slot makes (log 60, DESIGN CHOICE). -/
def slotKind (h : SlotHead) (f : Nat → Nat) (operand : List Byte) : Option ReqKind :=
  match Config.opKind (BitVec.ofNat 8 h.op) with
  | 1 => some .read
  | 2 => some .write
  | 3 => some (.gput (f 4 % 8) (BitVec.ofNat 16 (f 5)))
  | 4 => some (.farWrite h.dst)
  | 5 => some (.farRead h.dst)
  | 6 => some (.nm (BitVec.ofNat 128 (f 8)) operand (f 2))
  | 7 => some (.acquire true 0)
  | 8 => some (.acquire false 0)
  | 9 => some (.release 0)
  | 10 => some .cancel
  | 11 => some (.commit (f 4 % 8) true)
  | 12 => some (.commit (f 4 % 8) false)
  | _ => none

/-- R327: a request of another module enters by a port and goes on to its home: a slot's header, operand and auxiliary bytes, and the
mask and bytes of a data slot. The answers to this module's own requests are free (log 11, DESIGN CHOICE). -/
def State.slotArrives (s : State) (port : Nat) (h : SlotHead) (operand : List Byte) (aux : BitVec 96) (data : Option (Nat × List Byte)) :
    State :=
  match (s.link port).peer with
  | none => s
  | some m =>
    let f := Config.auxField aux
    let n := min (128 - h.pa % 128) (1 + Config.sizeOf (BitVec.ofNat 4 h.len) % 128)
    let base := h.pa / 128 * 128
    let put : List (Nat × Byte) := match data with
      | some (mask, bs) => (bs.zipIdx.filter fun x => mask / 2 ^ x.2 % 2 == 1).map fun x => (base + x.2, x.1)
      | none => []
    let kind := slotKind h f (if data.isSome then put.map (·.2) else operand.take n)
    if h.op = 0 ∨ (h.cls ≠ 0 ∧ h.cls ≠ 2) ∨ h.module ≠ s.conn.modnum ∨ m = s.conn.modnum ∨ !s.reaches m then s
    else match kind with
      | none => s
      | some k =>
        let r : Req := { Ctx.zero.blankReq h.src k with
          id := s.nextId, sentAt := s.tick, lid := f 1, job := f 3, asid := f 0, pos := f 7, module := s.conn.modnum, pa := h.pa
          va := (match k with
            | .farWrite c | .farRead c => c * 2 ^ 32 + h.pa
            | _ => f 9)
          pairs := if data.isSome then put.map fun x => (x.1, 0) else (List.range n).map fun i => (h.pa + i, 0)
          data := put.map (·.2)
          status := (match k with
            | .commit .. => BitVec.ofNat 64 (f 5)
            | _ => BitVec.ofNat 64 (f 9))
          scope := 3, counted := false, timed := false, foreign := some ⟨m, port, h.tag⟩, epoch := some s.conn.epoch }
        let s : State := { s.fresh with reqs := s.reqs ++ [r] }
        if s.routed r then s.at (s.tick + 1 + Config.homeDelay r.id) r.arrival else s

/-- R241, R242: what the slots of a flit that has come in by a port ask for. -/
def State.flitArrives (s : State) (port : Nat) (f : BitVec 2048) : State :=
  let s := match flitData f with
    | some (head, sector) =>
      let h := SlotHead.of (head.toNat % 2 ^ 112)
      -- the auxiliary bytes of a data slot's request stand in the request slot of its flit
      if dataOk head then s.slotArrives port h [] (f.extractLsb' (64 + 1280 + 384) 96) (some (head.toNat / 2 ^ 112 % 2 ^ 128, sector)) else s
    | none => s
  if flitField f 36 4 ≠ 0 then s
  else (flitSlots f).foldl (fun s x =>
    if slotOk x then s.slotArrives port (SlotHead.of (x.toNat % 2 ^ 112)) (toBytes 32 (x.toNat / 2 ^ 128 % 2 ^ 256)) (x.extractLsb' 384 96) none
    else s) s

/-- R319, R320: a flit that fails, or comes out of sequence, is discarded and asked for again; a ninth failure of one flit in a row, the
first and eight replays, fails the link. -/
def State.badFlit (s : State) (link : Nat) (flit : BitVec 2048) (failed : Bool) : State :=
  let e := s.link link
  let n := if failed then e.retries + 1 else e.retries
  let s := (s.onLink link fun e => { e with retries := n }).sendForwards link (BitVec.ofNat 12 (flitField flit 52 12)) true
  if 8 < n then s.failLink link else if failed || !e.resend then s.askReplay link else s

/-- R319: a flit in sequence that has checked: what it acknowledges, the credits it gives back, and what it carries. -/
def State.goodFlitIn (s : State) (link : Nat) (flit : BitVec 2048) : State :=
  let fmt := flitField flit 36 4
  let s := s.onLink link fun e =>
    { e with
      rxSeq := e.rxSeq + 1
      retries := 0
      resend := false
      acked := BitVec.ofNat 12 (flitField flit 40 12 + 1)
      credits := e.credits + flitField flit 24 12
      owed := if fmt = 2 then e.owed else e.owed + 1
      wire := [] }
  let s := (s.sendForwards link (BitVec.ofNat 12 (flitField flit 52 12)) false).goodForwards link flit
  let e := s.link link
  let s := if fmt = 2 ∧ e.acked ≠ e.txSeq then s.replayFlits link else s
  let s := if e.waiting = [] ∨ e.credits = 0 then s
    else (s.onLink link fun e => LinkEnd.pump e.waiting { e with wire := [] }).carry link
  if fmt = 3 then s.managed link flit
  else if 2 * meshLinks ≤ link ∧ !(e.peer.any fun m => s.conn.dead.getLsbD m) then s.flitArrives link flit
  else s

/-- R319: a flit arrives at a link end: acted on when it checks and is in order. -/
def execFlitReceive (link : Nat) (flit : BitVec 2048) (s : State) : Out :=
  let e := s.link link
  if e.failed then .next s
  else if !flitOk flit then .next (s.badFlit link flit true)
  else if flitField flit 52 12 ≠ e.rxSeq.toNat then .next (s.badFlit link flit false)
  else .next (s.goodFlitIn link flit)

/-! Forming a set (R315, R318) -/

/-- R315: the cause for which a SETCTL request is refused. -/
def State.setRefusal (s : State) (v : Word) : Option Nat :=
  let leave := wbits v 62 1 == 1
  let members := wbits v 0 32
  if s.svc.bisque then some 1
  else if s.launches.any (·.admitted) then some 2
  else if wbits v 53 9 ≠ 0 ∨ wbits v 32 16 ≠ 0 ∨ (leave ∧ members ≠ 0) ∨ (!leave ∧ members / 2 ^ wbits v 48 5 % 2 = 0) then some 3
  else none

/-- R315: a request ends with a cause. -/
def State.setEnds (s : State) (cause : Nat) : State :=
  { s with conn := { s.conn with busy := false, done := true, cause := cause } }

/-- R315: a SETCTL write with GO. -/
def State.setRequest (s : State) (v : Word) : State :=
  if s.conn.busy then { s with svc := { s.svc with denied := s.svc.denied + 1 } }
  else
    let s : State := { s with conn := { s.conn with
      busy := true, done := false, reqNum := wbits v 48 5, reqMembers := BitVec.ofNat 32 (wbits v 0 32), reqAt := s.tick, claims := [] } }
    match s.setRefusal v with
    | some cause => s.setEnds cause
    | none =>
      if wbits v 62 1 = 1 then s.post .setLeave
      else
        -- with no other member the formation ends at once
        let s := s.opticalLinks.foldl (fun s l => s.sendFlit l true 3 s.beat) s
        (s.at (s.tick + 1000000) .setFormLimit).postForm

/-- R317: requests of other modules are lost with the formation in which they came. -/
def State.newEpoch (s : State) (modnum : Nat) (members : BitVec 32) (epoch : Nat) (offset : Int) : State :=
  { s with
    reqs := s.reqs.filter fun r => r.foreign.isNone
    conn := { s.conn with
      modnum := modnum, members := members, epoch := epoch % 2 ^ 16, dead := 0, halted := 0, offset := offset, reports := [] } }

/-- R315: LEAVE. -/
def execSetLeave (s : State) : Out :=
  if !s.conn.busy then .next s else .next ((s.newEpoch 0 1 (s.conn.epoch + 1) 0).setEnds 0)

/-- R315, R318, R324: a formation ends when every member has been heard with equal MEMBERS, or when a disagreement has been;
operands that are no longer what has been heard change nothing (log 31, DEDUCED) (log 36, DESIGN CHOICE). -/
def execSetForm (maxEpoch : Nat) (offset : Int) (agree : Bool) (s : State) : Out :=
  let c := s.conn
  if !c.busy || maxEpoch != c.lastEpoch || offset != c.measured || agree == c.disagrees then .next s
  else if !agree then .next (s.setEnds 5)
  else if !c.complete then .next s
  else
    let others := (List.range 32).filter fun m => c.reqMembers.getLsbD m && m != c.reqNum
    let s := s.newEpoch c.reqNum c.reqMembers (maxEpoch + 1) offset
    let s := others.foldl (fun (s : State) m =>
      ({ s with conn := { s.conn with heard := s.conn.heard.write 0 m s.tick } } : State).at (s.tick + 10000) (.moduleSilenceTimeout m)) s
    .next (s.setEnds 0)

/-- R315: a member not heard within the limit. -/
def execSetFormLimit (s : State) : Out :=
  if s.conn.busy ∧ s.conn.reqAt + 1000000 ≤ s.tick then .next (s.setEnds 4) else .next s

end Sys2Proof.Machine
end

