-- ==== Sys2Proof/Machine/Loader.lean ====
section
/-! DEFINITION. The loader: an image's header and tables, relocation, and the loaded image (16 R352 to R354). Where R352 fixes no
place in the image, the loader's environment supplies the part (log 22, DESIGN CHOICE). -/

namespace Sys2Proof.Machine

/-- R352: bytes of an image in an address space (log 22, DESIGN CHOICE). -/
def State.imageBytes (s : State) (asid va off n : Nat) : List Byte := (s.vaRead asid (va + off) n).getD []

/-- A number in an image. -/
def State.imageNat (s : State) (asid va off n : Nat) : Nat := ofBytes (s.imageBytes asid va off n)

/-- R352: the shape table: rows, columns and words of each schedule. -/
def State.imageShapes (s : State) (asid va : Nat) : List (Nat × Nat × List (BitVec 32)) :=
  let tab := s.imageNat asid va 32 4
  (List.range (s.imageNat asid va 6 2)).map fun k =>
    let f := fun (o n : Nat) => s.imageNat asid va (tab + 16 * k + o) n
    (f 0 2, f 2 2, (List.range (f 8 4)).map fun i => BitVec.ofNat 32 (s.imageNat asid va (4 * (f 4 4 + i)) 4))

/-- R352: the template table. -/
def State.imageTmpls (s : State) (asid va : Nat) : List Byte := s.imageBytes asid va (s.imageNat asid va 40 4) (24 * s.imageNat asid va 44 4)

/-- R365: the equivalence-point table: id, CARRY, word index by schedule. -/
def State.imagePoints (s : State) (asid va n : Nat) : List (Nat × BitVec 16 × List Nat) :=
  (List.range n).map fun i =>
    let f := fun (o n : Nat) => s.imageNat asid va (s.imageNat asid va 36 4 + 32 * i + o) n
    (f 0 1 % 64, BitVec.ofNat 16 (f 2 2), (List.range 4).map fun k => f (8 + 4 * k) 2 % 2 ^ 13)

/-- R353: a relocation record's two words that hold its fields, and its addend. -/
structure Reloc where
  addend : Int
  site : Nat
  sect : Nat
  kind : Nat
  width : Nat
  range : Nat
  shift : Nat
  symbol : Nat
  high : Bool
  zero : Nat
deriving DecidableEq, Repr

/-- R353: the relocation table. -/
def State.imageRelocs (s : State) (asid va : Nat) : List Reloc :=
  let tab := s.imageNat asid va 56 4
  (List.range (s.imageNat asid va 60 4)).map fun i =>
    let f := fun (o n : Nat) => s.imageNat asid va (tab + 24 * i + o) n
    let w := f 8 8
    let y := f 16 8
    ⟨toInt 64 (f 0 8), w % 2 ^ 32, w / 2 ^ 32 % 2 ^ 8, w / 2 ^ 40 % 2 ^ 8, w / 2 ^ 48 % 2 ^ 8, w / 2 ^ 56 % 4, w / 2 ^ 58,
      y % 2 ^ 32, y / 2 ^ 32 % 2 == 1, y / 2 ^ 33⟩

/-- R353: a record's fields are within their limits. -/
def Reloc.ok (r : Reloc) (symbols : Nat) : Bool :=
  decide (r.sect ≤ 6) && decide (r.kind ≤ 7) && decide (1 ≤ r.width) && decide (r.width ≤ 64) && decide (r.range ≤ 2)
    && decide (r.symbol < symbols) && r.zero == 0 && (!r.high || r.shift != 0)

/-- R354 step 4: the value of a record, or none where it does not fit. -/
def Reloc.value (r : Reloc) (sym : Nat) : Option Nat :=
  let v : Int := sym + r.addend
  let pat := (v % 2 ^ 64).toNat
  let v : Int := if r.high then (pat / 2 ^ r.shift : Nat) else if r.shift = 0 then v else (pat % 2 ^ r.shift : Nat)
  let v := if r.kind = 4 then v - r.site else v
  let lo : Int := if r.range = 1 then 0 else -2 ^ (r.width - 1)
  let hi : Int := if r.range = 0 then 2 ^ (r.width - 1) else 2 ^ r.width
  if lo ≤ v ∧ v < hi then some (v % 2 ^ r.width).toNat else none

/-- Bits `n + w - 1` to `n` of a number replaced. -/
def putField (old n w v : Nat) : Nat := old / 2 ^ (n + w) * 2 ^ (n + w) + v * 2 ^ n + old % 2 ^ n

/-- Bytes of a list replaced from an offset: the field's low bits in the bytes it touches. -/
def putBytes (bs : List Byte) (off w v : Nat) : List Byte :=
  let n := (w + 7) / 8
  if bs.length < off + n then bs
  else bs.take off ++ toBytes n (putField (ofBytes ((bs.drop off).take n)) 0 w v) ++ bs.drop (off + n)

/-- What relocation works on: schedules, `.pool`, `.data`, template table. -/
structure Parts where
  shapes : List (Nat × Nat × List (BitVec 32))
  pool : List Byte
  data : List Byte
  tmpls : List Byte
deriving DecidableEq, Repr

/-- The words of a schedule. -/
def Parts.words (p : Parts) (k : Nat) : List (BitVec 32) := ((p.shapes[k]?).map (·.2.2)).getD []

/-- R353, R162: the lowest bit of a record's field: bit 0, but for the size of an `rdef`, whose second word it stands in
(log 22, DESIGN CHOICE). -/
def Reloc.low (r : Reloc) (ws : List (BitVec 32)) : Nat :=
  let first := if r.site = 0 then 0 else (ws.getD (r.site - 1) 0).toNat
  if r.kind = 6 ∧ r.width = 10 ∧ first / 2 ^ 22 = 0b1101010100 then 15 else 0

/-- R353: the bytes of a record's field lie in its section: a byte offset into `.pool` or `.data`, a word index elsewhere. -/
def Parts.holds (p : Parts) (r : Reloc) : Bool :=
  let n := (r.width + 7) / 8
  if r.sect < 4 then decide (r.site + (if 32 < r.width then 2 else 1) ≤ (p.words r.sect).length)
  else if r.sect = 4 then decide (r.site + n ≤ p.pool.length)
  else if r.sect = 5 then decide (r.site + n ≤ p.data.length)
  else decide (4 * r.site + n ≤ p.tmpls.length)

/-- A field stored into the words of a schedule: one word, or two for a `.dword`. -/
def putWords (ws : List (BitVec 32)) (site n w v : Nat) : List (BitVec 32) :=
  if w ≤ 32 then ws.modify site fun x => BitVec.ofNat 32 (putField x.toNat n w v)
  else (ws.set site (BitVec.ofNat 32 v)).modify (site + 1) fun x => BitVec.ofNat 32 (putField x.toNat 0 (w - 32) (v / 2 ^ 32))

/-- R354 step 4: a value stored into its site (log 22, DESIGN CHOICE). -/
def Parts.put (p : Parts) (r : Reloc) (v : Nat) : Parts :=
  if r.sect < 4 then
    { p with shapes := p.shapes.modify r.sect fun (x : Nat × Nat × List (BitVec 32)) =>
        (x.1, x.2.1, putWords x.2.2 r.site (r.low x.2.2) r.width v) }
  else if r.sect = 4 then { p with pool := putBytes p.pool r.site r.width v }
  else if r.sect = 5 then { p with data := putBytes p.data r.site r.width v }
  else { p with tmpls := putBytes p.tmpls (4 * r.site) r.width v }

/-- R354 step 4: the records applied in order; the first that does not fit refuses the load, which names its symbol, section and
site. -/
def Parts.relocate (p : Parts) (symbols : List Nat) : List Reloc → Except (Nat × Nat × Nat) Parts
  | [] => .ok p
  | r :: rest =>
    match r.value (symbols.getD r.symbol 0) with
    | some v => (p.put r v).relocate symbols rest
    | none => .error (r.symbol, r.sect, r.site)

/-- R352: the entries of a template table; the slot's number is 64 times the engine plus the slot. -/
def tmplEntries (bs : List Byte) : List (Nat × BitVec 128) :=
  (List.range (bs.length / 24)).map fun i =>
    let b := fun (o n : Nat) => ofBytes ((bs.drop (24 * i + o)).take n)
    (64 * b 0 1 + b 1 1, BitVec.ofNat 128 (b 8 16))

/-- The parts of an image as it stands, before relocation. -/
def State.imageParts (s : State) (asid va : Nat) (parts : ImageParts) : Parts :=
  let f := fun (o n : Nat) => s.imageNat asid va o n
  ⟨s.imageShapes asid va, s.imageBytes asid va (f 48 4) (f 52 4), parts.data, s.imageTmpls asid va⟩

/-- R352: where in the image the loader reads: its header, the tables it names and the schedules. -/
def State.imageRanges (s : State) (asid va : Nat) : List (Nat × Nat) :=
  let f := fun (o n : Nat) => s.imageNat asid va o n
  [(0, 64), (f 32 4, 16 * f 6 2), (f 40 4, 24 * f 44 4), (f 48 4, f 52 4), (f 56 4, 24 * f 60 4)]
    ++ (List.range (f 6 2)).map fun k => (4 * f (f 32 4 + 16 * k + 4) 4, 4 * f (f 32 4 + 16 * k + 8) 4)

/-- R238: what the loader's reads leave in the caches of the image's homes. -/
def State.imageTouched (s : State) (asid va : Nat) : State :=
  (s.imageRanges asid va).foldl (fun s x => s.vaTouched asid (va + x.1) x.2) s

/-- R352, R354 step 1: the header and tables are within their limits. The op8 of a template-table entry is not among them
(log 22, DESIGN CHOICE). -/
def State.imageOk (s : State) (asid va : Nat) (parts : ImageParts) : Bool :=
  let f := fun (o n : Nat) => s.imageNat asid va o n
  let shapes := s.imageShapes asid va
  (s.imageRanges asid va).all (fun x => (s.vaRead asid (va + x.1) x.2).isSome) && f 0 4 == 0x4B34494D && f 4 2 == 1 && decide (1 ≤ f 6 2) && decide (f 6 2 ≤ 4)
    && decide (f 8 8 < 2 ^ 20) && decide (f 16 8 < 2 ^ 24)
    && (List.range 8).all (fun n => decide (f 16 8 / 8 ^ n % 8 ≤ 5))
    && shapes.all (fun x => decide (x.2.2.length ≤ 8192))
    && (List.range (f 44 4)).all (fun i =>
      let e := f (f 40 4 + 24 * i) 1
      decide (e ≤ 5) && decide (f (f 40 4 + 24 * i + 1) 1 < 64))
    && (s.imageRelocs asid va).all (fun r => r.ok parts.symbols.length && (s.imageParts asid va parts).holds r)
    && parts.slices.all (fun x => decide (x.1 < 400) && decide (x.2.length ≤ 4096))
    && parts.data.length == parts.dataSize && decide (parts.points ≤ 64)
    && (s.imagePoints asid va parts.points).all (fun x => decide (x.2.1.toNat < 2 ^ 14))

/-- R354 step 3: a symbol's value: its offset from the data image's base, or what an image loaded into the same address space exports. -/
def State.symbolValue (s : State) (asid base : Nat) (x : Bool × Nat) : Option Nat :=
  if x.1 then some (base + x.2)
  else (s.images.filter (·.asid == asid)).findSome? fun i => (i.exports.find? (·.1 == x.2)).map (·.2)

/-- R354: a load: the loaded image, or the load status that refuses it, with what a LOAD_RELOC_RANGE names. -/
def State.loadImage (s : State) (asid va : Nat) (parts : ImageParts) :
    Except (Nat × Option (Nat × Nat × Nat)) (Image × List Byte) :=
  let symbols := parts.symbols.map (s.symbolValue asid parts.base)
  if !s.imageOk asid va parts then .error (1, none)
  else if !parts.space then .error (4, none)
  else if symbols.any (·.isNone) then .error (2, none)
  else
    let f := fun (o n : Nat) => s.imageNat asid va o n
    match (s.imageParts asid va parts).relocate (symbols.map (·.getD 0)) (s.imageRelocs asid va) with
    | .error x => .error (3, some x)
    | .ok p =>
      .ok ({ asid := asid, va := parts.va, part := BitVec.ofNat 64 (f 8 8), levels := BitVec.ofNat 24 (f 16 8)
             emask := BitVec.ofNat 64 (f 24 8), shapes := p.shapes, shaped := p.shapes.any fun x => x.1 * x.2.1 != 0
             tmpls := tmplEntries p.tmpls, pool := p.pool, points := s.imagePoints asid va parts.points
             slices := parts.slices
             exports := parts.exports.map fun x => (x.1, if x.2.1 then parts.base + x.2.2 else x.2.2) }, p.data)

/-- R354 steps 2 and 5: the data image placed and the loaded image published. -/
def State.publishImage (s : State) (i : Image) (base : Nat) (data : List Byte) : State :=
  { s.vaWrite i.asid base data with images := s.images.filter (fun x => !(x.asid == i.asid && x.va == i.va)) ++ [i] }

end Sys2Proof.Machine
end

