-- ==== Sys2Proof/Machine/Service.lean ====
section
/-! DEFINITION. Host ports, the service window, the semaphore, submission, boot, attestation, recalibration, scrubbing, and the
debug agent's CSR accesses (10 R240; 19 R403; 20 R415 to R433). -/

namespace Sys2Proof.Machine

/-! What a port reaches (R415, R428) -/

/-- R18: a port's site. -/
def portSite (port : Nat) : Nat := if port = 0 then 0 else 399

/-- R428: a module PA in a staging window: the site and the byte of its buffer. -/
def stagingByte (pa : Nat) : Option (Nat × Nat) :=
  let site := pa / 2 ^ 36
  let o := pa % 2 ^ 36
  if (site = 0 ∨ site = 399) ∧ 0xF00000000 ≤ o ∧ o ≤ 0xF003FFFFF then some (site, o - 0xF00000000) else none

/-- R428: stages in which the staging buffers are reached. -/
def State.staging (s : State) : Bool := s.svc.stage == 1 || s.svc.stage == 3

/-- R415, R428: the access of one byte is in order. -/
def State.hostByteOk (s : State) (port pa : Nat) (write : Bool) : Bool :=
  match stagingByte pa with
  | some (site, _) => s.staging && (!write || site == portSite port)
  | none => decide (pa / 2 ^ 36 ≤ 399) && decide (pa % 2 ^ 36 < s.siteCap (pa / 2 ^ 36))

/-- R415: a byte as a host reads it (log 41, DESIGN CHOICE). -/
def State.hostByte (s : State) (pa : Nat) : Byte :=
  match stagingByte pa with
  | some (site, b) => (s.site site).staging.read 0 b
  | none => s.devByte s.conn.modnum pa

/-- R420: the tail word of a ring, mod 2^32; 0 where it cannot be read (log 44, DEDUCED). -/
def State.tailWord (s : State) (base : Word) : Nat := (s.homeNat (wbits base 6 39 * 64) 8).2.getD 0 % 2 ^ 32

/-- R419: a ring whose tail has moved is taken from within 1,000 ticks (log 44, DEDUCED). -/
def State.watchTails (s : State) : State :=
  [0, 1].foldl (fun s p =>
    let base := vat s.svc.subbase 0 p
    let tail := s.tailWord base
    if wbits base 63 1 = 1 ∧ s.svc.ready ∧ tail ≠ vat s.svc.subhead 0 p ∧ !(s.timers.any (·.2 == .submissionTake p)) then
      s.fresh.at (s.tick + 1 + Config.homeDelay s.nextId % 1000) (.submissionTake p)
    else s) s

/-- R415: bytes a host writes. -/
def State.hostWrite (s : State) (pa : Nat) (bs : List Byte) : State :=
  match stagingByte pa with
  | some (site, b) =>
    s.onSite site fun t => { t with staging := Cells.writes 0 t.staging (bs.zipIdx.map fun x => (b + x.2, x.1)) }
  | none =>
    ((sectorPieces pa bs.length).foldl (fun s p =>
      s.sectorWrite (((bs.drop p.1).take p.2).zipIdx.map fun x => (pa + p.1 + x.2, x.1))) s).watchTails

/-- R415: a host's access to module memory: a write of the bytes given, or a read of eight. One out of order completes with
FABRIC_ERROR and has no effect (log 41, DESIGN CHOICE). -/
def execHostAccess (port pa : Nat) (write : Option (List (BitVec 8))) (s : State) : Out :=
  let n := match write with
    | some bs => bs.length
    | none => 8
  if !(List.range n).all fun i => s.hostByteOk port (pa + i) write.isSome then
    .next { s with svc := { s.svc with lastError := true, lastRead := [] } }
  else match write with
    | some bs =>
      let s := s.hostWrite pa bs
      .next { s with svc := { s.svc with lastError := false, lastRead := [] } }
    | none =>
      let bad := (List.range n).any fun i => (stagingByte (pa + i)).isNone && s.poisoned (pa + i)
      let s := if (stagingByte pa).isNone then s.nmTouch pa n else s
      .next { s with svc := { s.svc with
        lastError := bad, lastRead := if bad then [] else (List.range n).map fun i => s.hostByte (pa + i) } }

/-! The semaphore (R418) -/

/-- R418: the holder's own command. -/
def State.semaIs (s : State) (port owner : Nat) : Bool :=
  s.svc.semaHeld && s.svc.semaPort == port && s.svc.semaOwner == owner

/-- R418: a lease from this tick. -/
def State.lease (s : State) (lease : Nat) : State :=
  let e := s.tick + 1000 * lease
  ({ s with svc := { s.svc with semaExpiry := e } } : State).at e .leaseExpiry

/-- R418: acquire. -/
def execSemaAcquire (port owner lease : Nat) (s : State) : Out :=
  if lease = 0 ∨ s.svc.semaHeld then .next s
  else .next (({ s with svc := { s.svc with semaHeld := true, semaPort := port, semaOwner := owner } } : State).lease lease)

/-- R418: renew. -/
def execSemaRenew (port owner lease : Nat) (s : State) : Out :=
  if lease = 0 ∨ !s.semaIs port owner then .next s else .next (s.lease lease)

/-- R418: release. -/
def execSemaRelease (port owner : Nat) (s : State) : Out :=
  if s.semaIs port owner then .next { s with svc := { s.svc with semaHeld := false } } else .next s

/-- A command of the semaphore's arbiter, with what ranks it within its tick: owner, port. -/
def semaRank : Instr → Option (Nat × Nat)
  | .semaAcquire p o _ | .semaRenew p o _ | .semaRelease p o => some (o, p)
  | _ => none

/-- R418: the lease ends, after the tick's commands. -/
def execLeaseExpiry (s : State) : Out :=
  if s.events.any fun i => (semaRank i).isSome then .next (s.post .leaseExpiry)
  else if s.svc.semaHeld ∧ s.svc.semaExpiry ≤ s.tick then .next { s with svc := { s.svc with semaHeld := false } }
  else .next s

/-- R418: a command takes its place among those of its tick: the lower OWNER first, then port 0. -/
def insSema (i : Instr) (rank : Nat × Nat) : List Instr → List Instr
  | [] => [i]
  | x :: r =>
    match semaRank x with
    | some (o, p) => if rank.1 < o ∨ (rank.1 = o ∧ rank.2 < p) then i :: x :: r else x :: insSema i rank r
    | none => x :: insSema i rank r

/-- R418: a SEMACMD write. -/
def State.semaCommand (s : State) (port : Nat) (v : Word) : State :=
  let owner := wbits v 32 16
  let lease := wbits v 0 32
  let put := fun (i : Instr) => ({ s with events := insSema i (owner, port) s.events } : State)
  if wbits v 48 14 ≠ 0 then s
  else match wbits v 62 2 with
    | 1 => put (.semaAcquire port owner lease)
    | 2 => put (.semaRenew port owner lease)
    | 3 => put (.semaRelease port owner)
    | _ => s

/-- R416: a write of a controlled register: ignored and counted from the port that does not hold SEMA. -/
def State.controlled (s : State) (port : Nat) (f : State → State) : State :=
  if s.svc.semaHeld && s.svc.semaPort == port then f s
  else { s with svc := { s.svc with denied := (s.svc.denied + 1) % 256 } }

/-! Submission (R419 to R421) -/

/-- R420: SUBBASE is written, and HEAD set to the tail word's value. -/
def execSubbaseWrite (port : Nat) (value : BitVec 64) (s : State) : Out :=
  let size := wbits value 48 4
  let en := wbits value 63 1 == 1 && decide (4 ≤ size) && decide (size ≤ 12)
  let base := wbits value 6 39
  let v := BitVec.ofNat 64 (en.toNat * 2 ^ 63 + size * 2 ^ 48 + base * 64)
  let tail := s.tailWord v
  .next (({ s with svc := { s.svc with
    subbase := vput s.svc.subbase port v, subhead := vput s.svc.subhead port tail } } : State).watchTails)

/-- R421: an entry's result, then its status. -/
def State.entryStatus (s : State) (entry : Nat) (result cause reason : Nat) : State :=
  let put := fun (s : State) (pa v : Nat) => s.sectorWrite ((toBytes 8 v).zipIdx.map fun x => (pa + x.2, x.1))
  let s : State := { s with svc := { s.svc with entries := s.svc.entries.filter (· != entry) } }
  put (put s (entry + 56) result) (entry + 48) (2 ^ 63 + reason * 2 ^ 8 + cause)

/-- R421: an entry refused. -/
def State.entryRefused (s : State) (entry reason : Nat) : State := s.entryStatus entry 0 causeLaunchRefused.toNat reason

/-- A word of an entry. -/
def State.entryWord (s : State) (entry i : Nat) : Nat := (s.homeNat (entry + 8 * i) 8).2.getD 0

/-- R421: an entry is well formed: it can be read, and the fields that must be zero are (log 44, DEDUCED). -/
def State.entryOk (s : State) (entry : Nat) : Bool :=
  let w0 := s.entryWord entry 0
  let kind := w0 % 16
  (s.homeNat entry 8).2.isSome && (kind == 1 || kind == 2 || kind == 3) && w0 / 16 % 2 ^ 12 == 0 && w0 / 2 ^ 28 == 0
    && (kind != 1 || w0 / 2 ^ 16 % 2 ^ 12 == 0) && decide (s.entryWord entry 1 < 2 ^ 57)
    && (List.range 4).all fun i => s.entryWord entry (2 + i) == 0

/-- R419, R421: the agent takes the next entry of a port's ring (log 44, DEDUCED). -/
def execSubmissionTake (port : Nat) (s : State) : Out :=
  let base := vat s.svc.subbase 0 port
  let head := vat s.svc.subhead 0 port
  let tail := s.tailWord base
  if !s.svc.ready ∨ wbits base 63 1 = 0 ∨ tail = head then .next s
  else
    let entry := wbits base 6 39 * 64 + 64 + 64 * (head % 2 ^ wbits base 48 4)
    let s : State := { s with svc := { s.svc with
      subhead := vput s.svc.subhead port ((head + 1) % 2 ^ 32), entries := s.svc.entries ++ [entry] } }
    let s := (s.homeNat entry 8).1.watchTails
    if !s.entryOk entry then .next (s.entryRefused entry 5)
    else
      let kind := s.entryWord entry 0 % 16
      .next (if kind = 1 then s.post (.submitLaunchRecord entry) else if kind = 2 then s.post (.submitGraph entry) else s)

/-- R421: the ASID in which a launch record names itself (log 35, DEDUCED). -/
def State.recordAsid (s : State) (va : Nat) : Option Nat :=
  (List.range 4096).find? fun a => (s.vaNat a (va + 16) 8).any fun w => w / 2 ^ 32 % 2 ^ 12 == a

/-- R421: KIND 1 (log 35, DEDUCED). -/
def execSubmitLaunchRecord (entry : Nat) (s : State) : Out :=
  if !s.svc.entries.contains entry then .next s
  else
    let va := s.entryWord entry 1
    match s.recordAsid va with
    | none => .next (s.entryRefused entry 8)
    | some asid =>
      match s.submit asid va 0 none none with
      | (s, .ok lid) => .next (s.entryStatus entry lid 0 0)
      | (s, .error reason) => .next (s.entryRefused entry reason)

/-- R421: KIND 2. -/
def execSubmitGraph (entry : Nat) (s : State) : Out :=
  if !s.svc.entries.contains entry then .next s
  else match s.startGraph (s.entryWord entry 0 / 2 ^ 16 % 2 ^ 12) (s.entryWord entry 1) with
    | (s, none) => .next (s.entryStatus entry 0 0 0)
    | (s, some reason) => .next (s.entryRefused entry reason)

/-- R421: KIND 3. -/
def execSubmitImageLoad (entry : Nat) (parts : ImageParts) (s : State) : Out :=
  if !s.svc.entries.contains entry then .next s
  else
    let s := s.imageTouched (s.entryWord entry 0 / 2 ^ 16 % 2 ^ 12) (s.entryWord entry 1)
    match s.loadImage (s.entryWord entry 0 / 2 ^ 16 % 2 ^ 12) (s.entryWord entry 1) parts with
    | .ok (i, data) => .next ((s.publishImage i parts.base data).entryStatus entry parts.va 0 0)
    | .error (code, site) => .next (({ s with svc := { s.svc with loadFault := site } } : State).entryRefused entry code)

/-! Recalibration (R432, R433) -/

/-- R432: the off-module ports come up: their link ends begin (log 59, DESIGN CHOICE). -/
def State.lightPorts (s : State) : State := (List.range 64).foldl (fun s p => s.startLink (portEnd p)) s

/-- R432: the off-module ports are dark. -/
def State.darkPorts (s : State) : State := { s with links := s.links.filter fun e => decide (e.num < 2 * meshLinks) }

/-- R433: the conditions for a recalibration (log 42, DEDUCED). -/
def State.mayCalibrate (s : State) : Bool :=
  s.svc.ready && !s.svc.calibrating && (s.dies.all fun d => d.handles.toList.all (·.owner.isNone))
    && s.conn.members == 1 <<< s.conn.modnum

/-- R433 steps 1 and 2: clocks lowered to 1.2 GHz at most, BISQUE set (log 42, DEDUCED). -/
def State.beginCalibration (s : State) : State :=
  let s := (s.dies.filter fun d => decide (1200 < d.fmhz)).foldl (fun s d => s.setClock d.num 1200) s
  { s.darkPorts with svc := { s.svc with bisque := true, calibrating := true } }

/-- R433: a write of CALCTL.GO. -/
def State.calctl (s : State) : State :=
  if s.mayCalibrate then s.beginCalibration else { s with svc := { s.svc with denied := (s.svc.denied + 1) % 256 } }

/-- R433: a recalibration: begun where none runs, else ended with its outcome. -/
def execRecalibrate (ok : Bool) (s : State) : Out :=
  if s.svc.calibrating then
    let s : State := { s with svc := { s.svc with calibrating := false, bisque := !ok, calfail := !ok } }
    .next (if ok then s.lightPorts else s)
  else if s.mayCalibrate then
    .next (s.beginCalibration.fresh.at (s.tick + 1 + Config.homeDelay s.nextId) (.recalibrate ok))
  else .next { s with svc := { s.svc with denied := (s.svc.denied + 1) % 256 } }

/-! The service window (R416 to R424) -/

/-- R416: a write to a window register. Those with steps of their own are handed on to them. -/
def execServiceRegisterWrite (port off : Nat) (value : BitVec 64) (s : State) : Out :=
  .next (match off with
    | 0x010 => s.semaCommand port value
    | 0x018 => s.post (.subbaseWrite port value)
    | 0x028 => { s with svc := { s.svc with smsel := BitVec.ofNat 64 (wbits value 60 4 * 2 ^ 60 + wbits value 0 32) } }
    | 0x040 => s.controlled port fun s =>
        if wbits value 63 1 = 1 ∧ wbits value 23 40 = 0 then s.post (.bootGo port (wbits value 0 23)) else s
    | 0x050 => s.controlled port fun s => s.post (.attestQuote (wbits value 0 45))
    | 0x058 => s.controlled port fun s => if wbits value 63 1 = 1 then s.calctl else s
    | 0x060 => s.controlled port fun s => if wbits value 63 1 = 1 then s.setRequest value else s
    | 0x100 => s.controlled port fun s =>
        { s with svc := { s.svc with dbgsel := BitVec.ofNat 64 (wbits value 16 10 * 2 ^ 16 + wbits value 0 16) } }
    | 0x108 => s.controlled port fun s => s.post (.dbgdataWrite port value)
    | _ => s)

/-- A bit map's word: which of 64 numbers from `64 i` on are in a list. -/
def mapWord (l : List Nat) (i : Nat) : Word :=
  BitVec.ofNat 64 ((List.range 64).map fun j => if l.contains (64 * i + j) then 2 ^ j else 0).sum

/-- R422: SMVAL. -/
def State.smval (s : State) : Word :=
  let i := wbits s.svc.smsel 0 32
  match wbits s.svc.smsel 60 4 with
  | 0 => if i < 625 then mapWord s.fuses.cores i else 0
  | 1 => if i < 25 then mapWord s.fuses.links i else 0
  | 2 => if i < 200 then mapWord s.fuses.channels i else 0
  | 3 => if i < 400 then BitVec.ofNat 64 (s.siteCap i) else 0
  | 4 =>
    -- entry i mod 256: the latest check whose number has that remainder
    match ((s.svc.mlog.zipIdx.filter fun x => x.2 % 256 == i % 256).getLast?) with
    | some x => BitVec.ofNat 64 (x.1.1 * 2 ^ 48 + x.1.2.1 * 2 ^ 40 + x.1.2.2 % 2 ^ 40)
    | none => 0
  | _ => 0

/-- R416: DBGDATA as it reads: the CSR selected of a stopped core, else zero. -/
def State.dbgdata (s : State) : Word :=
  let k := s.coreOf (wbits s.svc.dbgsel 0 16)
  if k.dbg.stopped then ({ s with core := k } : State).sysRead (BitVec.ofNat 10 (wbits s.svc.dbgsel 16 10)) else 0

/-- R430: the identity's private key, in the range of FIPS 186-5. -/
def identityPrivate : Nat := 1 + Config.identityKey % (n384 - 1)

/-- R430: the identity's public key in uncompressed form: 04H, X and Y, 97 bytes. -/
def idKey : List Byte :=
  let q := (mulPoint (some g384) 384 identityPrivate).getD (0, 0)
  4 :: (toBig 48 q.1 ++ toBig 48 q.2)

/-- R416: a window register as a host reads it (log 37, DESIGN CHOICE). -/
def State.windowRead (s : State) (port off : Nat) : Word :=
  let v := s.svc
  match off with
  | 0x000 => BitVec.ofNat 64 (v.ready.toNat * 2 ^ 63 + v.bisque.toNat * 2 ^ 62 + v.calfail.toNat * 2 ^ 61 + v.halt.toNat * 2 ^ 60
      + v.stage % 16 * 2 ^ 56 + v.denied % 2 ^ 8 * 2 ^ 48 + v.mchk % 2 ^ 16 * 2 ^ 32 + v.fwsvn % 2 ^ 16)
  | 0x008 => BitVec.ofNat 64 (if v.semaHeld then
      2 ^ 63 + v.semaPort % 2 * 2 ^ 62 + v.semaOwner % 2 ^ 16 * 2 ^ 32 + (v.semaExpiry - s.tick) / 1000 % 2 ^ 32 else 0)
  | 0x018 => vat v.subbase 0 port
  | 0x020 => BitVec.ofNat 64 (vat v.subhead 0 port)
  | 0x028 => v.smsel
  | 0x030 => s.smval
  | 0x038 => BitVec.ofNat 64 (v.compmap % 2 ^ 45)
  | 0x048 => BitVec.ofNat 64 (v.tries % 2 ^ 32 * 2 ^ 8 + v.bootCause % 2 ^ 8)
  | 0x050 => BitVec.ofNat 64 (v.attLog % 2 ^ 45)
  | 0x068 => BitVec.ofNat 64 (s.conn.done.toNat * 2 ^ 63 + s.conn.busy.toNat * 2 ^ 62 + s.conn.cause % 2 ^ 8)
  | 0x100 => v.dbgsel
  | 0x108 => s.dbgdata
  | _ =>
    if 0x400 ≤ off ∧ off < 0x468 then
      BitVec.ofNat 64 (ofBytes ((List.range 8).map fun i => idKey.getD (off - 0x400 + i) 0))
    else 0

/-- R403: the agent's write to a CSR of a stopped core, in system mode. -/
def State.agentWrite (s : State) (cid : Nat) (sel : BitVec 10) (w : Word) : State :=
  (s.onCore cid fun k => { k with ctx := k.ctx.csrWriteNow sel w }).sysWrite cid sel w

/-- R416: a write to DBGDATA. -/
def execDbgdataWrite (port : Nat) (value : BitVec 64) (s : State) : Out :=
  let cid := wbits s.svc.dbgsel 0 16
  if port < 2 ∧ (s.coreOf cid).dbg.stopped then .next (s.agentWrite cid (BitVec.ofNat 10 (wbits s.svc.dbgsel 16 10)) value)
  else .next s

/-! Boot (R426 to R430) -/

/-- R426: module reset: fuses stay, TICK starts at 0, every register takes its reset value, and stage 0's work is done (log 29, DESIGN CHOICE). -/
def execModuleReset (s : State) : Out :=
  .next { State.reset with
    events := []
    fuses := s.fuses
    svc := { Service.zero with stage := 1, minSvn := s.svc.minSvn }
    conn := { SetState.zero with modlim := s.conn.modlim, setlim := s.conn.setlim } }

/-- R427, R429: the first check that fails on a bundle of `len` bytes; 0 for none (log 7, DESIGN CHOICE). -/
def State.bundleCause (s : State) (port len : Nat) : Nat :=
  let buf := (s.site (portSite port)).staging
  let byte := fun (i : Nat) => buf.read 0 i
  let m := (List.range (len - 1836)).map byte
  if len < 1837 ∨ 4194304 < len then 5
  else if !ecdsaVerifies Config.vendorKey m (fromBig ((List.range 48).map fun i => byte (len - 1836 + i)))
      (fromBig ((List.range 48).map fun i => byte (len - 1788 + i))) then 2
  else if !lmsVerifies Config.vendorLms m ((List.range 1740).map fun i => byte (len - 1740 + i)) then 3
  else if (byte 8).toNat + 256 * (byte 9).toNat < s.svc.minSvn then 4
  else 0

/-- R427 to R429: GO: stage 2 verifies the bundle and passes to stage 4 or stage 3 (log 29, DESIGN CHOICE). -/
def execBootGo (port len : Nat) (s : State) : Out :=
  if !s.staging then .next s
  else
    let cause := s.bundleCause port len
    let buf := (s.site (portSite port)).staging
    let svn := (buf.read 0 8).toNat + 256 * (buf.read 0 9).toNat
    let svc := { s.svc with tries := s.svc.tries + 1, bootCause := cause, stage := if cause = 0 then 4 else 3 }
    if cause ≠ 0 then .next { s with svc := svc }
    else
      let s : State := { s with svc := { svc with minSvn := svn, fwsvn := svn } }
      let s := (s.onSite 0 fun t => { t with staging := [] }).onSite 399 fun t => { t with staging := [] }
      .next ((List.range (2 * meshLinks)).foldl (fun s l => if s.fuses.links.contains (l / 2) then s else s.startLink l) s)

/-- R430: a component's log entry and measurement (log 7, DESIGN CHOICE). -/
def State.measure (s : State) (x : Nat × Nat) : State :=
  let pa := s.svc.attLog + 64 * s.svc.logCount
  let bs := toBytes 8 x.2 ++ toBytes 8 s.svc.fwsvn ++ toBytes 48 x.1
  let s := s.sectorWrite (bs.zipIdx.map fun b => (pa + b.2, b.1))
  { s with svc := { s.svc with meas := ofBytes (sha384 (toBytes 48 s.svc.meas ++ toBytes 48 x.1)), logCount := s.svc.logCount + 1 } }

/-- R426, R430: stage 4: components, of the digests given, are distributed and measured. -/
def execBootDistribute (digests : List Nat) (s : State) : Out :=
  if s.svc.stage ≠ 4 then .next s
  else
    let s := digests.zipIdx.foldl (fun s x => s.measure x) s
    .next { s with svc := { s.svc with stage := 5 } }

/-- R426: stage 5: HBM4 trained and firmware values written (log 3, DESIGN CHOICE). -/
def execHbmTraining (s : State) : Out :=
  if s.svc.stage ≠ 5 then .next s else .next { s with svc := { s.svc with stage := 6 } }

/-- R426: stage 6: the outcome of the optical calibration; the module is ready. -/
def execOpticalCalibration (ok : Bool) (s : State) : Out :=
  if s.svc.stage ≠ 6 then .next s
  else
    let s : State := { s with svc := { s.svc with stage := 7, ready := true, bisque := !ok, calfail := !ok } }
    .next ((if ok then s.lightPorts else s).watchTails)

/-! Attestation (R431) -/

/-- R431: a quote: MEAS, the entry count, the signature over the first 104 bytes, then DONE. -/
def execAttestQuote (pa : Nat) (s : State) : Out :=
  let put := fun (s : State) (off : Nat) (bs : List Byte) =>
    (sectorPieces (pa + off) bs.length).foldl (fun s p =>
      s.sectorWrite (((bs.drop p.1).take p.2).zipIdx.map fun x => (pa + off + p.1 + x.2, x.1))) s
  let s := put s 48 (toBytes 48 s.svc.meas ++ toBytes 8 s.svc.logCount)
  let sig := ecdsaSign identityPrivate (1 + Config.quoteNonce s.tick % (n384 - 1))
    ((List.range 104).map fun i => s.devByte s.conn.modnum (pa + i))
  let s := s.nmTouch pa 104
  let s := put s 104 (toBig 48 sig.1 ++ toBig 48 sig.2)
  .next (put s 200 (toBytes 8 (2 ^ 63)))

/-! Scrubbing (R240) -/

/-- R240: a sector scrubbed: a corrected error is counted, one that cannot be corrected poisons the sector. -/
def execScrub (pa : Nat) (corrected uncorrectable : Bool) (s : State) : Out :=
  .next (s.onSite (pa / 2 ^ 36) fun t =>
    { t with
      softErrors := if corrected then t.softErrors + 1 else t.softErrors
      poison := if uncorrectable && !t.poison.contains (pa / 128) then t.poison ++ [pa / 128] else t.poison })

end Sys2Proof.Machine
end

