-- ==== Sys2Proof/Machine/Tokens.lean ====
section
/-! DEFINITION. The word `tok.push`, which must know what the engines pop in its cycle (06 R154, R155). -/

namespace Sys2Proof.Machine

/-- What an engine that can pop a FIFO does with the head of its queue in this cycle. -/
def State.headStep (s : State) (u : Unit7) : Out :=
  match s.core.ctx.head u with
  | none => .next s
  | some e =>
    if u = .vx then .next (s.vxStep e)
    else match e.op8 with
      | 0x00 => execLdStrm s
      | 0x01 => execLdVec s
      | 0x02 => execLdAcc s
      | 0x03 => execStStrm s
      | 0x04 => execStVec s
      | 0x05 => execStAcc s
      | 0x06 => execQTok s
      | 0x20 => execMxMma s
      | 0x21 => execMxMmac s
      | 0x22 => execMxMmi s
      | 0x23 => execMxZero s
      | 0x24 => execMxLsf s
      | 0x25 => execMxTov s
      | 0x26 => execMxFromv s
      | _ => .next s

/-- R154: the pops that the engines, in the order in which they are judged, make of a FIFO in this cycle. -/
def State.willPop (s : State) (f : Nat) : Nat :=
  let t := [Unit7.mx, .vx, .ld, .st].foldl (fun (t : State) u =>
    match ({ t with unit := u } : State).headStep u with
    | .next t' => t'
    | _ => t) s
  s.core.ctx.tok f - t.core.ctx.tok f

/-- R154, R155 `tok.push`. -/
def execTokPush (fifo : BitVec 3) (s : State) : Out :=
  if s.core.ctx.tok fifo.toNat - s.willPop fifo.toNat = 8 then s.wordFault causeTokenFull 0
  else .next (s.push 1 (.token fifo)).retire

end Sys2Proof.Machine
end

