-- ==== Sys2Proof/Machine/Dispatch.lean ====
section
/-! DEFINITION. One arm for each constructor of `Instr`: the meaning it has. -/

namespace Sys2Proof.Machine

/-- What an instruction does in a state. -/
def exec (i : Instr) (s : State) : Host.Outcome State Fault Refusal :=
  match i with
  | .add sd sa sb g u => Sys2Proof.Machine.execAdd sd sa sb g u s
  | .sub sd sa sb g u => Sys2Proof.Machine.execSub sd sa sb g u s
  | .mul sd sa sb g u => Sys2Proof.Machine.execMul sd sa sb g u s
  | .mulh sd sa sb g u => Sys2Proof.Machine.execMulh sd sa sb g u s
  | .div sd sa sb g u => Sys2Proof.Machine.execDiv sd sa sb g u s
  | .rem sd sa sb g u => Sys2Proof.Machine.execRem sd sa sb g u s
  | .and sd sa sb g => Sys2Proof.Machine.execAnd sd sa sb g s
  | .or sd sa sb g => Sys2Proof.Machine.execOr sd sa sb g s
  | .xor sd sa sb g => Sys2Proof.Machine.execXor sd sa sb g s
  | .shl sd sa sb g u => Sys2Proof.Machine.execShl sd sa sb g u s
  | .shr sd sa sb g u => Sys2Proof.Machine.execShr sd sa sb g u s
  | .sra sd sa sb g u => Sys2Proof.Machine.execSra sd sa sb g u s
  | .min sd sa sb g u => Sys2Proof.Machine.execMin sd sa sb g u s
  | .max sd sa sb g u => Sys2Proof.Machine.execMax sd sa sb g u s
  | .clz sd sa g u => Sys2Proof.Machine.execClz sd sa g u s
  | .popc sd sa g u => Sys2Proof.Machine.execPopc sd sa g u s
  | .sel sd sa sb g n => Sys2Proof.Machine.execSel sd sa sb g n s
  | .cmp pd sa sb g w cond => Sys2Proof.Machine.execCmp pd sa sb g w cond s
  | .plog pd pa pb g op => Sys2Proof.Machine.execPlog pd pa pb g op s
  | .addi sd sa g imm => Sys2Proof.Machine.execAddi sd sa g imm s
  | .andi sd sa g imm => Sys2Proof.Machine.execAndi sd sa g imm s
  | .ori sd sa g imm => Sys2Proof.Machine.execOri sd sa g imm s
  | .xori sd sa g imm => Sys2Proof.Machine.execXori sd sa g imm s
  | .shli sd sa g w amt => Sys2Proof.Machine.execShli sd sa g w amt s
  | .shri sd sa g w amt => Sys2Proof.Machine.execShri sd sa g w amt s
  | .srai sd sa g w amt => Sys2Proof.Machine.execSrai sd sa g w amt s
  | .cmpi cond pd sa g imm => Sys2Proof.Machine.execCmpi cond pd sa g imm s
  | .lhi sd imm => Sys2Proof.Machine.execLhi sd imm s
  | .fadd sd sa sb g p rm => Sys2Proof.Machine.execFadd sd sa sb g p rm s
  | .fsub sd sa sb g p rm => Sys2Proof.Machine.execFsub sd sa sb g p rm s
  | .fmul sd sa sb g p rm => Sys2Proof.Machine.execFmul sd sa sb g p rm s
  | .fdiv sd sa sb g p rm => Sys2Proof.Machine.execFdiv sd sa sb g p rm s
  | .fsqrt sd sa g p rm => Sys2Proof.Machine.execFsqrt sd sa g p rm s
  | .fma sd sa sb g p rm => Sys2Proof.Machine.execFma sd sa sb g p rm s
  | .fmin sd sa sb g p => Sys2Proof.Machine.execFmin sd sa sb g p s
  | .fmax sd sa sb g p => Sys2Proof.Machine.execFmax sd sa sb g p s
  | .fcmp pd sa sb g p cond => Sys2Proof.Machine.execFcmp pd sa sb g p cond s
  | .fcvt sd sa sto dst g rtz src => Sys2Proof.Machine.execFcvt sd sa sto dst g rtz src s
  | .br g off => Sys2Proof.Machine.execBr g off s
  | .call g off => Sys2Proof.Machine.execCall g off s
  | .jr sd sa g => Sys2Proof.Machine.execJr sd sa g s
  | .loop l sa g b => Sys2Proof.Machine.execLoop l sa g b s
  | .loopi l c b => Sys2Proof.Machine.execLoopi l c b s
  | .lbrk l g => Sys2Proof.Machine.execLbrk l g s
  | .csrr sd g csr => Sys2Proof.Machine.execCsrr sd g csr s
  | .csrw sa g csr => Sys2Proof.Machine.execCsrw sa g csr s
  | .csrx sd sa g csr => Sys2Proof.Machine.execCsrx sd sa g csr s
  | .dbgstLostRead => Sys2Proof.Machine.execDbgstLostRead s
  | .idle sa g n => Sys2Proof.Machine.execIdle sa g n s
  | .lds sd sa g sz off => Sys2Proof.Machine.execLds sd sa g sz off s
  | .sts sd sa g sz off => Sys2Proof.Machine.execSts sd sa g sz off s
  | .amo sd sa sb g w op => Sys2Proof.Machine.execAmo sd sa sb g w op s
  | .amocas sd sa sbh g w => Sys2Proof.Machine.execAmocas sd sa sbh g w s
  | .rld sd sa g sz => Sys2Proof.Machine.execRld sd sa g sz s
  | .rst sd sa sb g sz => Sys2Proof.Machine.execRst sd sa sb g sz s
  | .ramo sd sa sb g w op => Sys2Proof.Machine.execRamo sd sa sb g w op s
  | .ramocas sd sa sbh g w => Sys2Proof.Machine.execRamocas sd sa sbh g w s
  | .vadd vd va vb bs mask ty idle => Sys2Proof.Machine.execVadd vd va vb bs mask ty idle s
  | .vsub vd va vb bs mask ty idle => Sys2Proof.Machine.execVsub vd va vb bs mask ty idle s
  | .vmul vd va vb bs mask ty idle => Sys2Proof.Machine.execVmul vd va vb bs mask ty idle s
  | .vfma vd va vb bs mask ty idle => Sys2Proof.Machine.execVfma vd va vb bs mask ty idle s
  | .vmin vd va vb bs mask ty idle => Sys2Proof.Machine.execVmin vd va vb bs mask ty idle s
  | .vmax vd va vb bs mask ty idle => Sys2Proof.Machine.execVmax vd va vb bs mask ty idle s
  | .vabs vd va mask ty idle => Sys2Proof.Machine.execVabs vd va mask ty idle s
  | .vneg vd va mask ty idle => Sys2Proof.Machine.execVneg vd va mask ty idle s
  | .vand vd va vb bs mask ty idle => Sys2Proof.Machine.execVand vd va vb bs mask ty idle s
  | .vor vd va vb bs mask ty idle => Sys2Proof.Machine.execVor vd va vb bs mask ty idle s
  | .vxor vd va vb bs mask ty idle => Sys2Proof.Machine.execVxor vd va vb bs mask ty idle s
  | .vandn vd va vb bs mask ty idle => Sys2Proof.Machine.execVandn vd va vb bs mask ty idle s
  | .vshl vd va vb bs mask ty idle => Sys2Proof.Machine.execVshl vd va vb bs mask ty idle s
  | .vshr vd va vb bs mask ty idle => Sys2Proof.Machine.execVshr vd va vb bs mask ty idle s
  | .vsra vd va vb bs mask ty idle => Sys2Proof.Machine.execVsra vd va vb bs mask ty idle s
  | .vcmp cond md va vb bs mask ty idle => Sys2Proof.Machine.execVcmp cond md va vb bs mask ty idle s
  | .vsel vd va vb bs mask ty idle => Sys2Proof.Machine.execVsel vd va vb bs mask ty idle s
  | .vcvt vd va code bs mask idle => Sys2Proof.Machine.execVcvt vd va code bs mask idle s
  | .vrint vd va mask ty idle => Sys2Proof.Machine.execVrint vd va mask ty idle s
  | .vrcp vd va mask ty idle => Sys2Proof.Machine.execVrcp vd va mask ty idle s
  | .vrsq vd va mask ty idle => Sys2Proof.Machine.execVrsq vd va mask ty idle s
  | .vexp2 vd va mask ty idle => Sys2Proof.Machine.execVexp2 vd va mask ty idle s
  | .vlog2 vd va mask ty idle => Sys2Proof.Machine.execVlog2 vd va mask ty idle s
  | .vred vd va op mask ty idle => Sys2Proof.Machine.execVred vd va op mask ty idle s
  | .vscan vd va op mask ty idle => Sys2Proof.Machine.execVscan vd va op mask ty idle s
  | .vperm vd va vb bs mask ty idle => Sys2Proof.Machine.execVperm vd va vb bs mask ty idle s
  | .vrot vd va sb mask ty idle => Sys2Proof.Machine.execVrot vd va sb mask ty idle s
  | .vlane vd va sb mask ty idle => Sys2Proof.Machine.execVlane vd va sb mask ty idle s
  | .vpack vd va vb bs mask ty idle => Sys2Proof.Machine.execVpack vd va vb bs mask ty idle s
  | .vunpack vd va h mask ty idle => Sys2Proof.Machine.execVunpack vd va h mask ty idle s
  | .vmov vd va mask ty idle => Sys2Proof.Machine.execVmov vd va mask ty idle s
  | .vmovBroadcast vd sb mask ty idle => Sys2Proof.Machine.execVmovBroadcast vd sb mask ty idle s
  | .vmlog md ma mb op idle => Sys2Proof.Machine.execVmlog md ma mb op idle s
  | .vmpop vd ma mask ty idle => Sys2Proof.Machine.execVmpop vd ma mask ty idle s
  | .vdot2 vd va vb bs mask ty idle => Sys2Proof.Machine.execVdot2 vd va vb bs mask ty idle s
  | .vld vd sa k mask ty idle => Sys2Proof.Machine.execVld vd sa k mask ty idle s
  | .vst vd sa k mask ty idle => Sys2Proof.Machine.execVst vd sa k mask ty idle s
  | .vgath vd sa vb mask ty idle => Sys2Proof.Machine.execVgath vd sa vb mask ty idle s
  | .vscat vd sa vb mask ty idle => Sys2Proof.Machine.execVscat vd sa vb mask ty idle s
  | .patchAndIssue eng t fld val => Sys2Proof.Machine.execPatchAndIssue eng t fld val s
  | .amend eng fld val => Sys2Proof.Machine.execAmend eng fld val s
  | .li sd h hi lo => Sys2Proof.Machine.execLi sd h hi lo s
  | .jmpf tgt => Sys2Proof.Machine.execJmpf tgt s
  | .callf sd tgt => Sys2Proof.Machine.execCallf sd tgt s
  | .tdef eng t sa off => Sys2Proof.Machine.execTdef eng t sa off s
  | .tread eng t sa off => Sys2Proof.Machine.execTread eng t sa off s
  | .qdef q w sa imm => Sys2Proof.Machine.execQdef q w sa imm s
  | .qread sd q w => Sys2Proof.Machine.execQread sd q w s
  | .rdef ring prod cons cnt size base => Sys2Proof.Machine.execRdef ring prod cons cnt size base s
  | .whlSlot slot eng t fo lo k fa fb => Sys2Proof.Machine.execWhlSlot slot eng t fo lo k fa fb s
  | .whlStride slot ab lvl v => Sys2Proof.Machine.execWhlStride slot ab lvl v s
  | .whlCount lvl c => Sys2Proof.Machine.execWhlCount lvl c s
  | .whlLen n => Sys2Proof.Machine.execWhlLen n s
  | .whlgo sa lvl => Sys2Proof.Machine.execWhlgo sa lvl s
  | .wheelPlacement => Sys2Proof.Machine.execWheelPlacement s
  | .launch sa addr => Sys2Proof.Machine.execLaunch sa addr s
  | .racq sd side ring => Sys2Proof.Machine.execRacq sd side ring s
  | .rrel sa full ring => Sys2Proof.Machine.execRrel sa full ring s
  | .rstat sd sel ring => Sys2Proof.Machine.execRstat sd sel ring s
  | .tokRd sd fifo => Sys2Proof.Machine.execTokRd sd fifo s
  | .tokPush fifo => Sys2Proof.Machine.execTokPush fifo s
  | .tokTry sd fifo => Sys2Proof.Machine.execTokTry sd fifo s
  | .tokVpop fifo => Sys2Proof.Machine.execTokVpop fifo s
  | .tokVpush fifo => Sys2Proof.Machine.execTokVpush fifo s
  | .qdrain mask => Sys2Proof.Machine.execQdrain mask s
  | .waita sd sa nz n => Sys2Proof.Machine.execWaita sd sa nz n s
  | .waitaFire => Sys2Proof.Machine.execWaitaFire s
  | .waitaExpiry => Sys2Proof.Machine.execWaitaExpiry s
  | .fsig sa eng flag => Sys2Proof.Machine.execFsig sa eng flag s
  | .fsigWrite => Sys2Proof.Machine.execFsigWrite s
  | .acq sd sa k => Sys2Proof.Machine.execAcq sd sa k s
  | .acqAnswer id code => Sys2Proof.Machine.execAcqAnswer id code s
  | .acqBusyResend => Sys2Proof.Machine.execAcqBusyResend s
  | .acqLimitExpiry => Sys2Proof.Machine.execAcqLimitExpiry s
  | .rel ovr scope k => Sys2Proof.Machine.execRel ovr scope k s
  | .bind sa k => Sys2Proof.Machine.execBind sa k s
  | .fence scope => Sys2Proof.Machine.execFence scope s
  | .lockAcquirePacket id => Sys2Proof.Machine.execLockAcquirePacket id s
  | .lockReleasePacket id => Sys2Proof.Machine.execLockReleasePacket id s
  | .lockCancelPacket id => Sys2Proof.Machine.execLockCancelPacket id s
  | .rtick sd => Sys2Proof.Machine.execRtick sd s
  | .rcyc sd => Sys2Proof.Machine.execRcyc sd s
  | .align sd sa n => Sys2Proof.Machine.execAlign sd sa n s
  | .alignRestart => Sys2Proof.Machine.execAlignRestart s
  | .bar n => Sys2Proof.Machine.execBar n s
  | .barw sd sa n => Sys2Proof.Machine.execBarw sd sa n s
  | .barwExpiry => Sys2Proof.Machine.execBarwExpiry s
  | .bart sd n => Sys2Proof.Machine.execBart sd n s
  | .barrierReport die seg par => Sys2Proof.Machine.execBarrierReport die seg par s
  | .barrierRelease die seg par => Sys2Proof.Machine.execBarrierRelease die seg par s
  | .barrierExcuse die core lid => Sys2Proof.Machine.execBarrierExcuse die core lid s
  | .cstat sd h => Sys2Proof.Machine.execCstat sd h s
  | .cstatSettle sd => Sys2Proof.Machine.execCstatSettle sd s
  | .cstatStart sd => Sys2Proof.Machine.execCstatStart sd s
  | .cstatFrec sd h => Sys2Proof.Machine.execCstatFrec sd h s
  | .cwait sd sa h => Sys2Proof.Machine.execCwait sd sa h s
  | .cwaitExpiry => Sys2Proof.Machine.execCwaitExpiry s
  | .cgopen sa k cg => Sys2Proof.Machine.execCgopen sa k cg s
  | .cgcommit sd cg => Sys2Proof.Machine.execCgcommit sd cg s
  | .cgabort sd cg => Sys2Proof.Machine.execCgabort sd cg s
  | .cgstat sd cg => Sys2Proof.Machine.execCgstat sd cg s
  | .commitHold id => Sys2Proof.Machine.execCommitHold id s
  | .commitAnswer id => Sys2Proof.Machine.execCommitAnswer id s
  | .publish id => Sys2Proof.Machine.execPublish id s
  | .discard id => Sys2Proof.Machine.execDiscard id s
  | .monset sa k => Sys2Proof.Machine.execMonset sa k s
  | .monref sa k => Sys2Proof.Machine.execMonref sa k s
  | .monrd sd part k => Sys2Proof.Machine.execMonrd sd part k s
  | .monchk sd clr k => Sys2Proof.Machine.execMonchk sd clr k s
  | .kend sa => Sys2Proof.Machine.execKend sa s
  | .trap sa code => Sys2Proof.Machine.execTrap sa code s
  | .rett => Sys2Proof.Machine.execRett s
  | .rqrd sd n w => Sys2Proof.Machine.execRqrd sd n w s
  | .rqwr sa n w => Sys2Proof.Machine.execRqwr sa n w s
  | .pbr pd lvl => Sys2Proof.Machine.execPbr pd lvl s
  | .pack sd => Sys2Proof.Machine.execPack sd s
  | .bkpt code => Sys2Proof.Machine.execBkpt code s
  | .wfiltClr => Sys2Proof.Machine.execWfiltClr s
  | .wfiltIns sa n space => Sys2Proof.Machine.execWfiltIns sa n space s
  | .wfiltTst sd sa space => Sys2Proof.Machine.execWfiltTst sd sa space s
  | .ldStrm => Sys2Proof.Machine.execLdStrm s
  | .ldVec => Sys2Proof.Machine.execLdVec s
  | .ldAcc => Sys2Proof.Machine.execLdAcc s
  | .stStrm => Sys2Proof.Machine.execStStrm s
  | .stVec => Sys2Proof.Machine.execStVec s
  | .stAcc => Sys2Proof.Machine.execStAcc s
  | .qTok => Sys2Proof.Machine.execQTok s
  | .mxMma => Sys2Proof.Machine.execMxMma s
  | .mxMmac => Sys2Proof.Machine.execMxMmac s
  | .mxMmi => Sys2Proof.Machine.execMxMmi s
  | .mxZero => Sys2Proof.Machine.execMxZero s
  | .mxLsf => Sys2Proof.Machine.execMxLsf s
  | .mxTov => Sys2Proof.Machine.execMxTov s
  | .mxFromv => Sys2Proof.Machine.execMxFromv s
  | .cpCopy => Sys2Proof.Machine.execCpCopy s
  | .cpCopym => Sys2Proof.Machine.execCpCopym s
  | .cpFill => Sys2Proof.Machine.execCpFill s
  | .cpGath => Sys2Proof.Machine.execCpGath s
  | .cpScat => Sys2Proof.Machine.execCpScat s
  | .cpCsend => Sys2Proof.Machine.execCpCsend s
  | .cpCbind => Sys2Proof.Machine.execCpCbind s
  | .cpPut => Sys2Proof.Machine.execCpPut s
  | .cpGet => Sys2Proof.Machine.execCpGet s
  | .cpGput => Sys2Proof.Machine.execCpGput s
  | .copyEnd uid => Sys2Proof.Machine.execCopyEnd uid s
  | .copyFault uid => Sys2Proof.Machine.execCopyFault uid s
  | .nmCas => Sys2Proof.Machine.execNmCas s
  | .nmSwap => Sys2Proof.Machine.execNmSwap s
  | .nmEnq => Sys2Proof.Machine.execNmEnq s
  | .nmDeq => Sys2Proof.Machine.execNmDeq s
  | .nmChase => Sys2Proof.Machine.execNmChase s
  | .nmRed => Sys2Proof.Machine.execNmRed s
  | .nmMlr => Sys2Proof.Machine.execNmMlr s
  | .nmuOperation id => Sys2Proof.Machine.execNmuOperation id s
  | .mlrArrival id => Sys2Proof.Machine.execMlrArrival id s
  | .mlrLimitExpiry pa => Sys2Proof.Machine.execMlrLimitExpiry pa s
  | .remoteOperation cid => Sys2Proof.Machine.execRemoteOperation cid s
  | .homeRequest id => Sys2Proof.Machine.execHomeRequest id s
  | .requestResponse id => Sys2Proof.Machine.execRequestResponse id s
  | .ackTimeout id => Sys2Proof.Machine.execAckTimeout id s
  | .translationWalk cid va => Sys2Proof.Machine.execTranslationWalk cid va s
  | .tlbInvalidate die asid lo hi => Sys2Proof.Machine.execTlbInvalidate die asid lo hi s
  | .route h die port fport fh alt => Sys2Proof.Machine.execRoute h die port fport fh alt s
  | .est h => Sys2Proof.Machine.execEst h s
  | .hold h n => Sys2Proof.Machine.execHold h n s
  | .tear h => Sys2Proof.Machine.execTear h s
  | .atstep r n => Sys2Proof.Machine.execAtstep r n s
  | .sig core flag val => Sys2Proof.Machine.execSig core flag val s
  | .rpt b c => Sys2Proof.Machine.execRpt b c s
  | .nop => Sys2Proof.Machine.execNop s
  | .fend => Sys2Proof.Machine.execFend s
  | .sliceStart => Sys2Proof.Machine.execSliceStart s
  | .circuitSettleEnd die h unlocked => Sys2Proof.Machine.execCircuitSettleEnd die h unlocked s
  | .holdEnd die h => Sys2Proof.Machine.execHoldEnd die h s
  | .circuitFault die h code lgrp region => Sys2Proof.Machine.execCircuitFault die h code lgrp region s
  | .circuitReestablish die h => Sys2Proof.Machine.execCircuitReestablish die h s
  | .circuitUnitLanding id => Sys2Proof.Machine.execCircuitUnitLanding id s
  | .flitReceive link flit => Sys2Proof.Machine.execFlitReceive link flit s
  | .slotForward inLink outLink slot => Sys2Proof.Machine.execSlotForward inLink outLink slot s
  | .laneShed link => Sys2Proof.Machine.execLaneShed link s
  | .heartbeatSend link => Sys2Proof.Machine.execHeartbeatSend link s
  | .linkSilenceTimeout link => Sys2Proof.Machine.execLinkSilenceTimeout link s
  | .moduleSilenceTimeout m => Sys2Proof.Machine.execModuleSilenceTimeout m s
  | .deathNotice m epoch => Sys2Proof.Machine.execDeathNotice m epoch s
  | .level5BarrierReport m bar par => Sys2Proof.Machine.execLevel5BarrierReport m bar par s
  | .level5Release bar par rootTick => Sys2Proof.Machine.execLevel5Release bar par rootTick s
  | .setForm maxEpoch offset agree => Sys2Proof.Machine.execSetForm maxEpoch offset agree s
  | .setLeave => Sys2Proof.Machine.execSetLeave s
  | .setFormLimit => Sys2Proof.Machine.execSetFormLimit s
  | .launchSubmit asid va minClass die => Sys2Proof.Machine.execLaunchSubmit asid va minClass die s
  | .launchAdmit lid => Sys2Proof.Machine.execLaunchAdmit lid s
  | .taskStart lid cid => Sys2Proof.Machine.execTaskStart lid cid s
  | .launchRequestAccept id => Sys2Proof.Machine.execLaunchRequestAccept id s
  | .saggerSwap cid => Sys2Proof.Machine.execSaggerSwap cid s
  | .fullPreemption cid => Sys2Proof.Machine.execFullPreemption cid s
  | .equivalenceStop cid => Sys2Proof.Machine.execEquivalenceStop cid s
  | .migrationResume lid shape point => Sys2Proof.Machine.execMigrationResume lid shape point s
  | .launchClose lid => Sys2Proof.Machine.execLaunchClose lid s
  | .graphKernelNode => Sys2Proof.Machine.execGraphKernelNode s
  | .graphCopyNode => Sys2Proof.Machine.execGraphCopyNode s
  | .graphBarrierNode => Sys2Proof.Machine.execGraphBarrierNode s
  | .graphCondNode => Sys2Proof.Machine.execGraphCondNode s
  | .graphLoopNode => Sys2Proof.Machine.execGraphLoopNode s
  | .graphEndNode => Sys2Proof.Machine.execGraphEndNode s
  | .graphNodeComplete gid node => Sys2Proof.Machine.execGraphNodeComplete gid node s
  | .budgetDebit lid cones => Sys2Proof.Machine.execBudgetDebit lid cones s
  | .machineCheck cid => Sys2Proof.Machine.execMachineCheck cid s
  | .coreRetire cid => Sys2Proof.Machine.execCoreRetire cid s
  | .debugStopreq cid => Sys2Proof.Machine.execDebugStopreq cid s
  | .debugResume cid => Sys2Proof.Machine.execDebugResume cid s
  | .debugStep cid => Sys2Proof.Machine.execDebugStep cid s
  | .bkcycStop => Sys2Proof.Machine.execBkcycStop s
  | .moduleHalt => Sys2Proof.Machine.execModuleHalt s
  | .prctlClr => Sys2Proof.Machine.execPrctlClr s
  | .droopDetect die => Sys2Proof.Machine.execDroopDetect die s
  | .frequencyChange die mhz => Sys2Proof.Machine.execFrequencyChange die mhz s
  | .powerEvaluation die milliwatt => Sys2Proof.Machine.execPowerEvaluation die milliwatt s
  | .demandEpisodeExpiry die => Sys2Proof.Machine.execDemandEpisodeExpiry die s
  | .fabricEnergyCheck milliwatt shares => Sys2Proof.Machine.execFabricEnergyCheck milliwatt shares s
  | .clusterClosing die c value => Sys2Proof.Machine.execClusterClosing die c value s
  | .clusterGate die c => Sys2Proof.Machine.execClusterGate die c s
  | .clusterGateProgress die c => Sys2Proof.Machine.execClusterGateProgress die c s
  | .clusterWake die c => Sys2Proof.Machine.execClusterWake die c s
  | .clusterWakeProgress die c => Sys2Proof.Machine.execClusterWakeProgress die c s
  | .marginReplan die fmax vguard hours => Sys2Proof.Machine.execMarginReplan die fmax vguard hours s
  | .scrub pa corrected uncorrectable => Sys2Proof.Machine.execScrub pa corrected uncorrectable s
  | .hostAccess port pa write => Sys2Proof.Machine.execHostAccess port pa write s
  | .semaAcquire port owner lease => Sys2Proof.Machine.execSemaAcquire port owner lease s
  | .semaRenew port owner lease => Sys2Proof.Machine.execSemaRenew port owner lease s
  | .semaRelease port owner => Sys2Proof.Machine.execSemaRelease port owner s
  | .leaseExpiry => Sys2Proof.Machine.execLeaseExpiry s
  | .subbaseWrite port value => Sys2Proof.Machine.execSubbaseWrite port value s
  | .submissionTake port => Sys2Proof.Machine.execSubmissionTake port s
  | .submitLaunchRecord entry => Sys2Proof.Machine.execSubmitLaunchRecord entry s
  | .submitGraph entry => Sys2Proof.Machine.execSubmitGraph entry s
  | .submitImageLoad entry parts => Sys2Proof.Machine.execSubmitImageLoad entry parts s
  | .serviceRegisterWrite port off value => Sys2Proof.Machine.execServiceRegisterWrite port off value s
  | .dbgdataWrite port value => Sys2Proof.Machine.execDbgdataWrite port value s
  | .moduleReset => Sys2Proof.Machine.execModuleReset s
  | .bootGo port len => Sys2Proof.Machine.execBootGo port len s
  | .bootDistribute digests => Sys2Proof.Machine.execBootDistribute digests s
  | .hbmTraining => Sys2Proof.Machine.execHbmTraining s
  | .opticalCalibration ok => Sys2Proof.Machine.execOpticalCalibration ok s
  | .attestQuote pa => Sys2Proof.Machine.execAttestQuote pa s
  | .recalibrate ok => Sys2Proof.Machine.execRecalibrate ok s
  | .droopDetectorClear die => Sys2Proof.Machine.execDroopDetectorClear die s
  | .sampleRecord => Sys2Proof.Machine.execSampleRecord s

end Sys2Proof.Machine
end

