-- ==== Sys2Proof/Machine/Cycle.lean ====
section
/-! DEFINITION. What a step does: time, the events and words that fall due, and a core's cycle in four parts: SQ issues, each
engine's head is judged, the wheel places, and the cycle ends with its effects and its clock (04 R91, R95; 06 R150 to R155;
17 R377, R378; 19 R405, R408). The parts are the model's own (log 4, DESIGN CHOICE). -/

namespace Sys2Proof.Machine

/-- What a row does within a larger step. -/
def State.occur (s : State) (i : Instr) : State :=
  match exec i s with
  | .next t => t
  | _ => s

/-! Heads of queues -/

/-- The row that starts an entry with a given op8 (R57). -/
def headRow (op : Nat) : Option Instr :=
  match op with
  | 0x00 => some .ldStrm
  | 0x01 => some .ldVec
  | 0x02 => some .ldAcc
  | 0x03 => some .stStrm
  | 0x04 => some .stVec
  | 0x05 => some .stAcc
  | 0x06 => some .qTok
  | 0x20 => some .mxMma
  | 0x21 => some .mxMmac
  | 0x22 => some .mxMmi
  | 0x23 => some .mxZero
  | 0x24 => some .mxLsf
  | 0x25 => some .mxTov
  | 0x26 => some .mxFromv
  | 0x40 => some .cpCopy
  | 0x41 => some .cpCopym
  | 0x42 => some .cpFill
  | 0x43 => some .cpGath
  | 0x44 => some .cpScat
  | 0x50 => some .cpCsend
  | 0x51 => some .cpCbind
  | 0x58 => some .cpPut
  | 0x59 => some .cpGet
  | 0x5A => some .cpGput
  | 0x60 => some .nmCas
  | 0x61 => some .nmEnq
  | 0x62 => some .nmDeq
  | 0x63 => some .nmChase
  | 0x64 => some .nmRed
  | 0x65 => some .nmMlr
  | 0x66 => some .nmSwap
  | _ => none

/-- The engines in the order of R378, in which their heads are judged. -/
def enginesInOrder : List Unit7 := [.mx, .vx, .ld, .st, .cp0, .cp1, .nm]

/-- R150, R151, R177: the head of one engine's queue judged. -/
def State.judgeUnit (s : State) (u : Unit7) : Out :=
  let s := { s with unit := u, judged := s.judged ++ [u] }
  match s.core.ctx.head u with
  | none => .next s
  | some e =>
    if u = .vx then .next (s.vxStep e)
    else match headRow e.op8 with
      | some i => exec i s
      | none => .next s

/-- The wheel places, before the engines' starts free any slot (R146); then the next engine with a head is judged, and when none is
left the cycle ends. -/
def State.judgeNext (s : State) : Out :=
  let s := if s.judged = [] then s.occur .wheelPlacement else s
  match enginesInOrder.find? fun u => !s.judged.contains u && (s.core.ctx.head u).isSome with
  | some u => s.judgeUnit u
  | none => .next { s with phase := .wheel }

/-! Entries that run -/

/-- A captured circuit copy that still runs in its port (R381). -/
def Entry.openPort (e : Entry) : Bool := e.port && !e.late && !e.fault

/-- The bytes of a timed chunk that a job has read, none for any other job. -/
def BankJob.chunk (j : BankJob) : Option (Nat × Nat) :=
  match j.what with
  | .entry b n => if n = 0 then none else some (b, n)
  | _ => none

/-- What a started entry does in a cycle in which it has read what it reads. `j` is the job of its reads; `frozen` says that it is a
circuit copy captured by a trap or a stop. -/
def State.entryCycle (s : State) (e : Entry) (j : BankJob) (frozen : Bool) : State :=
  let t := s.viewed j
  s.unviewed (
    if e.isPort then t.portCycle e frozen
    else match e.eng with
      | .vx => s.vxServed j e
      | .nm => t.nmCycle e
      | .mx => if e.op8 = 6 then t else t.mxCycle e
      | _ =>
        if e.op8 = 6 then t
        else match j.chunk with
          | some (b, n) => t.chunkServed e b n
          | none => t.moverCycle e) j

/-- The job of an entry with nothing to read. -/
def Ctx.noReads (c : Ctx) (uid : Nat) : BankJob := ⟨0, some uid, .entry 0 0, 0, 0, [], c.masks, c.regs.seed⟩

/-- The job reads for an entry. -/
def BankJob.reads (j : BankJob) : Bool :=
  match j.what with
  | .entry .. => true
  | _ => false

/-- The pool locations an entry reads in this cycle; `none` while it has nothing to do. -/
def State.entryReads (s : State) (e : Entry) : Option (List (Nat × Nat)) :=
  if e.isPort then some (s.csendCells e)
  else match e.eng with
    | .vx => none
    | .nm => some (s.nmReads e)
    | .mx => s.mxReads e
    | _ => if e.op8 = 6 then none else some (s.moverReads e)

/-- R134: a started entry asks its banks for what it reads in this cycle, unless it waits for them already; with nothing to read it
goes on at once. -/
def State.entryAsk (frozen : Bool) (s : State) (uid : Nat) : State :=
  let s : State := match s.core.ctx.run.find? (fun (e : Entry) => e.uid = uid) with
    | some (e : Entry) => if e.eng == .mx && e.op8 != 6 then s.ctx (·.mxBeginCompute e) else s
    | none => s
  match s.core.ctx.entry uid with
  | none => s
  | some e =>
    let reading := s.core.ctx.jobs.any fun (j : BankJob) => j.uid == some uid && j.reads
    if e.timedMover s.core.cid && !e.indexing then s.timedAsk e reading
    else if reading then s
    else match s.entryReads e with
      | none => s
      | some [] => s.entryCycle e (s.core.ctx.noReads uid) frozen
      | some ls =>
        let cores := firsts (ls.map fun (l : Nat × Nat) => l.1)
        s.askFor (some uid) (.entry 0 0) (cores.flatMap fun (cid : Nat) =>
          (readAccs cid ((ls.filter fun (l : Nat × Nat) => l.1 == cid).map fun (l : Nat × Nat) => l.2)).map
            fun (a : BankAcc) => a.ofEntry s.core.cid e)

/-- The circuit copies that a trap or a stop has captured and that still run (R381). -/
def Ctx.openPorts (c : Ctx) : List Nat := ((c.replay ++ c.frame).filter Entry.openPort).map (·.uid)

/-- Every started entry of the focus core asks, in the order of their starts; then its captured circuit copies. -/
def State.entriesAsk (s : State) : State :=
  let s := (s.core.ctx.run.map (·.uid)).foldl (State.entryAsk false) s
  s.core.ctx.openPorts.foldl (State.entryAsk true) s

/-! The banks (05 R133, R134) -/

/-- R167, R227: chunks whose writes fall due in this cycle, as accesses that leave the chunk performed. -/
def State.askMoved (s : State) : State :=
  let isMoved := fun (p : Pend) => match p.eff with
    | .moved .. => decide (p.rem ≤ 1)
    | _ => false
  let (due, rest) := s.core.ctx.pend.partition isMoved
  due.foldl (fun s p => match p.eff, p.uid.bind s.core.ctx.entry with
    | .moved b n ws, some e =>
      if ws = [] then s.ctx (·.landedAt e.uid b n (decide (e.op8 < 0x40)))
      else s.askFor p.uid (.landed s.core.ctx.lid b n) ((firsts (ws.map (·.1))).flatMap fun cid =>
        (writeAccs cid ((ws.filter (·.1 == cid)).map fun w => w.2)).map (·.ofEntry s.core.cid e))
    | _, _ => s) (s.ctx fun c => { c with pend := rest })

/-- Writes of entries and words whose effects fall due in this cycle, as accesses: those of one entry together (R194). -/
def State.askWrites (s : State) : State :=
  let c := s.core.ctx
  let isPool := fun (p : Pend) => match p.eff with
    | .pool .. => decide (p.rem ≤ 1)
    | _ => false
  let (due, rest) := c.pend.partition isPool
  let parts := due.filterMap fun p => match p.eff with
    | .pool cid ws => some (p.uid, cid, ws)
    | _ => none
  let keys := firsts (parts.map fun x => (x.1, x.2.1))
  let s := s.ctx fun c => { c with pend := rest }
  s.ask (keys.flatMap fun k =>
    let as := writeAccs k.2 ((parts.filter fun x => x.1 == k.1 && x.2.1 == k.2).flatMap fun x => x.2.2)
    match k.1.bind c.entry with
    | some e => as.map (·.ofEntry s.core.cid e)
    | none => as.map fun a => { a with uid := k.1 })

/-- R230, R236: events of this cycle that bring writes about: a copy's or a window's completion, CP0's before CP1's
(R211), a signal. -/
def State.askEvents (s : State) : State :=
  let asks := fun (p : Pend) => decide (p.rem ≤ 1) && match p.eff with
    | .event (.copyEnd uid) => s.core.ctx.run.any fun e => e.uid == uid && decide (2 ≤ e.stage)
    | .event .fsigWrite => true
    | _ => false
  let first := fun (p : Pend) => match p.eff with
    | .event (.copyEnd uid) => s.core.ctx.run.any fun e => e.uid == uid && e.eng == .cp0
    | _ => false
  let (due, rest) := s.core.ctx.pend.partition asks
  let (cp0, others) := due.partition first
  let windows := s.core.ctx.run.filter fun e => e.bound && !s.core.ctx.pend.any fun p => p.uid == some e.uid
  let (bound0, bound1) := windows.partition fun e => e.eng == .cp0
  let place := fun (s : State) (ps : List Pend) => ps.foldl (fun s p => match p.eff with
    | .event i => s.occur i
    | _ => s) s
  let s := bound0.foldl (fun s e => s.windowEnd e false) (place (s.ctx fun c => { c with pend := rest }) cp0)
  bound1.foldl (fun s e => s.windowEnd e false) (place s others)

/-- A core's cycle comes to its end: what it asks of the banks. Only captured circuit copies ask while its task is stopped. -/
def State.bankAsk (s : State) : State :=
  if s.core.swap ≠ 0 then s
  else if s.core.clocked then (s.askEvents.askWrites).askMoved.entriesAsk
  else s.core.ctx.openPorts.foldl (State.entryAsk true) s

/-- R210: an MX read of a word that an earlier matrix entry is still to write waits; reads of images do not. -/
def Ctx.mxBlocked (c : Ctx) (a : BankAcc) : Bool :=
  match a.uid with
  | none => false
  | some u =>
    match c.run.find? (·.uid = u) with
    | some e => e.eng == .mx && !a.write && decide (e.mxF ≤ e.sent) && (c.mxPending u).contains a.word
    | none => false

/-- The accesses of a core that may be served in this cycle: its task's while it takes cycles, those of circuit copies, and those that
others have brought to its banks. -/
def Core.mayServe (k : Core) : List BankAcc :=
  let own := k.ctx.banks.filter fun a => a.wait == 0 && (k.clocked || k.ctx.ofPort a.uid) && k.swap == 0
  (own.filter fun a => !a.waitsFor own && !k.ctx.mxBlocked a)
    ++ (k.banks.filter fun a => a.wait == 0 && !a.waitsFor k.banks)

/-- R134: what is served of the accesses of some cores. -/
def State.served (s : State) (cids : List Nat) : List BankAcc := chosen (cids.flatMap fun c => (s.coreOf c).mayServe)

/-- The job an access belongs to, among those of the core it waits at. -/
def Core.jobOf (k : Core) (a : BankAcc) : Option BankJob := (k.ctx.jobs ++ k.jobs).find? fun j => some j.id == a.job

/-- R138, R139: what an atomic on `n` bytes leaves. -/
def atomicBytes (p : Word) (a n x : Nat) : List (Nat × Byte) := placed p a (toBytes n x)

/-- R134: the bytes a core's served access writes, from the pools as the cycle found them. -/
def State.servedWrites (s : State) (served : List BankAcc) (cid : Nat) : List (Nat × Nat × Byte) :=
  let k := s.coreOf cid
  let p := k.ctx.misc.part
  ((k.ctx.banks ++ k.banks).filter fun a => served.any (·.seq == a.seq)).flatMap fun a =>
    match (k.jobOf a).map BankJob.what with
    | some (.amo _ n op x v) => (atomicBytes p x n (amoValue op n (k.poolRead x n) v.toNat)).map fun w => (cid, w)
    | some (.cas _ n x cmp v) =>
      if k.poolRead x n = cmp.toNat % 2 ^ (8 * n) then (atomicBytes p x n v.toNat).map fun w => (cid, w) else []
    | some (.remote id) => (s.remoteNow cid id).2.2.map fun w => (cid, w)
    | _ => a.ws.map fun w => (a.cid, w)

/-- What a served access leaves of its job: the delay, and the bytes read should others of the job still wait. -/
def State.catchRead (s : State) (served : List BankAcc) (j : BankJob) : BankJob :=
  let mine := served.filter fun a => a.job == some j.id
  { j with
    late := mine.foldl (fun m a => max m a.late) j.late
    caught := j.caught ++ (mine.filter fun a => !a.write).flatMap fun a =>
      (List.range 16).map fun i => (a.cid, 16 * a.word + i, (s.coreOf a.cid).pool.read emptyByte (16 * a.word + i)) }

/-- R94: the result of a word takes the place that waited for it. -/
def Ctx.loaded (c : Ctx) (job rem : Nat) (e : Eff) : Ctx :=
  { c with pend := c.pend.map fun p => if p.eff = .loading job then ⟨rem, none, e⟩ else p }

/-- R137 to R139, R149, R273: what follows the accesses of a word. -/
def State.wordServed (s : State) (j : BankJob) : State :=
  match j.what with
  | .load d sz a => s.ctx (·.loaded j.id 3 (.sreg d (loadValue sz (s.readFor j a (widthBytes sz.toNat)))))
  | .amo d n _ a _ | .cas d n a _ _ => s.ctx (·.loaded j.id 3 (.sreg d (signWord n (s.readFor j a n))))
  | .word a n =>
    let v := s.readFor j a n
    s.sq fun q => { q with wait := q.wait.map fun w => if w.kind = .served then { w with progress := 1, value := v } else w }
  | .entry .. | .landed .. | .completed _ | .remote _ | .respond _ | .event _ => s

/-- What follows a job of the focus core's own context. -/
def State.ownServed (s : State) (j : BankJob) : State :=
  match j.what, j.uid with
  | .landed _ b n, some u => s.ctx fun c => c.landedAt u b n (c.run.any fun e => e.uid == u && decide (e.op8 < 0x40))
  | .entry .., some u =>
    match s.core.ctx.run.find? (·.uid = u), s.core.ctx.entry u with
    | some e, _ => s.entryCycle e j false
    | none, some e => s.entryCycle e j true
    | none, none => s
  | .event i, _ => s.occur i
  | _, _ => s.wordServed j

/-- What follows a job of others' accesses at the focus core. -/
def State.guestServed (s : State) (j : BankJob) : State :=
  match j.what with
  | .remote id =>
    let (cause, bs, _) := s.remoteNow s.core.cid id
    s.endRemote s.core.cid id cause bs
  | .respond id => s.responded id
  | .event i => s.occur i
  | .landed lid key n => { s with core := s.core.onCtx lid fun c => (j.uid.toList).foldl (fun c u => c.landedAt u key n false) c }
  | .completed lid => { s with core := s.core.onCtx lid fun c => (j.uid.toList).foldl (fun c u => c.pushFor u 1 (.finish u)) c }
  | _ => s

/-- Whether every access of a job has been served. -/
def jobDone (banks : List BankAcc) (j : BankJob) : Bool := !banks.any fun a => a.job == some j.id

/-- The focus core's part of the service: accesses served leave its lists, jobs that are complete have their effect, and the others
keep what has been read. -/
def State.afterService (served : List BankAcc) (s : State) (cid : Nat) : State :=
  let s := s.focus cid
  let left := fun (l : List BankAcc) => l.filter fun a => !served.any (·.seq == a.seq)
  let k := s.core
  let own := left k.ctx.banks
  let guests := left k.banks
  let live := k.clocked && k.swap == 0
  let mine := fun (j : BankJob) => live || k.ctx.ofPort j.uid
  let later := fun (banks : List BankAcc) (j : BankJob) => if jobDone banks j then none else some (s.catchRead served j)
  let done := k.ctx.jobs.filter fun j => mine j && jobDone own j
  let doneAt := k.jobs.filter (jobDone guests)
  let late := fun (j : BankJob) => { j with late := (served.filter fun a => a.job == some j.id).foldl (fun m a => max m a.late) j.late }
  let s : State := { s with core := { k with
    ctx := { k.ctx with
      banks := own
      jobs := k.ctx.jobs.filterMap fun j => if mine j then later own j else some j }
    banks := guests
    jobs := k.jobs.filterMap (later guests) } }
  doneAt.foldl State.guestServed ((done.map late).foldl State.ownServed s)

/-- R167: an LD or ST entry with an access overdue at the end of a cycle: every state change that follows comes a cycle later. -/
def Ctx.slipped (c : Ctx) : Ctx :=
  let us := (firsts ((c.banks.filter fun a => a.wait = 0).filterMap (·.uid))).filter fun u =>
    (c.run.any fun e => e.uid == u && (e.eng == .ld || e.eng == .st))
  us.foldl (fun c u =>
    { c.onRun u fun e => { e with uAge := e.uAge + 1 } with
      pend := c.pend.map fun p => if p.uid = some u then (match p.eff with
        | .ringFill .. | .ringDrain .. | .ringMove .. | .finish _ => { p with rem := p.rem + 1 }
        | _ => p) else p }) c

/-- R227: the carried position of the first of a copy's writes that are overdue. -/
def Ctx.overdue (c : Ctx) (uid : Nat) : Option Nat :=
  ((c.banks.filter fun a => a.uid == some uid && a.write && a.wait == 0).filterMap fun a =>
    match (c.jobs.find? fun j => some j.id == a.job).map BankJob.what with
    | some (.landed _ b _) => some b
    | _ => none).min?

/-- R227: a copy with a write overdue at the end of a cycle: the writes of its later chunks come a cycle later too. -/
def Ctx.slippedCopies (c : Ctx) : Ctx :=
  { c with pend := c.pend.map fun p =>
      match p.eff, p.uid with
      | .moved b _ _, some u =>
        if (c.run.any fun e => e.uid == u && decide (0x40 ≤ e.op8)) && (c.overdue u).any (fun x => decide (x < b)) then { p with rem := p.rem + 1 } else p
      | _, _ => p }

/-- A cycle passes for accesses not served. -/
def BankAcc.older (a : BankAcc) : BankAcc := if a.wait = 0 then { a with late := a.late + 1 } else { a with wait := a.wait - 1 }

/-- A cycle passes for a job. -/
def BankJob.older (j : BankJob) : BankJob := { j with age := j.age + 1 }

/-- R134: a cycle passes for what waits at a core's banks; a context that takes no cycles keeps its own as they are. -/
def Core.banksOlder (k : Core) : Core :=
  let live := k.clocked && k.swap == 0
  { k with
    banks := k.banks.map BankAcc.older
    jobs := k.jobs.map BankJob.older
    ctx := { k.ctx with
      banks := k.ctx.banks.map fun a => if live || k.ctx.ofPort a.uid then a.older else a
      jobs := k.ctx.jobs.map fun j => if live || k.ctx.ofPort j.uid then j.older else j } }

/-! Effects -/

/-- R154: an entry's push. A full FIFO takes none, and the entry faults with TOKEN_FULL. -/
def Ctx.pushToken (c : Ctx) (e : Entry) (f : Nat) : Ctx :=
  if c.tok f < 8 then c.onTok f (· + 1)
  else if c.faults.any (·.uid = e.uid) then c
  else { c with faults := c.faults ++ [{ e with fault := true, cause := causeTokenFull, tval := 0 }] }

/-- R152, R236, R341: an entry finishes: what it contributes, the signals that waited on it, its push bits. A store with
requests still out keeps its record (R455). -/
def Ctx.finishEntry (c : Ctx) (e : Entry) : Ctx :=
  let c := if e.eng == .st && e.out != [] then c.onRun e.uid fun e => { e with late := true }
    else { c with run := c.run.filter (·.uid ≠ e.uid) }
  let c := (c.contribute e).signalled e.uid
  e.pushes.foldl (fun c f => c.pushToken e f) c

/-- R160: a stage settled: the claim that took it moves the ring's pointer no longer. -/
def Entry.settledStage (e : Entry) (ring gen : Nat) : Entry :=
  { e with claims := e.claims.map fun k => if k.ring = ring ∧ k.gen = gen then { k with moves := false } else k }

/-- R160, R162: a change of a ring's state by an entry, which a later `rdef` discards. -/
def Ctx.ringEffect (c : Ctx) (uid : Option Nat) (r gen : Nat) (f : Ring → Ring) : Ctx :=
  if (c.ring r).gen ≠ gen then c
  else
    let c := c.onRing r f
    match uid with
    | some u => c.onEntry u (·.settledStage r gen)
    | none => c

/-- R160: the stage fills. -/
def Ring.fill (g : Ring) (st : Nat) : Ring :=
  { g with full := vput g.full st true, owner := vput g.owner st g.cons, tail := (g.tail + 1) % max g.count 1 }

/-- R160: the stage drains. -/
def Ring.drain (g : Ring) (st : Nat) : Ring :=
  { g with full := vput g.full st false, owner := vput g.owner st g.prod, head := (g.head + 1) % max g.count 1 }

/-- R160: tail (true) or head advances. -/
def Ring.step (g : Ring) (tailSide : Bool) : Ring :=
  if tailSide then { g with tail := (g.tail + 1) % max g.count 1 } else { g with head := (g.head + 1) % max g.count 1 }

/-- The part of an effect that touches the context alone. -/
def Ctx.perform (c : Ctx) (uid : Option Nat) (e : Eff) : Ctx :=
  match e with
  | .sreg d v => { c with regs := c.regs.put d v }
  | .pred d v => { c with regs := c.regs.putP d v }
  | .flags f => { c with regs := { c.regs with flags := c.regs.flags ||| f } }
  | .loop l lb le lc act =>
    let i := l.toNat
    { c with loops := ⟨vput c.loops.lb i lb, vput c.loops.le i le, vput c.loops.lc i lc, vput c.loops.act i act⟩ }
  | .mask m bits sel =>
    if m = 0 then c else { c with masks := vmod c.masks 0 m.toNat fun v => (v &&& ~~~sel) ||| (bits &&& sel) }
  | .ringFill r st gen => c.ringEffect uid r gen (·.fill st)
  | .ringDrain r st gen => c.ringEffect uid r gen (·.drain st)
  | .ringOwn r st gen owner full =>
    c.ringEffect none r gen fun g => { g with owner := vput g.owner st owner, full := vput g.full st full }
  | .ringMove r gen tailSide => c.ringEffect none r gen (·.step tailSide)
  | .ringDef r v => { c with rings := vput c.rings r v }
  | .accDef a d => { c with accs := vput c.accs a.toNat d, planes := vput c.planes a.toNat 0 }
  | .plane a set clr _ _ => { c with planes := vmod c.planes 0 a.toNat fun v => (v &&& ~~~clr) ||| set }
  | .token f => c.onTok f.toNat fun n => min 8 (n + 1)
  | .whlCount l v =>
    if c.wheel.running then { c with wheel := { c.wheel with rem := vput c.wheel.rem l.toNat v.toNat } } else c
  | .stream q w v => { c with streams := vmod c.streams .zero q.toNat fun x => { x with w := vput x.w w.toNat v } }
  | .finish uid =>
    match c.run.find? (·.uid = uid) with
    | some e => c.finishEntry e
    | none => c
  | .wfilt clr bits => { c with filter := if clr then 0 else c.filter ||| bits }
  | .bind k b => c.onBinding k.toNat fun _ => b
  | .group g v => { c with groups := vput c.groups g v }
  | .monSet .. | .monRef .. | .monRead .. | .monCheck .. => c.monEffect e
  | .csr .. | .pool .. | .moved .. | .arrival .. | .event .. | .lcHeld .. | .loading _ => c

/-- One effect performs. -/
def State.perform (s : State) (p : Pend) : State :=
  match p.eff with
  | .csr n v => s.csrPerforms n v
  | .pool cid ws => s.writePools (ws.map fun w => (cid, w))
  | .arrival n par => s.arrival n par
  | .event i => s.occur i
  | e => s.ctx (·.perform p.uid e)

/-- R343, R347 to R350: effects that take the monitors as the cycle's contributions leave them. -/
def Pend.afterFinishes (p : Pend) : Bool :=
  match p.eff with
  | .monSet .. | .monRef .. | .monRead .. | .monCheck .. | .arrival .. | .event (.copyEnd _) => true
  | _ => false

/-- Effects that come before the others of their cycle's end: a push by SQ, which was judged at its word (R154), and plane bits that
`mx.lsf` clears, of which a set at that very end stays (R209). -/
def Pend.pushes (p : Pend) : Bool :=
  match p.eff with
  | .token _ => true
  | .plane _ set .. => set == 0
  | _ => false

/-- Effects that others of this cycle end have brought about, until none is left. -/
def State.settleNow : Nat → State → State
  | 0, s => s
  | n + 1, s =>
    let (due, rest) := s.core.ctx.pend.partition fun (p : Pend) => p.rem == 0
    if due = [] then s else (due.foldl State.perform (s.ctx fun c => { c with pend := rest })).settleNow n

/-- R152: chunks of a timed LD or ST entry have still to perform. -/
def Entry.timedOut (e : Entry) : Bool := (e.eng == .ld || (e.eng == .st && !e.touchesDevice)) && e.out != []

/-- R152, R208, R230: what follows an entry's writes waits until the banks have served them; a copy's completion is asked for in the
next cycle. -/
def Ctx.heldBack (c : Ctx) (p : Pend) : Bool :=
  match p.eff with
  | .finish _ => p.uid.isSome && ((c.banks.any fun a => a.write && a.uid == p.uid)
      || c.run.any fun e => some e.uid == p.uid && e.timedOut)
  | .ringFill .. | .ringDrain .. => p.uid.isSome && c.banks.any fun a => a.write && a.uid == p.uid
  | .event (.copyEnd _) => c.run.any fun e => some e.uid == p.uid && decide (2 ≤ e.stage)
  | .event .fsigWrite => true
  | .pool .. | .moved .. | .loading _ => true
  | _ => false

/-- R9, R95: the end of a cycle for the effects in flight: those whose latency has run out perform, in the order of issue. -/
def State.settleCycle (s : State) : State :=
  let c := s.core.ctx
  let (due, rest) := c.pend.partition fun (p : Pend) => decide (p.rem ≤ 1) && !c.heldBack p
  let (last, first) := due.partition Pend.afterFinishes
  let (tokens, others) := first.partition Pend.pushes
  let s := s.ctx fun c => { c with pend := rest.map fun p => { p with rem := max 1 (p.rem - 1) } }
  let s := ((tokens ++ others).foldl State.perform s).settleNow 8
  (last.foldl State.perform s).settleNow 8

/-- R155: pushes of VX whose entries ahead have all finished. -/
def Ctx.vxTokens (c : Ctx) : Ctx :=
  let ahead := fun (u : Nat) => (c.run ++ c.replay ++ c.frame).any fun (e : Entry) => e.uid == u && !e.late
  (c.run.filter fun e => e.eng == .vx && e.late && !e.out.any fun o => ahead o.1).foldl (fun (c : Ctx) e =>
    let c := { c with run := c.run.filter (·.uid ≠ e.uid) }
    match decode e.img.toNat with
    | .ok (.tokVpush f) => c.pushToken e f.toNat
    | _ => c) c

/-! Barriers and waits at a cycle's end -/

/-- R288: one barrier's releases come a cycle nearer; those that are there are taken. -/
def State.barTick (s : State) (n : Nat) : State :=
  if (s.core.ctx.bar n).due = [] then s
  else
    let s := s.ctx fun c => c.onBar n fun b => { b with due := b.due.map fun r => { r with left := r.left - 1 } }
    let i : Instr := .barrierRelease (s.core.cid / 128) (64 + n) 0
    (s.occur i).occur i

/-- R234, R293, R313: the waits that end with this cycle. -/
def State.endWaits (s : State) : State := (((s.occur .waitaFire).occur .waitaExpiry).occur .barwExpiry).occur .cwaitExpiry

/-- R150, condition 1: an entry placed in this cycle whose start cycle is not later, unless its engine has started or faulted
one in this cycle (log 50, DEDUCED). -/
def Ctx.lateEntry (c : Ctx) (u : Unit7) : Option Entry :=
  let q := c.queue u
  if u = .vx ∨ q.lastS = some c.cyc ∨ c.faults.any (·.eng == u) then none
  else q.wait.find? fun e =>
    e.placed == c.cyc && !e.gatedMode
      && (e.late0 || (e.f 118 1 == 1 && (q.wait.map (·.uid)).head? == some e.uid && decide (c.startCycle e ≤ e.placed)))

/-- R150: such an entry raises TIMING in its placement cycle, wherever it stands in its queue (log 50, DEDUCED). -/
def Ctx.lateFault (c : Ctx) (u : Unit7) : Ctx :=
  match c.lateEntry u with
  | none => c
  | some e =>
    if ((c.queue u).wait.map (·.uid)).head? = some e.uid then c.faultHead e causeTiming 0
    else
      let c := c.onQueue u fun q => { q with wait := q.wait.filter (·.uid ≠ e.uid), gone := q.gone ++ [(e.uid, e.absolute)] }
      { c with faults := c.faults ++ [{ e with fault := true, cause := causeTiming, startCyc := c.cyc, prevS := (c.queue u).lastS }] }

/-! The end of a cycle -/

/-- R414: a counted cycle: the heads' classes, and a sample each SAMPLE cycles. -/
def State.countCycle (s : State) : State :=
  let p := s.core.ctx.misc.prctl
  if wbits p 63 1 = 0 then s
  else
    let s := { s with core := s.core.countHeads }
    let n := wbits p 0 32
    if n = 0 then s
    else if n ≤ s.core.sample + 1 then ({ s with core := { s.core with sample := 0 } } : State).occur .sampleRecord
    else { s with core := { s.core with sample := s.core.sample + 1 } }

/-- R25, R391: the focus core's clock passes an edge; the first core of a die to do so counts a stretched cycle off. -/
def State.clockEdge (s : State) : State :=
  let first := s.ahead.isNone
  let (t, f, e) := s.clockNext
  let s := if first && (s.myDie.stretch != 0) then s.onDie (s.core.cid / 128) fun d => { d with stretch := d.stretch - 1 } else s
  { s with core := { s.core with tick := t, frac := f, edge := e, wrote := [], xfail := [] } }

/-- An entry a cycle older. -/
def Entry.older (e : Entry) : Entry := { e with age := e.age + 1 }

/-- R26: CYC counts, and entries that run grow older. -/
def Ctx.counted (c : Ctx) : Ctx :=
  { c with
    cyc := (c.cyc + 1) % 2 ^ 64
    run := c.run.map Entry.older
    replay := c.replay.map fun e => if e.port then e.older else e
    frame := c.frame.map fun e => if e.port then e.older else e }

/-- R408: a step's cycles are counted. -/
def Debug.counted (d : Debug) : Debug := if d.stepping then { d with stepCyc := d.stepCyc + 1 } else d

/-- A fault waits for its trap. -/
def Ctx.trapDue (c : Ctx) : Bool := c.faults != [] || c.wheel.faulted || c.pendTrap.isSome

/-- R408, R404: BKCYC or the end of a step stops the core as the next cycle would begin; a step that faults ends with its
trap instead (log 51, DEDUCED). -/
def State.stopDue (s : State) : State :=
  let s := s.occur .bkcycStop
  if !s.core.dbg.stopped && !s.core.ctx.trapDue && s.stepOver then s.finishStep else s

/-- R378: an entry that faults in the cycle in which a word traps enters the replay queue, marked. -/
def Ctx.markFault (c : Ctx) (e : Entry) : Ctx :=
  if c.replay.any (·.uid = e.uid) then
    { c with replay := c.replay.map fun x => if x.uid = e.uid then { x with fault := true, cause := e.cause, tval := e.tval } else x }
  else
    { c with
      replay := insReplay c.replay e
      aside := c.aside.map fun (a : Aside) => { a with queues := a.queues.each fun (q : Queue) =>
        { q with wait := q.wait.filter (·.uid ≠ e.uid) } } }

/-- R378: the faults the engines raise in the cycle of a word that traps. -/
def State.sameCycleFaults (s : State) : List Entry :=
  let judge := fun (s : State) (u : Unit7) =>
    match s.judgeUnit u with
    | .next t => t
    | _ => s
  let s := (enginesInOrder.foldl judge s).bankAsk
  (State.afterService (s.served [s.core.cid]) s s.core.cid).core.ctx.faults

/-- R149, R273: a word that holds SQ for its bank accesses, and whose check of what it reads fails in this cycle, faults in this cycle:
`s` is the state it met, `t` the one it leaves. -/
def State.servedFault (t s : State) : State :=
  let judge := fun (s : State) (u : Unit7) =>
    match s.judgeUnit u with
    | .next t => t
    | _ => s
  let u := (enginesInOrder.foldl judge t).bankAsk
  let u := State.afterService (u.served [u.core.cid]) u u.core.cid
  match u.waiting .served with
  | none => t
  | some w =>
    if w.progress = 0 then t
    else match decode s.fetched with
      | .error _ => t
      | .ok i =>
        match exec i { u with core := { u.core with ctx := { u.core.ctx with sq := { t.core.ctx.sq with wait := some w } } } } with
        | .next r =>
          if r.phase = .engines then t
          else
            let words := fun (j : BankJob) => match j.what with
              | .word .. => true
              | _ => false
            let gone := (s.core.ctx.jobs.filter words).map fun j => some j.id
            let s := s.ctx fun c => { c with
              banks := c.banks.filter fun a => !gone.contains a.job
              jobs := c.jobs.filter fun j => !words j }
            match s.wordFault (BitVec.ofNat 8 (wbits r.core.ctx.trap.cause 0 8)) r.core.ctx.trap.val with
            | .next f => f
            | _ => t
        | _ => t

/-- What follows a word's own effect: a trap it took finds the engines' faults of its cycle (R378); a return that comes to
BKCYC's cycle stops there (R404); a step's word has issued (R408). `s` is the state the word met. -/
def State.afterWord (s t : State) : State :=
  if t.waiting .served |>.isSome then t.servedFault s
  else if t.phase = .issue then
    if s.core.ctx.aside.isNone && t.core.ctx.aside.isSome then
      t.ctx fun c => s.sameCycleFaults.foldl Ctx.markFault c
    else if s.core.ctx.trap.inh && !t.core.ctx.trap.inh then t.occur .bkcycStop
    else t
  else if t.core.dbg.stepping then
    { t with core := { t.core with dbg := { t.core.dbg with
      stepIssued := t.core.ctx.sq.wait.isNone && !t.core.ctx.sq.second } } }
  else t

/-- R172, R276, R277, R335, R385: a hold that lasts until work is done, and may end with the cycle in which it is (log 54, DEDUCED). -/
def Wait.untilDone (w : Wait) : Bool :=
  match w.kind with
  | .drain | .fence | .rel | .commit => true
  | .served => w.progress == 1
  | .rett => w.progress == 0
  | _ => false

/-- Such a hold ends with this cycle when what it waits for is done: the next word issues in the cycle after. A word that would
fault now does so in its next cycle (log 54, DEDUCED). -/
def State.holdEnds (s : State) : State :=
  match s.core.ctx.sq.wait with
  | none => s
  | some w =>
    if !w.untilDone then s
    else match decode s.fetched with
      | .error _ => s
      | .ok i =>
        match exec i s with
        | .next t => if t.phase = .engines then { s.afterWord t with phase := s.phase } else s
        | _ => s

/-- The rest of the focus core's cycle, once the banks have been served. -/
def State.finishCycle (s : State) : State :=
  let s := (s.ctx fun c => c.slipped.slippedCopies).settleCycle
  let s := (List.range 8).foldl State.barTick (s.ctx Ctx.vxTokens)
  let s := (s.endWaits.settleNow 8).holdEnds
  let s := (s.ctx fun c => enginesInOrder.foldl Ctx.lateFault c).clockEdge
  let s := { s with
    phase := .issue
    judged := []
    core := { s.core with ctx := s.core.ctx.counted, dbg := s.core.dbg.counted } }
  s.stopDue

/-- R381: a cycle of a core on which no task runs, for its circuit copies and what lands in its pool. -/
def State.portsOnly (s : State) : State :=
  let s := s.clockEdge
  { s with core := { s.core with ctx := { s.core.ctx with
    replay := s.core.ctx.replay.map Entry.older, frame := s.core.ctx.frame.map Entry.older } } }

/-- R362: a cycle of a swap. -/
def State.swapCycle (s : State) : State :=
  let s := s.clockEdge
  let s : State := { s with core := { s.core with swap := s.core.swap - 1 } }
  if s.core.swap = 0 then s.endSwap.occur .bkcycStop else s

/-! The edge of a zone (R25): the cores of a die whose cycles end together -/

/-- Two cores of one die in the same cycle of their clock. -/
def Core.meets (a b : Core) : Bool := a.cid / 128 == b.cid / 128 && a.tick == b.tick && a.frac == b.frac

/-- A number put in its place in a rising list. -/
def insNat : List Nat → Nat → List Nat
  | [], n => [n]
  | x :: r, n => if n < x then n :: x :: r else x :: insNat r n

/-- The cores whose cycles end with the focus core's, by CID. -/
def State.edgeCores (s : State) : List Nat :=
  (((s.core :: s.others).filter fun k => k.ended && k.meets s.core).map (·.cid)).foldl insNat []

/-- One core asks its banks, counting its cycle first (R414). -/
def State.askPart (s : State) (cid : Nat) : State :=
  let s := s.focus cid
  (if s.core.clocked && s.core.swap == 0 then s.countCycle else s).bankAsk

/-- One core's cycle ends after the service. -/
def State.endPart (s : State) (cid : Nat) : State :=
  let s := s.focus cid
  let s : State := { s with core := { s.core.banksOlder with ended := false } }
  if s.core.swap ≠ 0 then s.swapCycle
  else if !s.core.clocked then s.portsOnly
  else s.finishCycle

/-- R134: the cycles of the cores that end together: they ask, each bank serves one access, what was read goes on, what was served is
written, and each cycle ends. -/
def State.finishEdge (s : State) : State :=
  let cids := s.edgeCores
  let s := cids.foldl State.askPart s
  let served := s.served cids
  let ws := cids.flatMap (s.servedWrites served)
  let s := (cids.foldl (State.afterService served) s).writePools ws
  let s := cids.foldl State.endPart s
  { s.dies.foldl (fun s d => s.drainTrace d.num) s with phase := .issue, judged := [] }

/-! Issue -/

/-- R91, R92: the word at PC issues. -/
def State.issueWord (s : State) : Out :=
  let r :=
    if s.core.ctx.sq.overrun then s.wordFault causeIllegal 0x2000
    else match decode s.fetched with
      | .ok i => exec i s
      | .error _ => s.illegal
  match r with
  | .next t => .next (s.afterWord t)
  | o => o

/-- R345: SQ waits in a word that takes a release of barrier `n`. -/
def Ctx.takesRelease (c : Ctx) (n : Nat) : Bool :=
  match c.sq.wait with
  | none => false
  | some w =>
    match w.kind with
    | .barw | .bar | .acqBarrier | .align => w.value == n
    | .rel => w.progress == 1 && (c.binding w.value).barrier && (c.binding w.value).object == n
    | _ => false

/-- `rett` has ended its hold and counts the cycles to the task's word (log 49, DEDUCED). -/
def Ctx.returning (c : Ctx) : Bool :=
  match c.sq.wait with
  | some w => w.kind == .rett && w.progress != 0
  | none => false

/-- R377, R378, R383, R345: the trap due in the cycle about to run: a word's own first, then an engine's or the wheel's, then the
barrier unit's (log 49, DEDUCED). -/
def State.trapNow (s : State) : Option State :=
  let c := s.core.ctx
  match c.pendTrap with
  | some (tc, tv) =>
    some ((s.ctx fun c => { c with pendTrap := none }).trapNext tc tv)
  | none =>
    if c.faults != [] || c.wheel.faulted then some s.faultTrap
    else match c.consTrap with
      | some (n, tv) =>
        if c.takesRelease n || c.returning then none
        else some ((s.ctx fun c => { c with consTrap := none }).trapNext (tcause false true 0x1F 9 causeConservation) tv)
      | none => none

/-- R275, R365: what an `acq` and an equivalence point look at before SQ acts. -/
def State.beforeIssue (s : State) : State :=
  let s := (s.occur .acqLimitExpiry).occur .acqBusyResend
  if s.core.equiv then s.occur (.equivalenceStop s.core.cid) else s

/-- SQ's part of a cycle. -/
def State.sqCycle (s : State) : Out :=
  let s := s.beforeIssue
  let q := s.core.ctx.sq
  if s.core.swap ≠ 0 then .next s
  else if q.idle ≠ 0 then
    let s := s.sq fun q => { q with idle := q.idle - 1 }
    .next { (if q.idle = 1 then s.ctx Ctx.idleOver else s) with phase := .engines }
  else if q.pause ≠ 0 then .next { s.sq (fun q => { q with pause := q.pause - 1 }) with phase := .engines }
  else if s.core.dbg.stepping && s.core.dbg.stepIssued && q.wait.isNone && !q.second then .next { s with phase := .engines }
  else s.issueWord

/-- The focus core's cycle has come to its end; with the last of those that end together the banks are served. -/
def State.endCycle (s : State) : State :=
  let s : State := { s with core := { s.core with ended := true } }
  let more := s.others.any fun k => k.active && !k.ended && k.meets s.core
  { s with phase := if more then .issue else .finish, judged := [] }

/-- A core's cycle begins: stops, traps and a restart that fall on this edge come first. -/
def State.beginCycle (s : State) : Out :=
  if s.core.swap ≠ 0 ∨ !s.core.clocked then .next s.endCycle
  else match s.core.dbg.stopReq with
    | some r => .next (s.stopHere r)
    | none =>
      if s.alignDue.isSome then .next ((s.occur .alignRestart).occur .bkcycStop)
      else match s.trapNow with
        | some t => .next t
        | none => s.sqCycle

/-! Time -/

/-- R311: bytes that reach a port in this tick, if no change of its handle in this tick loses them (log 25, DEDUCED). -/
def State.atPort (s : State) (i : Instr) : Bool :=
  match i with
  | .circuitUnitLanding id => s.units.any fun (u : CircuitUnit) => u.id == id && (u.stage == 0 || u.stage == 3)
  | _ => false

/-- The earliest timer that is not suspended (R326), with its place in the list; `ports` counts those of bytes reaching ports. -/
def State.nextTimer (s : State) (ports : Bool) : Option (Nat × Nat) :=
  (s.timers.zipIdx.filter fun x => !s.suspended x.1.2 && (ports || !s.atPort x.1.2)).foldl (fun (m : Option (Nat × Nat)) x =>
    match m with
    | none => some (x.1.1, x.2)
    | some y => if x.1.1 < y.1 then some (x.1.1, x.2) else some y) none

/-- R301: the earliest sequencer word: tick, die, launch. -/
def State.nextSlice (s : State) : Option (Nat × Nat × Nat) :=
  (s.dies.flatMap fun d => (d.seqs.filter (·.running)).map fun q => (q.next, d.num, q.lid)).foldl
    (fun (m : Option (Nat × Nat × Nat)) x =>
      match m with
      | none => some x
      | some y => if x.1 < y.1 then some x else some y) none

/-- R301: the slice's next word. -/
def State.seqWord (s : State) (die lid : Nat) : Out :=
  let s := { s with seqDie := die, seqLid := lid }
  match s.slice.store[s.slice.pc]? with
  | none => exec .fend s
  | some w =>
    match decodeSeq w.toNat with
    | .ok i => exec i s
    | .error _ => .next (s.seqStop 1)

/-- Which of two cores' cycles comes first: of one edge those still to run before those that have come to their end, and of these the
lower CID's (log 33, DEDUCED). -/
def State.sooner (s : State) (a b : Core) : Bool :=
  let fa := a.frac * (s.die (b.cid / 128)).fmhz
  let fb := b.frac * (s.die (a.cid / 128)).fmhz
  decide (a.tick < b.tick) || (a.tick == b.tick && (decide (fa < fb) || (fa == fb &&
    (if a.ended == b.ended then decide (a.cid < b.cid) else b.ended))))

/-- The core whose cycle begins next. -/
def State.nextCore (s : State) : Option Core :=
  ((s.core :: s.others).filter fun k => k.active || k.ended).foldl (fun (m : Option Core) k =>
    match m with
    | none => some k
    | some x => if s.sooner k x then some k else some x) none

/-- The tick of the next timer or sequencer word. -/
def State.nextDue (s : State) : Option Nat :=
  (((s.nextTimer true).map (·.1)).toList ++ (s.nextSlice.map (·.1)).toList).min?

/-- The next core's cycle begins, or the cycles that end together end. -/
def State.runCore (s : State) (k : Core) : Out :=
  let s := (s.toTick (max s.tick k.tick)).focus k.cid
  if k.ended then .next { s with phase := .finish } else s.beginCycle

/-- Nothing is left to do in this tick but cores' cycles: the next of them begins, or time passes. -/
def State.passTime (s : State) : Out :=
  match s.nextCore, s.nextDue with
  | none, none => .next (s.toTick (s.tick + 1))
  | none, some t => .next (s.toTick t)
  | some k, none => s.runCore k
  | some k, some t => if t ≤ k.tick && !k.ended then .next (s.toTick t) else s.runCore k

/-- The earliest timer, if its tick has come, is run (log 25, DEDUCED). -/
def State.timerDue (s : State) (ports : Bool) : Option Out :=
  match s.nextTimer ports with
  | some (t, i) =>
    if t ≤ s.tick then
      some (match s.timers[i]? with
        | some x => exec x.2 { s with timers := s.timers.eraseIdx i }
        | none => .next s)
    else none
  | none => none

/-- At a cycle boundary: timers of this tick, sequencer words, the events that have come about, bytes reaching ports, then cores.
While cores of an edge have come to their end, the others of that edge come first. -/
def State.boundary (s : State) : Out :=
  if (s.core :: s.others).any (·.ended) then
    match s.nextCore with
    | some k => s.runCore k
    | none => .next s
  else match s.timerDue false with
  | some o => o
  | none => afterTimers s
where
  /-- The timers of this tick are done. -/
  afterTimers (s : State) : Out :=
    match s.nextSlice with
    | some (t, die, lid) => if t ≤ s.tick then s.seqWord die lid else afterSlices s
    | none => afterSlices s
  /-- The sequencer words of this tick are done. -/
  afterSlices (s : State) : Out :=
    match s.events with
    | i :: r => exec i { s with events := r }
    | [] => (s.timerDue true).getD s.passTime

/-- One step of the machine. -/
def State.advanceStep (s : State) : Out :=
  match s.phase with
  | .issue => s.boundary
  | .engines => s.judgeNext
  | .wheel => .next s.endCycle
  | .finish => .next s.finishEdge

/-! A word placed where the next step runs it -/

/-- Everything that would come before the focus core's next cycle, or the chosen slice's next word, is put off by a tick. -/
def State.putOff (s : State) (t : Nat) : State :=
  { s with
    phase := .issue
    judged := []
    events := []
    timers := (s.timers.map fun x => (if x.1 ≤ t then t + 1 else x.1, x.2)) ++ s.events.map fun i => (t + 1, i)
    others := s.others.map fun k => if s.sooner k s.core then { k with tick := max s.core.tick k.tick + 1 } else k
    dies := s.dies.map fun (d : Die) =>
      { d with seqs := d.seqs.map fun q => if q.next ≤ t then { q with next := t + 1 } else q } }

/-- The focus core ready to issue the word at its PC. -/
def Core.ready (k : Core) : Core :=
  { k with
    ctx := { k.ctx with
      live := true
      held := true
      sq := { k.ctx.sq with delay := false, target := none, second := false, pause := 0, idle := 0, wait := none, overrun := false }
      faults := []
      wheel := { k.ctx.wheel with faulted := false }
      pendTrap := none
      consTrap := none }
    dbg := { k.dbg with stopped := false, stopReq := none, stepping := false }
    swap := 0
    spill := none
    equiv := false
    ended := false }

/-- A core's instruction buffer with a word in it. -/
def Core.load (k : Core) (i : Nat) (w : BitVec 32) : Core :=
  if i < 8192 then { k with ibuf := k.ibuf.write emptyWord i w } else k

/-- A slice with a word at its index, running, due at a tick. -/
def Seq.load (q : Seq) (lid t : Nat) (w : BitVec 32) : Seq :=
  { q with
    store := (q.store ++ List.replicate (q.pc + 1 - q.store.length) 0).set q.pc w
    lid := lid
    running := true
    stopped := false
    next := t }

/-- A slice put in place of the launch's. -/
def Die.putSlice (d : Die) (q : Seq) : Die := { d with seqs := q :: d.seqs.filter (·.lid ≠ q.lid) }

/-- The instruction whose bits are `w` stored where the next step fetches: at the focus core's PC, or, when its bits are a
sequencer word alone, at the index of the chosen slice (log 5, DESIGN CHOICE). -/
def State.placeWord (s : State) (nbits w : Nat) : State :=
  let w := w % 2 ^ nbits
  match decode w with
  | .ok _ =>
    let k := s.core.ready
    let i := k.ctx.sq.pc.toNat
    let k := (k.load i (BitVec.ofNat 32 w)).load (i + 1) (BitVec.ofNat 32 (w / 2 ^ 32))
    { s.putOff (max s.tick k.tick) with core := k }
  | .error _ =>
    (s.putOff s.tick).onDie s.seqDie (·.putSlice (s.slice.load s.seqLid s.tick (BitVec.ofNat 32 w)))

end Sys2Proof.Machine
end

