-- ==== Sys2Proof/Machine/Step.lean ====
section
/-! DEFINITION. One step of the machine, and where a word is placed so that the next step runs it (log 5, DESIGN CHOICE). -/

namespace Sys2Proof.Machine

/-- One step: a part of a core's cycle, an event, a timer or a sequencer word, or the passing of time. -/
def step (s : State) : Host.Outcome State Fault Refusal := s.advanceStep

/-- The instruction whose bits are `w` stored where the next step fetches. -/
def State.withFetchWord (s : State) (nbits w : Nat) : State := s.placeWord nbits w

end Sys2Proof.Machine
end

