-- ==== Sys2Proof/Safety.lean ====
section
/-! DEFINITION. What counts as a safe state and a safe run, in the terms the statements use: sparse memories in their one
canonical form, and a step that answers a next state. -/

namespace Sys2Proof.Machine

/-- The canonical form of a memory: addresses strictly rising, no byte equal to what an unlisted address reads as. -/
abbrev Memory.wf (m : Cells Byte) : Prop := Cells.wf emptyByte m = true

/-- The module's device memory has the canonical form. -/
def State.MemOk (s : State) : Prop := Memory.wf s.mem

/-- A step that goes on. -/
def Continues (s : State) : Prop := ∃ t, step s = .next t

/-- A run of `n` steps, none of which stops. -/
def Runs : Nat → State → Prop
  | 0, _ => True
  | n + 1, s => ∃ t, step s = .next t ∧ Runs n t

end Sys2Proof.Machine
end

