-- ==== Sys2Proof/Certificates/Slice0/Obligations.lean ====
section
/-! DEFINITION. The statements for the provers. Each docstring names the rules of spec/ the statement rests on; OBLIGATIONS.json
lists them. A statement of the form `exec i s = .next t` says the whole next state, and so what the instruction leaves alone. -/

open Sys2Proof Sys2Proof.Machine

/-! Scalar words (04) -/

/-- R109, R110, R114, R44, R93: with its guard true an integer word puts its result in flight for its destination, with the
latency of R93 (1; 3 for a product; 18 for a quotient), and the next word is selected. Nothing else changes. -/
def Obligations.IntegerWordsWriteTheirResult : Prop :=
  ∀ (s : State) (sd sa sb : BitVec 5) (g : BitVec 4), s.guard g = true →
    let a := s.reg sa
    let b := s.reg sb
    let out := fun (lat : Nat) (v : Word) => (Host.Outcome.next (s.push lat (.sreg sd v)).retire : Out)
    (∀ u, exec (.add sd sa sb g u) s = out 1 (addBy u a b)) ∧
    (∀ u, exec (.sub sd sa sb g u) s = out 1 (subBy u a b)) ∧
    (∀ u, exec (.mul sd sa sb g u) s = out 3 (mulBy u a b)) ∧
    (∀ u, exec (.mulh sd sa sb g u) s = out 3 (mulhBy u a b)) ∧
    (∀ u, exec (.div sd sa sb g u) s = out 18 (divRem u a b).1) ∧
    (∀ u, exec (.rem sd sa sb g u) s = out 18 (divRem u a b).2) ∧
    exec (.and sd sa sb g) s = out 1 (a &&& b) ∧
    exec (.or sd sa sb g) s = out 1 (a ||| b) ∧
    exec (.xor sd sa sb g) s = out 1 (a ^^^ b) ∧
    (∀ u, exec (.shl sd sa sb g u) s = out 1 (shlBy (u == 1) a b.toNat)) ∧
    (∀ u, exec (.shr sd sa sb g u) s = out 1 (shrBy (u == 1) a b.toNat)) ∧
    (∀ u, exec (.sra sd sa sb g u) s = out 1 (sraBy (u == 1) a b.toNat)) ∧
    (∀ u, exec (.min sd sa sb g u) s = out 1 (pickBy u false a b)) ∧
    (∀ u, exec (.max sd sa sb g u) s = out 1 (pickBy u true a b)) ∧
    (∀ u, exec (.clz sd sa g u) s = out 1 (BitVec.ofNat 64 (leading a.toNat (widthBy u)))) ∧
    (∀ u, exec (.popc sd sa g u) s = out 1 (BitVec.ofNat 64 (ones a.toNat (widthBy u)))) ∧
    (∀ n, exec (.sel sd sa sb g n) s = out 1 (if s.core.ctx.regs.getP n then a else b)) ∧
    (∀ imm, exec (.addi sd sa g imm) s = out 1 (a + imm.signExtend 64)) ∧
    (∀ imm, exec (.andi sd sa g imm) s = out 1 (a &&& imm.signExtend 64)) ∧
    (∀ imm, exec (.ori sd sa g imm) s = out 1 (a ||| imm.zeroExtend 64)) ∧
    (∀ imm, exec (.xori sd sa g imm) s = out 1 (a ^^^ imm.zeroExtend 64)) ∧
    (∀ w n, exec (.shli sd sa g w n) s = out 1 (shlBy (w == 1) a n.toNat)) ∧
    (∀ w n, exec (.shri sd sa g w n) s = out 1 (shrBy (w == 1) a n.toNat)) ∧
    (∀ w n, exec (.srai sd sa g w n) s = out 1 (sraBy (w == 1) a n.toNat))

/-- R109; R112, R115; R138: the sums and differences under their four suffixes (none, `.w`, `.sat`, `.satu`), and the high
half of a product, signed, unsigned and mixed. What the relations of `cmp` and `cmpi` compare: all 64 bits, or for `.w` the
low 32 read signed or unsigned. The new value of an atomic on m and the low 8n bits of v, for the nine operations and both
sizes. -/
def Obligations.IntegerAndAtomicValues : Prop :=
  ((∀ a b : Word,
      addBy 0 a b = a + b ∧
      addBy 1 a b = ((a + b).truncate 32).signExtend 64 ∧
      (addBy 2 a b).toInt = max (-2 ^ 63) (min (2 ^ 63 - 1) (a.toInt + b.toInt)) ∧
      (addBy 3 a b).toNat = min (2 ^ 64 - 1) (a.toNat + b.toNat) ∧
      subBy 0 a b = a - b ∧
      subBy 1 a b = ((a - b).truncate 32).signExtend 64 ∧
      (subBy 2 a b).toInt = max (-2 ^ 63) (min (2 ^ 63 - 1) (a.toInt - b.toInt)) ∧
      (subBy 3 a b).toNat = a.toNat - b.toNat ∧
      (mulhBy 0 a b).toInt = a.toInt * b.toInt / 2 ^ 64 ∧
      (mulhBy 1 a b).toNat = a.toNat * b.toNat / 2 ^ 64 ∧
      (mulhBy 2 a b).toInt = a.toInt * b.toNat / 2 ^ 64) ∧
   (∀ a b : Word,
      let la : BitVec 32 := a.truncate 32
      let lb : BitVec 32 := b.truncate 32
      (cmpBy 0 0 a b = true ↔ a = b) ∧ (cmpBy 1 0 a b = true ↔ a ≠ b) ∧
      (cmpBy 2 0 a b = true ↔ a.toInt < b.toInt) ∧ (cmpBy 3 0 a b = true ↔ b.toInt ≤ a.toInt) ∧
      (cmpBy 4 0 a b = true ↔ a.toNat < b.toNat) ∧ (cmpBy 5 0 a b = true ↔ b.toNat ≤ a.toNat) ∧
      (cmpBy 0 1 a b = true ↔ la = lb) ∧ (cmpBy 1 1 a b = true ↔ la ≠ lb) ∧
      (cmpBy 2 1 a b = true ↔ la.toInt < lb.toInt) ∧ (cmpBy 3 1 a b = true ↔ lb.toInt ≤ la.toInt) ∧
      (cmpBy 4 1 a b = true ↔ la.toNat < lb.toNat) ∧ (cmpBy 5 1 a b = true ↔ lb.toNat ≤ la.toNat) ∧
      (cmpiBy 0 a b = true ↔ a = b) ∧ (cmpiBy 1 a b = true ↔ a ≠ b) ∧
      (cmpiBy 2 a b = true ↔ a.toInt < b.toInt) ∧ (cmpiBy 3 a b = true ↔ a.toNat < b.toNat))) ∧
  ((∀ m v : BitVec 64,
     amoValue 0 8 m.toNat v.toNat = (m + v).toNat ∧ amoValue 1 8 m.toNat v.toNat = (m &&& v).toNat ∧
     amoValue 2 8 m.toNat v.toNat = (m ||| v).toNat ∧ amoValue 3 8 m.toNat v.toNat = (m ^^^ v).toNat ∧
     amoValue 4 8 m.toNat v.toNat = (if v.slt m then v else m).toNat ∧ amoValue 5 8 m.toNat v.toNat = (if m.slt v then v else m).toNat ∧
     amoValue 6 8 m.toNat v.toNat = (if v.ult m then v else m).toNat ∧ amoValue 7 8 m.toNat v.toNat = (if m.ult v then v else m).toNat ∧
     amoValue 8 8 m.toNat v.toNat = v.toNat) ∧
   (∀ (m : BitVec 32) (v : BitVec 64),
     let x : BitVec 32 := v.truncate 32
     amoValue 0 4 m.toNat v.toNat = (m + x).toNat ∧ amoValue 1 4 m.toNat v.toNat = (m &&& x).toNat ∧
     amoValue 2 4 m.toNat v.toNat = (m ||| x).toNat ∧ amoValue 3 4 m.toNat v.toNat = (m ^^^ x).toNat ∧
     amoValue 4 4 m.toNat v.toNat = (if x.slt m then x else m).toNat ∧ amoValue 5 4 m.toNat v.toNat = (if m.slt x then x else m).toNat ∧
     amoValue 6 4 m.toNat v.toNat = (if x.ult m then x else m).toNat ∧ amoValue 7 4 m.toNat v.toNat = (if m.ult x then x else m).toNat ∧
     amoValue 8 4 m.toNat v.toNat = x.toNat))

/-- R110: `div` and `rem` truncate toward zero; division by zero and the one signed overflow have the results given, and are
no faults. -/
def Obligations.DivisionTruncatesTowardZero : Prop :=
  ∀ (s : State) (sd sa sb : BitVec 5) (g : BitVec 4) (u : BitVec 1), s.guard g = true →
    ∃ q m : Word,
      exec (.div sd sa sb g u) s = .next (s.push 18 (.sreg sd q)).retire ∧
      exec (.rem sd sa sb g u) s = .next (s.push 18 (.sreg sd m)).retire ∧
      let a := s.reg sa
      let b := s.reg sb
      (b = 0 → q.toNat = 2 ^ 64 - 1 ∧ q.toInt = -1 ∧ m = a) ∧
      (b ≠ 0 → u = 0 → a.toInt = -2 ^ 63 → b.toInt = -1 → q.toInt = -2 ^ 63 ∧ m = 0) ∧
      (b ≠ 0 → u = 0 → ¬(a.toInt = -2 ^ 63 ∧ b.toInt = -1) →
        q.toInt = a.toInt.tdiv b.toInt ∧ m.toInt = a.toInt - q.toInt * b.toInt ∧
          (m.toInt < 0 → a.toInt < 0) ∧ (0 < m.toInt → 0 < a.toInt)) ∧
      (b ≠ 0 → u = 1 → q.toNat = a.toNat / b.toNat ∧ m.toNat = a.toNat - q.toNat * b.toNat)

/-- R111: `sel` takes the predicate it names, read in its issue cycle; its own guard is another predicate, and a false guard
writes nothing. Its word is SR op6 0x10 with N in [2:0] and zero in [4:3]. -/
def Obligations.SelectTakesTheNamedPredicate : Prop :=
  (∀ (s : State) (sd sa sb : BitVec 5) (g : BitVec 4) (n : BitVec 3),
    (s.guard g = true → s.core.ctx.regs.getP n = true →
      exec (.sel sd sa sb g n) s = .next (s.push 1 (.sreg sd (s.reg sa))).retire) ∧
    (s.guard g = true → s.core.ctx.regs.getP n = false →
      exec (.sel sd sa sb g n) s = .next (s.push 1 (.sreg sd (s.reg sb))).retire) ∧
    (s.guard g = false → exec (.sel sd sa sb g n) s = .next s.retire)) ∧
  (∀ (sd sa sb : BitVec 5) (g : BitVec 4) (n : BitVec 3) (z : BitVec 2),
    let w := 0x10000000 + sd.toNat * 2 ^ 19 + sa.toNat * 2 ^ 14 + sb.toNat * 2 ^ 9 + g.toNat * 2 ^ 5 + z.toNat * 2 ^ 3 + n.toNat
    (z = 0 → decode w = .ok (.sel sd sa sb g n)) ∧ (z ≠ 0 → ∃ e, decode w = .error e))

/-- R112, R113, R115, R44; R116, R117, R54: with its guard true a comparing or predicate word puts its predicate in flight
with latency 1. `lhi` writes its immediate, shifted left by ten and sign-extended; `li` takes two cycles: the first checks
its place and goes on to the second word, in whose cycle the constant is put in flight and the word after both is selected.
-/
def Obligations.PredicateAndConstantWords : Prop :=
  (∀ (s : State) (pd : BitVec 3) (sa sb : BitVec 5) (g : BitVec 4), s.guard g = true →
     (∀ w cond, exec (.cmp pd sa sb g w cond) s = .next (s.push 1 (.pred pd (cmpBy cond w (s.reg sa) (s.reg sb)))).retire) ∧
     (∀ pa pb op, exec (.plog pd pa pb g op) s
       = .next (s.push 1 (.pred pd (plogBy op (s.core.ctx.regs.getP pa) (s.core.ctx.regs.getP pb)))).retire) ∧
     (∀ cond imm, exec (.cmpi cond pd sa g imm) s = .next (s.push 1 (.pred pd (cmpiBy cond (s.reg sa) (imm.signExtend 64)))).retire)) ∧
  (∀ (s : State) (sd : BitVec 5),
     (∀ imm : BitVec 19, exec (.lhi sd imm) s = .next (s.push 1 (.sreg sd (imm.signExtend 64 <<< 10))).retire) ∧
     (∀ h hi lo, s.core.ctx.sq.second = false → s.core.ctx.sq.delay = false → s.core.ctx.sq.pc ≠ 8191 →
       endsLoop s.core.ctx.loops s.core.ctx.sq.pc.toNat = false →
       exec (.li sd h hi lo) s = .next { s.sq (fun q => { q with second := true }) with phase := .engines }) ∧
     (∀ (hi : BitVec 16) (lo : BitVec 32), s.core.ctx.sq.second = true →
       exec (.li sd 0 hi lo) s = .next (s.push 1 (.sreg sd ((hi ++ lo).signExtend 64))).retireWide ∧
       exec (.li sd 1 hi lo) s = .next (s.push 1 (.sreg sd (lo ++ (s.reg sd).truncate 32))).retireWide))

/-- R118 to R120, R80, R82, R93: with its guard true a floating word puts its result, and the conditions it raises, in flight
together; DYN takes FRM, and a stochastic conversion steps SEED in its issue cycle (R85). -/
def Obligations.FloatWordsWriteResultAndConditions : Prop :=
  ∀ (s : State) (sd sa sb : BitVec 5) (g : BitVec 4) (p : BitVec 1) (rm : BitVec 3), s.guard g = true →
    let x := fopVal p (s.reg sa)
    let y := fopVal p (s.reg sb)
    let out := fun (lat : Nat) (r : Nat × Cond) =>
      (Host.Outcome.next ((s.push lat (.sreg sd (BitVec.ofNat 64 r.1))).push lat (.flags r.2)).retire : Out)
    exec (.fadd sd sa sb g p rm) s = out 4 ((floatP p).addVal (fmode s rm) x y) ∧
    exec (.fsub sd sa sb g p rm) s = out 4 ((floatP p).addVal (fmode s rm) x y.neg) ∧
    exec (.fmul sd sa sb g p rm) s = out 4 ((floatP p).mulVal (fmode s rm) x y) ∧
    exec (.fdiv sd sa sb g p rm) s = out 18 ((floatP p).divVal (fmode s rm) x y) ∧
    exec (.fsqrt sd sa g p rm) s = out 18 ((floatP p).sqrtVal (fmode s rm) x) ∧
    exec (.fma sd sa sb g p rm) s = out 4 ((floatP p).fmaVal (fmode s rm) x y (fopVal p (s.reg sd))) ∧
    exec (.fmin sd sa sb g p) s = out 4 ((floatP p).minMax false (fopCode p (s.reg sa)) (fopCode p (s.reg sb))) ∧
    exec (.fmax sd sa sb g p) s = out 4 ((floatP p).minMax true (fopCode p (s.reg sa)) (fopCode p (s.reg sb))) ∧
    (∀ (pd : BitVec 3) (cond : BitVec 3), exec (.fcmp pd sa sb g p cond) s =
      (let r := (floatP p).compare cond.toNat (fopCode p (s.reg sa)) (fopCode p (s.reg sb))
       .next ((s.push 4 (.pred pd r.1)).push 4 (.flags r.2)).retire)) ∧
    (∀ (sto rtz : BitVec 1) (dst src : BitVec 4), exec (.fcvt sd sa sto dst g rtz src) s =
      (let r := convert src.toNat dst.toNat (fcvtMode s sto rtz) ((s.reg sa).toNat % 2 ^ fmtBits src.toNat) s.core.ctx.regs.seed
       .next (((s.ctx fun c => { c with regs := { c.regs with seed := r.2.2 } }).push 4
         (.sreg sd (fcvtValue dst r.1))).push 4 (.flags r.2.1)).retire))

/-- R96: s0 reads zero and p0 reads true; writes to them are discarded; every other register holds what is written to it and
no other changes; a word that names a destination predicate does so in the low three bits of its sd field; the decoder
refuses p0 there, and a word it refuses raises ILLEGAL_WORD. -/
def Obligations.RegisterZeroAndPredicateZero : Prop :=
  (∀ (r : Regs) (v : Word) (b : Bool),
    r.get 0 = 0 ∧ r.put 0 v = r ∧ r.getP 0 = true ∧ r.putP 0 b = r ∧
    (∀ i j : BitVec 5, i ≠ 0 → (r.put i v).get i = v ∧ (j ≠ i → (r.put i v).get j = r.get j)) ∧
    (∀ i j : BitVec 3, i ≠ 0 → (r.putP i b).getP i = b ∧ (j ≠ i → (r.putP i b).getP j = r.getP j))) ∧
  (∀ (pd : BitVec 3) (sa sb : BitVec 5) (g : BitVec 4) (lo : BitVec 5) (pa pb : BitVec 3) (cond : BitVec 2) (imm : BitVec 10) (i : Instr),
    let mid := sa.toNat * 2 ^ 14 + sb.toNat * 2 ^ 9 + g.toNat * 2 ^ 5 + lo.toNat
    (∀ op : Nat, op = 0x11 ∨ op = 0x24 → decode (op * 2 ^ 24 + pd.toNat * 2 ^ 19 + mid) = .ok i →
      pd ≠ 0 ∧ ((∃ w c, i = .cmp pd sa sb g w c) ∨ ∃ p c, i = .fcmp pd sa sb g p c)) ∧
    (decode (0x12 * 2 ^ 24 + pd.toNat * 2 ^ 19 + pa.toNat * 2 ^ 14 + pb.toNat * 2 ^ 9 + g.toNat * 2 ^ 5 + lo.toNat) = .ok i →
      pd ≠ 0 ∧ i = .plog pd pa pb g lo) ∧
    (decode (0x1A * 2 ^ 24 + cond.toNat * 2 ^ 22 + pd.toNat * 2 ^ 19 + sa.toNat * 2 ^ 14 + g.toNat * 2 ^ 10 + imm.toNat) = .ok i →
      pd ≠ 0 ∧ i = .cmpi cond pd sa g imm)) ∧
  (∀ (s : State) (e : Reject), s.core.ctx.sq.overrun = false → decode s.fetched = .error e →
    ∃ t : State, s.illegal = .next t ∧ s.issueWord = .next (s.afterWord t))

/-- R45: a word whose guard is false takes its cycle and does nothing else. -/
def Obligations.FalseGuardOnlySelectsNextWord : Prop :=
  ∀ (s : State) (sd sa sb : BitVec 5) (g : BitVec 4), s.guard g = false →
    let skip : Out := .next s.retire
    (∀ u, exec (.add sd sa sb g u) s = skip ∧ exec (.sub sd sa sb g u) s = skip ∧ exec (.mulh sd sa sb g u) s = skip) ∧
    (∀ u, exec (.mul sd sa sb g u) s = skip ∧ exec (.div sd sa sb g u) s = skip ∧ exec (.rem sd sa sb g u) s = skip ∧
      exec (.shl sd sa sb g u) s = skip ∧ exec (.shr sd sa sb g u) s = skip ∧ exec (.sra sd sa sb g u) s = skip ∧
      exec (.min sd sa sb g u) s = skip ∧ exec (.max sd sa sb g u) s = skip ∧ exec (.clz sd sa g u) s = skip ∧
      exec (.popc sd sa g u) s = skip) ∧
    exec (.and sd sa sb g) s = skip ∧ exec (.or sd sa sb g) s = skip ∧ exec (.xor sd sa sb g) s = skip ∧
    (∀ pd w cond, exec (.cmp pd sa sb g w cond) s = skip) ∧
    (∀ pd pa pb op, exec (.plog pd pa pb g op) s = skip) ∧
    (∀ imm, exec (.addi sd sa g imm) s = skip ∧ exec (.andi sd sa g imm) s = skip ∧ exec (.ori sd sa g imm) s = skip ∧
      exec (.xori sd sa g imm) s = skip ∧ (∀ cond pd, exec (.cmpi cond pd sa g imm) s = skip)) ∧
    (∀ w n, exec (.shli sd sa g w n) s = skip ∧ exec (.shri sd sa g w n) s = skip ∧ exec (.srai sd sa g w n) s = skip) ∧
    (∀ p rm, exec (.fadd sd sa sb g p rm) s = skip ∧ exec (.fsub sd sa sb g p rm) s = skip ∧
      exec (.fmul sd sa sb g p rm) s = skip ∧ exec (.fdiv sd sa sb g p rm) s = skip ∧ exec (.fsqrt sd sa g p rm) s = skip ∧
      exec (.fma sd sa sb g p rm) s = skip ∧ exec (.fmin sd sa sb g p) s = skip ∧ exec (.fmax sd sa sb g p) s = skip) ∧
    (∀ pd p cond, exec (.fcmp pd sa sb g p cond) s = skip) ∧
    (∀ sto dst rtz src, exec (.fcvt sd sa sto dst g rtz src) s = skip) ∧
    (∀ csr, exec (.csrr sd g csr) s = skip ∧ exec (.csrw sa g csr) s = skip ∧ exec (.csrx sd sa g csr) s = skip) ∧
    (∀ sz off, exec (.lds sd sa g sz off) s = skip) ∧ (∀ sz off, exec (.sts sd sa g sz off) s = skip) ∧
    (∀ w op, exec (.amo sd sa sb g w op) s = skip) ∧ (∀ sbh w, exec (.amocas sd sa sbh g w) s = skip)

/-! Control (04 R98 to R104, R121 to R127) -/

/-- R98, R99, R121 to R123: a branch that may stand where it does goes to its target behind one delay word, and links with PC
+ 2; `jmpf` and `callf` take a second cycle and no delay word. -/
def Obligations.BranchesSelectTheirTarget : Prop :=
  ∀ (s : State) (sd sa : BitVec 5) (g : BitVec 4) (off : BitVec 20) (tgt : BitVec 13),
    let pc := s.core.ctx.sq.pc.toNat
    let t := (pc : Int) + off.toInt
    let link := BitVec.ofNat 64 (pc + 2)
    (s.misplaced pc = false → s.guard g = true → 0 ≤ t → t ≤ 8191 →
      exec (.br g off) s = .next (s.retireBranch (some t.toNat)) ∧
      exec (.call g off) s = .next ((s.push 1 (.sreg 31 link)).retireBranch (some t.toNat))) ∧
    (s.misplaced pc = false → s.guard g = true → (s.reg sa).toNat ≤ 8191 →
      exec (.jr sd sa g) s = .next ((s.push 1 (.sreg sd link)).retireBranch (some (s.reg sa).toNat))) ∧
    (s.misplaced pc = false → s.guard g = false →
      exec (.br g off) s = .next (s.retireBranch none) ∧ exec (.call g off) s = .next (s.retireBranch none) ∧
      exec (.jr sd sa g) s = .next (s.retireBranch none)) ∧
    (s.core.ctx.sq.second = true → endsLoop s.core.ctx.loops (pc + 1) = false →
      exec (.jmpf tgt) s = .next (s.retireTo tgt.toNat) ∧
      exec (.callf sd tgt) s = .next ((s.push 1 (.sreg sd link)).retireTo tgt.toNat))

/-- R99, R122, R101, R373: a control word where none may stand traps with ILLEGAL_WORD whatever its guard; a taken branch to
a target outside 0..8,191 traps with FIELD_RANGE and the target in TVAL, and writes no link; so does a loop whose body would
pass 8,191. -/
def Obligations.ControlWordsTrapOutOfPlaceOrRange : Prop :=
  ∀ (s : State) (sd sa : BitVec 5) (g : BitVec 4) (off : BitVec 20) (l : BitVec 2) (b : BitVec 10) (c : BitVec 9),
    let pc := s.core.ctx.sq.pc.toNat
    let t := (pc : Int) + off.toInt
    (s.misplaced pc = true →
      exec (.br g off) s = s.illegal ∧ exec (.call g off) s = s.illegal ∧ exec (.jr sd sa g) s = s.illegal ∧
      exec (.lbrk l g) s = s.illegal ∧ exec (.loop l sa g b) s = s.illegal ∧ exec (.loopi l c b) s = s.illegal) ∧
    (s.misplaced pc = false → s.guard g = true → (t < 0 ∨ 8191 < t) →
      exec (.br g off) s = s.wordFault causeFieldRange (BitVec.ofInt 64 t) ∧
      exec (.call g off) s = s.wordFault causeFieldRange (BitVec.ofInt 64 t)) ∧
    (s.misplaced pc = false → s.guard g = true → 8191 < (s.reg sa).toNat →
      exec (.jr sd sa g) s = s.wordFault causeFieldRange (s.reg sa)) ∧
    (s.misplaced pc = false → s.guard g = true → 8191 < pc + b.toNat + 1 →
      exec (.loop l sa g b) s = s.wordFault causeFieldRange (BitVec.ofNat 64 (pc + (b.toNat + 1))) ∧
      exec (.loopi l c b) s = s.wordFault causeFieldRange (BitVec.ofNat 64 (pc + (b.toNat + 1))))

/-- R101, R124, R125; R127: a loop that fits starts with its level's new state in flight, at its body or, with a zero count,
after it; `lbrk` ends the levels it names and goes to the word after the body. `idle` holds SQ for sa[31:0] + n cycles after
its own, counting down in each; with its guard false, or nothing to wait for, it takes one cycle. -/
def Obligations.LoopAndIdleWords : Prop :=
  (∀ (s : State) (l : BitVec 2) (sa : BitVec 5) (g : BitVec 4) (b : BitVec 10) (c : BitVec 9),
     let pc := s.core.ctx.sq.pc.toNat
     let n := b.toNat + 1
     let start := fun (count : BitVec 32) =>
       (Host.Outcome.next ((s.push 1 (.loop l (BitVec.ofNat 13 (pc + 1)) (BitVec.ofNat 13 (pc + n)) count (count != 0))).retireTo
         (if count = 0 then pc + n + 1 else pc + 1)) : Out)
     s.misplaced pc = false →
     (pc + n ≤ 8191 → exec (.loopi l c b) s = start (c.zeroExtend 32)) ∧
     (pc + n ≤ 8191 → s.guard g = true → exec (.loop l sa g b) s = start ((s.reg sa).truncate 32)) ∧
     (s.guard g = false → exec (.loop l sa g b) s = .next s.retire ∧ exec (.lbrk l g) s = .next (s.retireBranch none)) ∧
     (vat s.core.ctx.loops.act false l.toNat = false → exec (.lbrk l g) s = .next (s.retireBranch none)) ∧
     (s.guard g = true → vat s.core.ctx.loops.act false l.toNat = true → (vat s.core.ctx.loops.le 0 l.toNat).toNat < 8191 →
       exec (.lbrk l g) s = .next (((brokenLevels s.core.ctx.loops l.toNat).foldl
         (fun (s' : State) m => s'.push 1 (.loop (BitVec.ofNat 2 m) (vat s.core.ctx.loops.lb 0 m) (vat s.core.ctx.loops.le 0 m) 0 false)) s).retireBranch
           (some ((vat s.core.ctx.loops.le 0 l.toNat).toNat + 1))))) ∧
  (∀ (s : State) (sa : BitVec 5) (g : BitVec 4) (n : BitVec 10),
     let total := (s.reg sa).toNat % 2 ^ 32 + n.toNat
     (s.core.ctx.sq.wait = none → s.guard g = false → exec (.idle sa g n) s = .next s.retire) ∧
     (s.core.ctx.sq.wait = none → s.guard g = true → total = 0 → exec (.idle sa g n) s = .next s.retire) ∧
     (s.core.ctx.sq.wait = none → s.guard g = true → total ≠ 0 →
       exec (.idle sa g n) s = .next (s.holdOn ⟨.idle, none, [], 0, total⟩)) ∧
     (∀ k : Nat, s.core.ctx.sq.wait = some ⟨.idle, none, [], 0, k + 2⟩ →
       exec (.idle sa g n) s = .next (s.holdOn ⟨.idle, none, [], 0, k + 1⟩)) ∧
     (s.core.ctx.sq.wait = some ⟨.idle, none, [], 0, 1⟩ → exec (.idle sa g n) s = .next s.retire))

/-- R102: the end-of-body check, over the levels that end at a word, the innermost first: the first whose count is 2 or more
counts down and loops back, and changes no level behind it; those before it end with count 0. -/
def Obligations.EndOfBodyCheckLoopsBackOnce : Prop :=
  ∀ (l : Loops) (levels : List Nat) (i : Nat) (r : List Nat), levels = i :: r → i < 4 →
    (2 ≤ (vat l.lc 0 i).toNat →
      loopEnd [] l levels = ({ l with lc := vput l.lc i (vat l.lc 0 i - 1) }, some (vat l.lb 0 i))) ∧
    ((vat l.lc 0 i).toNat < 2 →
      loopEnd [] l levels = loopEnd [] { l with lc := vput l.lc i 0, act := vput l.act i false } r)

/-! The pool, remote words and CSRs (04 R105 to R107, R126; 05 R132 to R143) -/

/-- R137 to R139, R132, R411: with its guard true, an address that is aligned and admitted, and no watchpoint, a pool word
asks its bank for its access and the next word is selected: `lds` for what its register then takes, `sts` for a write of the
register's low bytes, `amo` and `amocas` for one access that reads and writes. -/
def Obligations.PoolWordsAskForTheirAccess : Prop :=
  ∀ (s : State) (sd sa sb : BitVec 5) (g : BitVec 4), s.guard g = true →
    let c := s.core.ctx
    let part := c.misc.part
    let seen := fun (write : Bool) (a n : Nat) => c.watch write true true c.sq.pc.toNat a n
    let at' := fun (write : Bool) (a n : Nat) => ({ s with core := { s.core with ctx := (seen write a n).1 } } : State)
    (∀ (sz : BitVec 3) (off : BitVec 7),
      let n := 2 ^ (sz.toNat % 4)
      let a := (s.reg sa + off.signExtend 64 * BitVec.ofNat 64 n).toNat
      a % n = 0 → admitsAll part .scalarRead a n = true → (seen false a n).2 = none →
        exec (.lds sd sa g sz off) s = .next ((at' false a n).askSq (.load sd sz a) false a n).retire) ∧
    (∀ (sz : BitVec 2) (off : BitVec 7),
      let n := 2 ^ (sz.toNat % 4)
      let a := (s.reg sa + off.signExtend 64 * BitVec.ofNat 64 n).toNat
      a % n = 0 → admitsAll part .scalarWrite a n = true → (seen true a n).2 = none →
        exec (.sts sd sa g sz off) s = .next ((at' true a n).askWrite a (toBytes n (s.reg sd).toNat)).retire) ∧
    (∀ (w : BitVec 1) (op sbh : BitVec 4),
      let n := if w = 1 then 4 else 8
      let a := (s.reg sa).toNat
      a % n = 0 → admitsAll part .scalarWrite a n = true → (seen true a n).2 = none →
        exec (.amo sd sa sb g w op) s = .next ((at' true a n).askSq (.amo sd n op.toNat a (s.reg sb)) true a n).retire ∧
        exec (.amocas sd sa sbh g w) s
          = .next ((at' true a n).askSq (.cas sd n a (s.reg (pairReg sbh)) (s.reg (pairReg sbh + 1))) true a n).retire)

/-- R137, R132, R373, R375: a pool word whose address is not a multiple of its size traps with MISALIGN, and one that reaches
a byte its kind does not admit traps with POOL_BOUND; TVAL holds the address, and no access is asked for. -/
def Obligations.PoolWordsTrapOnBadAddresses : Prop :=
  ∀ (s : State) (sd sa sb : BitVec 5) (g : BitVec 4), s.guard g = true →
    let part := s.core.ctx.misc.part
    (∀ (sz : BitVec 3) (off : BitVec 7),
      let n := 2 ^ (sz.toNat % 4)
      let a := s.reg sa + off.signExtend 64 * BitVec.ofNat 64 n
      (a.toNat % n ≠ 0 → exec (.lds sd sa g sz off) s = s.wordFault causeMisalign a) ∧
      (a.toNat % n = 0 → admitsAll part .scalarRead a.toNat n = false →
        exec (.lds sd sa g sz off) s = s.wordFault causePoolBound a)) ∧
    (∀ (sz : BitVec 2) (off : BitVec 7),
      let n := 2 ^ (sz.toNat % 4)
      let a := s.reg sa + off.signExtend 64 * BitVec.ofNat 64 n
      (a.toNat % n ≠ 0 → exec (.sts sd sa g sz off) s = s.wordFault causeMisalign a) ∧
      (a.toNat % n = 0 → admitsAll part .scalarWrite a.toNat n = false →
        exec (.sts sd sa g sz off) s = s.wordFault causePoolBound a)) ∧
    (∀ (w : BitVec 1) (op sbh : BitVec 4),
      let n := if w = 1 then 4 else 8
      let a := s.reg sa
      (a.toNat % n ≠ 0 → exec (.amo sd sa sb g w op) s = s.wordFault causeMisalign a ∧
        exec (.amocas sd sa sbh g w) s = s.wordFault causeMisalign a) ∧
      (a.toNat % n = 0 → admitsAll part .scalarWrite a.toNat n = false →
        exec (.amo sd sa sb g w op) s = s.wordFault causePoolBound a ∧
        exec (.amocas sd sa sbh g w) s = s.wordFault causePoolBound a))

/-- R141, R142, R267: with its guard true, a named core, an aligned address, a fitting line of its own, room for one more and
no watchpoint, a remote word sends one request that carries its operands, and counts it; with 32 outstanding, or no room in
the acknowledgement counters, it holds. -/
def Obligations.RemoteWordsSendOneRequest : Prop :=
  ∀ (s : State) (sd sa sb : BitVec 5) (g sbh op : BitVec 4) (sz : BitVec 2) (w : BitVec 1),
    let c := s.core.ctx
    let loc := (s.reg sa).toNat
    let a := loc % 2 ^ 19
    let seen := fun (write : Bool) (n : Nat) => c.watch write true true c.sq.pc.toNat a n
    let sent := fun (write : Bool) (n : Nat) (kind : ReqKind) =>
      let s' : State := { s with core := { s.core with ctx := (seen write n).1 } }
      let s' := s'.ctx fun x => { (if write then x.unheld true loc n else x) with remotes := x.remotes + 1 }
      (Host.Outcome.next (s'.dispatch { s'.core.ctx.blankReq s'.core.cid kind with
        va := loc, pa := a, module := s'.conn.modnum }).retire : Out)
    let fits := fun (n l : Nat) => loc / 2 ^ 19 % 2 ^ 13 = 0 ∧ loc / 2 ^ 48 = 0 ∧ cidOk (loc / 2 ^ 32) = true ∧ a % n = 0 ∧
      l % 16 = 0 ∧ admitsAll c.misc.part .remote l 16 = true
    let room := s.core.outstanding Ctx.remotes < 32 ∧ c.ackRoom = true
    let ok := fun (n l : Nat) => fits n l ∧ room
    c.sq.wait = none → s.guard g = true →
    (ok (2 ^ (sz.toNat % 4)) (s.reg sd).toNat → (seen false (2 ^ (sz.toNat % 4))).2 = none →
      exec (.rld sd sa g sz) s = sent false (2 ^ (sz.toNat % 4)) (.pool 4 (2 ^ (sz.toNat % 4)) 0 0 0 (s.reg sd).toNat)) ∧
    (ok (2 ^ (sz.toNat % 4)) (s.reg sd).toNat → (seen true (2 ^ (sz.toNat % 4))).2 = none →
      exec (.rst sd sa sb g sz) s = sent true (2 ^ (sz.toNat % 4)) (.pool 5 (2 ^ (sz.toNat % 4)) 0 (s.reg sb) 0 (s.reg sd).toNat)) ∧
    (ok (amoBytes w) (s.reg sd).toNat → (seen true (amoBytes w)).2 = none →
      exec (.ramo sd sa sb g w op) s = sent true (amoBytes w) (.pool 6 (amoBytes w) op.toNat (s.reg sb) 0 (s.reg sd).toNat) ∧
      exec (.ramocas sd sa sbh g w) s
        = sent true (amoBytes w) (.pool 7 (amoBytes w) 0 (s.reg (pairReg sbh + 1)) (s.reg (pairReg sbh)) (s.reg sd).toNat)) ∧
    (¬room →
      let held := fun (v cmp : BitVec 5) =>
        (Host.Outcome.next (s.holdOn ⟨.full, none, [loc, (s.reg sd).toNat, (s.reg v).toNat, (s.reg cmp).toNat], 0, 0⟩) : Out)
      (fits (2 ^ (sz.toNat % 4)) (s.reg sd).toNat →
        exec (.rld sd sa g sz) s = held 0 0 ∧ exec (.rst sd sa sb g sz) s = held sb 0) ∧
      (fits (amoBytes w) (s.reg sd).toNat →
        exec (.ramo sd sa sb g w op) s = held sb 0 ∧ exec (.ramocas sd sa sbh g w) s = held (pairReg sbh + 1) (pairReg sbh)))

/-- R126: with its guard true a CSR word that may name its register puts the value read in flight for sd with latency 1, and
the register takes the value written, as its access code says; `csrx` reads before it writes. Reading DBGST clears LOST
(R404), on the core itself or, through DBGDATA, on the stopped core that DBGSEL names (R416). -/
def Obligations.CsrWordsReadAndWrite : Prop :=
  (∀ (s : State) (sd sa : BitVec 5) (g : BitVec 4) (csr : BitVec 10), s.guard g = true → s.mayName csr = true →
    exec (.csrr sd g csr) s = .next ((s.push 1 (.sreg sd (s.csrValue csr))).csrReadEffect csr).retire ∧
    exec (.csrw sa g csr) s = .next (s.csrWrite csr (s.reg sa)).retire ∧
    exec (.csrx sd sa g csr) s
      = .next (((s.push 1 (.sreg sd (s.csrValue csr))).csrReadEffect csr).csrWrite csr (s.reg sa)).retire) ∧
  (∀ s : State,
    let cid := wbits s.svc.dbgsel 0 16
    (wbits s.svc.dbgsel 16 10 = 0xA1 → (s.coreOf cid).dbg.stopped = true →
      exec .dbgstLostRead s = .next (s.onCore cid fun k => { k with dbg := { k.dbg with lost := 0 } })) ∧
    (wbits s.svc.dbgsel 16 10 ≠ 0xA1 ∨ (s.coreOf cid).dbg.stopped = false →
      exec .dbgstLostRead s = .next { s with core := { s.core with dbg := { s.core.dbg with lost := 0 } } }))

/-- R105, R373; R107: with its guard true and outside system mode, a CSR word that names a system register traps with
PRIVILEGE and reads or writes nothing; in system mode it reads the register and puts its write in flight. PREDS reads the
predicates as one value, p0 always 1 and the reserved bits 0; a write with `csrw` sets p1 to p7 with latency 1, and leaves p0
and every other register alone. -/
def Obligations.SystemAndPredicateRegisters : Prop :=
  (∀ (s : State) (sd sa : BitVec 5) (g : BitVec 4) (csr : BitVec 10), s.guard g = true →
     csr ∈ ([0x84, 0x85, 0x86, 0x87, 0x8C, 0x8D, 0x8E, 0x8F, 0xA0, 0xA2] : List (BitVec 10)) →
     (s.core.ctx.sys = false →
       exec (.csrr sd g csr) s = s.wordFault causePrivilege 0 ∧ exec (.csrw sa g csr) s = s.wordFault causePrivilege 0 ∧
       exec (.csrx sd sa g csr) s = s.wordFault causePrivilege 0) ∧
     (s.core.ctx.sys = true →
       exec (.csrr sd g csr) s = .next (s.push 1 (.sreg sd (s.sysRead csr))).retire ∧
       exec (.csrw sa g csr) s = .next (s.push 1 (.csr csr (s.reg sa))).retire ∧
       exec (.csrx sd sa g csr) s = .next ((s.push 1 (.sreg sd (s.sysRead csr))).push 1 (.csr csr (s.reg sa))).retire)) ∧
  (∀ (s : State) (w : Word) (n : BitVec 3),
     (s.csrRead 0x002).getLsbD n.toNat = s.core.ctx.regs.getP n ∧
     (s.csrRead 0x002).getLsbD 0 = true ∧
     (s.csrRead 0x002).toNat < 256 ∧
     s.csrWrite 0x002 w = s.push 1 (.csr 0x002 w) ∧
     (let k := s.core.csrPerform 0x002 w
      k.ctx.regs.getP n = (if n = 0 then true else w.getLsbD n.toNat) ∧
      k = { s.core with ctx := { s.core.ctx with regs := { s.core.ctx.regs with p := k.ctx.regs.p } } }))

/-! Vector words and queue entries (06, 07) -/

/-- R175, R176, R145; R192, R411: a vector word whose registers exist and whose queue has room places one entry, its own word
as image with the scalar value it reads in its issue cycle, and the next word is selected. `vld` and `vst` of an existing
register, at an aligned address whose 256 bytes an engine may reach, and with no watchpoint, place their entry with the
address. -/
def Obligations.VectorWordsPlaceTheirEntry : Prop :=
  (∀ (s : State) (vd va vb sb : BitVec 5) (bs : BitVec 1) (mask : BitVec 3) (ty idle : BitVec 2),
     let c := s.core.ctx
     let vreg := wbits c.misc.part 0 6
     let place := fun (i : Instr) (v : Word) =>
       (Host.Outcome.next (s.enqueue { Entry.blank s.nextId .vx with
         img := BitVec.ofNat 128 (encode i), val1 := v, frm := c.regs.frm, placed := c.cyc }).retire : Out)
     let three := fun (i : Instr) => exec i s = place i (if bs = 1 then s.reg vb else 0)
     c.full .vx = false → va.toNat < vreg → vd.toNat < vreg → (bs = 1 ∨ vb.toNat < vreg) →
     three (.vadd vd va vb bs mask ty idle) ∧ three (.vsub vd va vb bs mask ty idle) ∧ three (.vmul vd va vb bs mask ty idle) ∧
     three (.vfma vd va vb bs mask ty idle) ∧ three (.vmin vd va vb bs mask ty idle) ∧ three (.vmax vd va vb bs mask ty idle) ∧
     three (.vand vd va vb bs mask ty idle) ∧ three (.vor vd va vb bs mask ty idle) ∧ three (.vxor vd va vb bs mask ty idle) ∧
     three (.vandn vd va vb bs mask ty idle) ∧ three (.vshl vd va vb bs mask ty idle) ∧ three (.vshr vd va vb bs mask ty idle) ∧
     three (.vsra vd va vb bs mask ty idle) ∧ three (.vsel vd va vb bs mask ty idle) ∧ three (.vperm vd va vb bs mask ty idle) ∧
     three (.vpack vd va vb bs mask ty idle) ∧ three (.vdot2 vd va vb bs mask ty idle) ∧
     (∀ cond md, three (.vcmp cond md va vb bs mask ty idle)) ∧
     exec (.vabs vd va mask ty idle) s = place (.vabs vd va mask ty idle) 0 ∧
     exec (.vneg vd va mask ty idle) s = place (.vneg vd va mask ty idle) 0 ∧
     (∀ code, exec (.vcvt vd va code bs mask idle) s = place (.vcvt vd va code bs mask idle) 0) ∧
     exec (.vrint vd va mask ty idle) s = place (.vrint vd va mask ty idle) 0 ∧
     exec (.vrcp vd va mask ty idle) s = place (.vrcp vd va mask ty idle) 0 ∧
     exec (.vrsq vd va mask ty idle) s = place (.vrsq vd va mask ty idle) 0 ∧
     exec (.vexp2 vd va mask ty idle) s = place (.vexp2 vd va mask ty idle) 0 ∧
     exec (.vlog2 vd va mask ty idle) s = place (.vlog2 vd va mask ty idle) 0 ∧
     (∀ op, exec (.vred vd va op mask ty idle) s = place (.vred vd va op mask ty idle) 0 ∧
       exec (.vscan vd va op mask ty idle) s = place (.vscan vd va op mask ty idle) 0) ∧
     exec (.vrot vd va sb mask ty idle) s = place (.vrot vd va sb mask ty idle) (s.reg sb) ∧
     exec (.vlane vd va sb mask ty idle) s = place (.vlane vd va sb mask ty idle) (s.reg sb) ∧
     (∀ h, exec (.vunpack vd va h mask ty idle) s = place (.vunpack vd va h mask ty idle) 0) ∧
     exec (.vmov vd va mask ty idle) s = place (.vmov vd va mask ty idle) 0 ∧
     exec (.vmovBroadcast vd sb mask ty idle) s = place (.vmovBroadcast vd sb mask ty idle) (s.reg sb) ∧
     (∀ md ma mb op, exec (.vmlog md ma mb op idle) s = place (.vmlog md ma mb op idle) 0) ∧
     (∀ ma, exec (.vmpop vd ma mask ty idle) s = place (.vmpop vd ma mask ty idle) 0) ∧
     (∀ (sa v : BitVec 5), v.toNat < vreg →
       exec (.vgath vd sa v mask ty idle) s = place (.vgath vd sa v mask ty idle) (s.reg sa) ∧
       exec (.vscat vd sa v mask ty idle) s = place (.vscat vd sa v mask ty idle) (s.reg sa)) ∧
     (∀ f : BitVec 3, exec (.tokVpop f) s = place (.tokVpop f) 0 ∧ exec (.tokVpush f) s = place (.tokVpush f) 0)) ∧
  (∀ (s : State) (v sa k : BitVec 5) (mask : BitVec 3) (ty idle : BitVec 2),
     let c := s.core.ctx
     let a := s.reg sa + BitVec.ofNat 64 (256 * k.toNat)
     let seen := fun (write : Bool) => c.watch write true true c.sq.pc.toNat a.toNat 256
     let place := fun (write : Bool) (i : Instr) =>
       (Host.Outcome.next (({ s with core := { s.core with ctx := (seen write).1 } } : State).enqueue { Entry.blank s.nextId .vx with
         img := BitVec.ofNat 128 (encode i), val1 := a, frm := c.regs.frm, placed := c.cyc }).retire : Out)
     c.full .vx = false → v.toNat < wbits c.misc.part 0 6 → a.toNat % 16 = 0 →
     (admitsAll c.misc.part .engineRead a.toNat 256 = true → (seen false).2 = none →
       exec (.vld v sa k mask ty idle) s = place false (.vld v sa k mask ty idle)) ∧
     (admitsAll c.misc.part .engineWrite a.toNat 256 = true → (seen true).2 = none →
       exec (.vst v sa k mask ty idle) s = place true (.vst v sa k mask ty idle)))

/-- R51 to R53, R146, R148: a patch-and-issue word whose template is defined and whose working copy passes its placement
checks places the entry and clears the pending amendments of its engine; AMEND adds one of at most four. -/
def Obligations.PatchAndIssuePlacesItsEntry : Prop :=
  ∀ (s : State) (eng : BitVec 3) (t : BitVec 6) (fld : BitVec 5) (val : BitVec 16),
    let c := s.core.ctx
    let pending := vat c.amends [] eng.toNat
    (∀ (img : BitVec 128) (e : Entry), c.full (Unit7.ofCode eng) = false → c.tmpl eng t.toNat ≠ emptyTmpl →
      workingCopy (c.tmpl eng t.toNat) (pending ++ (if fld = 31 then [] else [(fld, val)])) = .ok img →
      c.placement (Unit7.ofCode eng) img s.nextId = .ok e →
      exec (.patchAndIssue eng t fld val) s
        = .next ((s.enqueue e).ctx fun c => { c with amends := vput c.amends eng.toNat [] }).retire) ∧
    (c.full (Unit7.ofCode eng) = false → c.tmpl eng t.toNat = emptyTmpl →
      exec (.patchAndIssue eng t fld val) s = s.wordFault causeTemplateUndef 0) ∧
    (pending.length < 4 → exec (.amend eng fld val) s
      = .next (s.ctx fun c => { c with amends := vput c.amends eng.toNat (pending ++ [(fld, val)]) }).retire) ∧
    (4 ≤ pending.length → exec (.amend eng fld val) s
      = s.wordFault causeFieldRange (BitVec.ofNat 64 (s.fetched % 2 ^ 32)))

/-- R149, R159: in their second cycle `qdef` puts a stream word in flight and `qread` reads one; `tdef` and `tread` ask for
their bank access and hold SQ, and once it has been served `tdef` stores the image, if it is an op of the engine. -/
def Obligations.TemplateAndStreamWords : Prop :=
  ∀ (s : State) (eng : BitVec 3) (t : BitVec 6) (sd sa : BitVec 5) (off : BitVec 19) (q : BitVec 4) (w : BitVec 3) (imm : BitVec 32),
    let c := s.core.ctx
    let a := s.reg sa + off.zeroExtend 64
    let held : Wait := ⟨.served, none, [], 0, 0⟩
    s.core.ctx.sq.second = true →
    exec (.qdef q w sa imm) s = .next (s.push 1 (.stream q w ((s.reg sa + imm.signExtend 64) &&& streamMask w.toNat))).retireWide ∧
    exec (.qread sd q w) s = .next (s.push 1 (.sreg sd (vat (vat c.streams .zero q.toNat).w 0 w.toNat))).retireWide ∧
    (c.sq.wait = none → a.toNat % 16 = 0 → admitsAll c.misc.part .scalarRead a.toNat 16 = true →
      exec (.tdef eng t sa off) s = .next ((s.askSq (.word a.toNat 16) false a.toNat 16).holdOn held)) ∧
    (c.sq.wait = none → a.toNat % 16 = 0 → admitsAll c.misc.part .scalarWrite a.toNat 16 = true →
      exec (.tread eng t sa off) s = .next ((s.askFor none (.word a.toNat 0) (writeAccs s.core.cid
        (placed c.misc.part a.toNat (toBytes 16 (c.tmpl eng t.toNat).toNat)))).holdOn held)) ∧
    (∀ v : Nat, c.sq.wait = some ⟨.served, none, [], 1, v⟩ →
      exec (.tread eng t sa off) s = .next s.retireWide ∧
      (opAccepted (Unit7.ofCode eng) (imgBits (BitVec.ofNat 128 v) 120 8) = true →
        exec (.tdef eng t sa off) s = .next (s.ctx fun c => c.setTmpl eng t (BitVec.ofNat 128 v)).retireWide))

/-- R168 to R171; R169 to R171: in their second cycle the wheel's words write the slot, stride, count or length they name,
those other than `whl.count` only while the wheel is stopped; `whlgo` starts it from the next cycle on unless a count or the
length is 0. While it runs, and its queue has room, the wheel places the entry of the slot it has come to and moves on; a
slot whose entry fails its checks stops it with the cause. -/
def Obligations.WheelWordsAndPlacements : Prop :=
  (∀ (s : State) (slot : BitVec 5) (eng : BitVec 3) (t : BitVec 6) (fo lo ab : BitVec 1) (k lvl : BitVec 3) (fa fb sa : BitVec 5)
       (v c : BitVec 16) (n : BitVec 6),
     s.core.ctx.sq.second = true →
     let w := s.core.ctx.wheel
     let whl := fun (w' : Wheel) => (Host.Outcome.next (s.ctx fun c => { c with wheel := w' }).retireWide : Out)
     exec (.whlCount lvl c) s
       = .next ((s.ctx fun x => { x with wheel := { w with counts := vput w.counts lvl.toNat c } }).push 1 (.whlCount lvl c)).retireWide ∧
     (w.running = false →
       exec (.whlSlot slot eng t fo lo k fa fb) s = whl { w with
         slots := vmod w.slots .zero slot.toNat fun x =>
           { x with eng := eng, tmpl := t, fo := fo == 1, lo := lo == 1, lvl := k.toNat, fa := fa, fb := fb } } ∧
       exec (.whlStride slot ab lvl v) s = whl { w with
         slots := vmod w.slots .zero slot.toNat fun x =>
           if ab = 0 then { x with strA := vput x.strA lvl.toNat v } else { x with strB := vput x.strB lvl.toNat v } } ∧
       exec (.whlLen n) s = whl { w with len := n.toNat } ∧
       (let counts := if sa = 0 then w.counts else vput w.counts lvl.toNat ((s.reg sa).truncate 16)
        exec (.whlgo sa lvl) s = whl { w with
          counts := counts, running := !(w.len == 0 || counts.toList.any (· == 0)), at_ := 0, start := s.core.ctx.cyc + 1
          rem := counts.each BitVec.toNat, idx := Vector.replicate 6 0 })) ∧
     (w.running = true →
       exec (.whlSlot slot eng t fo lo k fa fb) s = s.wordFault causeFieldRange (BitVec.ofNat 64 (s.fetched % 2 ^ 32)) ∧
       exec (.whlStride slot ab lvl v) s = s.wordFault causeFieldRange (BitVec.ofNat 64 (s.fetched % 2 ^ 32)) ∧
       exec (.whlLen n) s = s.wordFault causeFieldRange (BitVec.ofNat 64 (s.fetched % 2 ^ 32)))) ∧
  (∀ (s : State), s.core.ctx.wheel.running = true → s.core.ctx.wheel.faulted = false →
     s.core.ctx.wheel.start ≤ s.core.ctx.cyc →
     let s' := s.wheel (·.seek seekFuel)
     let c := s'.core.ctx
     c.wheel.running = true → c.wheel.at_ < c.wheel.len → c.wheel.goes = true → c.full (Unit7.ofCode (c.wheel.slot c.wheel.at_).eng) = false →
     (∀ e, c.wheelEntry s'.nextId = .ok e →
       exec .wheelPlacement s = .next ((s'.enqueue e).wheel fun w => ({ w with at_ := w.at_ + 1 } : Wheel).seek seekFuel)) ∧
     (∀ cause tv, c.wheelEntry s'.nextId = .error (cause, tv) →
       exec .wheelPlacement s = .next (s'.wheel fun w => { w with faulted := true, cause := cause })))

/-! Rings, tokens, waits, signals (06 R153 to R164, R172; 09 R234 to R236) -/

/-- R162 to R164: `rdef` of a ring that fits in the scratchpad puts the fresh ring in flight; `racq` gives the address of the
next stage its side may take, or 0; `rrel` hands a stage held by SQ over; `rstat` reads the ring's status. An undefined ring
traps with RING_OWNER. -/
def Obligations.RingWordsMoveStages : Prop :=
  ∀ (s : State) (sd sa : BitVec 5) (ring prod cons : BitVec 3) (cnt : BitVec 4) (size : BitVec 10) (base : BitVec 15)
      (side full sel : BitVec 1),
    let c := s.core.ctx
    let g := c.ring ring.toNat
    let fill := side == 0
    let st := c.nextStage ring.toNat fill
    let free := vat g.full false st != fill && vat g.owner 0 st == (if fill then g.prod else g.cons)
      && !(c.taken ring.toNat fill).contains st && !c.willClaim ring.toNat st fill
    (c.sq.second = true → scratchRange c.misc.part (base.toNat * 16) ((cnt.toNat + 1) * ((size.toNat + 1) * 16)) = true →
      exec (.rdef ring prod cons cnt size base) s = .next (s.push 1 (.ringDef ring.toNat
        (freshRing (base.toNat * 16) ((size.toNat + 1) * 16) (cnt.toNat + 1) prod cons (g.gen + 1)))).retireWide) ∧
    (g.defd = true → free = true →
      exec (.racq sd side ring) s = .next (((s.push 1 (.ringOwn ring.toNat st g.gen 0 (vat g.full false st))).push 1
        (.ringMove ring.toNat g.gen fill)).push 1 (.sreg sd (BitVec.ofNat 64 (g.base + st * g.size)))).retire) ∧
    (g.defd = true → free = false → exec (.racq sd side ring) s = .next (s.push 1 (.sreg sd 0)).retire) ∧
    (∀ k, g.defd = true → g.stageAt (s.reg sa).toNat = some k → vat g.owner 0 k = 0 →
      exec (.rrel sa full ring) s
        = .next (s.push 1 (.ringOwn ring.toNat k g.gen (if full = 1 then g.cons else g.prod) (full == 1))).retire) ∧
    exec (.rstat sd sel ring) s = .next (s.push 1 (.sreg sd (g.status sel))).retire ∧
    (g.defd = false → exec (.racq sd side ring) s = s.wordFault causeRingOwner 0 ∧
      exec (.rrel sa full ring) s = s.wordFault causeRingOwner 0)

/-- R153 to R155: `tok.rd` reads a FIFO's count, `tok.push` adds a token at the end of its cycle unless the FIFO stays full,
and `tok.try` takes one and answers 1, or answers 0. -/
def Obligations.TokenWordsCountTokens : Prop :=
  ∀ (s : State) (sd : BitVec 5) (f : BitVec 3),
    let c := s.core.ctx
    let n := vat c.tokens 0 f.toNat
    exec (.tokRd sd f) s = .next (s.push 1 (.sreg sd (BitVec.ofNat 64 n))).retire ∧
    (n - s.willPop f.toNat ≠ 8 → exec (.tokPush f) s = .next (s.push 1 (.token f)).retire) ∧
    (n - s.willPop f.toNat = 8 → exec (.tokPush f) s = s.wordFault causeTokenFull 0) ∧
    (0 < n → exec (.tokTry sd f) s
      = .next ((s.ctx fun c => { c with tokens := vmod c.tokens 0 f.toNat (· - 1) }).push 1 (.sreg sd 1)).retire) ∧
    (n = 0 → exec (.tokTry sd f) s = .next (s.push 1 (.sreg sd 0)).retire)

/-- R172, R234, R236: `qdrain` ends at once when what it waits for is done; `waita` arms its words when they may be watched;
a watched word that fires, or the limit, ends it with its slot or 4; `fsig` takes a free slot, and its signal is written once
the engine's entries have finished. -/
def Obligations.WaitsAndSignals : Prop :=
  ∀ (s : State) (sd sa : BitVec 5) (nz : BitVec 1) (n : BitVec 2) (mask : BitVec 9) (eng : BitVec 3) (flag : BitVec 6),
    let c := s.core.ctx
    (mask.getLsbD 8 = false → c.drainedMask mask.toNat = true → exec (.qdrain mask) s = .next s.retire) ∧
    (mask.getLsbD 8 = false → c.drainedMask mask.toNat = false →
      exec (.qdrain mask) s = .next (s.holdOn ⟨.drain, none, [], 0, 0⟩)) ∧
    (let as := (List.range (n.toNat + 1)).map fun j => 8 * wbits (s.reg sa) (16 * j) 16
     let limit := s.reg (sa + 1)
     c.sq.wait = none → (∀ a ∈ as, admitsAll c.misc.part .remote a 8 = true) →
      exec (.waita sd sa nz n) s = .next (({ s with core := { s.core with wrote := [] } } : State).holdOn
        ⟨.waita (nz == 1), if limit = BitVec.allOnes 64 then none else some (s.core.tick + limit.toNat), as, 0, sd.toNat⟩)) ∧
    (∀ (w : Wait) (b : Bool) (j d : Nat), c.sq.wait = some w → w.kind = .waita b →
      (s.waitaFired b w.addrs = some j → exec .waitaFire s = .next (s.endWaita w j)) ∧
      (s.waitaFired b w.addrs = none → w.deadline = some d → d ≤ s.tickEnd → exec .waitaExpiry s = .next (s.endWaita w 4))) ∧
    (∀ i, c.freeSig = some i →
      let u := Unit7.ofCode eng
      let es := c.unfinished u
      let s' := s.ctx fun c => { c with sigs := c.sigs ++ [(i, ⟨s.reg sa, flag.toNat, u == .cp0 || u == .cp1 || u == .nm, es, false⟩)] }
      exec (.fsig sa eng flag) s = .next (if es = [] then s'.push 2 (.event .fsigWrite) else s').retire) ∧
    (∀ i x, freedSig false c.sigs = some (i, x) → x.gated = false →
      exec .fsigWrite s = .next ((s.ctx fun c => { c with
        sigs := c.sigs.map fun y => if y.1 = i then (y.1, { y.2 with sent := true }) else y }).askFor none (.event .fsigWrite)
          (writeAccs s.core.cid (placed c.misc.part (8 * x.flag) (toBytes 8 x.value.toNat)))))

/-! Starts of entries (06 R150, R151, R165, R166; 08; 09; 10 R253) -/

/-- R150, R151: an entry that starts leaves the head of its queue and joins the started entries with its start cycle; the
queue keeps S and the cycle from which the engine is free, and forgets the entries that left from before it; what it pops and
the stages it takes are taken; nothing else of its engine's queue changes. -/
def Obligations.StartingAnEntryTakesItFromItsQueue : Prop :=
  ∀ (c : Ctx) (e : Entry) (n : Nat),
    let c' := c.begin e n
    let q := c.queue e.eng
    let q' := c'.queue e.eng
    q' = { q with wait := q.wait.tail, lastS := some c.cyc, freeAt := c.cyc + n, gone := q.gone.filter fun x => decide (e.uid < x.1) } ∧
    c'.run = c.run ++ [{ e with started := true, startCyc := c.cyc, age := 0, claims := c.claimsOf e }] ∧
    (∀ u, u ≠ e.eng → c'.queue u = c.queue u) ∧
    c' = { c with queues := c'.queues, tokens := c'.tokens, run := c'.run } ∧
    (∀ f, f < 8 → c'.tok f = c.tok f - e.pops.count f)

/-- R150, R151, R165, R166, R85; R205, R207, R213 to R217: the head of an engine's queue that its row names and whose conditions
hold starts: LD and ST entries with the bytes they move, `q.tok` for one cycle, and a matrix head whose accumulator has the
shape it names. One that names a vector register or an accumulator that its check does not pass faults at its start. A timed
head whose start cycle has passed, or finds a condition missing, faults with TIMING, and one whose cycle is still to come
waits. A stochastic `st.acc` takes its draws from the core's generator. The model's own: the draws are those of the tile as
it stands in the start cycle (log 58, DESIGN CHOICE). -/
def Obligations.LoadStoreAndMatrixHeadsStart : Prop :=
  (∀ (s : State) (e : Entry),
     let c := s.core.ctx
     let n := e.strA.dataBytes
     let starts := fun (i : Instr) (e' : Entry) (occ : Nat) => exec i s = .next (s.ctx fun c => c.begin e' occ)
     let faults := fun (i : Instr) (cause : BitVec 8) => exec i s = .next (s.ctx fun c => c.faultHead e cause 0)
     let sized := fun (m : Nat) => ({ e with total := m } : Entry)
     let d := c.acc (e.f 79 5 % 8)
     let match' := accMatches d e.strA = true
     (c.head .ld = some e → c.verdict true e = .start →
       (e.op8 = 0 → starts .ldStrm (sized (e.strA.carried e.scales)) (max 1 (chunks 64 (e.strA.carried e.scales)))) ∧
       (e.op8 = 1 → c.vregOk (e.f 79 5) = true → starts .ldVec (sized n) (max 1 (chunks 64 n))) ∧
       (e.op8 = 1 → c.vregOk (e.f 79 5) = false → faults .ldVec causePoolBound) ∧
       (e.op8 = 2 → match' → e.strA.fmt = (if d.int then 2 else 6) → starts .ldAcc { sized n with desc := d } (max 1 (chunks 64 n))) ∧
       (e.op8 = 2 → ¬match' → faults .ldAcc causeAccShape) ∧
       (e.op8 = 2 → match' → e.strA.fmt ≠ (if d.int then 2 else 6) → faults .ldAcc causeFieldRange)) ∧
     (c.head .st = some e → c.verdict true e = .start →
       (e.op8 = 3 → starts .stStrm (sized n) (max 1 (chunks 64 n))) ∧
       (e.op8 = 4 → c.vregOk (e.f 79 5) = true → starts .stVec (sized n) (max 1 (chunks 64 n))) ∧
       (e.op8 = 4 → c.vregOk (e.f 79 5) = false → faults .stVec causePoolBound) ∧
       (e.op8 = 5 → e.f 27 3 ≠ 5 → match' → starts .stAcc { sized n with desc := d } (max 1 (chunks 64 n))) ∧
       (e.op8 = 5 → e.f 27 3 = 5 → match' → fmtHolds e.strA.fmt (if d.int then 2 else 6) = false →
         let e' := { sized n with desc := d, val1 := c.regs.seed, val2 := c.regs.seed }
         exec .stAcc s = .next ((s.ctx fun c => { c with regs := { c.regs with seed := s.tileDraws e' } }).ctx fun c =>
           c.begin e' (max 1 (chunks 64 n)))) ∧
       (e.op8 = 5 → e.f 27 3 = 5 → match' → fmtHolds e.strA.fmt (if d.int then 2 else 6) = true → faults .stAcc causeFieldRange) ∧
       (e.op8 = 5 → ¬match' → faults .stAcc causeAccShape)) ∧
     (c.head s.unit = some e → e.op8 = 6 → c.verdict true e = .start →
       exec .qTok s = .next ((s.ctx (·.begin e 1)).ctx (·.pushFor e.uid 1 (.finish e.uid)))) ∧
     (∀ (i : Instr) (op : Nat) (u : Unit7), (i, op, u) ∈ ([(.ldStrm, 0, .ld), (.ldVec, 1, .ld), (.ldAcc, 2, .ld), (.stStrm, 3, .st),
         (.stVec, 4, .st), (.stAcc, 5, .st), (.qTok, 6, s.unit), (.mxMma, 0x20, .mx), (.mxMmac, 0x21, .mx), (.mxMmi, 0x22, .mx),
         (.mxZero, 0x23, .mx), (.mxLsf, 0x24, .mx), (.mxTov, 0x25, .mx), (.mxFromv, 0x26, .mx)] : List (Instr × Nat × Unit7)) →
       c.head u = some e → e.op8 = op →
       (c.verdict true e = .timing → exec i s = .next (s.ctx (·.faultHead e causeTiming 0))) ∧
       (c.verdict true e = .wait → exec i s = .next s))) ∧
  (∀ (s : State) (e : Entry),
     let c := s.core.ctx
     let d := c.acc (e.f 85 3)
     let starts := fun (i : Instr) (d : AccDesc) => exec i s = .next (s.ctx fun c => c.mxBegin { e with desc := d })
     let faults := fun (i : Instr) (cause : BitVec 8) => exec i s = .next (s.ctx fun c => c.faultHead e cause 0)
     let shaped := fun (int : Bool) => d.defd = true ∧ d.mcode = e.f 83 2 ∧ d.n = e.f 77 6 ∧ d.int = int
     let fits := if e.f 84 1 = 0 then d.elems / 8 ≤ (c.ring (e.f 81 3)).size else d.elems ≤ 2048
     c.head .mx = some e → c.verdict true e = .start →
     (e.op8 = 0x20 → (shaped false → starts .mxMma d) ∧ (¬shaped false → faults .mxMma causeAccShape)) ∧
     (e.op8 = 0x21 → (shaped false → starts .mxMmac d) ∧ (¬shaped false → faults .mxMmac causeAccShape)) ∧
     (e.op8 = 0x22 → (shaped true → starts .mxMmi d) ∧ (¬shaped true → faults .mxMmi causeAccShape)) ∧
     (e.op8 = 0x23 →
       (1024 * e.zeroDesc.abase + 4 * e.zeroDesc.elems ≤ 0x2000 * wbits c.misc.part 6 6 → starts .mxZero e.zeroDesc) ∧
       (0x2000 * wbits c.misc.part 6 6 < 1024 * e.zeroDesc.abase + 4 * e.zeroDesc.elems → faults .mxZero causePoolBound)) ∧
     (e.op8 = 0x24 →
       (d.defd = true → fits → e.f 84 1 = 0 ∨ c.vregOk (e.f 76 5) = true → starts .mxLsf d) ∧
       (¬(d.defd = true ∧ fits) → faults .mxLsf causeAccShape) ∧
       (d.defd = true → fits → e.f 84 1 ≠ 0 → c.vregOk (e.f 76 5) = false → faults .mxLsf causePoolBound)) ∧
     (∀ e', c.mxMoveChecked e = .ok e' →
       (e.op8 = 0x25 → exec .mxTov s = .next (s.ctx fun c => c.mxBegin e')) ∧
       (e.op8 = 0x26 → exec .mxFromv s = .next (s.ctx fun c => c.mxBegin e'))) ∧
     (∀ cause tv, c.mxMoveChecked e = .error (cause, tv) →
       (e.op8 = 0x25 → exec .mxTov s = .next (s.ctx fun c => c.faultHead e cause tv)) ∧
       (e.op8 = 0x26 → exec .mxFromv s = .next (s.ctx fun c => c.faultHead e cause tv))))

/-! Copies and near-memory operations (09 R220 to R232, 08 R211, 10 R252 to R262) -/

/-- R150, R151, R224 to R232, R328, R331; R230, R231, R211: a copy head that its row names and whose conditions hold starts
with the bytes it moves; a copy that moves nothing through the gate is refused when a core it reaches is dead, shut, or of
another launch. Once its bytes have performed, a copy with no earlier copy of its engine before it fills its stages; its
follow-on is placed when MX's queue has room, or faults it, and only then its completion word's write is due, which follows
the words of its destinations for `cp.copym` and waits for room in the acknowledgement counters where it is counted. A copy
behind an earlier one looks again in the next cycle. A copy one of whose chunks failed raises its fault. -/
def Obligations.CopyHeadsStartAndCopiesEnd : Prop :=
  (∀ (s : State) (e : Entry) (i : Instr) (op : Nat),
     (i, op) ∈ ([(.cpCopy, 0x40), (.cpCopym, 0x41), (.cpFill, 0x42), (.cpGath, 0x43), (.cpScat, 0x44), (.cpPut, 0x58), (.cpGet, 0x59),
       (.cpGput, 0x5A)] : List (Instr × Nat)) →
     let c := s.core.ctx
     let n := e.cpBytes (c.ring (e.f 80 3)).size
     let e' := ({ e with total := n } : Entry)
     c.head s.unit = some e → e.op8 = op →
     (c.verdict true e = .start → e'.gatedMoves s.core.cid = true → exec i s = .next (s.ctx (·.begin e' (1 + e'.lag)))) ∧
     (c.verdict true e = .start → e'.gatedMoves s.core.cid = false → (∀ k ∈ e'.farCores s.core.cid, s.farRefusal k = none) →
       exec i s = .next (s.ctx (·.begin e' (chunks 64 n + e'.lag)))) ∧
     (∀ cause, c.verdict true e = .start → e'.gatedMoves s.core.cid = false →
       (e'.farCores s.core.cid).findSome? s.farRefusal = some cause → exec i s = .next (s.ctx (·.faultHead e' cause 0))) ∧
     (c.verdict true e = .timing → exec i s = .next (s.ctx (·.faultHead e causeTiming 0))) ∧
     (c.verdict true e = .wait → exec i s = .next s)) ∧
  (∀ (s : State) (uid : Nat) (e : Entry),
     let c := s.core.ctx
     let again := fun (s : State) => s.ctx (·.pushFor uid 1 (.event (.copyEnd uid)))
     c.run.find? (fun x => x.uid = uid) = some e →
     let gated := e.gatedMoves s.core.cid = true
     (e.stage < 2 → c.earlierCopy e = true → exec (.copyEnd uid) s = .next (again s)) ∧
     (e.stage < 2 → c.earlierCopy e = false → exec (.copyEnd uid) s = .next (again (s.ctx fun c =>
       ((e.claims.flatMap Claim.settle).foldl (fun c f => c.pushFor uid 0 f) c).onRun uid fun e => { e with stage := 2 }))) ∧
     (e.stage = 2 → e.follows = true → c.full .mx = true → exec (.copyEnd uid) s = .next (again s)) ∧
     (∀ m, e.stage = 2 → e.follows = true → c.full .mx = false → c.followOn e s.nextId = .ok m → exec (.copyEnd uid) s
       = .next (((s.enqueue m).ctx (·.onRun uid fun e => { e with stage := 4 })).completions { e with stage := 4 })) ∧
     (∀ cause tv, e.stage = 2 → e.follows = true → c.full .mx = false → c.followOn e s.nextId = .error (cause, tv) →
       exec (.copyEnd uid) s = .next (s.ctx (·.faultRun uid cause tv))) ∧
     (e.stage = 2 → e.follows = false → e.op8 = 0x41 →
       (¬gated ∨ c.ackRoomFor e.rectangle.length = true → exec (.copyEnd uid) s = .next (s.copymWords e e.rectangle)) ∧
       (gated → c.ackRoomFor e.rectangle.length = false → exec (.copyEnd uid) s = .next (again s))) ∧
     (e.stage = 3 → exec (.copyEnd uid) s = .next (again (s.ctx (·.onRun uid fun e => { e with stage := 4 })))) ∧
     ((e.stage = 2 ∧ e.follows = false ∧ e.op8 ≠ 0x41) ∨ 4 ≤ e.stage →
       (e.cside = false ∨ ¬gated ∨ c.ackRoom = true → exec (.copyEnd uid) s = .next (s.completionWrite e)) ∧
       (e.cside = true → gated → c.ackRoom = false → exec (.copyEnd uid) s = .next (again s))) ∧
     exec (.copyFault uid) s = .next (s.ctx (·.raiseFailed uid)))

/-- R253, R252; R254 to R258, R260, R261: an NM head whose conditions hold and whose operand block, target and watchpoint
checks pass starts for one cycle; an operand block outside the readable pool, a target that is not aligned or crosses its
block, or an armed watchpoint faults it, the first of them. At its home, of this module, a packet for a target with no
poisoned sector is performed at once and answered: swap, and compare-and-swap of the old bytes, store and answer the old
bytes; a compare-and-swap of others answers them with FAIL; enqueue and dequeue answer the old tail or head once their nodes
translate, dequeue of an empty list 0 with EMPTY; a chase that ends at its site answers the pointer and the hops made; a
reduction stores its sums. A member's arrival that the group does not expect is rejected; any other sets its bit, the first
with the group's limit. The limit fails what has arrived and is not reduced. -/
def Obligations.NearMemoryAtBothEnds : Prop :=
  (∀ (s : State) (e : Entry) (i : Instr) (op : Nat),
     (i, op) ∈ ([(.nmCas, 0x60), (.nmEnq, 0x61), (.nmDeq, 0x62), (.nmChase, 0x63), (.nmRed, 0x64), (.nmMlr, 0x65),
       (.nmSwap, 0x66)] : List (Instr × Nat)) →
     let c := s.core.ctx
     let va := e.val1.toNat
     let opa := 16 * e.f 52 15
     let al := e.nmTarget.1
     let span := e.nmTarget.2.1
     let block := e.nmTarget.2.2
     let seen := c.watch (e.op8 != 0x63) false false e.uid va span
     let readable := admitsAll c.misc.part .engineRead opa e.nmOperand = true
     let aligned := va % al = 0 ∧ va / block = (va + span - 1) / block
     c.head .nm = some e → e.op8 = op → c.verdict true e = .start →
     (¬readable → exec i s = .next (s.ctx (·.faultHead e causePoolBound (BitVec.ofNat 64 opa)))) ∧
     (readable → ¬aligned → exec i s = .next (s.ctx (·.faultHead e causeMisalign e.val1))) ∧
     (readable → aligned → seen.2 = none → exec i s = .next (s.ctx fun _ => seen.1.begin e 1)) ∧
     (∀ a, readable → aligned → seen.2 = some a →
       exec i s = .next (s.ctx fun _ => seen.1.faultHead e causeWatch (BitVec.ofNat 64 a)))) ∧
  (∀ (s : State) (id : Nat) (r : Req) (img : BitVec 128) (opnd : List Byte) (x : Nat), s.req id = some r →
     r.kind = .nm img opnd x → s.lost r = false → r.atHome = false → r.abroad = false →
     let op := img.toNat / 2 ^ 120
     let n := 8 * 2 ^ imgBits img 50 2
     let clean := r.nmSpan = 0 ∨ s.poisonedIn r.pa r.nmSpan = false
     let t := s.nmTouch r.pa r.nmSpan
     let old := (List.range n).map fun i => t.devByte t.conn.modnum (r.pa + i)
     let does := fun (u : State) => exec (.nmuOperation id) s = .next u
     (clean → op = 0x66 → does ((t.nmWrite r.pa (opnd.take n)).answerWith r.id 0 old 0)) ∧
     (clean → op = 0x60 → old = opnd.take n → does ((t.nmWrite r.pa ((opnd.drop n).take n)).answerWith r.id 0 old 0)) ∧
     (clean → op = 0x60 → old ≠ opnd.take n → does (t.answerWith r.id 0 old (2 ^ 8))) ∧
     (clean → op = 0x62 → t.mem64 r.pa = 0 → does (t.answerWith r.id 0 (toBytes 8 0) (2 ^ 9))) ∧
     (∀ u p, clean → op = 0x62 → t.mem64 r.pa ≠ 0 → t.nmNode r true (t.mem64 r.pa) = (u, .ok p) →
       let v := (u.nmTouch p 8).nmWrite r.pa (toBytes 8 (u.mem64 p))
       does ((if u.mem64 p = 0 then v.nmWrite (r.pa + 8) (toBytes 8 0) else v).answerWith r.id 0 (toBytes 8 (t.mem64 r.pa)) 0)) ∧
     (∀ u cause, clean → op = 0x62 → t.mem64 r.pa ≠ 0 → t.nmNode r true (t.mem64 r.pa) = (u, .error cause) →
       does (u.answerWith r.id cause [] 0)) ∧
     (∀ u p, clean → op = 0x61 → t.nmNode r false (ofBytes (opnd.take 8)) = (u, .ok p) →
       let node := toBytes 8 (ofBytes (opnd.take 8))
       let tail := t.mem64 (r.pa + 8)
       (tail = 0 → does ((((u.nmWrite p (toBytes 8 0)).nmWrite r.pa node).nmWrite (r.pa + 8) node).answerWith r.id 0 (toBytes 8 tail) 0)) ∧
       (∀ v q, tail ≠ 0 → u.nmNode r false tail = (v, .ok q) →
         does ((((v.nmWrite p (toBytes 8 0)).nmWrite q node).nmWrite (r.pa + 8) node).answerWith r.id 0 (toBytes 8 tail) 0))) ∧
     (∀ u cause, clean → op = 0x61 → t.nmNode r false (ofBytes (opnd.take 8)) = (u, .error cause) →
       does (u.answerWith r.id cause [] 0)) ∧
     (∀ u p h short cause, clean → op = 0x63 →
       State.nmHops r.asid (r.pa / 2 ^ 36) (imgBits img 33 5) (imgBits img 38 4 + 1 - r.pos) r.pos r.va r.status.toNat t
         = (u, .over p h short cause) →
       does (u.answerWith r.id cause (toBytes 8 p ++ toBytes 8 h) (if short then 2 ^ 11 else 0))) ∧
     (clean → op = 0x64 →
       let rfmt := imgBits img 48 2
       let z := if rfmt = 0 then 2 else 4
       does ((t.nmWrite r.pa ((List.range (imgBits img 42 6 + 1)).flatMap fun i => toBytes 4 (redSum rfmt
         (t.devRead t.conn.modnum (r.pa + 4 * i) 4) (ofBytes ((opnd.drop (z * i)).take z))))).answerWith r.id 0 [] 0)) ∧
     (¬clean → does (s.answerWith id causeMem [] 0))) ∧
  (∀ (s : State) (id : Nat) (r : Req) (img : BitVec 128) (opnd : List Byte) (x : Nat), s.req id = some r →
     r.kind = .nm img opnd x → r.bySite = false → s.lost r = false → r.atHome = false → r.abroad = false →
     let g := s.mlrGroup r.pa
     let m := imgBits img 29 4
     let t := s.nmTouch r.pa 512
     let expected := g.ok t.conn.members = true ∧ g.mask / 2 ^ m % 2 = 1 ∧ g.arrived / 2 ^ m % 2 ≠ 1
     let joined := fun (d : Nat) => ((t.nmWrite (r.pa + 16) (toBytes 8 (g.arrived + 2 ^ m + g.epoch * 2 ^ 16))).onSite
       (r.pa / 2 ^ 36) fun y => { y with mlr := y.mlr ++ [⟨r.pa, m, r.id, r.lid, r.job, d, false, none, 0, 0⟩] }).onReq r.id
         fun r => { r with timed := false }
     (s.poisonedIn r.pa 512 = true → exec (.mlrArrival id) s = .next (s.answerWith id causeMem [] 0)) ∧
     (s.poisonedIn r.pa 512 = false → ¬expected → exec (.mlrArrival id) s = .next (t.answerWith r.id causeNmuReject [] 0)) ∧
     (s.poisonedIn r.pa 512 = false → expected → t.mlrArrivals r.pa = [] → exec (.mlrArrival id) s
       = .next (((joined (t.tick + g.limit)).at (t.tick + g.limit) (.mlrLimitExpiry r.pa)).mlrCheck r.pa)) ∧
     (∀ a rest, s.poisonedIn r.pa 512 = false → expected → t.mlrArrivals r.pa = a :: rest →
       exec (.mlrArrival id) s = .next ((joined a.deadline).mlrCheck r.pa))) ∧
  (∀ (s : State) (pa : Nat),
     (∀ a rest, s.mlrArrivals pa = a :: rest → a.deadline ≤ s.tick → a.reduced = false →
       exec (.mlrLimitExpiry pa) s = .next (s.mlrFail pa causeFabricTimeout)) ∧
     (∀ a rest, s.mlrArrivals pa = a :: rest → s.tick < a.deadline ∨ a.reduced = true → exec (.mlrLimitExpiry pa) s = .next s) ∧
     (s.mlrArrivals pa = [] → exec (.mlrLimitExpiry pa) s = .next s))

/-! Bindings, locks and visibility (11 R270 to R279) -/

/-- R273; R275 to R277: `bind` of an aligned descriptor in the readable pool asks for its 32 bytes and holds; once they are
served, a descriptor that passes every check puts its binding in flight with latency 2, and one that fails traps with the
cause of the first check it fails. `fence` and `rel` end at once when everything they wait for has been acknowledged, and
hold otherwise; `rel` of a lock sends its packet and drops the binding, `rel` of a barrier arrives and drops it. `acq` of a
lock sends its packet, and holds, once its home is known, and ends with the answer's code; of a barrier that has been
released it holds the binding and answers 0, and of another it waits. An empty binding, a `rel` of a lock not held and an
`acq` of an object held trap with FIELD_RANGE and the slot. -/
def Obligations.BindAcquireReleaseAndFence : Prop :=
  (∀ (s : State) (sa : BitVec 5) (k : BitVec 3),
     let d := s.reg sa
     let part := s.core.ctx.misc.part
     (s.core.ctx.sq.wait = none → d.toNat % 32 ≠ 0 → exec (.bind sa k) s = s.wordFault causeMisalign d) ∧
     (s.core.ctx.sq.wait = none → d.toNat % 32 = 0 → admitsAll part .scalarRead d.toNat 32 = false →
       exec (.bind sa k) s = s.wordFault causePoolBound 0) ∧
     (s.core.ctx.sq.wait = none → d.toNat % 32 = 0 → admitsAll part .scalarRead d.toNat 32 = true →
       exec (.bind sa k) s = .next ((s.askSq (.word d.toNat 32) false d.toNat 32).holdOn ⟨.served, none, [d.toNat], 0, 0⟩)) ∧
     (∀ a v : Nat, s.core.ctx.sq.wait = some ⟨.served, none, [a], 1, v⟩ →
       let w := fun (i : Nat) => BitVec.ofNat 64 (v / 2 ^ (64 * i))
       let b := descBinding (w 0) (w 1) (w 2) (w 3)
       let zeros := descZeros (w 0) (w 1) (w 2) (w 3) = true
       let bar := b.barrier = true → b.object < partBars part
       let lock := b.barrier = false → b.object % 8 = 0
       let far := b.farPool = true → b.length ≠ 0 → cidOk (wbits (w 0) 32 16) = true
       let traps := fun (cause : BitVec 8) (tv : Word) => exec (.bind sa k) s = s.wordFault cause tv
       (zeros → bar → lock → far → (s.core.ctx.binding k.toNat).held = false →
         exec (.bind sa k) s = .next (s.push 2 (.bind k b)).retire) ∧
       (¬zeros → traps causeFieldRange (BitVec.ofNat 64 a)) ∧
       (zeros → ¬bar → traps causePoolBound (w 2)) ∧
       (zeros → bar → ¬lock → traps causeMisalign (w 2)) ∧
       (zeros → bar → lock → ¬far → traps causeFieldRange 0) ∧
       (zeros → bar → lock → far → (s.core.ctx.binding k.toNat).held = true → traps causeFieldRange (k.zeroExtend 64)))) ∧
  (∀ (s : State) (scope : BitVec 2),
     let f := s.fencing .fence Entry.fencable
     let passed := (f.allSent && f.core.ctx.acked scope.toNat) = true
     (passed → exec (.fence scope) s = .next f.retire) ∧
     (¬passed → exec (.fence scope) s = .next (f.holdOn ⟨.fence, none, [], 0, 0⟩))) ∧
  (∀ (s : State) (k : BitVec 3) (ovr : BitVec 1) (scope : BitVec 2),
     let b := s.core.ctx.binding k.toNat
     let r := s.fencing .rel Entry.fencable
     let c := r.core.ctx
     let passed := (r.allSent && c.acked (if ovr = 1 then scope.toNat else b.scope)) = true
     let drop := fun (s : State) => s.ctx (·.onBinding k.toNat fun b => { b with held := false })
     s.core.ctx.sq.wait = none →
     (b.valid = false → exec (.rel ovr scope k) s = s.wordFault causeFieldRange (k.zeroExtend 64)) ∧
     (b.barrier = false → b.held = false → exec (.rel ovr scope k) s = s.wordFault causeFieldRange (k.zeroExtend 64)) ∧
     (b.valid = true → b.barrier = true ∨ b.held = true → ¬passed →
       exec (.rel ovr scope k) s = .next (r.holdOn ⟨.rel, none, [], 0, k.toNat⟩)) ∧
     (b.valid = true → b.barrier = true → passed → b.object < partBars c.misc.part →
       domEN (vat c.domain 0 b.object) = true → (c.bar b.object).out < 2 →
       exec (.rel ovr scope k) s = .next (drop (r.arrive b.object)).retire) ∧
     (∀ (t : State) (m pa : Nat), b.valid = true → b.barrier = false → b.held = true → passed → c.ackRoom = true →
       r.translate permRWA b.object 0 = (t, .at m pa) →
       exec (.rel ovr scope k) s = .next (drop (t.dispatch { t.core.ctx.blankReq t.core.cid (.release k.toNat) with
         module := m, pa := pa, va := b.object })).retire)) ∧
  (∀ (s : State) (sd sa : BitVec 5) (k : BitVec 3),
     let b := s.core.ctx.binding k.toNat
     let try_ := sa ≠ 0 ∧ s.reg sa = 0
     let lock : Wait := ⟨.acqLock, s.limitOf sa, [k.toNat], acqUnsent, if try_ then 1 else 0⟩
     (∀ (t : State) (m pa : Nat), s.core.ctx.sq.wait = none → b.valid = true → b.held = false → b.barrier = false →
       s.translate permRWA b.object 0 = (t, .at m pa) →
       exec (.acq sd sa k) s = .next ((t.dispatch { t.core.ctx.blankReq t.core.cid (.acquire (!decide try_) k.toNat) with
         module := m, pa := pa, va := (t.core.ctx.binding k.toNat).object, counted := false }).holdOn
           { lock with progress := acqSent, addrs := [k.toNat, t.nextId, m, pa] })) ∧
     (∀ t : State, s.core.ctx.sq.wait = none → b.valid = true → b.held = false → b.barrier = false →
       s.translate permRWA b.object 0 = (t, .wait) → exec (.acq sd sa k) s = .next (t.holdOn lock)) ∧
     (∀ v : Wait, s.core.ctx.sq.wait = some v → v.kind = .acqLock → v.progress = acqEnded →
       exec (.acq sd sa k) s = .next (s.endHold sd (BitVec.ofNat 64 v.value))) ∧
     (∀ v : Wait, s.core.ctx.sq.wait = some v → v.kind = .acqLock → v.progress ≠ acqEnded → v.progress ≠ acqUnsent →
       exec (.acq sd sa k) s = .next (s.holdOn v)) ∧
     (s.core.ctx.sq.wait = none → b.valid = true → b.held = false → b.barrier = true →
       (s.core.ctx.bar b.object).arr ≤ (s.core.ctx.bar b.object).rel →
       exec (.acq sd sa k) s
         = .next (((s.observeAll b.object).ctx (·.onBinding k.toNat fun b => { b with held := true })).endHold sd 0)) ∧
     (s.core.ctx.sq.wait = none → b.valid = true → b.held = false → b.barrier = true →
       (s.core.ctx.bar b.object).rel < (s.core.ctx.bar b.object).arr → s.limitOf sa = none →
       exec (.acq sd sa k) s = .next (s.holdOn ⟨.acqBarrier, none, [k.toNat], 0, b.object⟩)) ∧
     (s.core.ctx.sq.wait = none → b.valid = false ∨ b.held = true →
       exec (.acq sd sa k) s = s.wordFault causeFieldRange (k.zeroExtend 64)))

/-- R274, R275; R274 to R276, R240: an answer of a lock's home to an acquire still waiting is noted by the wait that sent it:
a grant holds the binding. A wait told BUSY sends again once its time has come, before its limit; at its limit it ends with
0x100 when nothing is on its way, and sends a cancel otherwise. At its home, of this module, on a page that permits it and a
sector that is sound, the word of a lock decides an acquire: 0 takes the requester's token and is granted; another token
parks a request that may park, while there is room, and is BUSY otherwise; the requester's own token is rejected; the dead
mark answers PEER_DEAD. A release of the token hands the word to the first parked request, or clears it; one of another word
fails. A cancel removes a parked request. -/
def Obligations.LocksAtBothEnds : Prop :=
  (∀ (s : State) (w : Wait), s.core.ctx.sq.wait = some w → w.kind = .acqLock →
     let acqWith := fun (w : Wait) => s.sq fun q => { q with wait := some w }
     (∀ (id code : Nat) (r : Req), s.req id = some r → code ≠ lockPark →
       exec (.acqAnswer id code) s = .next ((s.dropReq id).onTaskCtx r.cid r.lid (·.acqAnswered id code s.tick))) ∧
     (∀ (id : Nat) (r : Req), s.req id = some r → r.abroad = false → exec (.acqAnswer id lockPark) s
       = .next ((s.onReq id fun r => { r with timed := false }).onTaskCtx r.cid r.lid (·.acqAnswered id lockPark s.tick))) ∧
     (∀ id : Nat, w.awaits id = true → w.addrs.headD 0 < 8 →
       let c := s.core.ctx.acqAnswered id lockGrant s.tick
       c.sq.wait = some { w with progress := acqEnded, value := 0 } ∧ (c.binding (w.addrs.headD 0)).held = true) ∧
     (w.progress = acqWaits → w.value ≤ s.core.tick → w.deadline.all (s.core.tick < ·) = true →
       exec .acqBusyResend s = .next (acqWith { w with progress := acqUnsent, value := 0 })) ∧
     (w.progress ≠ acqWaits ∨ s.core.tick < w.value ∨ w.deadline.all (s.core.tick < ·) = false →
       exec .acqBusyResend s = .next s) ∧
     (∀ d, w.deadline = some d → d ≤ s.core.tick → w.onHalted s.conn.halted = false →
       (w.progress = acqWaits ∨ (w.progress = acqUnsent ∧ 1 < w.addrs.length) →
         exec .acqLimitExpiry s = .next (acqWith { w with progress := acqEnded, value := 0x100 })) ∧
       (w.progress = acqSent ∨ w.progress = acqParked →
         let t := s.dispatch { s.core.ctx.blankReq s.core.cid .cancel with
           module := w.addrs.getD 2 0, pa := w.addrs.getD 3 0, va := (s.core.ctx.binding (w.addrs.headD 0)).object
           counted := false, timed := false }
         exec .acqLimitExpiry s = .next (t.sq fun q => { q with
           wait := some { w with progress := acqCancelling, addrs := w.addrs ++ [s.nextId] } })) ∧
       ((w.progress = acqUnsent ∧ w.addrs.length ≤ 1) ∨ w.progress = acqCancelling ∨ w.progress = acqEnded →
         exec .acqLimitExpiry s = .next s)) ∧
     (∀ d, w.deadline = some d → s.core.tick < d ∨ w.onHalted s.conn.halted = true → exec .acqLimitExpiry s = .next s) ∧
     (w.deadline = none → exec .acqLimitExpiry s = .next s)) ∧
  (∀ (s u : State) (id w : Nat) (r : Req), s.req id = some r → s.lost r = false → r.atHome = false → r.abroad = false →
     let own := (s.lockPage r).1
     let site := r.pa / 2 ^ 36
     let t := u.site site
     (s.lockPage r).2 = none → own.homeNat r.pa 8 = (u, some w) →
     (w / 2 ^ 62 % 2 = 1 → exec (.lockAcquirePacket id) s = .next (u.lockAnswer id causePeerDead.toNat)) ∧
     (w / 2 ^ 62 % 2 ≠ 1 → w = u.token r → exec (.lockAcquirePacket id) s = .next (u.lockAnswer id causeNmuReject.toNat)) ∧
     (w = 0 → u.token r ≠ 0 → t.locks.length < 1024 →
       exec (.lockAcquirePacket id) s = .next (((u.lockWrite r.pa (u.token r)).onSite site fun t =>
         { t with locks := t.locks ++ [r.pa] }).lockAnswer id lockGrant)) ∧
     (w = 0 → u.token r ≠ 0 → 1024 ≤ t.locks.length → exec (.lockAcquirePacket id) s = .next (u.lockAnswer id lockBusy)) ∧
     (∀ p k, w ≠ 0 → w / 2 ^ 62 % 2 ≠ 1 → w ≠ u.token r → r.kind = .acquire p k →
       (p = true → t.parks.length < 64 → exec (.lockAcquirePacket id) s
         = .next ((u.onSite site fun t => { t with parks := t.parks ++ [⟨r.pa, id, u.issuer r, r.cid⟩] }).lockAnswer id lockPark)) ∧
       (p = false ∨ 64 ≤ t.parks.length → exec (.lockAcquirePacket id) s = .next (u.lockAnswer id lockBusy))) ∧
     (w ≠ u.token r → exec (.lockReleasePacket id) s = .next (u.answerWith id 0 [] 1)) ∧
     (w = u.token r → t.parks.find? (·.pa = r.pa) = none →
       exec (.lockReleasePacket id) s = .next ((u.lockWrite r.pa 0).answerWith id 0 [] 0)) ∧
     (∀ p, w = u.token r → t.parks.find? (·.pa = r.pa) = some p →
       exec (.lockReleasePacket id) s = .next ((((u.lockWrite r.pa (lockToken p.module p.cid)).onSite site fun t =>
         { t with parks := t.parks.erase p }).lockAnswer p.id lockGrant).answerWith id 0 [] 0))) ∧
  (∀ (s : State) (id : Nat) (r : Req), s.req id = some r → s.lost r = false → r.atHome = false → r.abroad = false →
     let site := r.pa / 2 ^ 36
     let own := s.lockPage r
     let mine := (s.site site).parks.find? fun p => p.pa == r.pa && p.module == s.issuer r && p.cid == r.cid
     (∀ cause, own.2 = some cause → exec (.lockAcquirePacket id) s = .next (own.1.lockAnswer id cause.toNat) ∧
       exec (.lockReleasePacket id) s = .next (own.1.answerWith id cause [] 0)) ∧
     (∀ u, own.2 = none → own.1.homeNat r.pa 8 = (u, none) →
       exec (.lockAcquirePacket id) s = .next (u.lockAnswer id causeMem.toNat) ∧
       exec (.lockReleasePacket id) s = .next (u.answerWith id causeMem [] 0)) ∧
     (∀ p, mine = some p → exec (.lockCancelPacket id) s
       = .next ((s.onSite site fun t => { t with parks := t.parks.erase p }).lockAnswer id lockCancelled)) ∧
     (mine = none → exec (.lockCancelPacket id) s = .next s))

/-! Barriers, time, groups and monitors (12 R280 to R294; 14 R330 to R338; 15 R339 to R351; 19 R412) -/

/-- R284, R292, R293; R294, R280: on a barrier of the partition whose domain is enabled, `bar` arrives when fewer than two
phases are open, or takes a release first; `barw` and `bart` answer 0x200 when no phase is open, 0 when the oldest has been
released, which they take, and otherwise wait, or answer 0x100. A barrier outside the partition or disabled faults the word,
as one of level 0 does for `align`.
`align` drains its core, arrives, and restarts it at the tick its release sets: CYC takes the value of sa, sd the outcome,
and no engine carries a time over. `rtick` and `rcyc` put TICK and CYC in flight. -/
def Obligations.BarrierTimeAndAlignWords : Prop :=
  (∀ (s : State) (sd sa : BitVec 5) (n : BitVec 3),
     let b := s.core.ctx.bar n.toNat
     let okd := n.toNat < partBars s.core.ctx.misc.part ∧ domEN (vat s.core.ctx.domain 0 n.toNat) = true
     let ans := fun (s : State) (v : Word) => (Host.Outcome.next (s.push 1 (.sreg sd v)).retire : Out)
     (okd → b.out < 2 → exec (.bar n) s = .next (s.arrive n.toNat).retire) ∧
     (okd → 2 ≤ b.out → b.released = true → exec (.bar n) s = .next ((s.observe n.toNat).arrive n.toNat).retire) ∧
     (okd → 2 ≤ b.out → b.released = false → exec (.bar n) s = .next (s.holdOn ⟨.bar, none, [], 0, n.toNat⟩)) ∧
     (okd → b.out = 0 → exec (.barw sd sa n) s = ans s 0x200 ∧ exec (.bart sd n) s = ans s 0x200) ∧
     (okd → b.out ≠ 0 → b.released = true →
       exec (.barw sd sa n) s = ans (s.observe n.toNat) 0 ∧ exec (.bart sd n) s = ans (s.observe n.toNat) 0) ∧
     (okd → b.out ≠ 0 → b.released = false → s.core.ctx.sq.wait = none →
       exec (.barw sd sa n) s = .next (s.holdOn ⟨.barw, s.limitOf sa, [], sd.toNat, n.toNat⟩) ∧ exec (.bart sd n) s = ans s 0x100) ∧
     (∀ (w : Wait) (d : Nat), s.core.ctx.sq.wait = some w → w.kind = .barw → w.deadline = some d → d ≤ s.tickEnd →
       s.suspended5 w.value = false → exec .barwExpiry s = .next (s.endAfter w.progress 0x100)) ∧
     (∀ (w : Wait) (d : Nat), s.core.ctx.sq.wait = some w → w.kind = .barw → w.deadline = some d →
       s.tickEnd < d ∨ s.suspended5 w.value = true → exec .barwExpiry s = .next s) ∧
     (partBars s.core.ctx.misc.part ≤ n.toNat →
       exec (.bar n) s = s.wordFault causePoolBound (BitVec.ofNat 64 n.toNat) ∧
       exec (.barw sd sa n) s = s.wordFault causePoolBound (BitVec.ofNat 64 n.toNat) ∧
       exec (.bart sd n) s = s.wordFault causePoolBound (BitVec.ofNat 64 n.toNat)) ∧
     (n.toNat < partBars s.core.ctx.misc.part → domEN (vat s.core.ctx.domain 0 n.toNat) = false →
       exec (.bar n) s = s.wordFault causeFieldRange (BitVec.ofNat 64 n.toNat) ∧
       exec (.barw sd sa n) s = s.wordFault causeFieldRange (BitVec.ofNat 64 n.toNat) ∧
       exec (.bart sd n) s = s.wordFault causeFieldRange (BitVec.ofNat 64 n.toNat))) ∧
  (∀ (s : State) (sd sa : BitVec 5) (n : BitVec 3),
     let c := s.core.ctx
     let okd := n.toNat < partBars c.misc.part ∧ domEN (vat c.domain 0 n.toNat) = true ∧ domLevel (vat c.domain 0 n.toNat) ≠ 0
     let w0 : Wait := ⟨.align, none, [(s.reg sa).toNat, sd.toNat], 0, n.toNat⟩
     (okd → c.sq.wait = none → c.drainedMask 0xFF = true → (c.bar n.toNat).out < 2 →
       exec (.align sd sa n) s = .next ((s.arrive n.toNat).holdOn { w0 with progress := 1 })) ∧
     (okd → c.sq.wait = none → c.drainedMask 0xFF = false → exec (.align sd sa n) s = .next (s.holdOn w0)) ∧
     (c.sq.wait = none → partBars c.misc.part ≤ n.toNat →
       exec (.align sd sa n) s = s.wordFault causePoolBound (BitVec.ofNat 64 n.toNat)) ∧
     (c.sq.wait = none → n.toNat < partBars c.misc.part →
       domEN (vat c.domain 0 n.toNat) = false ∨ domLevel (vat c.domain 0 n.toNat) = 0 →
       exec (.align sd sa n) s = s.wordFault causeFieldRange (BitVec.ofNat 64 n.toNat)) ∧
     (∀ w : Wait, c.sq.wait = some w → w.kind = .align → w.progress = 1 → (c.bar w.value).arr ≤ (c.bar w.value).rel →
       exec (.align sd sa n) s = .next ((s.observeAll w.value).holdOn { w with
         progress := 2
         deadline := if domLevel (vat c.domain 0 w.value) ≤ 2 then none
           else some ((c.bar w.value).tr + if domBand (vat c.domain 0 w.value) = 4 then 40 else 4) })) ∧
     (∀ w : Wait, s.alignDue = some w → ∃ t : State, exec .alignRestart s = .next t ∧
       t.core.ctx.cyc = w.addrs.getD 0 0 ∧
       t.core.ctx.regs = (c.advance c.sq.pc.toNat).regs.put (BitVec.ofNat 5 (w.addrs.getD 1 0)) (if w.progress = 3 then 1 else 0) ∧
       (∀ u, (t.core.ctx.queue u).freeAt = 0 ∧ (t.core.ctx.queue u).headAt = 0) ∧ t.core.ctx.mxV = 0 ∧ t.mem = s.mem ∧ t.others = s.others) ∧
     (s.alignDue = none → exec .alignRestart s = .next s) ∧
     exec (.rtick sd) s = .next (s.push 1 (.sreg sd (BitVec.ofNat 64 (tickSeen s.core)))).retire ∧
     exec (.rcyc sd) s = .next (s.push 1 (.sreg sd (BitVec.ofNat 64 c.cyc))).retire)

/-- R285 to R291, R323: a segment's report is kept at its parent, which is evaluated, or completes the barrier at the root: below
level 5 the release goes to every segment of the barrier for tick T_c + 8D + 2. A release due to the focus core is taken by
it; one of a tree is taken by every participant of its segment, which then clears its phase and is evaluated. An excusal has
the effect of `State.excuse`, and none where no segment serves the core. A level-5 report is kept, and the last one sends
the release tick; a release tick is converted to this module's TICK. The model's own: the name of a level-5 barrier (log
13, DEDUCED), the totals of other modules (log 11, DESIGN CHOICE) and which phases an excusal makes short (log 53, DEDUCED). -/
def Obligations.BarrierEventsClimbAndRelease : Prop :=
  (∀ (s : State) (die seg par : Nat),
    let g := (s.die die).seg seg
    (g.used = false → exec (.barrierReport die seg par) s = .next s) ∧
    (g.used = true → g.parent = none → g.dormant = false → g.level ≠ 5 → exec (.barrierReport die seg par) s
      = .next ((s.segsOf g.lid g.bar).foldl (fun s x => s.at (s.tick + 8 * g.depth + 2) (.barrierRelease x.1 x.2 par)) s)) ∧
    (g.used = true → g.parent = none → g.dormant = false → g.level = 5 → s.setRoot = true → exec (.barrierReport die seg par) s
      = .next (s.at (s.tick + 1) (.level5BarrierReport s.conn.modnum (8 * g.lid + g.bar) par))) ∧
    (g.used = true → g.parent = none → g.dormant = false → g.level = 5 → s.setRoot = false →
      let root := ((List.range 32).find? fun m => s.conn.members.getLsbD m).getD 0
      exec (.barrierReport die seg par) s = .next (s.toModule root (s.message 3 s.conn.modnum 0
        (toBytes 8 (8 * g.lid + g.bar) ++ toBytes 1 par)))) ∧
    (g.used = true → g.parent = none → g.dormant = true → exec (.barrierReport die seg par) s = .next s) ∧
    (∀ p, g.used = true → g.parent = some p → (s.die p).segOf g.lid g.bar = none →
      exec (.barrierReport die seg par) s = .next s) ∧
    (∀ p i, g.used = true → g.parent = some p → (s.die p).segOf g.lid g.bar = some i →
      let s' := s.onSeg p i fun x => { x with reports := x.reports ++ (par, die) :: (if g.dormant then [(2, die)] else []) }
      exec (.barrierReport die seg par) s = .next ((s'.evaluate p i par s.tick (0, 0)).evaluate p i (1 - par) s.tick (0, 0)))) ∧
  (∀ (s : State) (die seg par n : Nat) (r : Release) (rest : List Release),
    let c := s.core.ctx
    let d := vat c.domain 0 n
    n = (if 64 ≤ seg then seg - 64 else ((s.die die).seg seg).bar) → 64 ≤ seg ∨ ((s.die die).seg seg).level ≤ 2 →
    ((c.bar n).due = [] → exec (.barrierRelease die seg par) s = .next s) ∧ ((c.bar n).due = r :: rest →
    let takes := fun (r : Release) => exec (.barrierRelease die seg par) s = .next ((s.ctx fun c =>
      (c.onBar n fun b => { b with due := rest }).takeRelease n r).traceHeads s.core.cid 4)
    (r.left = 0 → domLevel d = 0 → c.drainedAll (domEMask d) = true → takes r) ∧
    (r.left = 0 → domLevel d ≠ 0 → takes ((s.myDie.seg (domSeg d)).releaseFor (c.bar n).rel (s.core.cid % 128) 0)) ∧
    (r.left ≠ 0 ∨ (domLevel d = 0 ∧ c.drainedAll (domEMask d) = false) → exec (.barrierRelease die seg par) s = .next s))) ∧
  (∀ (s : State) (die seg par : Nat),
    let old := (s.die die).seg seg
    let segs := s.segsOf old.lid old.bar
    let u := if segs.all fun x => ((s.die x.1).seg x.2).rel == old.rel then s.setTotals segs old par else s
    let g := (u.die die).seg seg
    let cores := (List.range 100).filter fun i => g.mask.getLsbD i
    let taken := cores.foldl (fun (t : State) i => t.onTaskCtx (die * 128 + i) g.lid fun c =>
      (c.takeRelease g.bar ⟨0, u.treeShort g.lid g.bar g.rel, (g.totals.filter fun t => t.1 == par && t.2.1 == die * 128 + i).map
        (·.2.2)⟩).onBar g.bar fun b => { b with tr := t.tick }) u
    let noted := (cores.filter fun i => (taken.coreOf (die * 128 + i)).runs g.lid).foldl
      (fun (t : State) i => t.traceHeads (die * 128 + i) 4) taken
    seg < 64 → 2 < old.level →
    (old.used = true → exec (.barrierRelease die seg par) s
      = .next ((noted.onSeg die seg (·.cleared par)).evaluate die seg par noted.tick (0, 0))) ∧
    (old.used = false → exec (.barrierRelease die seg par) s = .next s)) ∧
  (∀ (s : State) (die core : Nat) (lid : Option Nat),
    exec (.barrierExcuse die core lid) s = .next (s.excuse die core lid) ∧
    (((s.die die).segs.toList.all fun g => !(g.used && g.mask.getLsbD core && (lid == none || lid == some g.lid))) = true →
      exec (.barrierExcuse die core lid) s = .next s)) ∧
  (∀ (s : State) (m bar par : Nat),
    let u : State := { s with conn := { s.conn with reports := s.conn.reports ++ [(m, bar, par)] } }
    let live := (List.range 32).filter fun m => s.conn.members.getLsbD m && !s.conn.dead.getLsbD m
    let last := (s.setRoot && live.all fun m => u.conn.reports.contains (m, bar, par)) = true
    (¬last → exec (.level5BarrierReport m bar par) s = .next u) ∧
    (last →
      let v : State := { u with conn := { u.conn with reports := u.conn.reports.filter fun r => r.2 ≠ (bar, par) } }
      let t := s.tick + 2 + Config.homeDelay s.nextId
      let sent := (live.filter (· ≠ s.conn.modnum)).foldl (fun s m =>
        s.toModule m (s.message 4 s.conn.modnum 0 (toBytes 8 bar ++ toBytes 1 par ++ toBytes 8 t))) v
      exec (.level5BarrierReport m bar par) s = .next (sent.fresh.at (sent.tick + 1) (.level5Release bar par t))) ∧
    (∀ root, exec (.level5Release bar par root) s = .next ((s.segsOf (bar / 8) (bar % 8)).foldl
      (fun s' x => s'.at (((root : Int) - s.conn.offset) % 2 ^ 64).toNat (.barrierRelease x.1 x.2 par)) s)))

/-- R330 to R337: `cgopen` of a free group on a valid slot, with a mask of members, opens it under the next generation, and
traps on any other; `cgstat` reads its status; a commit or abort starts only on an open group, a commit only on an object
held or a barrier, waits until every put has been sent and held, and then sends its packets, a commit once the counters of
its scope are zero, an abort's where a put was refused. Once every site has answered, the word releases the group's object,
and ends with the group's result. At a site of this module a put
is held while there is room, publishing writes all that is held for the group, in order, and discarding drops it; an answer
is noted by the group that sent the packet. -/
def Obligations.CommitGroupsHoldAndPublish : Prop :=
  (∀ (s : State) (sd sa : BitVec 5) (k cg : BitVec 3),
    let g := s.groupOf cg.toNat
    let m := s.reg sa
    let idle := g.state ≠ .opened ∧ g.state ≠ .committing ∧ g.state ≠ .aborting
    let members := wbits m 32 32 = 0 ∧ m ≠ 0 ∧ (m.truncate 32 &&& ~~~s.conn.members) = 0
    (idle → (s.core.ctx.binding k.toNat).valid = true → members →
      exec (.cgopen sa k cg) s
        = .next (s.push 1 (.group cg.toNat ⟨.opened, m.truncate 32, k.toNat, g.gen + 1, 0, [], 0, [], 0⟩)).retire) ∧
    (¬idle → exec (.cgopen sa k cg) s = s.wordFault causeFieldRange (cg.zeroExtend 64)) ∧
    (idle → (s.core.ctx.binding k.toNat).valid = false → exec (.cgopen sa k cg) s = s.wordFault causeFieldRange (k.zeroExtend 64)) ∧
    (idle → (s.core.ctx.binding k.toNat).valid = true → ¬members → exec (.cgopen sa k cg) s = s.wordFault causeFieldRange m) ∧
    exec (.cgstat sd cg) s = .next (s.push 1 (.sreg sd g.status)).retire ∧
    (s.core.ctx.sq.wait = none → g.state ≠ .opened →
      exec (.cgcommit sd cg) s = s.wordFault causeFieldRange (BitVec.ofNat 64 cg.toNat) ∧
      exec (.cgabort sd cg) s = s.wordFault causeFieldRange (BitVec.ofNat 64 cg.toNat)) ∧
    (s.core.ctx.sq.wait = none → g.state = .opened →
      let b := s.core.ctx.binding g.slot
      let f := s.fencing .commit fun e => e.eng == .cp0 || e.eng == .cp1
      let x := f.groupOf cg.toNat
      let w : Wait := ⟨.commit, none, [], 0, 0⟩
      (b.barrier = false → b.held = false →
        exec (.cgcommit sd cg) s = s.wordFault causeFieldRange (BitVec.ofNat 64 g.slot)) ∧
      (f.allSent = false ∨ x.out ≠ 0 → exec (.cgabort sd cg) s = .next (f.holdOn w) ∧
        (b.barrier = true ∨ b.held = true → exec (.cgcommit sd cg) s = .next (f.holdOn w))) ∧
      (f.allSent = true → x.out = 0 → ((f.sendPackets cg.toNat false).groupOf cg.toNat).answered = false →
        exec (.cgabort sd cg) s = .next ((f.sendPackets cg.toNat false).holdOn { w with progress := 2 }) ∧
        (b.barrier = true ∨ b.held = true → x.cause ≠ 0 → exec (.cgcommit sd cg) s = .next ((f.sendPackets cg.toNat false).holdOn
          { w with progress := 2, value := causeCommitAborted.toNat }))) ∧
      (b.barrier = true ∨ b.held = true → f.allSent = true → x.out = 0 → x.cause = 0 →
        (f.core.ctx.acked (f.core.ctx.binding x.slot).scope = false →
          exec (.cgcommit sd cg) s = .next (f.holdOn { w with progress := 4 })) ∧
        (f.core.ctx.acked (f.core.ctx.binding x.slot).scope = true →
          ((f.sendPackets cg.toNat true).groupOf cg.toNat).answered = false →
          exec (.cgcommit sd cg) s = .next ((f.sendPackets cg.toNat true).holdOn { w with progress := 1 })))) ∧
    (∀ w : Wait, s.core.ctx.sq.wait = some w → w.kind = .commit → w.progress = 1 ∨ w.progress = 2 →
      let u := s.ctx (·.onGroup cg.toNat fun x => { x with state := if w.progress = 1 then .committed else .aborted })
      let b := u.core.ctx.binding g.slot
      let v := if w.progress = 1 then g.result.toNat else w.value
      let drop := fun (s : State) => s.ctx (·.onBinding g.slot fun b => { b with held := false })
      let both := fun (t : State) => exec (.cgcommit sd cg) s = .next t ∧ exec (.cgabort sd cg) s = .next t
      (g.answered = false → both (s.holdOn w)) ∧
      (g.answered = true → w.progress = 2 → b.held = false → b.barrier = false → both (u.endHold sd (BitVec.ofNat 64 v))) ∧
      (g.answered = true → w.progress = 1 ∨ b.held = true → b.barrier = false → u.core.ctx.ackRoom = true →
        ∀ (t : State) (m pa : Nat), u.translate permRWA b.object 0 = (t, .at m pa) →
        both ((drop (t.dispatch { t.core.ctx.blankReq t.core.cid (.release g.slot) with
          module := m, pa := pa, va := b.object })).endHold sd (BitVec.ofNat 64 v))) ∧
      (g.answered = true → b.barrier = true → b.object < partBars u.core.ctx.misc.part →
        domEN (vat u.core.ctx.domain 0 b.object) = true → (u.core.ctx.bar b.object).out < 2 →
        both ((drop (u.arrive b.object)).endHold sd (BitVec.ofNat 64 v))))) ∧
  (∀ (s : State) (id : Nat) (r : Req), s.req id = some r → s.lost r = false → r.atHome = false → r.abroad = false →
    let site := r.pa / 2 ^ 36
    let names := r.names (s.issuer r) s.conn.epoch
    let dropped := s.onSite site fun t => { t with held := t.held.filter fun h => !names h }
    exec (.publish id) s
      = .next ((((s.site site).held.filter names).foldl (fun s h => s.sectorWrite h.data) dropped).answerWith id 0 [] 0) ∧
    exec (.discard id) s = .next (dropped.answerWith id 0 [] 0) ∧
    (∀ group gen, r.kind = .gput group gen →
      let s' := s.onSite site fun t =>
        { t with held := t.held.filter fun h => !h.tagged (s.issuer r) r.cid group || h.gen == gen }
      let h : Held := ⟨s'.issuer r, r.cid, group, gen, s'.conn.epoch, r.pa, (r.pairs.map (·.1)).zip r.data⟩
      ((s'.site site).held.length < 32768 →
        exec (.commitHold id) s = .next ((s'.onSite site fun t => { t with held := t.held ++ [h] }).answerWith id 0 [] 0)) ∧
      (32768 ≤ (s'.site site).held.length → exec (.commitHold id) s = .next (s'.answerWith id causeCommitOverflow [] 0)))) ∧
  (∀ (s : State) (id group : Nat) (r : Req), s.req id = some r →
    (∀ publish, r.kind = .commit group publish →
      exec (.commitAnswer id) s = .next ((s.dropReq id).onIssuer r (·.onGroup group (·.packetAnswer r (s.dropReq id).tick)))) ∧
    (∀ gen u, r.kind = .gput group gen → r.uid = some u →
      exec (.commitAnswer id) s = .next (((s.dropReq id).onIssuer r fun c =>
        (c.onGroup group (·.putAnswer r)).onEntry u (·.settled { r with cause := 0 })).ctrlAborts r.cid r.lid)))

/-- R347 to R350, R412: with checks passed the monitor words put their change, or their read, in flight with latency 1; the
address filter is cleared, takes the granules a word names, one in each cycle, and is tested. -/
def Obligations.MonitorAndFilterWords : Prop :=
  ∀ (s : State) (sd sa : BitVec 5) (k : BitVec 2) (part : BitVec 3) (clr space : BitVec 1) (n : BitVec 8),
    let v := s.reg sa
    (s.core.ctx.nomFault v = none → exec (.monset sa k) s = .next (s.push 1 (.monSet k v)).retire) ∧
    (∀ cause, s.core.ctx.nomFault v = some cause → exec (.monset sa k) s = s.wordFault cause v) ∧
    (refOk v = true → boundOk (s.reg (sa + 1)) = true →
      exec (.monref sa k) s = .next (s.push 1 (.monRef k v (s.reg (sa + 1)))).retire) ∧
    (refOk v = false → exec (.monref sa k) s = s.wordFault causeFieldRange v) ∧
    exec (.monrd sd part k) s = .next (s.push 1 (.monRead sd k part)).retire ∧
    exec (.monchk sd clr k) s = .next (s.push 1 (.monCheck sd k (clr == 1))).retire ∧
    exec .wfiltClr s = .next (s.push 1 (.wfilt true 0)).retire ∧
    exec (.wfiltTst sd sa space) s = .next (s.push 1 (.sreg sd
      (if filterHit s.core.ctx.filter (granuleKey (space == 1) v.toNat) then 1 else 0))).retire ∧
    (s.core.ctx.sq.wait = none →
      let s' := s.push 1 (.wfilt false (granuleBits (granuleKey (space == 1) v.toNat)))
      (n = 0 → exec (.wfiltIns sa n space) s = .next s'.retire) ∧
      (n ≠ 0 → exec (.wfiltIns sa n space) s = .next (s'.holdOn ⟨.wfilt, none, [], 1, v.toNat⟩))) ∧
    (∀ j x, s.core.ctx.sq.wait = some ⟨.wfilt, none, [], j, x⟩ →
      let s' := s.push 1 (.wfilt false (granuleBits (granuleKey (space == 1) (x + 256 * j))))
      (j = n.toNat → exec (.wfiltIns sa n space) s = .next s'.retire) ∧
      (j ≠ n.toNat → exec (.wfiltIns sa n space) s = .next (s'.holdOn ⟨.wfilt, none, [], j + 1, x⟩)))

/-! Traps (17 R373 to R389) and the words that work on them -/

/-- R377, R375, R95: taking a trap. The trap CSRs take the cause, the value, the resume point and CYC; every started entry that has
not finished, and every entry at fault, goes to the replay queue; the waiting entries, amendments, wheel, signals and results
in flight are set aside; then, when TVEC enables a handler and none runs, INH is 1 and the word at VEC issues in cycle k + 8.
All that the handler shares with the task is unchanged. Otherwise the task ends by fault. -/
def Obligations.TakingATrapSavesAndEnters : Prop :=
  ∀ (s : State) (tc tv : Word) (pc : BitVec 13) (target : Option (BitVec 13)) (wait : Option Wait),
    let c := s.core.ctx
    let t := s.takeTrap tc tv pc target wait
    let d := t.core.ctx
    ((wbits c.trap.vec 63 1 = 1 ∧ c.trap.inh = false) →
      d.trap = { c.trap with cause := tc, val := tv, pc := tpcWord pc target, cyc := c.cyc, idleRem := c.sq.idle
                             reissue := wait.isSome, inh := true } ∧
      d.sq = { c.sq with pc := BitVec.ofNat 13 (wbits c.trap.vec 0 13), pause := 8, delay := false, target := none, second := false
                         idle := 0, wait := none, overrun := false, idleEnd := none } ∧
      d.replay = c.captured ∧ d.run = c.run.filter (·.late) ∧ d.pend = [] ∧ d.sigs = [] ∧ d.wheel.running = false ∧
      (∀ u, (d.queue u).wait = []) ∧ (∀ a, d.aside = some a → a.queues = c.queues ∧ a.amends = c.amends ∧ a.pend = c.pend) ∧
      d.regs = c.regs ∧ d.loops = c.loops ∧ d.misc = c.misc ∧ d.streams = c.streams ∧ d.rings = c.rings ∧ d.tokens = c.tokens ∧
      d.tmpls = c.tmpls ∧ d.masks = c.masks ∧ d.accs = c.accs ∧ d.planes = c.planes ∧ d.binds = c.binds ∧ d.groups = c.groups ∧
      d.mons = c.mons ∧ d.cyc = c.cyc ∧ d.live = c.live ∧ t.core.pool = s.core.pool ∧ t.others = s.others ∧ t.mem = s.mem) ∧
    (¬(wbits c.trap.vec 63 1 = 1 ∧ c.trap.inh = false) →
      d.live = false ∧ d.trap.cause = tc ∧ d.trap.val = tv ∧ d.trap.pc = tpcWord pc target ∧ d.replay = c.captured ∧
      d.regs = c.regs ∧ t.core.pool = s.core.pool) ∧
    t.phase = .issue

/-- R373, R375, R378: a fault of the issuing word is a trap of UNIT 8 with RQI 0x1F whose resume point is that word;
ILLEGAL_WORD shows the word in TVAL. -/
def Obligations.WordFaultsTrapAtTheirWord : Prop :=
  ∀ (s : State) (cause : BitVec 8) (tv : Word),
    ∃ t, s.wordFault cause tv = .next t ∧
      t.core.ctx.trap.cause.toNat = 0x1F * 2 ^ 16 + 8 * 2 ^ 8 + cause.toNat ∧ t.core.ctx.trap.val = tv ∧
      t.core.ctx.trap.pc = tpcWord s.core.ctx.sq.pc s.core.ctx.sq.target ∧
      s.illegal = s.wordFault causeIllegal (BitVec.ofNat 64 (s.fetched % 2 ^ 32))

/-- R383 to R385, R409: `trap` with a code of the table leaves its cause pending with s(sa) and goes on; any other code is
ILLEGAL_WORD. `rqrd` and `rqwr` read and write a word of a replay entry. `rett` outside a handler faults; inside one it waits
for the engines to drain, holds eight cycles and resumes the task. `bkpt` traps with BREAK unless the debugger takes it. The
model's own: words 21 to 31 of a replay entry read as a free value (log 14, DESIGN CHOICE). -/
def Obligations.TrapWordsRaiseReadAndReturn : Prop :=
  ∀ (s : State) (sd sa i w : BitVec 5) (code : BitVec 8) (k : BitVec 12),
    let c := s.core.ctx
    let hold := fun (s : State) (n : Nat) => (Host.Outcome.next (s.holdOn ⟨.rett, none, [], n, 0⟩) : Out)
    let clear := s.ctx fun c => { c with amends := Vector.replicate 6 [] }
    (trapCodes.contains code.toNat = true → exec (.trap sa code) s
      = .next (s.ctx fun c => { c with pendTrap := some (tcause true false 0x1F 8 code, c.regs.get sa) }).retire) ∧
    (trapCodes.contains code.toNat = false → exec (.trap sa code) s = s.illegal) ∧
    (∀ e, c.replay[i.toNat]? = some e → exec (.rqrd sd i w) s = .next (s.push 1 (.sreg sd (c.replayWord e w.toNat))).retire) ∧
    (c.replay[i.toNat]? = none → exec (.rqrd sd i w) s = .next (s.push 1 (.sreg sd 0)).retire) ∧
    exec (.rqwr sa i w) s
      = .next (s.ctx fun c => { c with replay := c.replay.modify i.toNat (·.writeWord w.toNat (s.reg sa)) }).retire ∧
    (c.sq.wait = none → c.trap.inh = false → exec .rett s = s.wordFault causeFieldRange 0) ∧
    (c.sq.wait = none → c.trap.inh = true → (clear.core.ctx.drainedMask 0xFF && clear.core.ctx.settledWords) = true →
      exec .rett s = hold clear 1) ∧
    (c.sq.wait = none → c.trap.inh = true → (clear.core.ctx.drainedMask 0xFF && clear.core.ctx.settledWords) = false →
      exec .rett s = hold clear 0) ∧
    (∀ n v, c.sq.wait = some ⟨.rett, none, [], n, v⟩ →
      (0 < n → n < 8 → exec .rett s = hold s (n + 1)) ∧ (8 ≤ n → exec .rett s = .next s.resume)) ∧
    (s.core.dbg.bkstop = false → exec (.bkpt k) s = s.wordFault causeBreak (k.zeroExtend 64)) ∧
    (s.core.dbg.bkstop = true → exec (.bkpt k) s
      = .next ({ s with core := { s.core with dbg := { s.core.dbg with stopReq := some 2 } } } : State).retire)

/-- R385, R406: resuming restores CYC, the resume point with a pending branch, and IDLEREM from the trap CSRs, clears INH and
empties the replay queue. -/
def Obligations.ResumingRestoresTheResumePoint : Prop :=
  ∀ (s : State) (a : Aside), s.core.ctx.replay = [] → s.core.ctx.aside = some a → s.core.ctx.faults = [] →
    let t := s.core.ctx.trap
    let d := s.resume.core.ctx
    let pending := wbits t.pc 31 1 = 1
    d.cyc = t.cyc ∧ d.trap = { t with inh := false } ∧ d.replay = [] ∧ d.aside = none ∧
    d.sq.pc = BitVec.ofNat 13 (wbits t.pc 0 13) ∧ d.sq.idle = t.idleRem ∧
    (pending → d.sq.delay = true ∧ d.sq.target = some (BitVec.ofNat 13 (wbits t.pc 16 13))) ∧
    (¬pending → d.sq.delay = false ∧ d.sq.target = none) ∧
    d.queues = a.queues ∧ d.amends = a.amends ∧ d.sigs = a.sigs ∧ d.pend = a.pend ++ s.core.ctx.pend ∧
    d.regs = s.core.ctx.regs ∧ s.resume.core.pool = s.core.pool ∧ s.resume.mem = s.mem

/-! Sequencer slices and circuits (13 R295 to R313) -/

/-- R301, R302; R299, R302, R303: the words of a slice. Each goes on to the next index in the next tick; `atstep` waits for
its step and `rpt` starts a body; a word that may not run stops the slice with its reason. On a handle its launch holds,
`route` of a DARK handle sets its route, `est` of a routed DARK handle settles it, `hold` limits both ends of a circuit that
is up, and `tear` ends it and faults a far end that is up. A handle not held stops the slice with reason 4, a route of ALT above 1
with 1, an unrouted or lit handle at `est` with 3, a lit one at `route` with 7, a route to the own die or to none with 8. -/
def Obligations.SequencerWordsAndHandles : Prop :=
  (∀ (s : State) (b : BitVec 8) (c : BitVec 20) (n : BitVec 27) (r : BitVec 1) (core : BitVec 7) (flag : BitVec 6) (val : BitVec 15),
     let q := s.slice
     let t := q.t0 + n.toNat + (if r = 1 then q.mark else 0)
     let cid := s.seqDie * 128 + core.toNat
     exec .nop s = .next s.seqNext ∧
     exec .fend s = .next (s.onSlice fun q => { q with running := false }) ∧
     (s.tick < t → exec (.atstep r n) s = .next (s.onSlice fun q => { q.follow with next := t, mark := s.tick - q.t0 })) ∧
     (t ≤ s.tick → exec (.atstep r n) s = .next (s.seqStop 2)) ∧
     (q.body = none → c ≠ 0 → exec (.rpt b c) s = .next (s.onSlice fun q =>
       { q with pc := q.pc + 1, next := s.tick + 1, body := some (q.pc + 1, q.pc + b.toNat + 1, c.toNat) })) ∧
     (q.body = none → c = 0 →
       exec (.rpt b c) s = .next (s.onSlice fun q => { q with pc := q.pc + b.toNat + 2, next := s.tick + 1 })) ∧
     (q.body.isSome = true → exec (.rpt b c) s = .next (s.seqStop 6)) ∧
     (99 < core.toNat → exec (.sig core flag val) s = .next (s.seqStop 5)) ∧
     (core.toNat ≤ 99 → (s.coreOf cid).ctx.live = true → (s.coreOf cid).ctx.lid = s.seqLid → s.clusterShut cid = false →
       exec (.sig core flag val) s = .next (s.fly (s.tick + 2) { CircuitUnit.blank s.seqDie 0 4 with
         bytes := toBytes 8 val.toNat, cid := cid, uid := s.seqLid, pos := flag.toNat }).seqNext) ∧
     (core.toNat ≤ 99 → (s.coreOf cid).ctx.live = false ∨ (s.coreOf cid).ctx.lid ≠ s.seqLid ∨ s.clusterShut cid = true →
       exec (.sig core flag val) s = .next s.seqNext) ∧
     exec .sliceStart s = .next { s with dies := s.dies.map fun d =>
       { d with seqs := d.seqs.map fun q =>
           if q.t0 = s.tick ∧ !q.running ∧ !q.stopped ∧ q.pc = 0 then { q with running := true, next := s.tick } else q } }) ∧
  (∀ (s : State) (h fh : BitVec 5) (die : BitVec 9) (port fport : BitVec 3) (alt : BitVec 2) (n : BitVec 23),
     let x := s.handle s.seqDie h.toNat
     let held := x.heldBy s.seqLid = true
     (held → alt.toNat < 2 → x.state = .dark → die.toNat ≠ s.seqDie → die.toNat < 400 →
       exec (.route h die port fport fh alt) s = .next (s.onHandle s.seqDie h.toNat fun x =>
         ({ x with route := some ⟨die.toNat, port.toNat, fport.toNat, fh.toNat, alt == 1⟩ } : Handle).see s.tick false).seqNext) ∧
     (held → alt.toNat < 2 → x.state ≠ .dark → exec (.route h die port fport fh alt) s = .next (s.seqStop 7)) ∧
     (held → alt.toNat < 2 → x.state = .dark → die.toNat = s.seqDie ∨ 400 ≤ die.toNat →
       exec (.route h die port fport fh alt) s = .next (s.seqStop 8)) ∧
     (2 ≤ alt.toNat → exec (.route h die port fport fh alt) s = .next (s.seqStop 1)) ∧
     (∀ r, held → x.route = some r → x.state = .dark → s.svc.bisque = false →
       exec (.est h) s = .next (s.settle s.seqDie h.toNat r).seqNext) ∧
     (∀ r, held → x.route = some r → x.state = .dark → s.svc.bisque = true → exec (.est h) s = .next s.seqNext) ∧
     (held → x.route = none ∨ x.state ≠ .dark → exec (.est h) s = .next (s.seqStop 3)) ∧
     (∀ d k, held → x.up = true → s.peerOf s.seqDie h.toNat = some (d, k) →
       exec (.hold h n) s = .next ((s.setHold s.seqDie h.toNat n.toNat).setHold d k n.toNat).seqNext) ∧
     (held → x.up = true → s.peerOf s.seqDie h.toNat = none →
       exec (.hold h n) s = .next (s.setHold s.seqDie h.toNat n.toNat).seqNext) ∧
     (held → x.up = false → exec (.hold h n) s = .next s.seqNext) ∧
     (held → x.state = .dark → exec (.tear h) s = .next s.seqNext) ∧
     (held → x.state = .faulted →
       exec (.tear h) s = .next ((s.onHandle s.seqDie h.toNat (·.unfault s.tick)).darken s.seqDie h.toNat).seqNext) ∧
     (∀ d k, held → x.up = true → s.peerOf s.seqDie h.toNat = some (d, k) →
       (((s.darken s.seqDie h.toNat).handle d k).up = true →
         exec (.tear h) s = .next ((s.darken s.seqDie h.toNat).faultHandle d k 8 7 0x3FF).seqNext) ∧
       (((s.darken s.seqDie h.toNat).handle d k).up = false → exec (.tear h) s = .next (s.darken s.seqDie h.toNat).seqNext)) ∧
     (held → x.up = true → s.peerOf s.seqDie h.toNat = none → exec (.tear h) s = .next (s.darken s.seqDie h.toNat).seqNext) ∧
     (¬held → alt.toNat < 2 → exec (.route h die port fport fh alt) s = .next (s.seqStop 4) ∧
       exec (.est h) s = .next (s.seqStop 4) ∧ exec (.hold h n) s = .next (s.seqStop 4) ∧ exec (.tear h) s = .next (s.seqStop 4)))

/-- R299, R303, R306, R307, R309: a settling circuit whose time has come is LIVE at both ends, or faults at both when a group
in use failed to lock (which is known before its time), or faults with NO_PEER without a settling far end; a hold that has run
out darkens the ends that are up; light or lock lost on a group in use, or a switch region of the path, faults the LIVE ends with
its record; a repairable pair settles again. A unit in flight is delivered, driven, fed from the buffer or performed by its stage.
The model's own: a unit that lands in the tick of a change is judged after it (log 25, DEDUCED). -/
def Obligations.CircuitEventsMoveBothEnds : Prop :=
  ∀ (s : State) (die h : Nat),
    let x := s.handle die h
    let due := x.estAt.getD 0 + circSettle
    let repaired := fun (d k : Nat) => (s.onHandle die h Handle.repaired).onHandle d k Handle.repaired
    (∀ d k, s.peerOf die h = some (d, k) →
      let y := s.handle d k
      (x.state = .settling → due ≤ s.tick → y.state = .settling →
        exec (.circuitSettleEnd die h none) s = .next ((s.onHandle die h (·.move s.tick .live)).onHandle d k (·.move s.tick .live)) ∧
        (∀ g, exec (.circuitSettleEnd die h (some g)) s = .next ((s.faultHandle die h 1 g 0x3FF).faultHandle d k 1 g 0x3FF))) ∧
      (x.up = true → x.holdEnd = some s.tick → exec (.holdEnd die h) s
        = .next (if y.up = true then (s.darken die h).darken d k else s.darken die h)) ∧
      (∀ code lgrp region, x.state = .live →
        (code = 4 → region ∈ x.path die ++ y.path d → exec (.circuitFault die h code lgrp region) s
          = .next (if ((s.faultHandle die h 4 7 region).handle d k).state = .live
              then (s.faultHandle die h 4 7 region).faultHandle d k 4 7 region else s.faultHandle die h 4 7 region)) ∧
        (code = 4 → region ∉ x.path die ++ y.path d → exec (.circuitFault die h code lgrp region) s = .next s) ∧
        (code = 2 ∨ code = 3 → x.lgroup.getLsbD lgrp = true → exec (.circuitFault die h code lgrp region) s
          = .next (if ((s.faultHandle die h code lgrp 0x3FF).handle d k).state = .live
              then (s.faultHandle die h code lgrp 0x3FF).faultHandle d k code lgrp 0x3FF else s.faultHandle die h code lgrp 0x3FF))) ∧
      (∀ r q, die < d → x.repairable s.tick = true → y.repairable s.tick = true → s.svc.bisque = false →
        ((repaired d k).handle die h).route = some r → ((repaired d k).handle d k).route = some q →
        exec (.circuitReestablish die h) s = .next (((repaired d k).settle die h r).settle d k q)) ∧
      (d ≤ die ∨ x.repairable s.tick = false ∨ y.repairable s.tick = false ∨ s.svc.bisque = true →
        exec (.circuitReestablish die h) s = .next s)) ∧
    (x.state = .settling → due ≤ s.tick → (∀ p, s.peerOf die h = some p → (s.handle p.1 p.2).state ≠ .settling) →
      ∀ g, exec (.circuitSettleEnd die h g) s = .next (s.faultHandle die h 7 7 0x3FF)) ∧
    (x.state = .settling → s.tick < due →
      exec (.circuitSettleEnd die h none) s = .next s ∧
      (∀ g, x.lgroup.getLsbD g = false → exec (.circuitSettleEnd die h (some g)) s = .next s) ∧
      (∀ g, x.lgroup.getLsbD g = true → ∃ t, exec (.circuitSettleEnd die h (some g)) s = .next t ∧ t = { s with timers := t.timers } ∧
        ∀ u, (due, Instr.circuitSettleEnd die h u) ∈ s.timers → (due, .circuitSettleEnd die h (lowestGroup u g)) ∈ t.timers)) ∧
    (x.state ≠ .settling → ∀ g, exec (.circuitSettleEnd die h g) s = .next s) ∧
    (x.up = false ∨ x.holdEnd ≠ some s.tick → exec (.holdEnd die h) s = .next s) ∧
    (x.up = true → x.holdEnd = some s.tick → s.peerOf die h = none → exec (.holdEnd die h) s = .next (s.darken die h)) ∧
    (∀ code lgrp region, x.state ≠ .live ∨ (code ≠ 4 ∧ x.lgroup.getLsbD lgrp = false) →
      exec (.circuitFault die h code lgrp region) s = .next s) ∧
    (∀ u, s.units.find? (fun v => v.id = u.id) = some u →
      let taken := ({ s with units := s.units.filter (·.id ≠ u.id) } : State)
      (u.stage = 0 → exec (.circuitUnitLanding u.id) s = .next (taken.deliver u.die u.h u.bytes)) ∧
      (u.stage = 1 ∨ u.stage = 4 → exec (.circuitUnitLanding u.id) s = .next (s.unitDue u)) ∧
      (u.stage = 3 → exec (.circuitUnitLanding u.id) s = .next
        (((taken.feed u.die u.h 1024 448).onHandle u.die u.h fun x => { x with feeding := false }).startFeed u.die u.h (s.tick + 1))) ∧
      (u.stage = 2 ∨ 4 < u.stage → exec (.circuitUnitLanding u.id) s = .next (s.unitPerform u)))

/-- R308 to R313: `cp.csend` and `cp.cbind` of a held handle join its senders and windows; `cstat` reads the handle's latest
visible state and `cwait` ends with 0 when it is LIVE, with CIRCUIT_DARK when it cannot be, with 0x100 at its limit, and
holds otherwise. -/
def Obligations.CircuitPortsAndReads : Prop :=
  ∀ (s : State) (sd sa h : BitVec 5) (e : Entry),
    let c := s.core.ctx
    let die := s.core.cid / 128
    let v := s.handleSeen h
    let ans := fun (w : Word) => (Host.Outcome.next (s.push 1 (.sreg sd w)).retire : Out)
    let sized := fun (n : Nat) => ({ e with total := n } : Entry)
    (c.head s.unit = some e → e.op8 = 0x50 → c.verdict true e = .start → s.holdsHandle e.handle = true →
      (s.handle die e.handle).state = .live →
      exec .cpCsend s = .next ((s.ctx (·.begin (sized (e.cpBytes 0)) (chunks 256 (e.cpBytes 0)))).onHandle die e.handle fun x =>
        { x with senders := x.senders ++ [(s.core.cid, e.uid)] })) ∧
    (c.head s.unit = some e → e.op8 = 0x50 → c.verdict true e = .start →
      s.holdsHandle e.handle = false ∨ (s.handle die e.handle).state ≠ .live →
      exec .cpCsend s = .next (s.ctx (·.faultHead e causeCircuitDark 0))) ∧
    (c.head s.unit = some e → e.op8 = 0x51 → c.verdict true e = .start → s.holdsHandle e.handle = false →
      exec .cpCbind s = .next (s.ctx (·.faultHead e causeCircuitDark 0))) ∧
    (c.head s.unit = some e → e.op8 = 0x51 → s.holdsHandle e.handle = true → (s.handle die e.handle).windows.length < 4 →
      c.verdict true e = .start → c.windowFault (sized (e.cpBytes 0)) = none → wbits c.misc.wctl 63 1 = 0 →
      exec .cpCbind s = .next (((s.ctx (·.begin (sized (e.cpBytes 0)) 1)).onHandle die e.handle fun x =>
        { x with windows := x.windows ++ [(s.core.cid, e.uid)] }).startFeed die e.handle (s.ctx (·.begin (sized (e.cpBytes 0)) 1)).tickAfter)) ∧
    exec (.cstat sd h) s = ans (BitVec.ofNat 64
      (v.trans % 2 ^ 32 * 2 ^ 32 + s.svc.bisque.toNat * 2 ^ 20 + v.far * 2 ^ 11 + v.port * 2 ^ 8 + v.state.num)) ∧
    exec (.cstatSettle sd) s = ans (BitVec.ofNat 64 circSettle) ∧
    exec (.cstatFrec sd h) s = ans v.frec ∧
    (∀ l, s.launchOf c.lid = some l → exec (.cstatStart sd) s = ans (BitVec.ofNat 64
      ((s.myDie.seqs.any fun q => q.lid == c.lid && q.stopped).toNat * 2 ^ 63 + l.t0 % 2 ^ 63))) ∧
    (s.svc.bisque = false → v.state = .live → exec (.cwait sd sa h) s = ans 0) ∧
    (s.svc.bisque = true ∨ v.state = .faulted → exec (.cwait sd sa h) s = ans (causeCircuitDark.zeroExtend 64)) ∧
    (c.sq.wait = none → s.svc.bisque = false → v.state = .dark ∨ v.state = .settling →
      exec (.cwait sd sa h) s = .next (s.holdOn ⟨.cwait, s.limitOf sa, [], sd.toNat, h.toNat⟩)) ∧
    (∀ (w : Wait), c.sq.wait = some w → w.kind = .cwait →
      (∀ d, w.deadline = some d → d ≤ s.tickEnd → exec .cwaitExpiry s = .next (s.endAfter w.progress 0x100)) ∧
      (∀ d, w.deadline = some d → s.tickEnd < d → exec .cwaitExpiry s = .next s) ∧
      (w.deadline = none → exec .cwaitExpiry s = .next s)) ∧
    (s.waiting .cwait = none → exec .cwaitExpiry s = .next s)

/-! The fabric and the connected set (10 R237 to R251; 11 R263 to R267; 14 R314 to R329; 05 R142, R143) -/

/-- R263, R239, R240, R142, R143, R321: a request at its home of this module: a device read answers the bytes, a write makes its
sectors' bytes at once and answers, each with MEM_UNCORRECTABLE where the sector cannot be read or filled; a pool operation
joins its core's queue, or waits in the mesh while 32 are there; one whose home is another module is answered by it, and
one lost with a formation of the set never. The first waiting operation of a queue is refused when its core is retired, its cluster was shut, its
launch is not there or is draining, and otherwise asks its banks, or is refused with the cause its target finds. An answer
performs at its issuer. A timed request that expires completes with FABRIC_ERROR. The model's own: the times of gated work (log 4, DESIGN CHOICE) and the answer of a partial write whose fill fails (log 24, DEDUCED). -/
def Obligations.RequestsArePerformedAtHome : Prop :=
  (∀ (s : State) (id : Nat) (r : Req), s.req id = some r → s.lost r = false → r.atHome = false → r.abroad = false →
    let does := fun (u : State) => exec (.homeRequest id) s = .next u
    (r.kind = .write → s.fillFails r.pa r.pairs.length = false →
      does ((s.sectorWrite ((r.pairs.zip r.data).map fun x => (x.1.1, x.2))).answerWith id 0 [] 0)) ∧
    (r.kind = .write → s.fillFails r.pa r.pairs.length = true →
      does ((s.onSite (r.pa / 2 ^ 36) (·.touch r.pa false)).answerWith id causeMem [] 0)) ∧
    (∀ t bs, r.kind = .read → s.sectorRead (r.pairs.map (·.1)) = (t, some bs) → does (t.answerWith id 0 bs 0)) ∧
    (∀ t, r.kind = .read → s.sectorRead (r.pairs.map (·.1)) = (t, none) → does (t.answerWith id causeMem [] 0)) ∧
    (∀ cid, r.target = some cid → (s.coreOf cid).inbound.length < 32 → (s.coreOf cid).meshed = [] →
      does (s.enterInbound cid id r)) ∧
    (∀ cid, r.target = some cid → 32 ≤ (s.coreOf cid).inbound.length ∨ (s.coreOf cid).meshed ≠ [] →
      does (s.onCore cid fun c => { c with meshed := c.meshed ++ [id] }))) ∧
  (∀ (s : State) (id : Nat) (r : Req), s.req id = some r →
    (s.lost r = true ∨ r.atHome = true → exec (.homeRequest id) s = .next s) ∧
    (s.lost r = false → r.atHome = false → r.abroad = true → exec (.homeRequest id) s = .next (s.peerAnswer r))) ∧
  (∀ (s : State) (cid : Nat) (op : RemoteOp) (r : Req),
    let k := s.coreOf cid
    let lid := s.opLaunch cid op
    k.inbound.find? (fun op => !op.taken) = some op → s.req op.id = some r →
    let refuse := fun (cause : BitVec 8) => exec (.remoteOperation cid) s = .next (s.endRemote cid op.id cause (toBytes 8 0))
    (s.retired cid = true → refuse causePeerDead) ∧
    (s.retired cid = false → op.shut = true → refuse causeRemoteGated) ∧
    (s.retired cid = false → op.shut = false → k.ctxOf lid = none →
      (s.saves.any (fun x => x.cid == cid && x.ctx.lid == lid) = true → refuse causeRemoteGated) ∧
      (s.saves.any (fun x => x.cid == cid && x.ctx.lid == lid) = false → refuse causePoolBound)) ∧
    (∀ x, s.retired cid = false → op.shut = false → k.ctxOf lid = some x →
      (op.late = true → refuse causeRemoteGated) ∧
      (op.late = false → (remoteEffect k x r.kind op.addr r).1 ≠ 0 → refuse (remoteEffect k x r.kind op.addr r).1) ∧
      (op.late = false → (remoteEffect k x r.kind op.addr r).1 = 0 →
        exec (.remoteOperation cid) s = .next ((s.onCore cid fun c => { c with
          inbound := c.inbound.map fun (o : RemoteOp) => if o.id = op.id then { o with taken := true } else o }).askAt cid op.id
            (.remote op.id) ((readAccs cid (remoteCells x r)).map (·.arrived (s.onCore cid fun c => { c with
              inbound := c.inbound.map fun (o : RemoteOp) => if o.id = op.id then { o with taken := true } else o }).tick r.cid)))))) ∧
  (∀ (s : State) (id : Nat) (r : Req), s.req id = some r →
    (∀ x, r.foreign = none → (s.coreOf r.cid).ctxOf r.lid = some x → r.accesses x s.tick ≠ [] →
      exec (.requestResponse id) s
        = .next ((s.onReq id fun r => { r with timed := false }).askAt r.cid id (.respond id) (r.accesses x s.tick))) ∧
    (∀ x, r.foreign = none → (s.coreOf r.cid).ctxOf r.lid = some x → r.accesses x s.tick = [] →
      exec (.requestResponse id) s = .next (s.responded id)) ∧
    (r.foreign = none → (s.coreOf r.cid).ctxOf r.lid = none → exec (.requestResponse id) s = .next (s.responded id)) ∧
    (∀ f, r.foreign = some f → exec (.requestResponse id) s = .next ((s.dropReq id).leavesAnswer r f)) ∧
    (r.timed = false → exec (.ackTimeout id) s = .next s) ∧
    (let failed := s.onReq id fun r => { r with cause := causeFabricError, data := [], status := 0 }
     (r.timed = true → r.bySite = false → r.kind ∈ ([.read, .write] : List ReqKind) →
       exec (.ackTimeout id) s = .next (failed.respond id)) ∧
     (∀ p k, r.timed = true → r.bySite = false → r.kind = .acquire p k ∨ r.kind = .cancel →
       exec (.ackTimeout id) s = .next (failed.post (r.reply causeFabricError))) ∧
     (∀ op n a v c l, r.timed = true → r.bySite = false → r.kind = .pool op n a v c l →
       exec (.ackTimeout id) s = .next (failed.respond id)) ∧
     (r.timed = true → r.bySite = true → exec (.ackTimeout id) s = .next (failed.post (r.reply causeFabricError)))))

/-- R246 to R251: the walk of a miss ends for every miss that joined it: a leaf fills the die's cache and the TLBs of the cores
that joined, and a fault is kept for each of them; then the walks begin that the miss queue holds. A miss whose page the
die's cache holds fills its core's TLB from there. An invalidation takes the translations its range meets from the die's
cache and from the TLBs of the die's cores, and is done at once when no request sent through one of them is still to be
sent, else when the last has been. The model's own: a walk's time is free (log 4, DESIGN CHOICE). -/
def Obligations.TranslationsFillAndInvalidate : Prop :=
  (∀ (s : State) (cid va : Nat) (m : Miss),
    let die := cid / 128
    let walked := fun (u : State) (f : Option TlbEntry) (r : Except XFault TlbEntry) =>
      let u := u.onDie die fun d => { d with
        walks := d.walks.erase m, xcache := match f with
          | some e => fillDie d.xcache e
          | none => d.xcache }
      let k := fun (c : Core) => if c.cid / 128 = die then c.walked m (u.die die).missQueue r else c
      let v : State := { u with core := k u.core, others := u.others.map k }
      exec (.translationWalk cid va) s = .next (State.nextWalks die (v.die die).missQueue v)
    (s.die die).walks.find? (fun m => m.cid == cid && m.page == va / 65536) = some m →
    (∀ u e, s.walk m.root m.asid va m.kind m.sys = (u, .ok e) → walked u (some e) (.ok e)) ∧
    (∀ u f, s.walk m.root m.asid va m.kind m.sys = (u, .error f) → walked u none (.error f))) ∧
  (∀ (s : State) (cid va : Nat),
    let die := cid / 128
    let waiting := (s.coreOf cid).xmiss.filter fun m => m.page == va / 65536 && !(s.die die).missQueue.contains m
    (s.die die).walks.find? (fun m => m.cid == cid && m.page == va / 65536) = none →
    (waiting = [] → exec (.translationWalk cid va) s = .next s) ∧
    (∀ m rest e, waiting = m :: rest → (s.die die).xcache.find? (·.covers m.asid va) = some e →
      exec (.translationWalk cid va) s
        = .next ((s.onDie die fun d => { d with xcache := fillDie d.xcache e }).onCore cid fun c =>
            { c with xmiss := c.xmiss.erase m, tlb := fillXlate 64 c.tlb e })) ∧
    (∀ m rest, waiting = m :: rest → (s.die die).xcache.find? (·.covers m.asid va) = none →
      exec (.translationWalk cid va) s = .next (s.dieMiss m))) ∧
  (∀ (s : State) (c : Core) (m : Miss) (queued : List Miss) (e : TlbEntry) (f : XFault),
    let mine := c.xmiss.filter fun x => x.asid == m.asid && x.page == m.page && !queued.contains x
    (mine = [] → c.walked m queued (.ok e) = c ∧ c.walked m queued (.error f) = c) ∧
    (mine ≠ [] →
      (c.walked m queued (.ok e)).tlb = fillXlate 64 c.tlb e ∧
      (c.walked m queued (.error f)).xfail = c.xfail ++ [⟨m.asid, m.page, f.cause, f.level, f.entry, m.kind⟩] ∧
      (c.walked m queued (.error f)).tlb = c.tlb ∧
      (∀ x ∈ mine, x ∉ (c.walked m queued (.ok e)).xmiss))) ∧
  (∀ (s : State) (die : Nat) (a : Option Nat) (lo hi : Nat), ∃ t : State, exec (.tlbInvalidate die a lo hi) s = .next t ∧
    let meets := fun (e : TlbEntry) => (a = none ∨ a = some e.asid) ∧ e.va < hi ∧ lo < e.va + e.size
    (∀ e : TlbEntry, e ∈ t.core.tlb ↔ e ∈ s.core.tlb ∧ (s.core.cid / 128 = die → ¬meets e)) ∧
    (∀ k ∈ s.others, ∃ k' ∈ t.others, k'.cid = k.cid ∧ (∀ e : TlbEntry, e ∈ k'.tlb ↔ e ∈ k.tlb ∧ (k.cid / 128 = die → ¬meets e))) ∧
    (∀ e : TlbEntry, e ∈ (t.die die).xcache ↔ e ∈ (s.die die).xcache ∧ ¬meets e) ∧
    (t.die die).invDone = ((t.die die).invWaits == []) ∧
    (∀ id ∈ (t.die die).invWaits, ∃ r ∈ s.reqs, r.id = id ∧ r.onward.isSome = true ∧ r.cid / 128 = die) ∧
    t.mem = s.mem ∧ t.reqs = s.reqs ∧ t.core.ctx = s.core.ctx)

/-- R319 to R326, R315, R317: where no slot is being forwarded and nothing waits for credit, a flit that checks and comes in
sequence is taken: it is noted as received and owed a credit, what it acknowledges is noted, and what it carries is acted
on; one that does not is asked for again, and the ninth failure of one flit in a row fails the link. A slot is sent on from
one end of a site to another once its flit's header and its own check. A lane is shed only when all is acknowledged, and a link
with fewer than half its lanes fails. A beat follows every 2,000 ticks; 10,000 ticks of silence fail a link and kill a
module that is not halted, as a notice of the present epoch does. Forming a set ends in disagreement, waits for the members not
heard, or writes its number, members, epoch and offset; leaving it writes number 0; both end with CAUSE 0. A formation at its
limit ends with cause 4. The model's own: the bytes that the header checks cover and the count of nine failures (log 21, DEDUCED), what asks for a replay (log 59, DESIGN CHOICE), and how TICK offsets are measured (log 31, DEDUCED). -/
def Obligations.LinksAndSetsFollowTheirEvents : Prop :=
  (∀ (s : State) (link : Nat) (flit : BitVec 2048),
    let e := s.link link
    let fmt := flitField flit 36 4
    let ack := BitVec.ofNat 12 (flitField flit 40 12 + 1)
    let good := flitOk flit = true ∧ flitField flit 52 12 = e.rxSeq.toNat
    let took := s.onLink link fun e => { e with
      rxSeq := e.rxSeq + 1, retries := 0, resend := false, acked := ack, credits := e.credits + flitField flit 24 12
      owed := if fmt = 2 then e.owed else e.owed + 1, wire := [] }
    let n := if flitOk flit = true then e.retries else e.retries + 1
    let bad := s.onLink link fun e => { e with retries := n }
    (e.failed = true → exec (.flitReceive link flit) s = .next s) ∧
    (e.failed = false → s.links.all (fun x => x.outgoing == []) = true → e.waiting = [] →
      (good → fmt ≠ 2 ∨ ack = e.txSeq →
        (fmt = 3 → exec (.flitReceive link flit) s = .next (took.managed link flit)) ∧
        (fmt ≠ 3 → link < 2 * meshLinks → exec (.flitReceive link flit) s = .next took) ∧
        (fmt ≠ 3 → 2 * meshLinks ≤ link → e.peer.any (fun m => s.conn.dead.getLsbD m) = false →
          exec (.flitReceive link flit) s = .next (took.flitArrives link flit)) ∧
        (fmt ≠ 3 → e.peer.any (fun m => s.conn.dead.getLsbD m) = true → exec (.flitReceive link flit) s = .next took)) ∧
      (¬good → 8 < n → exec (.flitReceive link flit) s = .next (bad.failLink link)) ∧
      (¬good → n ≤ 8 → flitOk flit = false ∨ e.resend = false → exec (.flitReceive link flit) s = .next (bad.askReplay link)) ∧
      (¬good → n ≤ 8 → flitOk flit = true → e.resend = true → exec (.flitReceive link flit) s = .next bad))) ∧
  (∀ (s : State) (link out idx : Nat) (head : BitVec 64) (slot : BitVec 480),
    let e := s.link link
    let on := headOk head = true ∧ slotOk slot = true ∧ endPos link = endPos out ∧ link ≠ out ∧ s.usable link = true ∧ s.usable out = true
    let shed := s.onLink link fun e => { e with lanes := e.lanes - 1 }
    (on → exec (.slotForward link out (idx, head, slot)) s = .next (s.onLink out fun e =>
      { e with outgoing := e.outgoing ++ [⟨link, BitVec.ofNat 12 (head.toNat / 2 ^ 52), idx, slot, none⟩] })) ∧
    (¬on → exec (.slotForward link out (idx, head, slot)) s = .next s) ∧
    (e.failed = false → e.acked = e.txSeq → 33 ≤ e.lanes → exec (.laneShed link) s = .next shed) ∧
    (e.failed = false → e.acked = e.txSeq → e.lanes ≠ 0 → e.lanes < 33 → exec (.laneShed link) s = .next (shed.failLink link)) ∧
    (e.failed = true ∨ e.acked ≠ e.txSeq ∨ e.lanes = 0 → exec (.laneShed link) s = .next s) ∧
    (s.usable link = true → exec (.heartbeatSend link) s
      = .next ((s.sendFlit link true 3 s.beat).at (s.tick + 2000) (.heartbeatSend link))) ∧
    (s.usable link = false → exec (.heartbeatSend link) s = .next s) ∧
    (e.failed = false → e.heard + 10000 ≤ s.tick → exec (.linkSilenceTimeout link) s = .next (s.failLink link)) ∧
    (e.failed = true ∨ s.tick < e.heard + 10000 → exec (.linkSilenceTimeout link) s = .next s)) ∧
  (∀ (s : State) (m : Nat),
    let known := m < 32 ∧ m ≠ s.conn.modnum ∧ s.conn.dead.getLsbD m = false ∧ s.conn.members.getLsbD m = true
    let silent := s.conn.halted.getLsbD m = false ∧ s.conn.heard.read 0 m + 10000 ≤ s.tick
    (known → exec (.deathNotice m s.conn.epoch) s = .next ((s.moduleDead m).flood m)) ∧
    (∀ epoch, ¬known ∨ epoch ≠ s.conn.epoch → exec (.deathNotice m epoch) s = .next s) ∧
    (known → silent → exec (.moduleSilenceTimeout m) s = .next ((s.moduleDead m).flood m)) ∧
    (¬known ∨ ¬silent → exec (.moduleSilenceTimeout m) s = .next s)) ∧
  (∀ s : State,
    let c := s.conn
    let ended := fun (s : State) (cause : Nat) => ({ s with conn := { s.conn with busy := false, done := true, cause := cause } } : State)
    let others := (List.range 32).filter fun m => c.reqMembers.getLsbD m && m != c.reqNum
    let last := (c.claims.map (·.epoch)).foldl max c.epoch
    let formed : State := { s with
      reqs := s.reqs.filter fun r => r.foreign.isNone
      conn := { c with
        modnum := c.reqNum, members := c.reqMembers, epoch := (last + 1) % 2 ^ 16
        dead := 0, halted := 0, offset := c.measured, reports := [] } }
    (c.busy = true → c.disagrees = false → c.complete = true → exec (.setForm last c.measured true) s = .next (ended (others.foldl (fun (s : State) m =>
      ({ s with conn := { s.conn with heard := s.conn.heard.write 0 m s.tick } } : State).at (s.tick + 10000)
        (.moduleSilenceTimeout m)) formed) 0)) ∧
    (c.busy = true → c.disagrees = true → exec (.setForm last c.measured false) s = .next (ended s 5)) ∧
    (c.busy = true → c.disagrees = false → c.complete = false → exec (.setForm last c.measured true) s = .next s) ∧
    (∀ epoch offset agree, c.busy = false ∨ epoch ≠ last ∨ offset ≠ c.measured ∨ agree = c.disagrees →
      exec (.setForm epoch offset agree) s = .next s) ∧
    (c.busy = true → exec .setLeave s = .next { s with
      reqs := s.reqs.filter fun r => r.foreign.isNone
      conn := { c with
        modnum := 0, members := 1, epoch := (c.epoch + 1) % 2 ^ 16, dead := 0, halted := 0, offset := 0, reports := []
        busy := false, done := true, cause := 0 } }) ∧
    (c.busy = false → exec .setLeave s = .next s) ∧
    (c.busy = true → c.reqAt + 1000000 ≤ s.tick → exec .setFormLimit s = .next (ended s 4)) ∧
    (c.busy = false ∨ s.tick < c.reqAt + 1000000 → exec .setFormLimit s = .next s))

/-! Launches and graphs (16 R356 to R372) -/

/-- R355 to R359, R364, R369, R370: a submitted record that cannot be read changes only what reading it touches; one that fails a
condition is answered in its completion header; any other joins the launches under the next id of its anchor die. A launch
whose handles, cores and segments are free, with none ahead that it would hold up, is seated; one whose tasks are all resident
starts them; one that must wait is tried again. A resident task that has not started starts. `kend` of a drained task with
nothing to abort ends it, and holds otherwise. `launch` sends one request while there is room, and holds otherwise; an accepted
request is answered with the launch submitted for it. The model's own: a launch takes its id at submission (log 43, DEDUCED), and the
extra ticks to its start are free (log 4, DESIGN CHOICE). -/
def Obligations.LaunchesAreSubmittedSeatedAndEnded : Prop :=
  (∀ (s : State) (asid va cls die : Nat),
    let elsewhere := (s.vaNat asid (va + 8) 4).any fun w =>
      decide (w % 2 ^ 16 < 200) && decide (w / 2 ^ 16 < 200) && cidAt (w % 2 ^ 16) (w / 2 ^ 16) / 128 != die
    (elsewhere = true → exec (.launchSubmit asid va cls die) s = .next s) ∧
    (∀ u, elsewhere = false → s.vaAccess asid va 512 = (u, none) → exec (.launchSubmit asid va cls die) s = .next u) ∧
    (∀ u bs, elsewhere = false → s.vaAccess asid va 512 = (u, some bs) →
      let l := launchOfRecord bs asid cls none none u.tick
      (∀ reason, u.refusal l = some reason → exec (.launchSubmit asid va cls die) s = .next (u.headerWrite l 3 reason)) ∧
      (u.refusal l = none →
        let home := l.anchor
        let m := { l with
          lid := home * 2 ^ 23 + (u.die home).seqNo, die := home
          shape := ((u.imageOf l).bind fun i => i.shapeFor l.rows l.cols).getD 0
          tasks := (u.regionCores l).map fun x => (⟨x.1, x.2, .notStarted, none⟩ : Task) }
        let v := u.onDie home fun d => { d with seqNo := ((u.die home).seqNo + 1) % 2 ^ 23 }
        exec (.launchSubmit asid va cls die) s
          = .next ((({ v with launches := v.launches ++ [m] } : State).headerWrite m 0 0).poke)))) ∧
  (∀ (s : State) (lid : Nat) (l : Launch) (i : Image), s.launchOf lid = some l → s.imageOf l = some i →
    let ready := (i.handles.all fun x => (s.handle x.1 x.2).owner == none || (s.handle x.1 x.2).owner == some lid) &&
      s.coresReady l && s.segsFit (s.segmentPlan l i) && s.noneAhead l i
    (l.admitted = false → ready = true → exec (.launchAdmit lid) s = .next (s.seatLaunch l i)) ∧
    (l.admitted = false → ready = false → exec (.launchAdmit lid) s = .next (s.retryAdmit lid)) ∧
    (l.admitted = true → l.t0 = 0 → s.allResident l = true → exec (.launchAdmit lid) s = .next (s.startTasks l)) ∧
    (l.admitted = true → l.t0 = 0 → s.allResident l = false → exec (.launchAdmit lid) s = .next s) ∧
    (l.admitted = true → l.t0 ≠ 0 → (s.saves.filter fun x => x.ctx.lid == lid) = [] → exec (.launchAdmit lid) s = .next s)) ∧
  (∀ (s : State) (lid cid : Nat) (l : Launch), s.launchOf lid = some l →
    let k := s.coreOf cid
    let t := ((s.syncClock cid false).onCore cid fun k => { k with ctx := { k.ctx with live := true } }).onTask lid cid fun t =>
      { t with state := .running }
    k.ctx.held = true → k.ctx.lid = lid → k.ctx.live = false → (l.tasks.any fun t => t.cid == cid && t.state == .notStarted) = true →
    ((t.coreOf cid).atBkcyc = false → exec (.taskStart lid cid) s = .next t) ∧
    ((t.coreOf cid).atBkcyc = true → exec (.taskStart lid cid) s = .next ((t.focus cid).stopHere 1))) ∧
  (∀ (s : State) (sa : BitVec 5), s.core.ctx.sq.wait = none →
    let c := s.core.ctx
    let quiet := (c.drainedMask 0xFF && c.ackc.toList.all (· == 0)) = true
    let t := (s.ctx (·.abortOpen)).ctrlAborts s.core.cid c.lid
    (quiet → t.core.ctx.aborting = false → exec (.kend sa) s = .next (t.endTask (s.reg sa))) ∧
    (quiet → t.core.ctx.aborting = true → exec (.kend sa) s = .next (t.holdOn ⟨.kend, none, [], 1, (s.reg sa).toNat⟩)) ∧
    (¬quiet → exec (.kend sa) s = .next (s.holdOn ⟨.kend, none, [], 0, (s.reg sa).toNat⟩))) ∧
  (∀ (s : State) (sa : BitVec 5) (addr : BitVec 15),
    let c := s.core.ctx
    let room := s.core.outstanding Ctx.launches < 8 ∧ c.ackRoom = true
    c.sq.second = true → c.sq.wait = none →
    (admitsAll c.misc.part .remote (16 * addr.toNat) 16 = false →
      exec (.launch sa addr) s = s.wordFault causePoolBound (BitVec.ofNat 64 (16 * addr.toNat))) ∧
    (∀ l, admitsAll c.misc.part .remote (16 * addr.toNat) 16 = true → room → s.launchOf c.lid = some l →
      let s' := s.ctx fun c => { c with launches := c.launches + 1 }
      exec (.launch sa addr) s = .next (s'.sendReq { s'.core.ctx.blankReq s'.core.cid (.launch (s.reg sa).toNat (16 * addr.toNat)) with
        module := s'.conn.modnum, scope := 1, job := l.job }).retireWide) ∧
    (admitsAll c.misc.part .remote (16 * addr.toNat) 16 = true → ¬room →
      exec (.launch sa addr) s = .next (s.holdOn ⟨.full, none, [], 0, (s.reg sa).toNat⟩))) ∧
  (∀ (s : State) (id va a : Nat) (r : Req) (l : Launch), s.req id = some r → r.kind = .launch va a → s.launchOf r.lid = some l →
    l.graph = none →
    (∀ u lid, s.submit r.asid va l.cls (some l.job) none = (u, .ok lid) →
      exec (.launchRequestAccept id) s = .next (u.answerWith id 0 (toBytes 8 lid) 0)) ∧
    (∀ u reason, s.submit r.asid va l.cls (some l.job) none = (u, .error reason) →
      exec (.launchRequestAccept id) s = .next (u.answerWith id causeLaunchRefused (toBytes 8 (Config.noLaunchId id).toNat)
        (BitVec.ofNat 64 (reason * 2 ^ 8)))))

/-- R361 to R366, R371, R372, R297: a sagger swap exchanges the contexts when the core may swap, and waits one tick otherwise. A
core told to free itself swaps its task out if its launch holds no circuits, then drains it, then moves its pool a chunk at a
time to its save block, and takes in what comes next. A task told to stop does so in a cycle in which it is quiescent at an
equivalence point, and is marked until then. A debit takes from the budget; when it runs out the budget starts again, the
class drops and the header counts it. A launch whose tasks are over, with nothing left to abort, is gone: its handles are
torn, its segments and slices freed, its die words and header written and its cores released. A migration resumes only a
launch whose tasks are all out: at one point, on the new shape, otherwise on its own. The model's own: what must wait looks
again one tick later (log 4, DESIGN CHOICE), a new origin is free and where a save block lies (log 63, DESIGN CHOICE), and DROPS is
written at each exhaustion (log 46, DEDUCED). -/
def Obligations.LaunchesArePreemptedDebitedAndClosed : Prop :=
  (∀ (s : State) (cid : Nat),
    let k := s.coreOf cid
    let busy := k.swap ≠ 0 ∨ k.dbg.stopped = true
    (∀ b, k.bank = some b → ¬busy → exec (.saggerSwap cid) s = .next (s.beginSwap cid b)) ∧
    (∀ b, k.bank = some b → busy → exec (.saggerSwap cid) s = .next (s.at (s.tick + 1) (.saggerSwap cid))) ∧
    (k.bank = none → exec (.saggerSwap cid) s = .next s) ∧
    ((k.jobs.any fun j => j.what == .event (.fullPreemption cid)) = true → exec (.fullPreemption cid) s = .next s) ∧
    ((k.jobs.any fun j => j.what == .event (.fullPreemption cid)) = false →
      (∀ lid n, k.spill = some (lid, n) → exec (.fullPreemption cid) s = .next (s.spillOn cid lid n)) ∧
      (k.spill = none → busy → exec (.fullPreemption cid) s = .next (s.at (s.tick + 1) (.fullPreemption cid))) ∧
      (∀ b, k.spill = none → ¬busy → k.drain = true → k.bank = some b → s.quietVictim cid b.lid = true →
        exec (.fullPreemption cid) s = .next (s.spillAsk cid none 0 (readAccs cid (spillCells b.misc.part 0)))) ∧
      (∀ b, k.spill = none → ¬busy → k.drain = true → k.bank = some b → s.quietVictim cid b.lid = false →
        exec (.fullPreemption cid) s = .next (s.at (s.tick + 1) (.fullPreemption cid))) ∧
      (k.spill = none → ¬busy → k.drain = false → k.ctx.live = false → k.free = true →
        exec (.fullPreemption cid) s = .next (s.afterSpill cid)) ∧
      (k.spill = none → ¬busy → k.drain = false → k.ctx.live = true → k.bank = none → s.holdsNoCircuit k.ctx.lid = true →
        exec (.fullPreemption cid) s = .next (s.beginSwap cid Ctx.zero)) ∧
      (k.spill = none → ¬busy → k.drain = false → k.ctx.live = true → k.bank = none → s.holdsNoCircuit k.ctx.lid = false →
        exec (.fullPreemption cid) s = .next (s.at (s.tick + 1) (.fullPreemption cid))))) ∧
  (∀ (s : State) (cid : Nat) (l : Launch),
    let k := s.coreOf cid
    let marked := s.onCore cid fun k => { k with equiv := true }
    s.launchOf k.ctx.lid = some l → k.ctx.live = true → k.swap = 0 → k.dbg.stopped = false → k.bank = none →
    k.equiv = true ∨ l.stoppable = true →
    (s.holdsNoCircuit l.lid = false → exec (.equivalenceStop cid) s = .next marked) ∧
    (s.holdsNoCircuit l.lid = true → s.atPoint cid = none → exec (.equivalenceStop cid) s = .next marked) ∧
    (∀ e, s.holdsNoCircuit l.lid = true → s.atPoint cid = some e → exec (.equivalenceStop cid) s
      = .next (((s.onTask l.lid cid fun t => { t with point := some e }).beginSwap cid Ctx.zero).onCore cid fun k =>
          { k with equiv := false }))) ∧
  (∀ (s : State) (lid cones : Nat) (l : Launch), s.launchOf lid = some l → l.budget ≠ 0 →
    let m : Launch := { l with remain := l.remain - cones }
    let dropped : Launch := { m with
      remain := l.budget, cls := min 3 (l.cls + 1), drops := l.drops + 1, raised := if l.cls < 3 then some s.tick else l.raised }
    let told := fun (m : Launch) (s : State) => s.onContexts lid fun c => { c with misc := { c.misc with linfo := m.info, energy := m.energy } }
    let out := told dropped ((s.onLaunch lid fun _ => dropped).headerWrite dropped (if dropped.t0 = 0 then 0 else 1) 0)
    (m.remain ≠ 0 → exec (.budgetDebit lid cones) s = .next ((told m (s.onLaunch lid fun _ => m)).armDebit m)) ∧
    (m.remain = 0 → l.cls < 3 → exec (.budgetDebit lid cones) s = .next (out.pokeNext.armDebit dropped)) ∧
    (m.remain = 0 → 3 ≤ l.cls → exec (.budgetDebit lid cones) s = .next (out.armDebit dropped))) ∧
  (∀ (s : State) (lid : Nat) (l : Launch), s.launchOf lid = some l →
    let t := (s.freeCircuits lid).freeSegments lid
    let aborting := l.tasks.any fun x => ((t.coreOf x.cid).ctxOf lid).any (·.aborting)
    let told := (t.recordWrite l (taskOffset (l.rows * l.cols)) (l.dies.flatMap fun d => t.dieEntry lid d)).headerWrite l 2 0
    let gone : State := { told with
      launches := told.launches.filter fun x => x.lid != lid
      dies := told.dies.map fun (d : Die) => { d with seqs := d.seqs.filter fun q => q.lid != lid } }
    (l.over = true → aborting = true → exec (.launchClose lid) s = .next (t.at (t.tick + 1) (.launchClose lid))) ∧
    (l.over = true → aborting = false → l.graph = none →
      exec (.launchClose lid) s = .next (l.tasks.foldl (fun s t => s.releaseCore l t.cid) gone).poke) ∧
    (∀ g n, l.over = true → aborting = false → l.graph = some (g, n) → exec (.launchClose lid) s
      = .next ((l.tasks.foldl (fun s t => s.releaseCore l t.cid) gone).post (.graphNodeComplete g n)).poke) ∧
    (l.over = false → exec (.launchClose lid) s = .next s)) ∧
  (∀ (s : State) (lid shape point : Nat) (l : Launch) (i : Image), s.launchOf lid = some l → s.imageOf l = some i →
    let out := (l.tasks.all fun t => s.saves.any fun x => x.cid == t.cid && x.ctx.lid == lid) = true
    let same := (l.tasks.all fun t => t.point == some point) = true
    (¬out → exec (.migrationResume lid shape point) s = .next s) ∧
    (out → ¬same → exec (.migrationResume lid l.shape point) s
      = .next ((s.onLaunch lid fun l => { l with tasks := l.tasks.map fun t => { t with point := none } }).poke)) ∧
    (∀ rows cols ws, out → same → i.shaped = true → i.shapes[shape]? = some (rows, cols, ws) → i.pointAt point shape ≠ 0x1FFF →
      0 < rows * cols → l.col0 + cols ≤ 200 → l.row0 + rows ≤ 200 → ∃ col row : Nat, col + cols ≤ 200 ∧ row + rows ≤ 200 ∧
      let freed : State := { s.freeSegments lid with saves := s.saves.filter fun x => x.ctx.lid != lid }
      let at' := { l with rows := rows, cols := cols, shape := shape, col0 := col, row0 := row }
      exec (.migrationResume lid shape point) s = .next (freed.onLaunch lid fun l =>
        { l with rows := rows, cols := cols, shape := shape, col0 := col, row0 := row, admitted := false, t0 := 0
                 tasks := (freed.regionCores at').map fun x => (⟨x.1, x.2, .notStarted, none⟩ : Task)
                 resumeAt := some point, carry := s.carried l i point }).poke))

/-- R367, R368: the first node of its kind that is ready runs: a kernel node submits its record, a barrier node completes, a
condition takes a successor by its word, a loop begins its iterations, or completes with none to run, and an end node ends
its graph; what cannot be read, or is refused, ends the graph with the reason and the node. The first copy node that is
ready or running copies as far as a sector on each side, and completes with its last byte. A running node that completes
releases its successors. With no such node, nothing happens. The model's own: the reason stands in bits 15 to 8 of a refused
graph's word (log 20, DEDUCED), and records are reached at once (log 18, DEDUCED). -/
def Obligations.GraphNodesRun : Prop :=
  (∀ (s : State) (gid n : Nat) (w : List Nat) (g : Graph), s.graphOf gid = some g →
    let touched := s.vaTouched g.asid (w.getD 2 0) 8
    let word := s.vaNat g.asid (w.getD 2 0) 8
    (∀ t lid, s.firstNode 0 false = some (gid, n, w) → s.submit g.asid (w.getD 2 0) 0 none (some (gid, n)) = (t, .ok lid) →
      exec .graphKernelNode s = .next (t.onNode gid n (·.begin none))) ∧
    (∀ t reason, s.firstNode 0 false = some (gid, n, w) → s.submit g.asid (w.getD 2 0) 0 none (some (gid, n)) = (t, .error reason) →
      exec .graphKernelNode s = .next (t.refuseNode gid n reason)) ∧
    (s.firstNode 2 false = some (gid, n, w) → exec .graphBarrierNode s = .next (s.completeNode gid n (nodeSuccs w))) ∧
    (∀ v, s.firstNode 3 false = some (gid, n, w) → word = some v →
      exec .graphCondNode s = .next (touched.completeNode gid n ([nodeSucc w (if v = 0 then 1 else 0)].filter (· != 0xFFFF)))) ∧
    (s.firstNode 3 false = some (gid, n, w) → word = none → exec .graphCondNode s = .next (touched.refuseNode gid n 8)) ∧
    (∀ k, s.firstNode 4 false = some (gid, n, w) → word = some (k + 1) →
      exec .graphLoopNode s = .next ((touched.onNode gid n (·.begin (some (k + 1)))).iterate gid w)) ∧
    (s.firstNode 4 false = some (gid, n, w) → word = some 0 →
      exec .graphLoopNode s = .next (touched.completeNode gid n (nodeSuccs w))) ∧
    (s.firstNode 4 false = some (gid, n, w) → word = none → exec .graphLoopNode s = .next (touched.refuseNode gid n 8)) ∧
    (s.firstNode 5 false = some (gid, n, w) → exec .graphEndNode s = .next { s.vaWrite g.asid g.done (toBytes 8 (2 ^ 63)) with
      graphs := s.graphs.filter (·.gid != gid) }) ∧
    (s.firstNode 1 true = some (gid, n, w) →
      let done := (g.node n).left.getD 0
      let src := w.getD 2 0 + done
      let dst := w.getD 3 0 + done
      let len := min (w.getD 4 0 - done) (min (128 - src % 128) (128 - dst % 128))
      let u := (s.vaAccess g.asid src len).1
      (∀ bs e, (s.vaAccess g.asid src len).2 = some bs → (u.walk (u.tableRoot g.asid) g.asid dst permW true).2 = .ok e →
        let v := u.vaWrite g.asid dst bs
        (done + len = w.getD 4 0 → exec .graphCopyNode s
          = .next ((v.onNode gid n (·.begin none)).completeNode gid n (nodeSuccs w))) ∧
        (done + len ≠ w.getD 4 0 → let x := v.onNode gid n (·.begin (some (done + len)))
          exec .graphCopyNode s = .next (x.fresh.at (x.tick + 1 + Config.homeDelay x.nextId) .graphCopyNode))) ∧
      ((s.vaAccess g.asid src len).2 = none → exec .graphCopyNode s = .next (u.refuseNode gid n 8)) ∧
      (∀ f, (u.walk (u.tableRoot g.asid) g.asid dst permW true).2 = .error f → exec .graphCopyNode s = .next (u.refuseNode gid n 8))) ∧
    ((g.node n).running = true → exec (.graphNodeComplete gid n) s
      = .next (s.completeNode gid n (((s.nodeWords g n).map nodeSuccs).getD []))) ∧
    ((g.node n).running = false → exec (.graphNodeComplete gid n) s = .next s)) ∧
  (∀ s : State,
    (s.firstNode 0 false = none → exec .graphKernelNode s = .next s) ∧ (s.firstNode 1 true = none → exec .graphCopyNode s = .next s) ∧
    (s.firstNode 2 false = none → exec .graphBarrierNode s = .next s) ∧ (s.firstNode 3 false = none → exec .graphCondNode s = .next s) ∧
    (s.firstNode 4 false = none → exec .graphLoopNode s = .next s) ∧ (s.firstNode 5 false = none → exec .graphEndNode s = .next s))

/-! Power and debug (18 R390 to R402; 19 R403 to R414; 17 R389) -/

/-- R390 to R402: `pbr` compares the level it sees with the one it names; `pack` acknowledges a demand episode once. The
manager's evaluation raises or lowers the level and opens or ends an episode, and one not acknowledged in time forces
skipping; a droop stretches the cycle; a frequency is set when the manager allows it; fabric energy above 9.6 kW marks the
dies that share the excess, and lowers their clocks in proportion to their share while the module draws more than 48 kW; a
cluster closes, is gated in its steps, and wakes; a new plan publishes its margin and lowers a clock above it, not before 10,000
ticks have passed since the last change, and below 800 MHz retires the die's cores. The model's own, not the spec's words: an evaluation tries the rise to 2 first,
every forcing sets SKIP to 4, and the least share costs one step of 50 MHz (log 19, DEDUCED). -/
def Obligations.PowerWordsAndEvents : Prop :=
  (∀ (s : State) (pd : BitVec 3) (lvl : BitVec 2) (sd : BitVec 5),
    let me := s.myDie
    let seen := levelSeen me s.core.tick
    (pd ≠ 0 → lvl ≠ 0 → lvl ≠ 3 → exec (.pbr pd lvl) s = .next (s.push 1 (.pred pd (decide (lvl.toNat ≤ seen)))).retire) ∧
    (pd = 0 ∨ lvl = 0 ∨ lvl = 3 → exec (.pbr pd lvl) s = s.illegal) ∧
    (seen = 2 → me.acked = false → exec (.pack sd) s
      = .next ((((s.onDie me.num fun d => { d with acked := true, ackAt := s.core.tick }).at (s.core.tick + 20000)
          (.demandEpisodeExpiry me.num)).push 1 (.sreg sd 1)).retire)) ∧
    (seen ≠ 2 ∨ me.acked = true → exec (.pack sd) s = .next (s.push 1 (.sreg sd 0)).retire)) ∧
  (∀ (s : State) (die mw : Nat),
    let d := s.die die
    let after := d.levelAfter mw
    (after = d.level → exec (.powerEvaluation die mw) s = .next (s.onDie die fun d => { d with skip := d.skipAfter s.tick })) ∧
    (after ≠ d.level → after = 2 → exec (.powerEvaluation die mw) s
      = .next ((s.onDie die fun d => (d.rise 2 s.tick).beginEpisode s.tick).at (s.tick + 10000) (.demandEpisodeExpiry die))) ∧
    (after ≠ d.level → after ≠ 2 → d.level = 2 → exec (.powerEvaluation die mw) s
      = .next (s.onDie die fun d => (d.rise after s.tick).endEpisode s.tick)) ∧
    (after ≠ d.level → after ≠ 2 → d.level ≠ 2 → exec (.powerEvaluation die mw) s
      = .next (s.onDie die fun d => d.rise after s.tick)) ∧
    (∀ t, d.forceAt = some t → t ≤ s.tick → exec (.demandEpisodeExpiry die) s
      = .next (s.onDie die fun d => { d with forced := some (s.tick, d.skip), skip := 4, skips := d.skips + 1 })) ∧
    (∀ t, d.forceAt = some t → s.tick < t → exec (.demandEpisodeExpiry die) s = .next s) ∧
    exec (.droopDetect die) s = .next (s.onDie die fun d => { d with
      strcnt := d.strcnt + 1, droop := true
      stretch := if 16 < d.stretch then d.stretch else if d.stretched then 16 else 18 }) ∧
    exec (.droopDetectorClear die) s = .next (s.onDie die fun d => { d with droop := false }) ∧
    (∀ mhz, s.clockAllowed d mhz = true → exec (.frequencyChange die mhz) s = .next (s.setClock die mhz)) ∧
    (∀ mhz, s.clockAllowed d mhz = false → exec (.frequencyChange die mhz) s = .next s)) ∧
  (∀ (s : State) (mw total : Nat) (shares : List (Nat × Nat)),
    let shared := fun (n : Nat) => decide (9600000 < mw) && shares.any fun x => x.1 == n && x.2 != 0
    let listed := (shares.map (·.1)).foldl (fun (s : State) n => s.onDie n id) s
    let marked : State := { listed with dies := listed.dies.map fun (d : Die) => { d with fabricShare := shared d.num } }
    (total ≤ 48000000 → exec (.fabricEnergyCheck (mw, total) shares) s = .next marked) ∧
    (48000000 < total → exec (.fabricEnergyCheck (mw, total) shares) s
      = .next ((marked.dies.filter (·.fabricShare)).foldl (fun s d =>
          s.post (.frequencyChange d.num (max 800 (d.fmhz - 50 * shareSteps shares d.num)))) marked))) ∧
  (∀ (s : State) (die c : Nat),
    let k := s.cluster die c
    (k.clkoff = false → k.gating = false → k.retained = false → k.closing = false →
      ((s.clusterCores die c).any fun x => x.ctx.held || x.bank.isSome) = false →
      exec (.clusterClosing die c true) s = .next ((s.onCluster die c fun k =>
        { k with closing := true, closedAt := s.tick, drained := false }).at (s.tick + 1) (.clusterClosing die c true))) ∧
    (k.clkoff = false → k.gating = false → k.retained = false → k.closing = true →
      exec (.clusterClosing die c true) s = .next (s.drainCheck die c)) ∧
    (k.clkoff = false → k.gating = false → k.retained = false → exec (.clusterClosing die c false) s
      = .next (s.onCluster die c fun k => { k with closing := false, drained := false })) ∧
    (k.closing = true → k.drained = true → k.gating = false → k.retained = false → exec (.clusterGate die c) s
      = .next ((s.onCluster die c fun k => { k with gating := true }).at (s.tick + 100) (.clusterGateProgress die c))) ∧
    (k.closing = false ∨ k.drained = false ∨ k.gating = true ∨ k.retained = true → exec (.clusterGate die c) s = .next s) ∧
    (k.gating = true → k.retained = false → exec (.clusterGateProgress die c) s
      = .next ((s.onCluster die c fun k => { k with retained := true }).at (s.tick + 10) (.clusterGateProgress die c))) ∧
    (k.gating = true → k.retained = true → k.clkoff = false → exec (.clusterGateProgress die c) s
      = .next ((s.onCluster die c fun k => { k with clkoff := true }).at (s.tick + 500) (.clusterGateProgress die c))) ∧
    (k.clkoff = true ∨ k.gating = true ∨ k.retained = true → ∀ v, exec (.clusterClosing die c v) s = .next s) ∧
    (k.clkoff = false → k.gating = false → k.retained = false → k.closing = false →
      ((s.clusterCores die c).any fun x => x.ctx.held || x.bank.isSome) = true → exec (.clusterClosing die c true) s = .next s) ∧
    (k.gating = true → k.retained = true → k.clkoff = true →
      let off := ((s.clusterCores die c).foldl (fun s x => s.onCore x.cid Core.loseLogic) s).onCluster die c fun k =>
        { k with railoff := true, gating := false }
      exec (.clusterGateProgress die c) s
        = .next (if k.waking then off.at (off.tick + 1500) (.clusterWakeProgress die c) else off)) ∧
    (k.gating = false → exec (.clusterGateProgress die c) s = .next s) ∧
    (k.waking = true ∨ (k.gating = false ∧ k.railoff = false) → exec (.clusterWake die c) s = .next s) ∧
    (k.waking = false ∨ k.gating = true → exec (.clusterWakeProgress die c) s = .next s) ∧
    (k.waking = false → k.railoff = true → exec (.clusterWake die c) s = .next ((s.onCluster die c fun k =>
      { k with waking := true }).at (s.tick + 1500) (.clusterWakeProgress die c))) ∧
    (k.waking = false → k.railoff = false → k.gating = true → exec (.clusterWake die c) s
      = .next (s.onCluster die c fun k => { k with waking := true })) ∧
    (k.waking = true → k.gating = false → k.railoff = true → exec (.clusterWakeProgress die c) s
      = .next ((s.onCluster die c fun k => { k with railoff := false }).at (s.tick + 100) (.clusterWakeProgress die c))) ∧
    (k.waking = true → k.gating = false → k.railoff = false → k.clkoff = true → exec (.clusterWakeProgress die c) s
      = .next ((s.onCluster die c fun k => { k with clkoff := false }).at (s.tick + 400) (.clusterWakeProgress die c))) ∧
    (k.waking = true → k.gating = false → k.railoff = false → k.clkoff = false → exec (.clusterWakeProgress die c) s
      = .next ((s.onCluster die c fun k => { k with retained := false, closing := false, drained := false, waking := false }).poke))) ∧
  (∀ (s : State) (die fmax vg hours : Nat), fmax ≤ 2000 →
    let s' := s.onDie die fun d =>
      { d with margin := BitVec.ofNat 64 (fmax * 2 ^ 52 + vg % 2 ^ 12 * 2 ^ 24 + hours % 2 ^ 24) }
    let d := s'.die die
    let lower := Instr.frequencyChange die (fmax / 50 * 50)
    (fmax < 800 → exec (.marginReplan die fmax vg hours) s = .next (((List.range 100).filter fun i => !s'.retired (die * 128 + i)).foldl
      (fun s i => s.post (.coreRetire (die * 128 + i))) s')) ∧
    (800 ≤ fmax → fmax < d.fmhz → d.changedAt = none → exec (.marginReplan die fmax vg hours) s = .next (s'.post lower)) ∧
    (∀ t, 800 ≤ fmax → fmax < d.fmhz → d.changedAt = some t → t + 10000 ≤ s'.tick →
      exec (.marginReplan die fmax vg hours) s = .next (s'.post lower)) ∧
    (∀ t, 800 ≤ fmax → fmax < d.fmhz → d.changedAt = some t → s'.tick < t + 10000 →
      exec (.marginReplan die fmax vg hours) s = .next (s'.at (t + 10000) lower)) ∧
    (800 ≤ fmax → d.fmhz ≤ fmax → exec (.marginReplan die fmax vg hours) s = .next s'))

/-- R403 to R409, R389, R414, R422, R453: a stop request freezes its core, after a swap that runs, and under ZONE its die's other
cores; RESUME and STEP act on a stopped core, STEP under ZONE on its die's; BKCYC stops a core that has come to it; a module
halt asks every core to stop and shows HALT. A machine check is logged and ends the task of the core it struck. A core that
is retired ends its tasks by fault and enters the map; its segment bits, lock words, completion entries and map entry follow,
and its launches are looked at again. A clear of the head counters and a sample do just that. The model's own: a machine
check is logged with UNIT 8 (log 38, DEDUCED), and BKCYC is compared before the cycle it names (log 48, DEDUCED). -/
def Obligations.DebugEventsStopAndGoOn : Prop :=
  (∀ (s : State) (cid : Nat),
    let k := s.coreOf cid
    let alone := k.dbg.zone = false
    let asked := if k.dbg.stopped then s else if k.swap ≠ 0 then s.onCore cid fun k => { k with dbg := { k.dbg with stopReq := some 0 } }
      else s.stopCore cid 0
    (alone → exec (.debugStopreq cid) s = .next asked) ∧
    (¬alone → exec (.debugStopreq cid) s = .next ((((s.core :: s.others).filter fun k => k.cid / 128 == cid / 128 && k.cid != cid &&
      k.clocked).map (·.cid)).foldl (fun s p => s.stopCore p 4) asked)) ∧
    (k.dbg.stopped = true → exec (.debugResume cid) s = .next (((s.focus cid).syncClock cid true).unfreeze).haltEnds) ∧
    (k.dbg.stopped = false → exec (.debugResume cid) s = .next s) ∧
    (alone → k.dbg.stopped = true →
      let r := s.resumeCore cid
      exec (.debugStep cid) s = .next (r.fresh.onCore cid fun k => { k with
        ctx := { k.ctx with pend := k.ctx.pend.map fun p => if p.uid = none then { p with uid := some r.nextId } else p }
        dbg := { k.dbg with
          stepping := true, stepIssued := false, stepPc := k.ctx.sq.pc, stepCyc := 0, stepMark := r.nextId + 1 } })) ∧
    (alone → k.dbg.stopped = false → exec (.debugStep cid) s = .next s) ∧
    (¬alone → exec (.debugStep cid) s = .next (((((s.core :: s.others).filter fun k => k.cid / 128 == cid / 128 && k.cid != cid &&
      k.dbg.stopped).map (·.cid)) ++ [cid]).foldl (fun s c => s.beginStep c) s)) ∧
    (s.core.atBkcyc = true → exec .bkcycStop s = .next (s.stopHere 1)) ∧
    (s.core.atBkcyc = false → exec .bkcycStop s = .next s) ∧
    (let t := ((s.core :: s.others).map (·.cid)).foldl (fun s c => s.askStop c) s
     exec .moduleHalt s = .next { t with
       svc := { t.svc with halt := true }, conn := { t.conn with halted := t.conn.halted ||| 1 <<< t.conn.modnum } }) ∧
    exec .prctlClr s = .next { s with core := { s.core with heads := [] } } ∧
    exec .sampleRecord s = .next (s.traceHeads s.core.cid 5) ∧
    (let u := (({ s with svc := { s.svc with mchk := s.svc.mchk + 1, mlog := s.svc.mlog ++ [(cid, 8, s.tick)] } } : State).focus cid)
     (u.core.ctx.live = false → exec (.machineCheck cid) s = .next u) ∧
     (u.core.ctx.live = true → exec (.machineCheck cid) s = .next u.checkEnd))) ∧
  (∀ (s : State) (cid : Nat),
    let one := (s.focus cid).checkEnd
    let both := if one.core.bank.isSome then (one.exchange.checkEnd).exchange else one
    let listed : State := { both with fuses := { both.fuses with cores := both.fuses.cores ++ [coreBit cid] } }
    let excused := listed.excuse (cid / 128) (cid % 128) none
    let out := excused.buryHolders fun w => w == listed.conn.modnum * 2 ^ 16 + cid
    let held := (out.core.ctx :: out.core.bank.toList).filter (·.held)
    let told := held.foldl (fun s c => s.entryRetired cid c) out
    (s.retired cid = true → exec (.coreRetire cid) s = .next s) ∧
    (∀ l, s.retired cid = false →
      told.launchOf told.core.ctx.lid = some l → told.core.ctx.held = true →
      exec (.coreRetire cid) s = .next (held.foldl (fun s c => s.post (.launchClose c.lid)) (told.mapWrite cid 4 l))) ∧
    (s.retired cid = false →
      told.launchOf told.core.ctx.lid = none ∨ told.core.ctx.held = false →
      exec (.coreRetire cid) s = .next (held.foldl (fun s c => s.post (.launchClose c.lid)) (told.mapPut cid 0 4 0))))

/-! The host and boot (20 R415 to R433) -/

/-- R415 to R421, R432, R433, R403: an access a port may make reads or writes, and any other sets the error, as a read of a
poisoned sector does; SEMA is taken for a lease when free, renewed or released by its holder, and freed when the lease ends; a
controlled register takes a write only from the port that holds it, and counts one denied otherwise; SUBBASE starts its ring
at the tail word's value; the next entry of an enabled ring is taken while the module is ready, and handed on by its KIND or
refused; what it asks for is carried out and answered. DBGDATA writes the selected CSR of a stopped core. The model's own: a
host read is of 8 bytes (log 41, DESIGN CHOICE), an unreadable tail reads 0 (log 44, DEDUCED), and a KIND 1 record's ASID is the one
it names itself in (log 35, DEDUCED). -/
def Obligations.HostAccessesAndSubmissions : Prop :=
  (∀ (s : State) (port pa : Nat) (bs : List Byte),
    let okd := fun (n : Nat) (w : Bool) => (List.range n).all fun i => s.hostByteOk port (pa + i) w
    let staged := (stagingByte pa).isSome
    let t := if staged then s else s.nmTouch pa 8
    let poisoned := (List.range 8).any fun i => (stagingByte (pa + i)).isNone && s.poisoned (pa + i)
    (okd bs.length true = true → exec (.hostAccess port pa (some bs)) s = .next { s.hostWrite pa bs with
      svc := { (s.hostWrite pa bs).svc with lastError := false, lastRead := [] } }) ∧
    (okd bs.length true = false → exec (.hostAccess port pa (some bs)) s
      = .next { s with svc := { s.svc with lastError := true, lastRead := [] } }) ∧
    (okd 8 false = true → poisoned = false → exec (.hostAccess port pa none) s = .next { t with svc := { t.svc with
      lastError := false, lastRead := (List.range 8).map fun i => t.hostByte (pa + i) } }) ∧
    (okd 8 false = true → poisoned = true → exec (.hostAccess port pa none) s
      = .next { t with svc := { t.svc with lastError := true, lastRead := [] } }) ∧
    (okd 8 false = false → exec (.hostAccess port pa none) s
      = .next { s with svc := { s.svc with lastError := true, lastRead := [] } })) ∧
  (∀ (s : State) (port owner lease : Nat),
    let free : State := { s with svc := { s.svc with semaHeld := false } }
    let leased := fun (s : State) => ({ s with svc := { s.svc with semaExpiry := s.tick + 1000 * lease } } : State).at
      (s.tick + 1000 * lease) .leaseExpiry
    (lease ≠ 0 → s.svc.semaHeld = false → exec (.semaAcquire port owner lease) s
      = .next (leased { s with svc := { s.svc with semaHeld := true, semaPort := port, semaOwner := owner } })) ∧
    (lease = 0 ∨ s.svc.semaHeld = true → exec (.semaAcquire port owner lease) s = .next s) ∧
    (lease ≠ 0 → s.semaIs port owner = true → exec (.semaRenew port owner lease) s = .next (leased s)) ∧
    (lease = 0 ∨ s.semaIs port owner = false → exec (.semaRenew port owner lease) s = .next s) ∧
    (s.semaIs port owner = true → exec (.semaRelease port owner) s = .next free) ∧
    (s.semaIs port owner = false → exec (.semaRelease port owner) s = .next s) ∧
    (s.events = [] → s.svc.semaHeld = true → s.svc.semaExpiry ≤ s.tick → exec .leaseExpiry s = .next free) ∧
    (s.events = [] → s.svc.semaHeld = false ∨ s.tick < s.svc.semaExpiry → exec .leaseExpiry s = .next s)) ∧
  (∀ (s : State) (port off : Nat) (v : BitVec 64),
    let holds := (s.svc.semaHeld && s.svc.semaPort == port) = true
    let does := fun (off : Nat) (t : State) => exec (.serviceRegisterWrite port off v) s = .next t
    (holds → wbits v 63 1 = 1 → wbits v 23 40 = 0 → does 0x040 (s.post (.bootGo port (wbits v 0 23)))) ∧
    (holds → does 0x050 (s.post (.attestQuote (wbits v 0 45)))) ∧
    (holds → wbits v 63 1 = 1 → does 0x058 s.calctl ∧ does 0x060 (s.setRequest v)) ∧
    (holds → does 0x100 { s with svc := { s.svc with dbgsel := BitVec.ofNat 64 (wbits v 16 10 * 2 ^ 16 + wbits v 0 16) } }) ∧
    (holds → does 0x108 (s.post (.dbgdataWrite port v))) ∧
    (¬holds → off ∈ ([0x040, 0x050, 0x058, 0x060, 0x100, 0x108] : List Nat) →
      does off { s with svc := { s.svc with denied := (s.svc.denied + 1) % 256 } }) ∧
    does 0x010 (s.semaCommand port v) ∧ does 0x018 (s.post (.subbaseWrite port v)) ∧
    does 0x028 { s with svc := { s.svc with smsel := BitVec.ofNat 64 (wbits v 60 4 * 2 ^ 60 + wbits v 0 32) } } ∧
    (off ∉ ([0x010, 0x018, 0x028, 0x040, 0x050, 0x058, 0x060, 0x100, 0x108] : List Nat) → does off s) ∧
    (let cid := wbits s.svc.dbgsel 0 16
     (port < 2 → (s.coreOf cid).dbg.stopped = true → exec (.dbgdataWrite port v) s
       = .next (s.agentWrite cid (BitVec.ofNat 10 (wbits s.svc.dbgsel 16 10)) v)) ∧
     ((s.coreOf cid).dbg.stopped = false → exec (.dbgdataWrite port v) s = .next s))) ∧
  (∀ (s : State) (port : Nat) (v : BitVec 64),
    let size := wbits v 48 4
    let en := wbits v 63 1 == 1 && decide (4 ≤ size) && decide (size ≤ 12)
    let kept := BitVec.ofNat 64 (en.toNat * 2 ^ 63 + size * 2 ^ 48 + wbits v 6 39 * 64)
    exec (.subbaseWrite port v) s = .next (({ s with svc := { s.svc with
      subbase := vput s.svc.subbase port kept, subhead := vput s.svc.subhead port (s.tailWord kept) } } : State).watchTails) ∧
    (let base := vat s.svc.subbase 0 port
     let head := vat s.svc.subhead 0 port
     let entry := wbits base 6 39 * 64 + 64 + 64 * (head % 2 ^ wbits base 48 4)
     let taken : State := { s with svc := { s.svc with
       subhead := vput s.svc.subhead port ((head + 1) % 2 ^ 32), entries := s.svc.entries ++ [entry] } }
     let t := (taken.homeNat entry 8).1.watchTails
     let due := s.svc.ready = true ∧ wbits base 63 1 ≠ 0 ∧ s.tailWord base ≠ head
     (¬due → exec (.submissionTake port) s = .next s) ∧
     (due → t.entryOk entry = false → exec (.submissionTake port) s = .next (t.entryRefused entry 5)) ∧
     (due → t.entryOk entry = true → t.entryWord entry 0 % 16 = 1 →
       exec (.submissionTake port) s = .next (t.post (.submitLaunchRecord entry))) ∧
     (due → t.entryOk entry = true → t.entryWord entry 0 % 16 = 2 →
       exec (.submissionTake port) s = .next (t.post (.submitGraph entry))) ∧
     (due → t.entryOk entry = true → t.entryWord entry 0 % 16 = 3 → exec (.submissionTake port) s = .next t))) ∧
  (∀ (s : State) (entry : Nat), s.svc.entries.contains entry = true →
    let asid := s.entryWord entry 0 / 2 ^ 16 % 2 ^ 12
    let va := s.entryWord entry 1
    let u := s.imageTouched asid va
    (s.recordAsid va = none → exec (.submitLaunchRecord entry) s = .next (s.entryRefused entry 8)) ∧
    (∀ a t lid, s.recordAsid va = some a → s.submit a va 0 none none = (t, .ok lid) →
      exec (.submitLaunchRecord entry) s = .next (t.entryStatus entry lid 0 0)) ∧
    (∀ a t reason, s.recordAsid va = some a → s.submit a va 0 none none = (t, .error reason) →
      exec (.submitLaunchRecord entry) s = .next (t.entryRefused entry reason)) ∧
    (∀ t, s.startGraph asid va = (t, none) → exec (.submitGraph entry) s = .next (t.entryStatus entry 0 0 0)) ∧
    (∀ t reason, s.startGraph asid va = (t, some reason) → exec (.submitGraph entry) s = .next (t.entryRefused entry reason)) ∧
    (∀ parts i data, u.loadImage (u.entryWord entry 0 / 2 ^ 16 % 2 ^ 12) (u.entryWord entry 1) parts = .ok (i, data) →
      exec (.submitImageLoad entry parts) s = .next ((u.publishImage i parts.base data).entryStatus entry parts.va 0 0)) ∧
    (∀ parts code site, u.loadImage (u.entryWord entry 0 / 2 ^ 16 % 2 ^ 12) (u.entryWord entry 1) parts = .error (code, site) →
      exec (.submitImageLoad entry parts) s
        = .next (({ u with svc := { u.svc with loadFault := site } } : State).entryRefused entry code)))

/-- R8, R426 to R433, R240: a module reset keeps the fuses, the minimum version and the set limits, puts TICK, cores, memory, dies,
sites and calls in progress at their reset values, and stands in stage 1; boot goes from stage to stage: a good bundle sets the versions,
clears the staging buffers, starts the links that are not retired and passes to 4, a bad one to 3 with its cause; stage 4
measures the components and passes to 5, training to 6, calibration to 7, where the module is ready, in bisque when it
failed. A recalibration begins when nothing stands in its way, and ends with its outcome. A quote writes MEAS, the count, the
signature of its first 104 bytes, and DONE. A scrub counts a corrected error and poisons a sector it cannot correct. The
model's own: each stage is one step (log 29, DESIGN CHOICE), a recalibration is two (log 42, DEDUCED), and the keys and the
nonce are opaque (log 7, DESIGN CHOICE). -/
def Obligations.ResetAndBootStages : Prop :=
  (∀ (s : State) (port len : Nat),
    exec .moduleReset s = .next { State.reset with
      events := [], fuses := s.fuses, svc := { Service.zero with stage := 1, minSvn := s.svc.minSvn }
      conn := { SetState.zero with modlim := s.conn.modlim, setlim := s.conn.setlim } } ∧
    (s.staging = true → s.bundleCause port len ≠ 0 → exec (.bootGo port len) s = .next { s with svc := { s.svc with
      tries := s.svc.tries + 1, bootCause := s.bundleCause port len, stage := 3 } }) ∧
    (s.staging = true → s.bundleCause port len = 0 →
      let buf := (s.site (portSite port)).staging
      let svn := (buf.read 0 8).toNat + 256 * (buf.read 0 9).toNat
      let t : State := { s with svc := { s.svc with
        tries := s.svc.tries + 1, bootCause := 0, stage := 4, minSvn := svn, fwsvn := svn } }
      let u := (t.onSite 0 fun t => { t with staging := [] }).onSite 399 fun t => { t with staging := [] }
      exec (.bootGo port len) s = .next ((List.range (2 * meshLinks)).foldl (fun s l =>
        if s.fuses.links.contains (l / 2) then s else s.startLink l) u)) ∧
    (s.staging = false → exec (.bootGo port len) s = .next s)) ∧
  (∀ (s : State) (digests : List Nat) (okd : Bool),
    let measured := digests.zipIdx.foldl (fun s x => s.measure x) s
    let ready : State := { s with svc := { s.svc with stage := 7, ready := true, bisque := !okd, calfail := !okd } }
    (s.svc.stage = 4 → exec (.bootDistribute digests) s = .next { measured with svc := { measured.svc with stage := 5 } }) ∧
    (s.svc.stage ≠ 4 → exec (.bootDistribute digests) s = .next s) ∧
    (s.svc.stage = 5 → exec .hbmTraining s = .next { s with svc := { s.svc with stage := 6 } }) ∧
    (s.svc.stage ≠ 5 → exec .hbmTraining s = .next s) ∧
    (s.svc.stage = 6 → exec (.opticalCalibration okd) s = .next ((if okd then ready.lightPorts else ready).watchTails)) ∧
    (s.svc.stage ≠ 6 → exec (.opticalCalibration okd) s = .next s) ∧
    (let ended : State := { s with svc := { s.svc with calibrating := false, bisque := !okd, calfail := !okd } }
     s.svc.calibrating = true → exec (.recalibrate okd) s = .next (if okd then ended.lightPorts else ended)) ∧
    (s.svc.calibrating = false → s.mayCalibrate = true → exec (.recalibrate okd) s
      = .next (s.beginCalibration.fresh.at (s.tick + 1 + Config.homeDelay s.nextId) (.recalibrate okd))) ∧
    (s.svc.calibrating = false → s.mayCalibrate = false → exec (.recalibrate okd) s = .next { s with svc := { s.svc with
      denied := (s.svc.denied + 1) % 256 } })) ∧
  (∀ (s : State) (pa : Nat),
    let put := fun (s : State) (off : Nat) (bs : List Byte) => (sectorPieces (pa + off) bs.length).foldl (fun s p =>
      s.sectorWrite (((bs.drop p.1).take p.2).zipIdx.map fun x => (pa + off + p.1 + x.2, x.1))) s
    let t := put s 48 (toBytes 48 s.svc.meas ++ toBytes 8 s.svc.logCount)
    let sig := ecdsaSign identityPrivate (1 + Config.quoteNonce t.tick % (n384 - 1))
      ((List.range 104).map fun i => t.devByte t.conn.modnum (pa + i))
    exec (.attestQuote pa) s = .next (put (put (t.nmTouch pa 104) 104 (toBig 48 sig.1 ++ toBig 48 sig.2)) 200 (toBytes 8 (2 ^ 63)))) ∧
  (∀ (s : State) (pa : Nat) (corrected uncorrectable : Bool),
    exec (.scrub pa corrected uncorrectable) s = .next (s.onSite (pa / 2 ^ 36) fun t => { t with
      softErrors := if corrected then t.softErrors + 1 else t.softErrors
      poison := if uncorrectable && !t.poison.contains (pa / 128) then t.poison ++ [pa / 128] else t.poison }))

/-! Whole-machine rules -/

/-- R9, R83, R93, R96, R101, R154, R174: an effect that performs changes its own register, predicate, flag bits, loop level,
mask bits or count, and nothing else; s0, p0 and m0 discard; a token FIFO holds at most eight. -/
def Obligations.EffectsPerformOnTheirOwnPiece : Prop :=
  ∀ (c : Ctx) (uid : Option Nat) (d r : BitVec 5) (p q : BitVec 3) (v : Word) (b : Bool) (f : BitVec 5) (m : BitVec 3)
      (bits sel : BitVec 128) (n : Nat),
    let x := c.perform uid (.sreg d v)
    let y := c.perform uid (.pred p b)
    let z := c.perform uid (.flags f)
    let k := c.perform uid (.mask m bits sel)
    let t := c.perform uid (.token p)
    (x.regs.get r = (if r = d ∧ d ≠ 0 then v else c.regs.get r) ∧ x.regs.getP q = c.regs.getP q ∧ x.regs.flags = c.regs.flags ∧
      x.regs.frm = c.regs.frm ∧ x.regs.seed = c.regs.seed ∧ x = { c with regs := x.regs }) ∧
    (y.regs.getP q = (if q = p ∧ p ≠ 0 then b else c.regs.getP q) ∧ y.regs.get r = c.regs.get r ∧ y.regs.flags = c.regs.flags ∧
      y = { c with regs := y.regs }) ∧
    (z.regs.flags = c.regs.flags ||| f ∧ z.regs.get r = c.regs.get r ∧ z.regs.getP q = c.regs.getP q ∧ z = { c with regs := z.regs }) ∧
    (∀ l lb le lc act, (c.perform uid (.loop l lb le lc act)) = { c with loops := (c.perform uid (.loop l lb le lc act)).loops } ∧
      (∀ i, i < 4 → vat (c.perform uid (.loop l lb le lc act)).loops.lc 0 i = (if i = l.toNat then lc else vat c.loops.lc 0 i) ∧
        vat (c.perform uid (.loop l lb le lc act)).loops.act false i = (if i = l.toNat then act else vat c.loops.act false i))) ∧
    (k = { c with masks := k.masks } ∧ (∀ i, i < 8 → i ≠ m.toNat → vat k.masks 0 i = vat c.masks 0 i) ∧
      (m = 0 → k.masks = c.masks) ∧
      (m ≠ 0 → ∀ j, j < 128 →
        (vat k.masks 0 m.toNat).getLsbD j = (if sel.getLsbD j then bits.getLsbD j else (vat c.masks 0 m.toNat).getLsbD j))) ∧
    (t = { c with tokens := t.tokens } ∧ t.tok p.toNat = min 8 (c.tok p.toNat + 1) ∧ (n < 8 → n ≠ p.toNat → t.tok n = c.tok n))

/-- R9, R134, R237, R239: bytes written to pools or to a sector of device memory are the bytes given, and every other byte of
every pool and of device memory reads as before; no register changes. Where no memory is, nothing is written. -/
def Obligations.StoresChangeOnlyTheirBytes : Prop :=
  (∀ (s : State) (ws : List (Nat × Nat × Byte)) (cid a : Nat), Memory.wf (s.coreOf cid).pool →
    let t := s.writePools ws
    (t.coreOf cid).ctx = (s.coreOf cid).ctx ∧ t.mem = s.mem ∧
    ((∀ b, (cid, a, b) ∉ ws) → (t.coreOf cid).pool.read emptyByte a = (s.coreOf cid).pool.read emptyByte a) ∧
    (∀ b, (cid, a, b) ∈ ws → (∀ b', (cid, a, b') ∈ ws → b' = b) → (t.coreOf cid).pool.read emptyByte a = b)) ∧
  (∀ (s : State) (ws : List (Nat × Byte)) (a : Nat), Memory.wf s.mem →
    let t := s.sectorWrite ws
    let m := s.conn.modnum
    t.core = s.core ∧ t.others = s.others ∧
    ((∀ b, (a, b) ∉ ws) → t.devByte m a = s.devByte m a) ∧
    ((∀ x ∈ ws, s.inMemory x.1 = true) → ∀ b, (a, b) ∈ ws → (∀ b', (a, b') ∈ ws → b' = b) → t.devByte m a = b) ∧
    ((∀ x ∈ ws, s.inMemory x.1 = false) → t = s))

/-- R9, R91, R93: a word of the issue stream that neither traps nor ends the task changes no scalar register or predicate in
its own issue, no trap register, mask, accumulator or ring, no byte of any pool or of device memory, and no other core: its
results are in flight and its accesses asked for. No flag changes either, but for those a write of FCSR clears (R82). -/
def Obligations.IssuedWordsOnlyAskAndPutInFlight : Prop :=
  ∀ (i : Instr) (s t : State), i.isWord = true → s.phase = .issue → exec i s = .next t → t.phase = .engines →
    (∀ r, t.reg r = s.reg r) ∧ (∀ p, t.core.ctx.regs.getP p = s.core.ctx.regs.getP p) ∧
    ((∀ sa g, i ≠ .csrw sa g 0) → (∀ sd sa g, i ≠ .csrx sd sa g 0) → t.core.ctx.regs.flags = s.core.ctx.regs.flags) ∧
    t.core.ctx.regs.frm = s.core.ctx.regs.frm ∧
    t.core.pool = s.core.pool ∧ t.core.cid = s.core.cid ∧ t.others = s.others ∧ t.mem = s.mem ∧
    t.core.ctx.trap = s.core.ctx.trap ∧ t.core.ctx.masks = s.core.ctx.masks ∧ t.core.ctx.accs = s.core.ctx.accs ∧
    t.core.ctx.planes = s.core.ctx.planes ∧ t.core.ctx.rings = s.core.ctx.rings

/-- R8, R27, R299, R306, R392, R404, R417 to R420, R422, R427: after module reset no core runs a task, TICK is 0, every
handle is DARK with an empty fault record, power is clear, and the service registers hold the Reset values of their tables.
Device memory has its canonical form. Values that the model names for want of the spec's (logs 1 to 3) are not stated. -/
def Obligations.ResetHasTheStatedValues : Prop :=
  let s := State.reset
  s.tick = 0 ∧ s.core.ctx.live = false ∧ (∀ cid, (s.coreOf cid).ctx.live = false ∧ (s.coreOf cid).ctx.held = false) ∧
  s.launches = [] ∧ s.graphs = [] ∧ s.reqs = [] ∧
  (∀ die h, (s.handle die h).state = .dark ∧ (s.handle die h).frec = 0x00FFC700 ∧ (s.handle die h).owner = none) ∧
  (∀ die, (s.die die).level = 0 ∧ (s.die die).acked = false ∧ (s.die die).skip = 0 ∧ (s.die die).strcnt = 0 ∧
    (s.die die).demands = 0 ∧ (s.die die).trace = []) ∧
  s.svc.ready = false ∧ s.svc.bisque = true ∧ s.svc.calfail = false ∧ s.svc.halt = false ∧ s.svc.stage = 0 ∧ s.svc.denied = 0 ∧
  s.svc.mchk = 0 ∧ s.svc.fwsvn = 0 ∧ s.svc.semaHeld = false ∧ s.svc.semaPort = 0 ∧ s.svc.semaOwner = 0 ∧
  (∀ p, p < 2 → vat s.svc.subbase 0 p = 0 ∧ vat s.svc.subhead 0 p = 0) ∧ s.svc.smsel = 0 ∧ s.svc.tries = 0 ∧ s.svc.bootCause = 0 ∧
  s.svc.dbgsel = 0 ∧ s.conn.dead = 0 ∧ s.conn.halted = 0 ∧ s.conn.busy = false ∧ s.conn.modlim = 40000 ∧ s.conn.setlim = 160000 ∧
  Memory.wf s.mem

/-- R91, R92: when nothing else is due and the focus core's next cycle issues a word, a step runs the instruction that the
bytes at PC decode to, on the state at that cycle's tick; what a step adds is only that a word served at once may fault in
its own cycle, and that a debugger's step notes that its word has issued. The model's own: the parts into which a cycle is
cut (log 4, DESIGN CHOICE). -/
def Obligations.StepRunsTheDecodedInstruction : Prop :=
  ∀ (s t : State) (i : Instr),
    let s' := s.toTick (max s.tick s.core.tick)
    let k := s'.core
    s.phase = .issue → (∀ k ∈ s.core :: s.others, k.ended = false) → s.timerDue false = none → s.timerDue true = none → s.events = [] →
    (∀ t die lid, s.nextSlice = some (t, die, lid) → s.tick < t) → s.nextCore = some s.core →
    (∀ d, s.nextDue = some d → s.core.tick < d) →
    k.swap = 0 → k.clocked = true → k.dbg.stopReq = none → k.dbg.stepping = false → k.ctx.sq.idle = 0 →
    k.ctx.sq.pause = 0 → k.ctx.sq.overrun = false → s'.alignDue = none → s'.trapNow = none → s'.beforeIssue = s' →
    decode s'.fetched = .ok i → exec i s' = .next t →
    step s = .next (s'.afterWord t) ∧
    (t.phase = .engines → t.waiting .served = none → t.core.dbg.stepping = false → step s = .next t)

/-- R42, R43, R46, R49 to R51, R54, R55, R302: words written out from the formats decode to what they stand for, and words
with a reserved field set are refused. -/
def Obligations.DecodingReadsTheWrittenWords : Prop :=
  decode 0x0008A620 = .ok (.add 1 2 19 1 0) ∧
  decode 0x1A494000 = .ok (.cmpi 1 1 5 0 0) ∧
  decode 0xEF060002 = .ok (.pbr 3 2) ∧
  decode 0xEF4A0000 = .ok (.pack 5) ∧
  decode 0xEF800007 = .ok (.bkpt 7) ∧
  decode 0xEFC040F5 = .ok (.wfiltIns 4 15 1) ∧
  decode 0xED005000 = .ok (.kend 5) ∧
  decode 0x00000100D8004000 = .ok (.launch 4 0x100) ∧
  decode 0x30290182 = .ok (.lds 5 4 0 3 2) ∧
  decode 0x2A001003 = .ok (.loopi 0 4 3) ∧
  decode 0x263FFFFD = .ok (.br 3 0xFFFFD) ∧
  decode 0x41844336 = .ok (.vfma 1 2 3 0 3 1 2) ∧
  decode 0x364A9610 = .ok (.ramo 9 10 11 0 1 0) ∧
  decode 0x00078800D5014200 = .ok (.rdef 0 1 2 1 15 0x800) ∧
  decode 0x9064001F = .ok (.patchAndIssue 2 3 4 31) ∧
  decodeSeq 0x28000064 = .ok (.hold 16 100) ∧
  decodeSeq 0x01808D20 = .ok (.route 3 2 1 5 4 0) ∧
  (∃ e, decode 0x00000004 = .error e) ∧ (∃ e, decodeSeq 0xFFFFFFFF = .error e)

/-- R42 to R55, R302: decoding what an instruction encodes to gives it back, for every well-formed word of the issue stream
and of the sequencers, with every operand at every value. -/
def Obligations.DecodingInvertsEncoding : Prop :=
  (∀ i : Instr, i.wf = true → i.isWord = true → decode (encode i) = .ok i) ∧
  (∀ i : Instr, i.wf = true → i.isSeqWord = true → decodeSeq (encode i) = .ok i)

/-- R43, R54, R302: each word has one meaning: what decodes encodes to the word itself, one word or two. -/
def Obligations.EachWordHasOneMeaning : Prop :=
  (∀ (w : Nat) (i : Instr), decode w = .ok i → encode i = w % 2 ^ (if i.isWide then 64 else 32)) ∧
  (∀ (w : Nat) (i : Instr), decodeSeq w = .ok i → encode i = w % 2 ^ 32)

/-- Device memory keeps its canonical form: addresses strictly rising, and no byte listed that an unlisted address reads as.
-/
def Obligations.StepsKeepDeviceMemoryCanonical : Prop :=
  ∀ s t : State, s.MemOk → step s = .next t → t.MemOk
end

