-- ==== Sys2Proof/Laws/Cells.lean ====
section
/-! SUPPORT. Sparse data: every write keeps the canonical form, a read after a write, and equal reads make equal data. -/

namespace Sys2Proof.Machine

theorem Cells.wfFrom_cons [DecidableEq α] (d : α) (lo k : Nat) (v : α) (r : Cells α) :
    Cells.wfFrom d lo ((k, v) :: r) = true ↔ lo ≤ k ∧ v ≠ d ∧ Cells.wfFrom d (k + 1) r = true := by
  simp [Cells.wfFrom, and_assoc]

theorem Cells.wfFrom_mono [DecidableEq α] (d : α) {lo lo' : Nat} (h : lo' ≤ lo) (m : Cells α)
    (hm : Cells.wfFrom d lo m = true) : Cells.wfFrom d lo' m = true := by
  cases m with
  | nil => rfl
  | cons x r => rw [Cells.wfFrom_cons] at *; exact ⟨h.trans hm.1, hm.2⟩

/-- A key below every key listed reads as the default. -/
theorem Cells.read_below [DecidableEq α] (d : α) (m : Cells α) (lo a : Nat) (h : a < lo)
    (hm : Cells.wfFrom d lo m = true) : Cells.read d m a = d := by
  cases m with
  | nil => rfl
  | cons x r =>
    rw [Cells.wfFrom_cons] at hm
    have := hm.1
    simp only [Cells.read]
    rw [if_neg (by omega), if_pos (by omega)]

/-- A write keeps the canonical form above any bound that its key meets. -/
theorem Cells.write_wfFrom [DecidableEq α] (d : α) (m : Cells α) (lo a : Nat) (x : α) (ha : lo ≤ a)
    (hm : Cells.wfFrom d lo m = true) : Cells.wfFrom d lo (Cells.write d m a x) = true := by
  induction m generalizing lo with
  | nil =>
    simp only [Cells.write]
    split
    · rfl
    · simp_all [Cells.wfFrom]
  | cons y r ih =>
    obtain ⟨k, v⟩ := y
    have hm' := hm
    rw [Cells.wfFrom_cons] at hm
    simp only [Cells.write]
    split
    · split
      · exact hm'
      · rename_i h1 h2
        rw [Cells.wfFrom_cons, Cells.wfFrom_cons]
        exact ⟨ha, h2, h1, hm.2⟩
    · split
      · rename_i h1 h2
        split
        · exact Cells.wfFrom_mono d (by omega) r hm.2.2
        · rename_i h3
          rw [Cells.wfFrom_cons]
          exact ⟨ha, h3, by rw [h2]; exact hm.2.2⟩
      · rw [Cells.wfFrom_cons]
        exact ⟨hm.1, hm.2.1, ih (k + 1) (by omega) hm.2.2⟩

/-- A write keeps the canonical form. -/
theorem Cells.write_wf [DecidableEq α] (d : α) (m : Cells α) (a : Nat) (x : α) (hm : Cells.wf d m = true) :
    Cells.wf d (Cells.write d m a x) = true := Cells.write_wfFrom d m 0 a x (Nat.zero_le a) hm

/-- Writes keep the canonical form. -/
theorem Cells.writes_wf [DecidableEq α] (d : α) (ws : List (Nat × α)) (m : Cells α) (hm : Cells.wf d m = true) :
    Cells.wf d (Cells.writes d m ws) = true := by
  unfold Cells.writes
  induction ws generalizing m with
  | nil => exact hm
  | cons w r ih => exact ih _ (Cells.write_wf d m w.1 w.2 hm)

/-- A read after a write of the same key. -/
theorem Cells.read_write_same [DecidableEq α] (d : α) (m : Cells α) (lo a : Nat) (x : α) (hm : Cells.wfFrom d lo m = true) :
    Cells.read d (Cells.write d m a x) a = x := by
  induction m generalizing lo with
  | nil => simp only [Cells.write]; split <;> simp_all [Cells.read]
  | cons y r ih =>
    obtain ⟨k, v⟩ := y
    rw [Cells.wfFrom_cons] at hm
    simp only [Cells.write]
    split
    · rename_i h1
      split
      · rename_i h2
        simp [Cells.read, h1, Nat.ne_of_gt h1, h2]
      · simp [Cells.read]
    · split
      · rename_i h1 h2
        split
        · rename_i h3
          rw [h3]
          exact Cells.read_below d r (k + 1) a (by omega) hm.2.2
        · simp [Cells.read]
      · rename_i h1 h2
        have := ih (k + 1) hm.2.2
        simp only [Cells.read]
        rw [if_neg (fun h => h2 h.symm), if_neg h1, this]

/-- A read after a write of another key. -/
theorem Cells.read_write_other [DecidableEq α] (d : α) (m : Cells α) (lo a b : Nat) (x : α) (h : b ≠ a)
    (hm : Cells.wfFrom d lo m = true) : Cells.read d (Cells.write d m a x) b = Cells.read d m b := by
  induction m generalizing lo with
  | nil =>
    simp only [Cells.write]
    split
    · rfl
    · simp [Cells.read, Ne.symm h]
  | cons y r ih =>
    obtain ⟨k, v⟩ := y
    rw [Cells.wfFrom_cons] at hm
    simp only [Cells.write]
    split
    · rename_i h1
      split
      · rfl
      · simp only [Cells.read]
        rw [if_neg (Ne.symm h)]
        split
        · rename_i h2; rw [if_neg (by omega), if_pos (by omega)]
        · rfl
    · split
      · rename_i h1 h2
        subst h2
        split
        · simp only [Cells.read]
          rw [if_neg (Ne.symm h)]
          split
          · rename_i h3; exact Cells.read_below d r (a + 1) b (by omega) hm.2.2
          · rfl
        · simp only [Cells.read]
          rw [if_neg (Ne.symm h), if_neg (Ne.symm h)]
      · simp only [Cells.read]
        rw [ih (k + 1) hm.2.2]

/-- A read after several writes to other keys. -/
theorem Cells.read_writes_other [DecidableEq α] (d : α) (ws : List (Nat × α)) (m : Cells α) (b : Nat)
    (h : ∀ w ∈ ws, w.1 ≠ b) (hm : Cells.wf d m = true) :
    Cells.read d (Cells.writes d m ws) b = Cells.read d m b := by
  unfold Cells.writes
  induction ws generalizing m with
  | nil => rfl
  | cons w r ih =>
    simp only [List.foldl_cons]
    rw [ih _ (fun x hx => h x (List.mem_cons_of_mem _ hx)) (Cells.write_wf d m w.1 w.2 hm)]
    exact Cells.read_write_other d m 0 w.1 b w.2 (Ne.symm (h w List.mem_cons_self)) hm

/-- Canonical data that read alike are equal. -/
theorem Cells.ext [DecidableEq α] (d : α) (m m' : Cells α) (lo : Nat) (hm : Cells.wfFrom d lo m = true)
    (hm' : Cells.wfFrom d lo m' = true) (h : ∀ a, Cells.read d m a = Cells.read d m' a) : m = m' := by
  induction m generalizing m' lo with
  | nil =>
    cases m' with
    | nil => rfl
    | cons y r =>
      obtain ⟨k, v⟩ := y
      rw [Cells.wfFrom_cons] at hm'
      have := h k
      simp [Cells.read] at this
      exact absurd this.symm hm'.2.1
  | cons y r ih =>
    obtain ⟨k, v⟩ := y
    cases m' with
    | nil =>
      rw [Cells.wfFrom_cons] at hm
      have := h k
      simp [Cells.read] at this
      exact absurd this hm.2.1
    | cons y' r' =>
      obtain ⟨k', v'⟩ := y'
      rw [Cells.wfFrom_cons] at hm hm'
      have e : k = k' := by
        rcases Nat.lt_trichotomy k k' with c | c | c
        · have := h k
          simp only [Cells.read, if_true] at this
          rw [if_neg (by omega), if_pos c] at this
          exact absurd this hm.2.1
        · exact c
        · have := h k'
          simp only [Cells.read, if_true] at this
          rw [if_neg (by omega), if_pos c] at this
          exact absurd this.symm hm'.2.1
      subst e
      have ev : v = v' := by simpa [Cells.read] using h k
      subst ev
      congr 1
      apply ih r' (k + 1) hm.2.2 hm'.2.2
      intro a
      by_cases c : a < k + 1
      · rw [Cells.read_below d r _ a c hm.2.2, Cells.read_below d r' _ a c hm'.2.2]
      · have := h a
        simp only [Cells.read] at this
        rw [if_neg (by omega), if_neg (by omega), if_neg (by omega), if_neg (by omega)] at this
        exact this

/-- Memory as reset leaves it has the canonical form. -/
theorem reset_memOk : State.reset.MemOk := rfl

/-- Device writes keep the canonical form of memory. -/
theorem State.devWrite_memOk (s : State) (m : Nat) (ws : List (Nat × Byte)) (h : s.MemOk) : (s.devWrite m ws).MemOk :=
  Cells.writes_wf emptyByte _ _ h

end Sys2Proof.Machine
end

