-- ==== Sys2Proof/Laws/Memory.lean ====
section
/-! SUPPORT. Device memory keeps its canonical form: one lemma for each operation and meaning that answers a state. -/

namespace Sys2Proof.Machine

/-- What an instruction answers leaves device memory in its canonical form. -/
def OutOk (o : Out) : Prop := ∀ t, o = .next t → Memory.wf t.mem

theorem OutOk_of {o : Out} {t : State} (h : OutOk o) (heq : o = .next t) : Memory.wf t.mem := h t heq

theorem OutOk_ite {c : Prop} [Decidable c] {a b : Out} (ha : OutOk a) (hb : OutOk b) : OutOk (if c then a else b) := by
  by_cases h : c
  · rwa [if_pos h]
  · rwa [if_neg h]

theorem memOk_ite {c : Prop} [Decidable c] {a b : State} (ha : Memory.wf a.mem) (hb : Memory.wf b.mem) :
    Memory.wf (if c then a else b).mem := by
  by_cases h : c
  · rwa [if_pos h]
  · rwa [if_neg h]

theorem OutOk_next {t : State} (h : Memory.wf t.mem) : OutOk (.next t) := fun _ e => Host.Outcome.next.inj e ▸ h

/-- A fold of updates each of which keeps the form. -/
theorem foldl_memOk {β : Type} (f : State → β → State) (hf : ∀ s b, Memory.wf s.mem → Memory.wf (f s b).mem) (l : List β)
    (s : State) (h : Memory.wf s.mem) : Memory.wf (l.foldl f s).mem := by
  induction l generalizing s with
  | nil => exact h
  | cons b r ih => exact ih _ (hf s b h)

/-- Its next states, taken from an answer. -/
theorem OutOk_get {o : Out} {d : State} (h : OutOk o) (hd : Memory.wf d.mem) :
    Memory.wf (match o with | .next t => t | _ => d).mem := by
  cases o <;> first | exact h _ rfl | exact hd

theorem State.ctx_memOk (s : State) (f : Ctx → Ctx) (hyps : Memory.wf s.mem) :
    Memory.wf (State.ctx s f).mem := by
  unfold State.ctx
  repeat' (first | with_reducible assumption)

theorem State.sq_memOk (s : State) (f : Sq → Sq) (hyps : Memory.wf s.mem) :
    Memory.wf (State.sq s f).mem := by
  unfold State.sq
  repeat' (first | with_reducible assumption | with_reducible apply State.ctx_memOk)

theorem State.push_memOk (s : State) (rem : Nat) (e : Eff) (hyps : Memory.wf s.mem) :
    Memory.wf (State.push s rem e).mem := by
  unfold State.push
  repeat' (first | with_reducible assumption | with_reducible apply State.ctx_memOk)

theorem State.post_memOk (s : State) (i : Instr) (hyps : Memory.wf s.mem) :
    Memory.wf (State.post s i).mem := by
  unfold State.post
  repeat' (first | with_reducible assumption)

theorem State.at_memOk (s : State) (t : Nat) (i : Instr) (hyps : Memory.wf s.mem) :
    Memory.wf (State.at s t i).mem := by
  unfold State.at
  repeat' (first | with_reducible assumption)

theorem State.fresh_memOk (s : State) (hyps : Memory.wf s.mem) :
    Memory.wf (State.fresh s).mem := by
  unfold State.fresh
  repeat' (first | with_reducible assumption)

theorem State.onCore_memOk (s : State) (cid : Nat) (f : Core → Core) (hyps : Memory.wf s.mem) :
    Memory.wf (State.onCore s cid f).mem := by
  unfold State.onCore
  repeat' (first | with_reducible assumption | with_reducible apply memOk_ite)

theorem State.focus_memOk (s : State) (cid : Nat) (hyps : Memory.wf s.mem) :
    Memory.wf (State.focus s cid).mem := by
  unfold State.focus
  repeat' (first | with_reducible assumption | with_reducible apply memOk_ite)

theorem State.onDie_memOk (s : State) (d : Nat) (f : Die → Die) (hyps : Memory.wf s.mem) :
    Memory.wf (State.onDie s d f).mem := by
  unfold State.onDie
  repeat' (first | with_reducible assumption)

theorem State.onSite_memOk (s : State) (n : Nat) (f : Site → Site) (hyps : Memory.wf s.mem) :
    Memory.wf (State.onSite s n f).mem := by
  unfold State.onSite
  repeat' (first | with_reducible assumption)

theorem State.onLink_memOk (s : State) (n : Nat) (f : LinkEnd → LinkEnd) (hyps : Memory.wf s.mem) :
    Memory.wf (State.onLink s n f).mem := by
  unfold State.onLink
  repeat' (first | with_reducible assumption)

theorem State.onLaunch_memOk (s : State) (lid : Nat) (f : Launch → Launch) (hyps : Memory.wf s.mem) :
    Memory.wf (State.onLaunch s lid f).mem := by
  unfold State.onLaunch
  repeat' (first | with_reducible assumption)

theorem State.onReq_memOk (s : State) (id : Nat) (f : Req → Req) (hyps : Memory.wf s.mem) :
    Memory.wf (State.onReq s id f).mem := by
  unfold State.onReq
  repeat' (first | with_reducible assumption)

theorem State.dropReq_memOk (s : State) (id : Nat) (hyps : Memory.wf s.mem) :
    Memory.wf (State.dropReq s id).mem := by
  unfold State.dropReq
  repeat' (first | with_reducible assumption)

theorem State.devWrite_wf (s : State) (m : Nat) (ws : List (Nat × Byte)) (h : Memory.wf s.mem) : Memory.wf (s.devWrite m ws).mem :=
  State.devWrite_memOk s m ws h

theorem State.pruneLocks_memOk (s : State) (site : Nat) (hyps : Memory.wf s.mem) :
    Memory.wf (State.pruneLocks s site).mem := by
  unfold State.pruneLocks
  repeat' (first | with_reducible assumption | with_reducible apply State.onSite_memOk | with_reducible apply memOk_ite)

theorem State.sectorWrite_memOk (s : State) (ws : List (Nat × Byte)) (hyps : Memory.wf s.mem) :
    Memory.wf (State.sectorWrite s ws).mem := by
  unfold State.sectorWrite
  repeat' (first | with_reducible assumption | with_reducible apply State.devWrite_wf | with_reducible apply State.onSite_memOk | with_reducible apply State.pruneLocks_memOk | with_reducible apply memOk_ite | with_reducible apply OutOk_ite | dsimp only | split)

theorem State.sectorRead_fst (s : State) (pas : List Nat) (hyps : Memory.wf s.mem) :
    Memory.wf (State.sectorRead s pas).1.mem := by
  unfold State.sectorRead
  repeat' (first | with_reducible assumption | with_reducible apply State.onSite_memOk | with_reducible apply memOk_ite | with_reducible apply OutOk_ite | dsimp only | split)

theorem State.sectorRead_memOk (s : State) (pas : List Nat) {t : State} {x} (heq : State.sectorRead s pas = (t, x)) (hyps : Memory.wf s.mem) :
    Memory.wf t.mem := by
  have h := State.sectorRead_fst s pas hyps
  rw [heq] at h
  exact h

theorem State.homeNat_fst (s : State) (pa n : Nat) (hyps : Memory.wf s.mem) :
    Memory.wf (State.homeNat s pa n).1.mem := by
  unfold State.homeNat
  repeat' (first | with_reducible assumption | refine State.sectorRead_memOk _ _ (by assumption) ?_ | with_reducible apply State.sectorRead_fst)

theorem State.homeNat_memOk (s : State) (pa n : Nat) {t : State} {x} (heq : State.homeNat s pa n = (t, x)) (hyps : Memory.wf s.mem) :
    Memory.wf t.mem := by
  have h := State.homeNat_fst s pa n hyps
  rw [heq] at h
  exact h

theorem State.walkFrom_fst (asid va kind : Nat) (sys : Bool) (l : List (Nat × Nat × Nat × Nat)) (s : State) (t : Nat)
    (hyps : Memory.wf s.mem) : Memory.wf (State.walkFrom asid va kind sys l s t).1.mem := by
  induction l generalizing s t with
  | nil => exact hyps
  | cons x r ih =>
    obtain ⟨lvl, lo, n, page⟩ := x
    unfold State.walkFrom
    repeat' (first | with_reducible assumption | with_reducible apply ih | refine State.homeNat_memOk _ _ _ (by assumption) ?_ | dsimp only | split)

theorem State.walk_fst (s : State) (root asid va kind : Nat) (sys : Bool) (hyps : Memory.wf s.mem) :
    Memory.wf (State.walk s root asid va kind sys).1.mem := by
  unfold State.walk
  split
  · exact hyps
  · exact State.walkFrom_fst _ _ _ _ _ _ _ hyps

theorem State.walk_memOk (s : State) (root asid va kind : Nat) (sys : Bool) {t : State} {x}
    (heq : State.walk s root asid va kind sys = (t, x)) (hyps : Memory.wf s.mem) : Memory.wf t.mem := by
  have h := State.walk_fst s root asid va kind sys hyps
  rw [heq] at h
  exact h

theorem State.vaAccess_fst (s : State) (asid va n : Nat) (hyps : Memory.wf s.mem) :
    Memory.wf (State.vaAccess s asid va n).1.mem := by
  unfold State.vaAccess
  have key : ∀ (l : List (Nat × Nat)) (acc : State × Option (List Byte)), Memory.wf acc.1.mem →
      Memory.wf (l.foldl (fun acc p =>
        match acc with
        | (s, none) => (s, none)
        | (s, some bs) =>
          match s.walk (s.tableRoot asid) asid (va + p.1) permR true with
          | (s, .error _) => (s, none)
          | (s, .ok e) =>
            if e.module ≠ s.conn.modnum then (s, some (bs ++ (List.range p.2).map fun i => Config.peerByte s.nextId (p.1 + i)))
            else match s.sectorRead ((List.range p.2).map fun i => e.locate (va + p.1 + i)) with
              | (s, some x) => (s, some (bs ++ x))
              | (s, none) => (s, none)) acc).1.mem := by
    intro l
    induction l with
    | nil => exact fun _ h => h
    | cons p r ih =>
      intro acc h
      refine ih _ ?_
      obtain ⟨t, o⟩ := acc
      cases o <;>
        repeat' (first | with_reducible assumption | refine State.walk_memOk _ _ _ _ _ _ (by assumption) ?_ | refine State.sectorRead_memOk _ _ (by assumption) ?_ | dsimp only | split)
  exact key _ (s, some []) hyps

theorem State.vaAccess_memOk (s : State) (asid va n : Nat) {t : State} {x} (heq : State.vaAccess s asid va n = (t, x))
    (hyps : Memory.wf s.mem) : Memory.wf t.mem := by
  have h := State.vaAccess_fst s asid va n hyps
  rw [heq] at h
  exact h

theorem State.vaTouched_memOk (s : State) (asid va n : Nat) (hyps : Memory.wf s.mem) :
    Memory.wf (State.vaTouched s asid va n).mem := by
  unfold State.vaTouched
  repeat' (first | with_reducible assumption | refine State.vaAccess_memOk _ _ _ _ (by assumption) ?_ | with_reducible apply State.vaAccess_fst)

theorem State.vaWrite_memOk (s : State) (asid va : Nat) (bs : List Byte) (hyps : Memory.wf s.mem) :
    Memory.wf (State.vaWrite s asid va bs).mem := by
  unfold State.vaWrite
  repeat' (first | with_reducible assumption | with_reducible apply State.sectorWrite_memOk | refine State.walk_memOk _ _ _ _ _ _ (by assumption) ?_ | with_reducible apply State.walk_fst | with_reducible apply foldl_memOk | with_reducible apply memOk_ite | with_reducible apply OutOk_ite | dsimp only | split | intro _)

theorem State.onTaskCtx_memOk (s : State) (cid lid : Nat) (f : Ctx → Ctx) (hyps : Memory.wf s.mem) :
    Memory.wf (State.onTaskCtx s cid lid f).mem := by
  unfold State.onTaskCtx
  repeat' (first | with_reducible assumption | with_reducible apply State.onCore_memOk | with_reducible apply State.ctx_memOk | with_reducible apply memOk_ite)

theorem State.carry_memOk (s : State) (link : Nat) (hyps : Memory.wf s.mem) :
    Memory.wf (State.carry s link).mem := by
  unfold State.carry
  repeat' (first | with_reducible assumption | with_reducible apply State.at_memOk | with_reducible apply State.onLink_memOk | with_reducible apply foldl_memOk | with_reducible apply memOk_ite | with_reducible apply OutOk_ite | dsimp only | split | intro _)

theorem State.sendFlit_memOk (s : State) (link : Nat) (mgmt : Bool) (fmt : Nat) (body : List Byte) (hyps : Memory.wf s.mem) :
    Memory.wf (State.sendFlit s link mgmt fmt body).mem := by
  unfold State.sendFlit
  repeat' (first | with_reducible assumption | with_reducible apply State.onLink_memOk | with_reducible apply State.carry_memOk | with_reducible apply memOk_ite)

theorem State.leaves_memOk (s : State) (r : Req) (hyps : Memory.wf s.mem) :
    Memory.wf (State.leaves s r).mem := by
  unfold State.leaves
  repeat' (first | with_reducible assumption | with_reducible apply State.sendFlit_memOk | with_reducible apply memOk_ite | with_reducible apply OutOk_ite | dsimp only | split)

theorem State.sendReq_memOk (s : State) (r : Req) (hyps : Memory.wf s.mem) :
    Memory.wf (State.sendReq s r).mem := by
  unfold State.sendReq
  repeat' (first | with_reducible assumption | with_reducible apply OutOk_next | with_reducible apply State.fresh_memOk | with_reducible apply State.at_memOk | with_reducible apply State.leaves_memOk | with_reducible apply State.onCore_memOk | with_reducible apply memOk_ite)

theorem State.answer_memOk (s : State) (id : Nat) (hyps : Memory.wf s.mem) :
    Memory.wf (State.answer s id).mem := by
  unfold State.answer
  repeat' (first | with_reducible assumption | with_reducible apply State.at_memOk | with_reducible apply memOk_ite | with_reducible apply OutOk_ite | dsimp only | split)

theorem State.retire_memOk (s : State) (hyps : Memory.wf s.mem) :
    Memory.wf (State.retire s).mem := by
  unfold State.retire
  repeat' (first | with_reducible assumption | with_reducible apply State.ctx_memOk)

theorem State.retireWide_memOk (s : State) (hyps : Memory.wf s.mem) :
    Memory.wf (State.retireWide s).mem := by
  unfold State.retireWide
  repeat' (first | with_reducible assumption | with_reducible apply State.ctx_memOk)

theorem State.retireBranch_memOk (s : State) (target : Option Nat) (hyps : Memory.wf s.mem) :
    Memory.wf (State.retireBranch s target).mem := by
  unfold State.retireBranch
  repeat' (first | with_reducible assumption | with_reducible apply State.sq_memOk)

theorem State.retireTo_memOk (s : State) (target : Nat) (hyps : Memory.wf s.mem) :
    Memory.wf (State.retireTo s target).mem := by
  unfold State.retireTo
  repeat' (first | with_reducible assumption | with_reducible apply State.sq_memOk)

theorem State.holdOn_memOk (s : State) (w : Wait) (hyps : Memory.wf s.mem) :
    Memory.wf (State.holdOn s w).mem := by
  unfold State.holdOn
  repeat' (first | with_reducible assumption | with_reducible apply State.sq_memOk)

theorem State.drainTrace_memOk (s : State) (die : Nat) (hyps : Memory.wf s.mem) :
    Memory.wf (State.drainTrace s die).mem := by
  unfold State.drainTrace
  repeat' (first | with_reducible assumption | with_reducible apply State.sectorWrite_memOk | with_reducible apply State.onDie_memOk | with_reducible apply foldl_memOk | with_reducible apply memOk_ite | with_reducible apply OutOk_ite | dsimp only | split | intro _)

theorem State.traceOn_memOk (s : State) (cid kind : Nat) (a b : Word) (hyps : Memory.wf s.mem) :
    Memory.wf (State.traceOn s cid kind a b).mem := by
  unfold State.traceOn
  repeat' (first | with_reducible assumption | with_reducible apply State.onDie_memOk | with_reducible apply State.ctx_memOk | with_reducible apply State.onCore_memOk | with_reducible apply memOk_ite)

theorem State.traceHeads_memOk (s : State) (cid kind : Nat) (hyps : Memory.wf s.mem) :
    Memory.wf (State.traceHeads s cid kind).mem := by
  unfold State.traceHeads
  repeat' (first | with_reducible assumption | with_reducible apply State.ctx_memOk | with_reducible apply State.traceOn_memOk)

theorem State.recordWrite_memOk (s : State) (l : Launch) (off : Nat) (bs : List Byte) (hyps : Memory.wf s.mem) :
    Memory.wf (State.recordWrite s l off bs).mem := by
  unfold State.recordWrite
  repeat' (first | with_reducible assumption | with_reducible apply State.vaWrite_memOk)

theorem State.onTask_memOk (s : State) (lid cid : Nat) (f : Task → Task) (hyps : Memory.wf s.mem) :
    Memory.wf (State.onTask s lid cid f).mem := by
  unfold State.onTask
  repeat' (first | with_reducible assumption | with_reducible apply State.onLaunch_memOk)

theorem State.mapPut_memOk (s : State) (cid lid state record : Nat) (hyps : Memory.wf s.mem) :
    Memory.wf (State.mapPut s cid lid state record).mem := by
  unfold State.mapPut
  repeat' (first | with_reducible assumption | with_reducible apply State.sectorWrite_memOk)

theorem State.mapWrite_memOk (s : State) (cid state : Nat) (l : Launch) (hyps : Memory.wf s.mem) :
    Memory.wf (State.mapWrite s cid state l).mem := by
  unfold State.mapWrite
  repeat' (first | with_reducible assumption | with_reducible apply State.mapPut_memOk)

theorem State.poke_memOk (s : State) (hyps : Memory.wf s.mem) :
    Memory.wf (State.poke s).mem := by
  unfold State.poke
  repeat' (first | with_reducible assumption | with_reducible apply State.ctx_memOk | with_reducible apply State.post_memOk | with_reducible apply foldl_memOk | with_reducible apply memOk_ite | with_reducible apply OutOk_ite | dsimp only | split | intro _)

theorem State.ctrlAborts_memOk (s : State) (cid lid : Nat) (hyps : Memory.wf s.mem) :
    Memory.wf (State.ctrlAborts s cid lid).mem := by
  unfold State.ctrlAborts
  repeat' (first | with_reducible assumption | with_reducible apply State.sendReq_memOk | with_reducible apply State.onCore_memOk | with_reducible apply foldl_memOk | with_reducible apply memOk_ite | with_reducible apply OutOk_ite | dsimp only | split | intro _)

theorem State.faultEnd_memOk (s : State) (hyps : Memory.wf s.mem) :
    Memory.wf (State.faultEnd s).mem := by
  unfold State.faultEnd
  repeat' (first | with_reducible assumption | with_reducible apply State.ctx_memOk | with_reducible apply State.onTask_memOk | with_reducible apply State.recordWrite_memOk | with_reducible apply State.mapWrite_memOk | with_reducible apply State.ctrlAborts_memOk | with_reducible apply State.at_memOk | with_reducible apply memOk_ite | with_reducible apply OutOk_ite | dsimp only | split)

theorem State.trapFrame_memOk (s : State) (tc tv : Word) (pc : BitVec 13) (target : Option (BitVec 13)) (wait : Option Wait) (hyps : Memory.wf s.mem) :
    Memory.wf (State.trapFrame s tc tv pc target wait).mem := by
  unfold State.trapFrame
  repeat' (first | with_reducible assumption | with_reducible apply State.traceOn_memOk | with_reducible apply State.ctx_memOk)

theorem State.takeTrap_memOk (s : State) (tc tv : Word) (pc : BitVec 13) (target : Option (BitVec 13)) (wait : Option Wait) (hyps : Memory.wf s.mem) :
    Memory.wf (State.takeTrap s tc tv pc target wait).mem := by
  unfold State.takeTrap
  repeat' (first | with_reducible assumption | with_reducible apply State.ctx_memOk | with_reducible apply State.trapFrame_memOk | with_reducible apply State.sq_memOk | with_reducible apply State.faultEnd_memOk | with_reducible apply memOk_ite)

theorem State.trapNext_memOk (s : State) (tc tv : Word) (hyps : Memory.wf s.mem) :
    Memory.wf (State.trapNext s tc tv).mem := by
  unfold State.trapNext
  repeat' (first | with_reducible assumption | with_reducible apply State.ctx_memOk | with_reducible apply State.sq_memOk | with_reducible apply State.takeTrap_memOk)

theorem State.wordFault_memOk (s : State) (cause : BitVec 8) (tv : Word) (hyps : Memory.wf s.mem) :
    OutOk (State.wordFault s cause tv) := by
  unfold State.wordFault
  repeat' (first | with_reducible assumption | with_reducible apply OutOk_next | with_reducible apply State.takeTrap_memOk)

theorem State.illegal_memOk (s : State) (hyps : Memory.wf s.mem) :
    OutOk (State.illegal s) := by
  unfold State.illegal
  repeat' (first | with_reducible assumption | with_reducible apply OutOk_next | with_reducible apply State.wordFault_memOk)

theorem State.wide_memOk (s : State) (f : Unit → Out) (hyps : Memory.wf s.mem) (hypf : ∀ x0, OutOk (f x0)) :
    OutOk (State.wide s f) := by
  unfold State.wide
  repeat' (first | with_reducible assumption | with_reducible apply OutOk_next | with_reducible apply State.ctx_memOk | with_reducible apply State.sq_memOk | with_reducible apply State.illegal_memOk | with_reducible apply hypf | with_reducible apply memOk_ite | with_reducible apply OutOk_ite)

theorem State.guarded_memOk (s : State) (g : BitVec 4) (f : Unit → Out) (hyps : Memory.wf s.mem) (hypf : ∀ x0, OutOk (f x0)) :
    OutOk (State.guarded s g f) := by
  unfold State.guarded
  repeat' (first | with_reducible assumption | with_reducible apply OutOk_next | with_reducible apply State.retire_memOk | with_reducible apply hypf | with_reducible apply memOk_ite | with_reducible apply OutOk_ite)

theorem State.scalar_memOk (s : State) (lat : Nat) (sd : BitVec 5) (v : Word) (hyps : Memory.wf s.mem) :
    OutOk (State.scalar s lat sd v) := by
  unfold State.scalar
  repeat' (first | with_reducible assumption | with_reducible apply OutOk_next | with_reducible apply State.push_memOk | with_reducible apply State.retire_memOk)

theorem State.predicate_memOk (s : State) (pd : BitVec 3) (v : Bool) (hyps : Memory.wf s.mem) :
    OutOk (State.predicate s pd v) := by
  unfold State.predicate
  repeat' (first | with_reducible assumption | with_reducible apply OutOk_next | with_reducible apply State.push_memOk | with_reducible apply State.retire_memOk)

theorem State.endHold_memOk (s : State) (sd : BitVec 5) (v : Word) (hyps : Memory.wf s.mem) :
    Memory.wf (State.endHold s sd v).mem := by
  unfold State.endHold
  repeat' (first | with_reducible assumption | with_reducible apply State.push_memOk | with_reducible apply State.retire_memOk)

theorem State.arrive_memOk (s : State) (n : Nat) (hyps : Memory.wf s.mem) :
    Memory.wf (State.arrive s n).mem := by
  unfold State.arrive
  repeat' (first | with_reducible assumption | with_reducible apply State.ctx_memOk | with_reducible apply State.push_memOk)

theorem State.ask_memOk (s : State) (as : List BankAcc) (hyps : Memory.wf s.mem) :
    Memory.wf (State.ask s as).mem := by
  unfold State.ask
  repeat' (first | with_reducible assumption | with_reducible apply OutOk_next | with_reducible apply State.ctx_memOk)

theorem State.askFor_memOk (s : State) (uid : Option Nat) (what : BankEnd) (as : List BankAcc) (hyps : Memory.wf s.mem) :
    Memory.wf (State.askFor s uid what as).mem := by
  unfold State.askFor
  repeat' (first | with_reducible assumption | with_reducible apply OutOk_next | with_reducible apply State.ctx_memOk | with_reducible apply State.ask_memOk)

theorem State.askSq_memOk (s : State) (what : BankEnd) (write : Bool) (a n : Nat) (hyps : Memory.wf s.mem) :
    Memory.wf (State.askSq s what write a n).mem := by
  unfold State.askSq
  repeat' (first | with_reducible assumption | with_reducible apply State.ctx_memOk | with_reducible apply State.askFor_memOk)

theorem State.askWrite_memOk (s : State) (a : Nat) (bs : List Byte) (hyps : Memory.wf s.mem) :
    Memory.wf (State.askWrite s a bs).mem := by
  unfold State.askWrite
  repeat' (first | with_reducible assumption | with_reducible apply State.ask_memOk)

theorem State.wakeCore_memOk (s : State) (cid : Nat) (hyps : Memory.wf s.mem) :
    Memory.wf (State.wakeCore s cid).mem := by
  unfold State.wakeCore
  repeat' (first | with_reducible assumption | with_reducible apply State.onCore_memOk | with_reducible apply memOk_ite)

theorem State.queueAt_memOk (s : State) (cid : Nat) (as : List BankAcc) (hyps : Memory.wf s.mem) :
    Memory.wf (State.queueAt s cid as).mem := by
  unfold State.queueAt
  repeat' (first | with_reducible assumption | with_reducible apply OutOk_next | with_reducible apply State.wakeCore_memOk | with_reducible apply State.onCore_memOk)

theorem State.askAt_memOk (s : State) (cid id : Nat) (what : BankEnd) (as : List BankAcc) (hyps : Memory.wf s.mem) :
    Memory.wf (State.askAt s cid id what as).mem := by
  unfold State.askAt
  repeat' (first | with_reducible assumption | with_reducible apply State.queueAt_memOk | with_reducible apply State.onCore_memOk)

theorem State.askEntryAt_memOk (s : State) (cid id : Nat) (uid : Option Nat) (what : BankEnd) (as : List BankAcc) (hyps : Memory.wf s.mem) :
    Memory.wf (State.askEntryAt s cid id uid what as).mem := by
  unfold State.askEntryAt
  repeat' (first | with_reducible assumption | with_reducible apply State.queueAt_memOk | with_reducible apply State.onCore_memOk)

theorem State.viewed_memOk (s : State) (j : BankJob) (hyps : Memory.wf s.mem) :
    Memory.wf (State.viewed s j).mem := by
  unfold State.viewed
  repeat' (first | with_reducible assumption | with_reducible apply State.onCore_memOk | with_reducible apply foldl_memOk | with_reducible apply memOk_ite | with_reducible apply OutOk_ite | dsimp only | split | intro _)

theorem State.unviewed_memOk (s t : State) (j : BankJob) (hyps : Memory.wf s.mem) (hypt : Memory.wf t.mem) :
    Memory.wf (State.unviewed s t j).mem := by
  unfold State.unviewed
  repeat' (first | with_reducible assumption | with_reducible apply State.onCore_memOk | with_reducible apply foldl_memOk | with_reducible apply memOk_ite | with_reducible apply OutOk_ite | dsimp only | split | intro _)

theorem State.writePools_memOk (s : State) (ws : List (Nat × Nat × Byte)) (hyps : Memory.wf s.mem) :
    Memory.wf (State.writePools s ws).mem := by
  unfold State.writePools
  repeat' (first | with_reducible assumption | with_reducible apply State.onCore_memOk | with_reducible apply foldl_memOk | with_reducible apply memOk_ite | with_reducible apply OutOk_ite | dsimp only | split | intro _)

theorem State.floatResult_memOk (s : State) (lat : Nat) (sd : BitVec 5) (r : Nat × Cond) (hyps : Memory.wf s.mem) :
    OutOk (State.floatResult s lat sd r) := by
  unfold State.floatResult
  repeat' (first | with_reducible assumption | with_reducible apply OutOk_next | with_reducible apply State.push_memOk | with_reducible apply State.retire_memOk)

theorem State.enqueue_memOk (s : State) (e : Entry) (hyps : Memory.wf s.mem) :
    Memory.wf (State.enqueue s e).mem := by
  unfold State.enqueue
  repeat' (first | with_reducible assumption | with_reducible apply State.fresh_memOk | with_reducible apply State.ctx_memOk)

theorem execPatchAndIssue_memOk (eng : BitVec 3) (t : BitVec 6) (fld : BitVec 5) (val : BitVec 16) (s : State) (hyps : Memory.wf s.mem) :
    OutOk (execPatchAndIssue eng t fld val s) := by
  unfold execPatchAndIssue
  repeat' (first | with_reducible assumption | with_reducible apply OutOk_next | with_reducible apply State.ctx_memOk | with_reducible apply State.holdOn_memOk | with_reducible apply State.wordFault_memOk | with_reducible apply State.enqueue_memOk | with_reducible apply State.retire_memOk | with_reducible apply memOk_ite | with_reducible apply OutOk_ite | dsimp only | split)

theorem execAmend_memOk (eng : BitVec 3) (fld : BitVec 5) (val : BitVec 16) (s : State) (hyps : Memory.wf s.mem) :
    OutOk (execAmend eng fld val s) := by
  unfold execAmend
  repeat' (first | with_reducible assumption | with_reducible apply OutOk_next | with_reducible apply State.ctx_memOk | with_reducible apply State.wordFault_memOk | with_reducible apply State.retire_memOk | with_reducible apply memOk_ite | with_reducible apply OutOk_ite)

theorem State.servedHold_memOk (s : State) (note : List Nat) (start : Unit → Out) (served : Wait → Out) (hyps : Memory.wf s.mem) (hypstart : ∀ x0, OutOk (start x0)) (hypserved : ∀ x0, OutOk (served x0)) :
    OutOk (State.servedHold s note start served) := by
  unfold State.servedHold
  repeat' (first | with_reducible assumption | with_reducible apply OutOk_next | with_reducible apply State.holdOn_memOk | with_reducible apply hypstart | with_reducible apply hypserved | with_reducible apply OutOk_get | refine OutOk_of ?_ (by assumption) | with_reducible apply memOk_ite | with_reducible apply OutOk_ite | dsimp only | split)

theorem execTdef_memOk (eng : BitVec 3) (t : BitVec 6) (sa : BitVec 5) (off : BitVec 19) (s : State) (hyps : Memory.wf s.mem) :
    OutOk (execTdef eng t sa off s) := by
  unfold execTdef
  repeat' (first | with_reducible assumption | with_reducible apply OutOk_next | with_reducible apply State.wide_memOk | with_reducible apply State.wordFault_memOk | with_reducible apply State.ctx_memOk | with_reducible apply State.servedHold_memOk | with_reducible apply State.askSq_memOk | with_reducible apply State.retireWide_memOk | with_reducible apply memOk_ite | with_reducible apply OutOk_ite | dsimp only | split | intro _)

theorem execTread_memOk (eng : BitVec 3) (t : BitVec 6) (sa : BitVec 5) (off : BitVec 19) (s : State) (hyps : Memory.wf s.mem) :
    OutOk (execTread eng t sa off s) := by
  unfold execTread
  repeat' (first | with_reducible assumption | with_reducible apply OutOk_next | with_reducible apply State.wide_memOk | with_reducible apply State.wordFault_memOk | with_reducible apply State.ctx_memOk | with_reducible apply State.servedHold_memOk | with_reducible apply State.askFor_memOk | with_reducible apply State.retireWide_memOk | with_reducible apply memOk_ite | with_reducible apply OutOk_ite | dsimp only | split | intro _)

theorem execQdef_memOk (q : BitVec 4) (w : BitVec 3) (sa : BitVec 5) (imm : BitVec 32) (s : State) (hyps : Memory.wf s.mem) :
    OutOk (execQdef q w sa imm s) := by
  unfold execQdef
  repeat' (first | with_reducible assumption | with_reducible apply OutOk_next | with_reducible apply State.wide_memOk | with_reducible apply State.push_memOk | with_reducible apply State.retireWide_memOk | with_reducible apply memOk_ite | with_reducible apply OutOk_ite | dsimp only | split | intro _)

theorem execQread_memOk (sd : BitVec 5) (q : BitVec 4) (w : BitVec 3) (s : State) (hyps : Memory.wf s.mem) :
    OutOk (execQread sd q w s) := by
  unfold execQread
  repeat' (first | with_reducible assumption | with_reducible apply OutOk_next | with_reducible apply State.wide_memOk | with_reducible apply State.push_memOk | with_reducible apply State.ctx_memOk | with_reducible apply State.retireWide_memOk | with_reducible apply memOk_ite | with_reducible apply OutOk_ite | dsimp only | split | intro _)

theorem State.wheel_memOk (s : State) (f : Wheel → Wheel) (hyps : Memory.wf s.mem) :
    Memory.wf (State.wheel s f).mem := by
  unfold State.wheel
  repeat' (first | with_reducible assumption | with_reducible apply State.ctx_memOk)

theorem State.whlStopped_memOk (s : State) (f : Unit → State) (hyps : Memory.wf s.mem) (hypf : ∀ x0, Memory.wf (f x0).mem) :
    OutOk (State.whlStopped s f) := by
  unfold State.whlStopped
  repeat' (first | with_reducible assumption | with_reducible apply OutOk_next | with_reducible apply State.wide_memOk | with_reducible apply State.ctx_memOk | with_reducible apply State.wheel_memOk | with_reducible apply State.wordFault_memOk | with_reducible apply State.retireWide_memOk | with_reducible apply hypf | with_reducible apply memOk_ite | with_reducible apply OutOk_ite | dsimp only | split | intro _)

theorem execWhlSlot_memOk (slot : BitVec 5) (eng : BitVec 3) (t : BitVec 6) (fo lo : BitVec 1) (k : BitVec 3) (fa fb : BitVec 5) (s : State) (hyps : Memory.wf s.mem) :
    OutOk (execWhlSlot slot eng t fo lo k fa fb s) := by
  unfold execWhlSlot
  repeat' (first | with_reducible assumption | with_reducible apply OutOk_next | with_reducible apply State.whlStopped_memOk | with_reducible apply State.wheel_memOk | with_reducible apply memOk_ite | with_reducible apply OutOk_ite | dsimp only | split | intro _)

theorem execWhlStride_memOk (slot : BitVec 5) (ab : BitVec 1) (lvl : BitVec 3) (v : BitVec 16) (s : State) (hyps : Memory.wf s.mem) :
    OutOk (execWhlStride slot ab lvl v s) := by
  unfold execWhlStride
  repeat' (first | with_reducible assumption | with_reducible apply OutOk_next | with_reducible apply State.whlStopped_memOk | with_reducible apply State.wheel_memOk | with_reducible apply memOk_ite | with_reducible apply OutOk_ite | dsimp only | split | intro _)

theorem execWhlCount_memOk (lvl : BitVec 3) (c : BitVec 16) (s : State) (hyps : Memory.wf s.mem) :
    OutOk (execWhlCount lvl c s) := by
  unfold execWhlCount
  repeat' (first | with_reducible assumption | with_reducible apply OutOk_next | with_reducible apply State.wide_memOk | with_reducible apply State.wheel_memOk | with_reducible apply State.push_memOk | with_reducible apply State.retireWide_memOk | with_reducible apply memOk_ite | with_reducible apply OutOk_ite | dsimp only | split | intro _)

theorem execWhlLen_memOk (n : BitVec 6) (s : State) (hyps : Memory.wf s.mem) :
    OutOk (execWhlLen n s) := by
  unfold execWhlLen
  repeat' (first | with_reducible assumption | with_reducible apply OutOk_next | with_reducible apply State.whlStopped_memOk | with_reducible apply State.wheel_memOk | with_reducible apply memOk_ite | with_reducible apply OutOk_ite | dsimp only | split | intro _)

theorem execWhlgo_memOk (sa : BitVec 5) (lvl : BitVec 3) (s : State) (hyps : Memory.wf s.mem) :
    OutOk (execWhlgo sa lvl s) := by
  unfold execWhlgo
  repeat' (first | with_reducible assumption | with_reducible apply OutOk_next | with_reducible apply State.wide_memOk | with_reducible apply State.ctx_memOk | with_reducible apply State.wheel_memOk | with_reducible apply State.holdOn_memOk | with_reducible apply State.retireWide_memOk | with_reducible apply memOk_ite | with_reducible apply OutOk_ite | dsimp only | split | intro _)

theorem execWheelPlacement_memOk (s : State) (hyps : Memory.wf s.mem) :
    OutOk (execWheelPlacement s) := by
  unfold execWheelPlacement
  repeat' (first | with_reducible assumption | with_reducible apply OutOk_next | with_reducible apply State.ctx_memOk | with_reducible apply State.wheel_memOk | with_reducible apply State.enqueue_memOk | with_reducible apply memOk_ite | with_reducible apply OutOk_ite | dsimp only | split)

theorem execQdrain_memOk (mask : BitVec 9) (s : State) (hyps : Memory.wf s.mem) :
    OutOk (execQdrain mask s) := by
  unfold execQdrain
  repeat' (first | with_reducible assumption | with_reducible apply OutOk_next | with_reducible apply State.ctx_memOk | with_reducible apply State.retire_memOk | with_reducible apply State.holdOn_memOk | with_reducible apply memOk_ite | with_reducible apply OutOk_ite)

theorem execRdef_memOk (ring prod cons : BitVec 3) (cnt : BitVec 4) (size : BitVec 10) (base : BitVec 15) (s : State) (hyps : Memory.wf s.mem) :
    OutOk (execRdef ring prod cons cnt size base s) := by
  unfold execRdef
  repeat' (first | with_reducible assumption | with_reducible apply OutOk_next | with_reducible apply State.wide_memOk | with_reducible apply State.ctx_memOk | with_reducible apply State.push_memOk | with_reducible apply State.retireWide_memOk | with_reducible apply State.wordFault_memOk | with_reducible apply memOk_ite | with_reducible apply OutOk_ite | dsimp only | split | intro _)

theorem execRacq_memOk (sd : BitVec 5) (side : BitVec 1) (ring : BitVec 3) (s : State) (hyps : Memory.wf s.mem) :
    OutOk (execRacq sd side ring s) := by
  unfold execRacq
  repeat' (first | with_reducible assumption | with_reducible apply OutOk_next | with_reducible apply State.ctx_memOk | with_reducible apply State.wordFault_memOk | with_reducible apply State.push_memOk | with_reducible apply State.retire_memOk | with_reducible apply memOk_ite | with_reducible apply OutOk_ite)

theorem execRrel_memOk (sa : BitVec 5) (full : BitVec 1) (ring : BitVec 3) (s : State) (hyps : Memory.wf s.mem) :
    OutOk (execRrel sa full ring s) := by
  unfold execRrel
  repeat' (first | with_reducible assumption | with_reducible apply OutOk_next | with_reducible apply State.ctx_memOk | with_reducible apply State.wordFault_memOk | with_reducible apply State.push_memOk | with_reducible apply State.retire_memOk | with_reducible apply memOk_ite | with_reducible apply OutOk_ite | dsimp only | split)

theorem execRstat_memOk (sd : BitVec 5) (sel : BitVec 1) (ring : BitVec 3) (s : State) (hyps : Memory.wf s.mem) :
    OutOk (execRstat sd sel ring s) := by
  unfold execRstat
  repeat' (first | with_reducible assumption | with_reducible apply OutOk_next | with_reducible apply State.scalar_memOk)

theorem execTokRd_memOk (sd : BitVec 5) (fifo : BitVec 3) (s : State) (hyps : Memory.wf s.mem) :
    OutOk (execTokRd sd fifo s) := by
  unfold execTokRd
  repeat' (first | with_reducible assumption | with_reducible apply OutOk_next | with_reducible apply State.scalar_memOk)

theorem execTokTry_memOk (sd : BitVec 5) (fifo : BitVec 3) (s : State) (hyps : Memory.wf s.mem) :
    OutOk (execTokTry sd fifo s) := by
  unfold execTokTry
  repeat' (first | with_reducible assumption | with_reducible apply OutOk_next | with_reducible apply State.ctx_memOk | with_reducible apply State.scalar_memOk | with_reducible apply memOk_ite | with_reducible apply OutOk_ite)

theorem State.placeVx_memOk (s : State) (w : Nat) (v : Word) (hyps : Memory.wf s.mem) :
    OutOk (State.placeVx s w v) := by
  unfold State.placeVx
  repeat' (first | with_reducible assumption | with_reducible apply OutOk_next | with_reducible apply State.ctx_memOk | with_reducible apply State.holdOn_memOk | with_reducible apply State.enqueue_memOk | with_reducible apply State.retire_memOk | with_reducible apply memOk_ite | with_reducible apply OutOk_ite)

theorem execTokVpop_memOk (fifo : BitVec 3) (s : State) (hyps : Memory.wf s.mem) :
    OutOk (execTokVpop fifo s) := by
  unfold execTokVpop
  repeat' (first | with_reducible assumption | with_reducible apply OutOk_next | with_reducible apply State.placeVx_memOk)

theorem execTokVpush_memOk (fifo : BitVec 3) (s : State) (hyps : Memory.wf s.mem) :
    OutOk (execTokVpush fifo s) := by
  unfold execTokVpush
  repeat' (first | with_reducible assumption | with_reducible apply OutOk_next | with_reducible apply State.placeVx_memOk)

theorem State.watchWord_memOk (s : State) (write pool : Bool) (a n : Nat) (f : State → Out) (hyps : Memory.wf s.mem) (hypf : ∀ x0, Memory.wf x0.mem → OutOk (f x0)) :
    OutOk (State.watchWord s write pool a n f) := by
  unfold State.watchWord
  repeat' (first | with_reducible assumption | with_reducible apply OutOk_next | with_reducible apply State.ctx_memOk | with_reducible apply State.sq_memOk | with_reducible apply State.wordFault_memOk | with_reducible apply hypf | with_reducible apply memOk_ite | with_reducible apply OutOk_ite | dsimp only | split)

theorem execWfiltClr_memOk (s : State) (hyps : Memory.wf s.mem) :
    OutOk (execWfiltClr s) := by
  unfold execWfiltClr
  repeat' (first | with_reducible assumption | with_reducible apply OutOk_next | with_reducible apply State.push_memOk | with_reducible apply State.retire_memOk)

theorem execWfiltIns_memOk (sa : BitVec 5) (n : BitVec 8) (space : BitVec 1) (s : State) (hyps : Memory.wf s.mem) :
    OutOk (execWfiltIns sa n space s) := by
  unfold execWfiltIns
  repeat' (first | with_reducible assumption | with_reducible apply OutOk_next | with_reducible apply State.push_memOk | with_reducible apply State.retire_memOk | with_reducible apply State.holdOn_memOk | with_reducible apply memOk_ite | with_reducible apply OutOk_ite)

theorem execWfiltTst_memOk (sd sa : BitVec 5) (space : BitVec 1) (s : State) (hyps : Memory.wf s.mem) :
    OutOk (execWfiltTst sd sa space s) := by
  unfold execWfiltTst
  repeat' (first | with_reducible assumption | with_reducible apply OutOk_next | with_reducible apply State.scalar_memOk)

theorem State.beginWalk_memOk (s : State) (m : Miss) (hyps : Memory.wf s.mem) :
    Memory.wf (State.beginWalk s m).mem := by
  unfold State.beginWalk
  repeat' (first | with_reducible assumption | with_reducible apply OutOk_next | with_reducible apply State.onDie_memOk | with_reducible apply State.fresh_memOk | with_reducible apply State.at_memOk)

theorem State.dieMiss_memOk (s : State) (m : Miss) (hyps : Memory.wf s.mem) :
    Memory.wf (State.dieMiss s m).mem := by
  unfold State.dieMiss
  repeat' (first | with_reducible assumption | with_reducible apply State.at_memOk | with_reducible apply State.beginWalk_memOk | with_reducible apply State.onDie_memOk | with_reducible apply memOk_ite)

theorem State.startWalk_memOk (s : State) (asid va kind : Nat) (hyps : Memory.wf s.mem) :
    Memory.wf (State.startWalk s asid va kind).mem := by
  unfold State.startWalk
  repeat' (first | with_reducible assumption | with_reducible apply State.ctx_memOk | with_reducible apply State.dieMiss_memOk | with_reducible apply memOk_ite)

theorem State.recordFault_memOk (s : State) (va : Nat) (f : XFail) (landed : Nat) (hyps : Memory.wf s.mem) :
    Memory.wf (State.recordFault s va f landed).mem := by
  unfold State.recordFault
  repeat' (first | with_reducible assumption | with_reducible apply State.onDie_memOk)

theorem State.translate_fst (s : State) (kind va landed : Nat) (hyps : Memory.wf s.mem) :
    Memory.wf (State.translate s kind va landed).1.mem := by
  unfold State.translate
  repeat' (first | with_reducible assumption | with_reducible apply State.ctx_memOk | with_reducible apply State.recordFault_memOk | with_reducible apply State.at_memOk | with_reducible apply State.startWalk_memOk | with_reducible apply memOk_ite | with_reducible apply OutOk_ite | dsimp only | split)

theorem State.translate_memOk (s : State) (kind va landed : Nat) {t : State} {x} (heq : State.translate s kind va landed = (t, x)) (hyps : Memory.wf s.mem) :
    Memory.wf t.mem := by
  have h := State.translate_fst s kind va landed hyps
  rw [heq] at h
  exact h

theorem State.refillMisses_memOk (s : State) (die : Nat) (hyps : Memory.wf s.mem) :
    Memory.wf (State.refillMisses s die).mem := by
  unfold State.refillMisses
  repeat' (first | with_reducible assumption | with_reducible apply State.onDie_memOk)

theorem State.nextWalks_memOk (die : Nat) (l : List Miss) (s : State) (hyps : Memory.wf s.mem) :
    Memory.wf (State.nextWalks die l s).mem := by
  induction l generalizing s with
  | nil => exact State.refillMisses_memOk _ _ hyps
  | cons m r ih =>
    unfold State.nextWalks
    repeat' (first | with_reducible assumption | with_reducible apply ih | with_reducible apply State.refillMisses_memOk | with_reducible apply State.onDie_memOk | with_reducible apply State.at_memOk | with_reducible apply State.beginWalk_memOk | dsimp only | split)

theorem execTranslationWalk_memOk (cid va : Nat) (s : State) (hyps : Memory.wf s.mem) :
    OutOk (execTranslationWalk cid va s) := by
  unfold execTranslationWalk
  repeat' (first | with_reducible assumption | with_reducible apply OutOk_next | with_reducible apply State.onDie_memOk | with_reducible apply State.nextWalks_memOk | with_reducible apply State.onCore_memOk | with_reducible apply State.dieMiss_memOk | refine State.walk_memOk _ _ _ _ _ _ (by assumption) ?_ | with_reducible apply State.walk_fst | with_reducible apply memOk_ite | with_reducible apply OutOk_ite | dsimp only | split)

theorem State.invSent_memOk (s : State) (id : Nat) (hyps : Memory.wf s.mem) :
    Memory.wf (State.invSent s id).mem := by
  unfold State.invSent
  repeat' (first | with_reducible assumption)

theorem execTlbInvalidate_memOk (die : Nat) (asid : Option Nat) (lo hi : Nat) (s : State) (hyps : Memory.wf s.mem) :
    OutOk (execTlbInvalidate die asid lo hi s) := by
  unfold execTlbInvalidate
  repeat' (first | with_reducible assumption | with_reducible apply OutOk_next | with_reducible apply State.onDie_memOk)

theorem State.answerWith_memOk (s : State) (id : Nat) (cause : BitVec 8) (data : List Byte) (status : Word) (hyps : Memory.wf s.mem) :
    Memory.wf (State.answerWith s id cause data status).mem := by
  unfold State.answerWith
  repeat' (first | with_reducible assumption | with_reducible apply State.onReq_memOk | with_reducible apply State.answer_memOk)

theorem State.peerAnswer_memOk (s : State) (r : Req) (hyps : Memory.wf s.mem) :
    Memory.wf (State.peerAnswer s r).mem := by
  unfold State.peerAnswer
  repeat' (first | with_reducible assumption | with_reducible apply State.answerWith_memOk)

theorem State.atHome_memOk (s : State) (id : Nat) (peer : Req → State) (f : Req → Out) (hyps : Memory.wf s.mem) (hyppeer : ∀ x0, Memory.wf (peer x0).mem) (hypf : ∀ x0, OutOk (f x0)) :
    OutOk (State.atHome s id peer f) := by
  unfold State.atHome
  repeat' (first | with_reducible assumption | with_reducible apply OutOk_next | with_reducible apply hyppeer | with_reducible apply hypf | with_reducible apply memOk_ite | with_reducible apply OutOk_ite | dsimp only | split)

theorem State.dispatch_memOk (s : State) (r : Req) (hyps : Memory.wf s.mem) :
    Memory.wf (State.dispatch s r).mem := by
  unfold State.dispatch
  repeat' (first | with_reducible assumption | with_reducible apply State.sendReq_memOk)

theorem State.enterInbound_memOk (s : State) (cid id : Nat) (r : Req) (hyps : Memory.wf s.mem) :
    Memory.wf (State.enterInbound s cid id r).mem := by
  unfold State.enterInbound
  repeat' (first | with_reducible assumption | with_reducible apply State.onCore_memOk | with_reducible apply State.post_memOk)

theorem State.arriveAt_memOk (s : State) (cid id : Nat) (r : Req) (hyps : Memory.wf s.mem) :
    Memory.wf (State.arriveAt s cid id r).mem := by
  unfold State.arriveAt
  repeat' (first | with_reducible assumption | with_reducible apply State.enterInbound_memOk | with_reducible apply State.onCore_memOk | with_reducible apply memOk_ite)

theorem State.unmesh_memOk (s : State) (cid : Nat) (hyps : Memory.wf s.mem) :
    Memory.wf (State.unmesh s cid).mem := by
  unfold State.unmesh
  repeat' (first | with_reducible assumption | with_reducible apply State.onCore_memOk | with_reducible apply State.enterInbound_memOk | with_reducible apply memOk_ite | with_reducible apply OutOk_ite | dsimp only | split)

theorem execHomeRequest_memOk (id : Nat) (s : State) (hyps : Memory.wf s.mem) :
    OutOk (execHomeRequest id s) := by
  unfold execHomeRequest
  repeat' (first | with_reducible assumption | with_reducible apply OutOk_next | with_reducible apply State.atHome_memOk | with_reducible apply State.peerAnswer_memOk | with_reducible apply State.arriveAt_memOk | with_reducible apply State.onSite_memOk | with_reducible apply State.answerWith_memOk | with_reducible apply State.sectorWrite_memOk | refine State.sectorRead_memOk _ _ (by assumption) ?_ | with_reducible apply State.sectorRead_fst | with_reducible apply memOk_ite | with_reducible apply OutOk_ite | dsimp only | split | intro _)

theorem State.drainCheck_memOk (s : State) (die c : Nat) (hyps : Memory.wf s.mem) :
    Memory.wf (State.drainCheck s die c).mem := by
  unfold State.drainCheck
  repeat' (first | with_reducible assumption | with_reducible apply State.onDie_memOk | with_reducible apply memOk_ite)

theorem State.endRemote_memOk (s : State) (cid id : Nat) (cause : BitVec 8) (bs : List Byte) (hyps : Memory.wf s.mem) :
    Memory.wf (State.endRemote s cid id cause bs).mem := by
  unfold State.endRemote
  repeat' (first | with_reducible assumption | with_reducible apply State.onCore_memOk | with_reducible apply State.unmesh_memOk | with_reducible apply State.answerWith_memOk | with_reducible apply State.drainCheck_memOk | with_reducible apply memOk_ite)

theorem execRemoteOperation_memOk (cid : Nat) (s : State) (hyps : Memory.wf s.mem) :
    OutOk (execRemoteOperation cid s) := by
  unfold execRemoteOperation
  repeat' (first | with_reducible assumption | with_reducible apply OutOk_next | with_reducible apply State.onCore_memOk | with_reducible apply State.endRemote_memOk | with_reducible apply State.ctx_memOk | with_reducible apply State.askAt_memOk | with_reducible apply memOk_ite | with_reducible apply OutOk_ite | dsimp only | split)

theorem State.onIssuer_memOk (s : State) (r : Req) (f : Ctx → Ctx) (hyps : Memory.wf s.mem) :
    Memory.wf (State.onIssuer s r f).mem := by
  unfold State.onIssuer
  repeat' (first | with_reducible assumption | with_reducible apply State.onTaskCtx_memOk)

theorem State.goOn_memOk (s : State) (r : Req) (kind : ReqKind) (module va : Nat) (hyps : Memory.wf s.mem) :
    Memory.wf (State.goOn s r kind module va).mem := by
  unfold State.goOn
  repeat' (first | with_reducible assumption | with_reducible apply OutOk_next | with_reducible apply State.onIssuer_memOk | with_reducible apply State.dispatch_memOk | with_reducible apply State.atHome_memOk | with_reducible apply memOk_ite | with_reducible apply OutOk_ite | dsimp only | split)

theorem State.responded_memOk (s : State) (id : Nat) (hyps : Memory.wf s.mem) :
    Memory.wf (State.responded s id).mem := by
  unfold State.responded
  repeat' (first | with_reducible assumption | with_reducible apply State.dropReq_memOk | with_reducible apply State.onIssuer_memOk | with_reducible apply State.goOn_memOk | with_reducible apply State.invSent_memOk | with_reducible apply memOk_ite | with_reducible apply OutOk_ite | dsimp only | split)

theorem State.respond_memOk (s : State) (id : Nat) (hyps : Memory.wf s.mem) :
    Memory.wf (State.respond s id).mem := by
  unfold State.respond
  repeat' (first | with_reducible assumption | with_reducible apply State.responded_memOk | with_reducible apply State.onReq_memOk | with_reducible apply State.askAt_memOk | with_reducible apply memOk_ite | with_reducible apply OutOk_ite | dsimp only | split)

theorem State.leavesAnswer_memOk (s : State) (r : Req) (f : Foreign) (hyps : Memory.wf s.mem) :
    Memory.wf (State.leavesAnswer s r f).mem := by
  unfold State.leavesAnswer
  repeat' (first | with_reducible assumption | with_reducible apply State.sendFlit_memOk | with_reducible apply foldl_memOk | with_reducible apply memOk_ite)

theorem execRequestResponse_memOk (id : Nat) (s : State) (hyps : Memory.wf s.mem) :
    OutOk (execRequestResponse id s) := by
  unfold execRequestResponse
  repeat' (first | with_reducible assumption | with_reducible apply OutOk_next | with_reducible apply State.dropReq_memOk | with_reducible apply State.leavesAnswer_memOk | with_reducible apply State.respond_memOk | with_reducible apply memOk_ite | with_reducible apply OutOk_ite | dsimp only | split)

theorem execAckTimeout_memOk (id : Nat) (s : State) (hyps : Memory.wf s.mem) :
    OutOk (execAckTimeout id s) := by
  unfold execAckTimeout
  repeat' (first | with_reducible assumption | with_reducible apply OutOk_next | with_reducible apply State.onReq_memOk | with_reducible apply State.post_memOk | with_reducible apply State.respond_memOk | with_reducible apply memOk_ite | with_reducible apply OutOk_ite | dsimp only | split)

theorem State.poolAccess_memOk (s : State) (write : Bool) (a : Word) (n : Nat) (f : State → Out) (hyps : Memory.wf s.mem) (hypf : ∀ x0, Memory.wf x0.mem → OutOk (f x0)) :
    OutOk (State.poolAccess s write a n f) := by
  unfold State.poolAccess
  repeat' (first | with_reducible assumption | with_reducible apply OutOk_next | with_reducible apply State.wordFault_memOk | with_reducible apply State.ctx_memOk | with_reducible apply State.watchWord_memOk | with_reducible apply hypf | with_reducible apply memOk_ite | with_reducible apply OutOk_ite)

theorem execLds_memOk (sd sa : BitVec 5) (g : BitVec 4) (sz : BitVec 3) (off : BitVec 7) (s : State) (hyps : Memory.wf s.mem) :
    OutOk (execLds sd sa g sz off s) := by
  unfold execLds
  repeat' (first | with_reducible assumption | with_reducible apply OutOk_next | with_reducible apply State.guarded_memOk | with_reducible apply State.poolAccess_memOk | with_reducible apply State.askSq_memOk | with_reducible apply State.retire_memOk | with_reducible apply memOk_ite | with_reducible apply OutOk_ite | dsimp only | split | intro _)

theorem execSts_memOk (sd sa : BitVec 5) (g : BitVec 4) (sz : BitVec 2) (off : BitVec 7) (s : State) (hyps : Memory.wf s.mem) :
    OutOk (execSts sd sa g sz off s) := by
  unfold execSts
  repeat' (first | with_reducible assumption | with_reducible apply OutOk_next | with_reducible apply State.guarded_memOk | with_reducible apply State.poolAccess_memOk | with_reducible apply State.askWrite_memOk | with_reducible apply State.retire_memOk | with_reducible apply memOk_ite | with_reducible apply OutOk_ite | dsimp only | split | intro _)

theorem execAmo_memOk (sd sa sb : BitVec 5) (g : BitVec 4) (w : BitVec 1) (op : BitVec 4) (s : State) (hyps : Memory.wf s.mem) :
    OutOk (execAmo sd sa sb g w op s) := by
  unfold execAmo
  repeat' (first | with_reducible assumption | with_reducible apply OutOk_next | with_reducible apply State.guarded_memOk | with_reducible apply State.poolAccess_memOk | with_reducible apply State.askSq_memOk | with_reducible apply State.retire_memOk | with_reducible apply memOk_ite | with_reducible apply OutOk_ite | dsimp only | split | intro _)

theorem execAmocas_memOk (sd sa : BitVec 5) (sbh : BitVec 4) (g : BitVec 4) (w : BitVec 1) (s : State) (hyps : Memory.wf s.mem) :
    OutOk (execAmocas sd sa sbh g w s) := by
  unfold execAmocas
  repeat' (first | with_reducible assumption | with_reducible apply OutOk_next | with_reducible apply State.guarded_memOk | with_reducible apply State.poolAccess_memOk | with_reducible apply State.askSq_memOk | with_reducible apply State.retire_memOk | with_reducible apply memOk_ite | with_reducible apply OutOk_ite | dsimp only | split | intro _)

theorem State.remoteWord_memOk (s : State) (g : BitVec 4) (ops : List Nat) (n : Nat) (write : Bool) (kind : (v cmp : Word) → (l : Nat) → ReqKind) (hyps : Memory.wf s.mem) :
    OutOk (State.remoteWord s g ops n write kind) := by
  unfold State.remoteWord
  repeat' (first | with_reducible assumption | with_reducible apply OutOk_next | with_reducible apply State.retire_memOk | with_reducible apply State.wordFault_memOk | with_reducible apply State.ctx_memOk | with_reducible apply State.holdOn_memOk | with_reducible apply State.watchWord_memOk | with_reducible apply State.dispatch_memOk | with_reducible apply memOk_ite | with_reducible apply OutOk_ite | dsimp only | split | intro _)

theorem execRld_memOk (sd sa : BitVec 5) (g : BitVec 4) (sz : BitVec 2) (s : State) (hyps : Memory.wf s.mem) :
    OutOk (execRld sd sa g sz s) := by
  unfold execRld
  repeat' (first | with_reducible assumption | with_reducible apply OutOk_next | with_reducible apply State.remoteWord_memOk)

theorem execRst_memOk (sd sa sb : BitVec 5) (g : BitVec 4) (sz : BitVec 2) (s : State) (hyps : Memory.wf s.mem) :
    OutOk (execRst sd sa sb g sz s) := by
  unfold execRst
  repeat' (first | with_reducible assumption | with_reducible apply OutOk_next | with_reducible apply State.remoteWord_memOk)

theorem execRamo_memOk (sd sa sb : BitVec 5) (g : BitVec 4) (w : BitVec 1) (op : BitVec 4) (s : State) (hyps : Memory.wf s.mem) :
    OutOk (execRamo sd sa sb g w op s) := by
  unfold execRamo
  repeat' (first | with_reducible assumption | with_reducible apply OutOk_next | with_reducible apply State.remoteWord_memOk)

theorem execRamocas_memOk (sd sa : BitVec 5) (sbh : BitVec 4) (g : BitVec 4) (w : BitVec 1) (s : State) (hyps : Memory.wf s.mem) :
    OutOk (execRamocas sd sa sbh g w s) := by
  unfold execRamocas
  repeat' (first | with_reducible assumption | with_reducible apply OutOk_next | with_reducible apply State.remoteWord_memOk)

theorem State.placeVector_memOk (s : State) (i : Instr) (regs : List (BitVec 5)) (v : Word) (hyps : Memory.wf s.mem) :
    OutOk (State.placeVector s i regs v) := by
  unfold State.placeVector
  repeat' (first | with_reducible assumption | with_reducible apply OutOk_next | with_reducible apply State.ctx_memOk | with_reducible apply State.holdOn_memOk | with_reducible apply State.wordFault_memOk | with_reducible apply State.placeVx_memOk | with_reducible apply memOk_ite | with_reducible apply OutOk_ite | dsimp only | split)

theorem State.placeVmem_memOk (s : State) (i : Instr) (v sa k : BitVec 5) (write : Bool) (hyps : Memory.wf s.mem) :
    OutOk (State.placeVmem s i v sa k write) := by
  unfold State.placeVmem
  repeat' (first | with_reducible assumption | with_reducible apply OutOk_next | with_reducible apply State.ctx_memOk | with_reducible apply State.holdOn_memOk | with_reducible apply State.wordFault_memOk | with_reducible apply State.watchWord_memOk | with_reducible apply State.placeVx_memOk | with_reducible apply memOk_ite | with_reducible apply OutOk_ite | dsimp only | split | intro _)

theorem State.vxIndexed_memOk (s : State) (e : Entry) (scatter : Bool) (vb : BitVec 5) (m : BitVec 3) (ty : BitVec 2)
    {t : State} (heq : State.vxIndexed s e scatter vb m ty = .error t) (hyps : Memory.wf s.mem) : Memory.wf t.mem := by
  unfold State.vxIndexed at heq
  dsimp only at heq
  split at heq
  · cases heq; exact hyps
  · split at heq
    · cases heq; exact hyps
    · cases heq

theorem State.vxGather_memOk (s : State) (k : Core) (e : Entry) (as : List (Nat × Nat)) (hyps : Memory.wf s.mem) :
    Memory.wf (State.vxGather s k e as).mem := by
  unfold State.vxGather
  repeat' (first | with_reducible assumption | with_reducible apply State.askFor_memOk | with_reducible apply State.at_memOk | with_reducible apply State.ctx_memOk)

theorem State.vxServed_memOk (s : State) (j : BankJob) (e : Entry) (hyps : Memory.wf s.mem) :
    Memory.wf (State.vxServed s j e).mem := by
  unfold State.vxServed
  repeat' (first | with_reducible assumption | with_reducible apply State.viewed_memOk | with_reducible apply State.ctx_memOk | with_reducible apply State.vxGather_memOk | with_reducible apply memOk_ite | with_reducible apply OutOk_ite | dsimp only | split)

theorem State.vxStart_memOk (s : State) (c : Ctx) (e : Entry) (i : Instr) (occupancy : Nat) (hyps : Memory.wf s.mem) :
    Memory.wf (State.vxStart s c e i occupancy).mem := by
  unfold State.vxStart
  repeat' (first | with_reducible assumption | with_reducible apply State.ctx_memOk | with_reducible apply State.askFor_memOk)

theorem State.vxStep_memOk (s : State) (e : Entry) (hyps : Memory.wf s.mem) :
    Memory.wf (State.vxStep s e).mem := by
  unfold State.vxStep
  repeat' (first | with_reducible assumption | with_reducible apply State.ctx_memOk | with_reducible apply State.vxStart_memOk | refine State.vxIndexed_memOk _ _ _ _ _ _ (by assumption) ?_ | with_reducible apply memOk_ite | with_reducible apply OutOk_ite | dsimp only | split)

theorem execVadd_memOk (vd : BitVec 5) (va : BitVec 5) (vb : BitVec 5) (bs : BitVec 1) (mask : BitVec 3) (ty : BitVec 2) (idle : BitVec 2) (s : State) (hyps : Memory.wf s.mem) :
    OutOk (execVadd vd va vb bs mask ty idle s) := by
  unfold execVadd
  repeat' (first | with_reducible assumption | with_reducible apply OutOk_next | with_reducible apply State.placeVector_memOk)

theorem execVsub_memOk (vd : BitVec 5) (va : BitVec 5) (vb : BitVec 5) (bs : BitVec 1) (mask : BitVec 3) (ty : BitVec 2) (idle : BitVec 2) (s : State) (hyps : Memory.wf s.mem) :
    OutOk (execVsub vd va vb bs mask ty idle s) := by
  unfold execVsub
  repeat' (first | with_reducible assumption | with_reducible apply OutOk_next | with_reducible apply State.placeVector_memOk)

theorem execVmul_memOk (vd : BitVec 5) (va : BitVec 5) (vb : BitVec 5) (bs : BitVec 1) (mask : BitVec 3) (ty : BitVec 2) (idle : BitVec 2) (s : State) (hyps : Memory.wf s.mem) :
    OutOk (execVmul vd va vb bs mask ty idle s) := by
  unfold execVmul
  repeat' (first | with_reducible assumption | with_reducible apply OutOk_next | with_reducible apply State.placeVector_memOk)

theorem execVfma_memOk (vd : BitVec 5) (va : BitVec 5) (vb : BitVec 5) (bs : BitVec 1) (mask : BitVec 3) (ty : BitVec 2) (idle : BitVec 2) (s : State) (hyps : Memory.wf s.mem) :
    OutOk (execVfma vd va vb bs mask ty idle s) := by
  unfold execVfma
  repeat' (first | with_reducible assumption | with_reducible apply OutOk_next | with_reducible apply State.placeVector_memOk)

theorem execVmin_memOk (vd : BitVec 5) (va : BitVec 5) (vb : BitVec 5) (bs : BitVec 1) (mask : BitVec 3) (ty : BitVec 2) (idle : BitVec 2) (s : State) (hyps : Memory.wf s.mem) :
    OutOk (execVmin vd va vb bs mask ty idle s) := by
  unfold execVmin
  repeat' (first | with_reducible assumption | with_reducible apply OutOk_next | with_reducible apply State.placeVector_memOk)

theorem execVmax_memOk (vd : BitVec 5) (va : BitVec 5) (vb : BitVec 5) (bs : BitVec 1) (mask : BitVec 3) (ty : BitVec 2) (idle : BitVec 2) (s : State) (hyps : Memory.wf s.mem) :
    OutOk (execVmax vd va vb bs mask ty idle s) := by
  unfold execVmax
  repeat' (first | with_reducible assumption | with_reducible apply OutOk_next | with_reducible apply State.placeVector_memOk)

theorem execVabs_memOk (vd : BitVec 5) (va : BitVec 5) (mask : BitVec 3) (ty : BitVec 2) (idle : BitVec 2) (s : State) (hyps : Memory.wf s.mem) :
    OutOk (execVabs vd va mask ty idle s) := by
  unfold execVabs
  repeat' (first | with_reducible assumption | with_reducible apply OutOk_next | with_reducible apply State.placeVector_memOk)

theorem execVneg_memOk (vd : BitVec 5) (va : BitVec 5) (mask : BitVec 3) (ty : BitVec 2) (idle : BitVec 2) (s : State) (hyps : Memory.wf s.mem) :
    OutOk (execVneg vd va mask ty idle s) := by
  unfold execVneg
  repeat' (first | with_reducible assumption | with_reducible apply OutOk_next | with_reducible apply State.placeVector_memOk)

theorem execVand_memOk (vd : BitVec 5) (va : BitVec 5) (vb : BitVec 5) (bs : BitVec 1) (mask : BitVec 3) (ty : BitVec 2) (idle : BitVec 2) (s : State) (hyps : Memory.wf s.mem) :
    OutOk (execVand vd va vb bs mask ty idle s) := by
  unfold execVand
  repeat' (first | with_reducible assumption | with_reducible apply OutOk_next | with_reducible apply State.placeVector_memOk)

theorem execVor_memOk (vd : BitVec 5) (va : BitVec 5) (vb : BitVec 5) (bs : BitVec 1) (mask : BitVec 3) (ty : BitVec 2) (idle : BitVec 2) (s : State) (hyps : Memory.wf s.mem) :
    OutOk (execVor vd va vb bs mask ty idle s) := by
  unfold execVor
  repeat' (first | with_reducible assumption | with_reducible apply OutOk_next | with_reducible apply State.placeVector_memOk)

theorem execVxor_memOk (vd : BitVec 5) (va : BitVec 5) (vb : BitVec 5) (bs : BitVec 1) (mask : BitVec 3) (ty : BitVec 2) (idle : BitVec 2) (s : State) (hyps : Memory.wf s.mem) :
    OutOk (execVxor vd va vb bs mask ty idle s) := by
  unfold execVxor
  repeat' (first | with_reducible assumption | with_reducible apply OutOk_next | with_reducible apply State.placeVector_memOk)

theorem execVandn_memOk (vd : BitVec 5) (va : BitVec 5) (vb : BitVec 5) (bs : BitVec 1) (mask : BitVec 3) (ty : BitVec 2) (idle : BitVec 2) (s : State) (hyps : Memory.wf s.mem) :
    OutOk (execVandn vd va vb bs mask ty idle s) := by
  unfold execVandn
  repeat' (first | with_reducible assumption | with_reducible apply OutOk_next | with_reducible apply State.placeVector_memOk)

theorem execVshl_memOk (vd : BitVec 5) (va : BitVec 5) (vb : BitVec 5) (bs : BitVec 1) (mask : BitVec 3) (ty : BitVec 2) (idle : BitVec 2) (s : State) (hyps : Memory.wf s.mem) :
    OutOk (execVshl vd va vb bs mask ty idle s) := by
  unfold execVshl
  repeat' (first | with_reducible assumption | with_reducible apply OutOk_next | with_reducible apply State.placeVector_memOk)

theorem execVshr_memOk (vd : BitVec 5) (va : BitVec 5) (vb : BitVec 5) (bs : BitVec 1) (mask : BitVec 3) (ty : BitVec 2) (idle : BitVec 2) (s : State) (hyps : Memory.wf s.mem) :
    OutOk (execVshr vd va vb bs mask ty idle s) := by
  unfold execVshr
  repeat' (first | with_reducible assumption | with_reducible apply OutOk_next | with_reducible apply State.placeVector_memOk)

theorem execVsra_memOk (vd : BitVec 5) (va : BitVec 5) (vb : BitVec 5) (bs : BitVec 1) (mask : BitVec 3) (ty : BitVec 2) (idle : BitVec 2) (s : State) (hyps : Memory.wf s.mem) :
    OutOk (execVsra vd va vb bs mask ty idle s) := by
  unfold execVsra
  repeat' (first | with_reducible assumption | with_reducible apply OutOk_next | with_reducible apply State.placeVector_memOk)

theorem execVcmp_memOk (cond : BitVec 2) (md : BitVec 3) (va : BitVec 5) (vb : BitVec 5) (bs : BitVec 1) (mask : BitVec 3) (ty : BitVec 2) (idle : BitVec 2) (s : State) (hyps : Memory.wf s.mem) :
    OutOk (execVcmp cond md va vb bs mask ty idle s) := by
  unfold execVcmp
  repeat' (first | with_reducible assumption | with_reducible apply OutOk_next | with_reducible apply State.placeVector_memOk)

theorem execVsel_memOk (vd : BitVec 5) (va : BitVec 5) (vb : BitVec 5) (bs : BitVec 1) (mask : BitVec 3) (ty : BitVec 2) (idle : BitVec 2) (s : State) (hyps : Memory.wf s.mem) :
    OutOk (execVsel vd va vb bs mask ty idle s) := by
  unfold execVsel
  repeat' (first | with_reducible assumption | with_reducible apply OutOk_next | with_reducible apply State.placeVector_memOk)

theorem execVcvt_memOk (vd : BitVec 5) (va : BitVec 5) (code : BitVec 5) (bs : BitVec 1) (mask : BitVec 3) (idle : BitVec 2) (s : State) (hyps : Memory.wf s.mem) :
    OutOk (execVcvt vd va code bs mask idle s) := by
  unfold execVcvt
  repeat' (first | with_reducible assumption | with_reducible apply OutOk_next | with_reducible apply State.placeVector_memOk)

theorem execVrint_memOk (vd : BitVec 5) (va : BitVec 5) (mask : BitVec 3) (ty : BitVec 2) (idle : BitVec 2) (s : State) (hyps : Memory.wf s.mem) :
    OutOk (execVrint vd va mask ty idle s) := by
  unfold execVrint
  repeat' (first | with_reducible assumption | with_reducible apply OutOk_next | with_reducible apply State.placeVector_memOk)

theorem execVrcp_memOk (vd : BitVec 5) (va : BitVec 5) (mask : BitVec 3) (ty : BitVec 2) (idle : BitVec 2) (s : State) (hyps : Memory.wf s.mem) :
    OutOk (execVrcp vd va mask ty idle s) := by
  unfold execVrcp
  repeat' (first | with_reducible assumption | with_reducible apply OutOk_next | with_reducible apply State.placeVector_memOk)

theorem execVrsq_memOk (vd : BitVec 5) (va : BitVec 5) (mask : BitVec 3) (ty : BitVec 2) (idle : BitVec 2) (s : State) (hyps : Memory.wf s.mem) :
    OutOk (execVrsq vd va mask ty idle s) := by
  unfold execVrsq
  repeat' (first | with_reducible assumption | with_reducible apply OutOk_next | with_reducible apply State.placeVector_memOk)

theorem execVexp2_memOk (vd : BitVec 5) (va : BitVec 5) (mask : BitVec 3) (ty : BitVec 2) (idle : BitVec 2) (s : State) (hyps : Memory.wf s.mem) :
    OutOk (execVexp2 vd va mask ty idle s) := by
  unfold execVexp2
  repeat' (first | with_reducible assumption | with_reducible apply OutOk_next | with_reducible apply State.placeVector_memOk)

theorem execVlog2_memOk (vd : BitVec 5) (va : BitVec 5) (mask : BitVec 3) (ty : BitVec 2) (idle : BitVec 2) (s : State) (hyps : Memory.wf s.mem) :
    OutOk (execVlog2 vd va mask ty idle s) := by
  unfold execVlog2
  repeat' (first | with_reducible assumption | with_reducible apply OutOk_next | with_reducible apply State.placeVector_memOk)

theorem execVred_memOk (vd : BitVec 5) (va : BitVec 5) (op : BitVec 3) (mask : BitVec 3) (ty : BitVec 2) (idle : BitVec 2) (s : State) (hyps : Memory.wf s.mem) :
    OutOk (execVred vd va op mask ty idle s) := by
  unfold execVred
  repeat' (first | with_reducible assumption | with_reducible apply OutOk_next | with_reducible apply State.placeVector_memOk)

theorem execVscan_memOk (vd : BitVec 5) (va : BitVec 5) (op : BitVec 3) (mask : BitVec 3) (ty : BitVec 2) (idle : BitVec 2) (s : State) (hyps : Memory.wf s.mem) :
    OutOk (execVscan vd va op mask ty idle s) := by
  unfold execVscan
  repeat' (first | with_reducible assumption | with_reducible apply OutOk_next | with_reducible apply State.placeVector_memOk)

theorem execVperm_memOk (vd : BitVec 5) (va : BitVec 5) (vb : BitVec 5) (bs : BitVec 1) (mask : BitVec 3) (ty : BitVec 2) (idle : BitVec 2) (s : State) (hyps : Memory.wf s.mem) :
    OutOk (execVperm vd va vb bs mask ty idle s) := by
  unfold execVperm
  repeat' (first | with_reducible assumption | with_reducible apply OutOk_next | with_reducible apply State.placeVector_memOk)

theorem execVrot_memOk (vd : BitVec 5) (va : BitVec 5) (sb : BitVec 5) (mask : BitVec 3) (ty : BitVec 2) (idle : BitVec 2) (s : State) (hyps : Memory.wf s.mem) :
    OutOk (execVrot vd va sb mask ty idle s) := by
  unfold execVrot
  repeat' (first | with_reducible assumption | with_reducible apply OutOk_next | with_reducible apply State.placeVector_memOk)

theorem execVlane_memOk (vd : BitVec 5) (va : BitVec 5) (sb : BitVec 5) (mask : BitVec 3) (ty : BitVec 2) (idle : BitVec 2) (s : State) (hyps : Memory.wf s.mem) :
    OutOk (execVlane vd va sb mask ty idle s) := by
  unfold execVlane
  repeat' (first | with_reducible assumption | with_reducible apply OutOk_next | with_reducible apply State.placeVector_memOk)

theorem execVpack_memOk (vd : BitVec 5) (va : BitVec 5) (vb : BitVec 5) (bs : BitVec 1) (mask : BitVec 3) (ty : BitVec 2) (idle : BitVec 2) (s : State) (hyps : Memory.wf s.mem) :
    OutOk (execVpack vd va vb bs mask ty idle s) := by
  unfold execVpack
  repeat' (first | with_reducible assumption | with_reducible apply OutOk_next | with_reducible apply State.placeVector_memOk)

theorem execVunpack_memOk (vd : BitVec 5) (va : BitVec 5) (h : BitVec 1) (mask : BitVec 3) (ty : BitVec 2) (idle : BitVec 2) (s : State) (hyps : Memory.wf s.mem) :
    OutOk (execVunpack vd va h mask ty idle s) := by
  unfold execVunpack
  repeat' (first | with_reducible assumption | with_reducible apply OutOk_next | with_reducible apply State.placeVector_memOk)

theorem execVmov_memOk (vd : BitVec 5) (va : BitVec 5) (mask : BitVec 3) (ty : BitVec 2) (idle : BitVec 2) (s : State) (hyps : Memory.wf s.mem) :
    OutOk (execVmov vd va mask ty idle s) := by
  unfold execVmov
  repeat' (first | with_reducible assumption | with_reducible apply OutOk_next | with_reducible apply State.placeVector_memOk)

theorem execVmovBroadcast_memOk (vd : BitVec 5) (sb : BitVec 5) (mask : BitVec 3) (ty : BitVec 2) (idle : BitVec 2) (s : State) (hyps : Memory.wf s.mem) :
    OutOk (execVmovBroadcast vd sb mask ty idle s) := by
  unfold execVmovBroadcast
  repeat' (first | with_reducible assumption | with_reducible apply OutOk_next | with_reducible apply State.placeVector_memOk)

theorem execVmlog_memOk (md : BitVec 3) (ma : BitVec 3) (mb : BitVec 3) (op : BitVec 2) (idle : BitVec 2) (s : State) (hyps : Memory.wf s.mem) :
    OutOk (execVmlog md ma mb op idle s) := by
  unfold execVmlog
  repeat' (first | with_reducible assumption | with_reducible apply OutOk_next | with_reducible apply State.placeVector_memOk)

theorem execVmpop_memOk (vd : BitVec 5) (ma : BitVec 3) (mask : BitVec 3) (ty : BitVec 2) (idle : BitVec 2) (s : State) (hyps : Memory.wf s.mem) :
    OutOk (execVmpop vd ma mask ty idle s) := by
  unfold execVmpop
  repeat' (first | with_reducible assumption | with_reducible apply OutOk_next | with_reducible apply State.placeVector_memOk)

theorem execVdot2_memOk (vd : BitVec 5) (va : BitVec 5) (vb : BitVec 5) (bs : BitVec 1) (mask : BitVec 3) (ty : BitVec 2) (idle : BitVec 2) (s : State) (hyps : Memory.wf s.mem) :
    OutOk (execVdot2 vd va vb bs mask ty idle s) := by
  unfold execVdot2
  repeat' (first | with_reducible assumption | with_reducible apply OutOk_next | with_reducible apply State.placeVector_memOk)

theorem execVld_memOk (vd : BitVec 5) (sa : BitVec 5) (k : BitVec 5) (mask : BitVec 3) (ty : BitVec 2) (idle : BitVec 2) (s : State) (hyps : Memory.wf s.mem) :
    OutOk (execVld vd sa k mask ty idle s) := by
  unfold execVld
  repeat' (first | with_reducible assumption | with_reducible apply OutOk_next | with_reducible apply State.placeVmem_memOk)

theorem execVst_memOk (vd : BitVec 5) (sa : BitVec 5) (k : BitVec 5) (mask : BitVec 3) (ty : BitVec 2) (idle : BitVec 2) (s : State) (hyps : Memory.wf s.mem) :
    OutOk (execVst vd sa k mask ty idle s) := by
  unfold execVst
  repeat' (first | with_reducible assumption | with_reducible apply OutOk_next | with_reducible apply State.placeVmem_memOk)

theorem execVgath_memOk (vd : BitVec 5) (sa : BitVec 5) (vb : BitVec 5) (mask : BitVec 3) (ty : BitVec 2) (idle : BitVec 2) (s : State) (hyps : Memory.wf s.mem) :
    OutOk (execVgath vd sa vb mask ty idle s) := by
  unfold execVgath
  repeat' (first | with_reducible assumption | with_reducible apply OutOk_next | with_reducible apply State.placeVector_memOk)

theorem execVscat_memOk (vd : BitVec 5) (sa : BitVec 5) (vb : BitVec 5) (mask : BitVec 3) (ty : BitVec 2) (idle : BitVec 2) (s : State) (hyps : Memory.wf s.mem) :
    OutOk (execVscat vd sa vb mask ty idle s) := by
  unfold execVscat
  repeat' (first | with_reducible assumption | with_reducible apply OutOk_next | with_reducible apply State.placeVector_memOk)

theorem State.readIndex_memOk (s : State) (e : Entry) (hyps : Memory.wf s.mem) :
    Memory.wf (State.readIndex s e).mem := by
  unfold State.readIndex
  repeat' (first | with_reducible assumption | with_reducible apply State.ctx_memOk)

theorem State.chunkServed_memOk (s : State) (e : Entry) (b n : Nat) (hyps : Memory.wf s.mem) :
    Memory.wf (State.chunkServed s e b n).mem := by
  unfold State.chunkServed
  repeat' (first | with_reducible assumption | with_reducible apply State.ctx_memOk)

theorem State.timedAsk_memOk (s : State) (e : Entry) (reading : Bool) (hyps : Memory.wf s.mem) :
    Memory.wf (State.timedAsk s e reading).mem := by
  unfold State.timedAsk
  repeat' (first | with_reducible assumption | with_reducible apply State.ctx_memOk | with_reducible apply State.chunkServed_memOk | with_reducible apply State.askFor_memOk | with_reducible apply memOk_ite | with_reducible apply OutOk_ite | dsimp only | split)

theorem State.homeOf_fst (s : State) (kind : Nat) (l : Loc) (landed : Nat) (hyps : Memory.wf s.mem) :
    Memory.wf (State.homeOf s kind l landed).1.mem := by
  unfold State.homeOf
  repeat' (first | with_reducible assumption | with_reducible apply State.at_memOk | refine State.translate_memOk _ _ _ _ (by assumption) ?_ | with_reducible apply State.translate_fst | with_reducible apply memOk_ite | with_reducible apply OutOk_ite | dsimp only | split)

theorem State.homeOf_memOk (s : State) (kind : Nat) (l : Loc) (landed : Nat) {t : State} {x} (heq : State.homeOf s kind l landed = (t, x)) (hyps : Memory.wf s.mem) :
    Memory.wf t.mem := by
  have h := State.homeOf_fst s kind l landed hyps
  rw [heq] at h
  exact h

/-- A run's sending leaves device memory in its canonical form. -/
def SentOk : Sent → Prop
  | .sent s _ => Memory.wf s.mem
  | .stall s => Memory.wf s.mem
  | .fault s _ _ => Memory.wf s.mem

theorem SentOk_sent {s : State} {n : Nat} (h : Memory.wf s.mem) : SentOk (.sent s n) := h

theorem State.sendRun_memOk (s : State) (e : Entry) (b n : Nat) (src dst : Loc) (hyps : Memory.wf s.mem) :
    SentOk (s.sendRun e b n src dst) := by
  have h1 : Memory.wf (if src.remote then s.homeOf permR src e.prefixLen else (s, .at 0 0) : State × Xlat).1.mem := by
    split
    · exact State.homeOf_fst _ _ _ _ hyps
    · exact hyps
  unfold State.sendRun
  generalize (if src.remote then s.homeOf permR src e.prefixLen else (s, .at 0 0) : State × Xlat) = p at h1 ⊢
  obtain ⟨s1, x⟩ := p
  rcases x with ⟨sm, spa⟩ | _ | c
  · have h2 : Memory.wf (if dst.remote then s1.homeOf permW dst e.prefixLen else (s1, .at 0 0) : State × Xlat).1.mem := by
      split
      · exact State.homeOf_fst _ _ _ _ h1
      · exact h1
    dsimp only
    generalize (if dst.remote then s1.homeOf permW dst e.prefixLen else (s1, .at 0 0) : State × Xlat) = q at h2 ⊢
    obtain ⟨s2, y⟩ := q
    rcases y with ⟨dm, dpa⟩ | _ | c
    · dsimp only at h2 ⊢
      repeat' (first | with_reducible assumption | with_reducible apply State.ctx_memOk | with_reducible apply State.dispatch_memOk | with_reducible apply memOk_ite | with_reducible apply SentOk_sent | with_reducible apply State.askEntryAt_memOk | with_reducible apply State.fresh_memOk | with_reducible apply State.ask_memOk | split)
    · exact h2
    · exact h2
  · exact h1
  · exact h1

theorem State.sendRuns_memOk (s : State) (e : Entry) (b n : Nat) (src : Loc) (l : List Loc) (hyps : Memory.wf s.mem) :
    SentOk (s.sendRuns e b n src l) := by
  induction l generalizing s with
  | nil => exact hyps
  | cons d r ih =>
    have h := State.sendRun_memOk s e b n src d hyps
    unfold State.sendRuns
    generalize s.sendRun e b n src d = x at h ⊢
    cases x with
    | sent t m => exact ih t h
    | stall t => exact h
    | fault t c a => exact h

theorem State.sendBytes_memOk (n : Nat) (s : State) (uid budget : Nat) (hyps : Memory.wf s.mem) :
    Memory.wf (State.sendBytes n s uid budget).mem := by
  induction n generalizing s budget with
  | zero => exact hyps
  | succ n ih =>
    unfold State.sendBytes
    split
    · exact hyps
    · rename_i e _
      split
      · exact hyps
      · extract_lets part own k
        split
        · exact hyps
        · split
          · exact State.ctx_memOk _ _ hyps
          · generalize s.runChecks e true ((List.range k).map (· + e.sent)) s.core.ctx 0 = q
            obtain ⟨c, k', f⟩ := q
            dsimp only
            have h1 : Memory.wf ({ s with core := { s.core with ctx := c } } : State).mem := hyps
            generalize ({ s with core := { s.core with ctx := c } } : State) = t at h1 ⊢
            split
            · split
              · exact State.ctx_memOk _ _ h1
              · exact h1
            · split
              · exact ih _ _ (State.ctx_memOk _ _ (State.ctx_memOk _ _ h1))
              · rename_i src _
                have h2 := State.sendRuns_memOk t e e.sent k' src (e.dstAt own part e.sent) h1
                generalize t.sendRuns e e.sent k' src (e.dstAt own part e.sent) = x at h2 ⊢
                cases x with
                | sent u m => exact ih _ _ (State.ctx_memOk _ _ h2)
                | stall u => exact h2
                | fault u c a => exact State.ctx_memOk _ _ h2

theorem State.gatedCycle_memOk (s : State) (e : Entry) (hyps : Memory.wf s.mem) :
    Memory.wf (State.gatedCycle s e).mem := by
  unfold State.gatedCycle
  repeat' (first | with_reducible assumption | with_reducible apply State.readIndex_memOk | with_reducible apply State.ctx_memOk | with_reducible apply State.sendBytes_memOk | with_reducible apply memOk_ite | with_reducible apply OutOk_ite | dsimp only | split)

theorem State.copymWords_memOk (s : State) (e : Entry) (cids : List Nat) (hyps : Memory.wf s.mem) :
    Memory.wf (State.copymWords s e cids).mem := by
  unfold State.copymWords
  repeat' (first | with_reducible assumption | with_reducible apply OutOk_next | with_reducible apply State.ctx_memOk | with_reducible apply State.dispatch_memOk | with_reducible apply State.askFor_memOk | with_reducible apply foldl_memOk | with_reducible apply memOk_ite | with_reducible apply OutOk_ite | dsimp only | split | intro _)

theorem State.moverCycle_memOk (s : State) (e : Entry) (hyps : Memory.wf s.mem) :
    Memory.wf (State.moverCycle s e).mem := by
  unfold State.moverCycle
  repeat' (first | with_reducible assumption | with_reducible apply State.readIndex_memOk | with_reducible apply State.gatedCycle_memOk | with_reducible apply State.ctx_memOk | with_reducible apply State.copymWords_memOk | with_reducible apply memOk_ite | with_reducible apply OutOk_ite | dsimp only | split)

theorem State.judge_memOk (s : State) (u : Unit7) (op : Nat) (slots : Entry → Bool) (start : Entry → State) (hyps : Memory.wf s.mem) (hypstart : ∀ x0, Memory.wf (start x0).mem) :
    OutOk (State.judge s u op slots start) := by
  unfold State.judge
  repeat' (first | with_reducible assumption | with_reducible apply OutOk_next | with_reducible apply State.ctx_memOk | with_reducible apply hypstart | with_reducible apply memOk_ite | with_reducible apply OutOk_ite | dsimp only | split)

theorem State.startChecked_memOk (s : State) (e : Entry) (c : Chk (Entry × Nat)) (hyps : Memory.wf s.mem) :
    Memory.wf (State.startChecked s e c).mem := by
  unfold State.startChecked
  repeat' (first | with_reducible assumption | with_reducible apply State.ctx_memOk | with_reducible apply memOk_ite | with_reducible apply OutOk_ite | dsimp only | split)

theorem execLdStrm_memOk (s : State) (hyps : Memory.wf s.mem) :
    OutOk (execLdStrm s) := by
  unfold execLdStrm
  repeat' (first | with_reducible assumption | with_reducible apply OutOk_next | with_reducible apply State.judge_memOk | with_reducible apply State.startChecked_memOk | with_reducible apply memOk_ite | with_reducible apply OutOk_ite | dsimp only | split | intro _)

theorem execLdVec_memOk (s : State) (hyps : Memory.wf s.mem) :
    OutOk (execLdVec s) := by
  unfold execLdVec
  repeat' (first | with_reducible assumption | with_reducible apply OutOk_next | with_reducible apply State.judge_memOk | with_reducible apply State.startChecked_memOk | with_reducible apply State.ctx_memOk | with_reducible apply memOk_ite | with_reducible apply OutOk_ite | dsimp only | split | intro _)

theorem execLdAcc_memOk (s : State) (hyps : Memory.wf s.mem) :
    OutOk (execLdAcc s) := by
  unfold execLdAcc
  repeat' (first | with_reducible assumption | with_reducible apply OutOk_next | with_reducible apply State.judge_memOk | with_reducible apply State.startChecked_memOk | with_reducible apply State.ctx_memOk | with_reducible apply memOk_ite | with_reducible apply OutOk_ite | dsimp only | split | intro _)

theorem execStStrm_memOk (s : State) (hyps : Memory.wf s.mem) :
    OutOk (execStStrm s) := by
  unfold execStStrm
  repeat' (first | with_reducible assumption | with_reducible apply OutOk_next | with_reducible apply State.judge_memOk | with_reducible apply State.startChecked_memOk | with_reducible apply memOk_ite | with_reducible apply OutOk_ite | dsimp only | split | intro _)

theorem execStVec_memOk (s : State) (hyps : Memory.wf s.mem) :
    OutOk (execStVec s) := by
  unfold execStVec
  repeat' (first | with_reducible assumption | with_reducible apply OutOk_next | with_reducible apply State.judge_memOk | with_reducible apply State.startChecked_memOk | with_reducible apply State.ctx_memOk | with_reducible apply memOk_ite | with_reducible apply OutOk_ite | dsimp only | split | intro _)

theorem execStAcc_memOk (s : State) (hyps : Memory.wf s.mem) :
    OutOk (execStAcc s) := by
  unfold execStAcc
  repeat' (first | with_reducible assumption | with_reducible apply OutOk_next | with_reducible apply State.judge_memOk | with_reducible apply State.ctx_memOk | with_reducible apply memOk_ite | with_reducible apply OutOk_ite | dsimp only | split | intro _)

theorem execQTok_memOk (s : State) (hyps : Memory.wf s.mem) :
    OutOk (execQTok s) := by
  unfold execQTok
  repeat' (first | with_reducible assumption | with_reducible apply OutOk_next | with_reducible apply State.judge_memOk | with_reducible apply State.ctx_memOk | with_reducible apply memOk_ite | with_reducible apply OutOk_ite | dsimp only | split | intro _)

theorem State.mxStart_memOk (s : State) (e : Entry) (c : Chk Entry) (hyps : Memory.wf s.mem) :
    Memory.wf (State.mxStart s e c).mem := by
  unfold State.mxStart
  repeat' (first | with_reducible assumption | with_reducible apply State.ctx_memOk | with_reducible apply memOk_ite | with_reducible apply OutOk_ite | dsimp only | split)

theorem execMxMma_memOk (s : State) (hyps : Memory.wf s.mem) :
    OutOk (execMxMma s) := by
  unfold execMxMma
  repeat' (first | with_reducible assumption | with_reducible apply OutOk_next | with_reducible apply State.judge_memOk | with_reducible apply State.mxStart_memOk | with_reducible apply State.ctx_memOk | with_reducible apply memOk_ite | with_reducible apply OutOk_ite | dsimp only | split | intro _)

theorem execMxMmac_memOk (s : State) (hyps : Memory.wf s.mem) :
    OutOk (execMxMmac s) := by
  unfold execMxMmac
  repeat' (first | with_reducible assumption | with_reducible apply OutOk_next | with_reducible apply State.judge_memOk | with_reducible apply State.mxStart_memOk | with_reducible apply State.ctx_memOk | with_reducible apply memOk_ite | with_reducible apply OutOk_ite | dsimp only | split | intro _)

theorem execMxMmi_memOk (s : State) (hyps : Memory.wf s.mem) :
    OutOk (execMxMmi s) := by
  unfold execMxMmi
  repeat' (first | with_reducible assumption | with_reducible apply OutOk_next | with_reducible apply State.judge_memOk | with_reducible apply State.mxStart_memOk | with_reducible apply State.ctx_memOk | with_reducible apply memOk_ite | with_reducible apply OutOk_ite | dsimp only | split | intro _)

theorem execMxZero_memOk (s : State) (hyps : Memory.wf s.mem) :
    OutOk (execMxZero s) := by
  unfold execMxZero
  repeat' (first | with_reducible assumption | with_reducible apply OutOk_next | with_reducible apply State.judge_memOk | with_reducible apply State.mxStart_memOk | with_reducible apply State.ctx_memOk | with_reducible apply memOk_ite | with_reducible apply OutOk_ite | dsimp only | split | intro _)

theorem execMxLsf_memOk (s : State) (hyps : Memory.wf s.mem) :
    OutOk (execMxLsf s) := by
  unfold execMxLsf
  repeat' (first | with_reducible assumption | with_reducible apply OutOk_next | with_reducible apply State.judge_memOk | with_reducible apply State.ctx_memOk | with_reducible apply State.mxStart_memOk | with_reducible apply memOk_ite | with_reducible apply OutOk_ite | dsimp only | split | intro _)

theorem execMxTov_memOk (s : State) (hyps : Memory.wf s.mem) :
    OutOk (execMxTov s) := by
  unfold execMxTov
  repeat' (first | with_reducible assumption | with_reducible apply OutOk_next | with_reducible apply State.judge_memOk | with_reducible apply State.mxStart_memOk | with_reducible apply State.ctx_memOk | with_reducible apply memOk_ite | with_reducible apply OutOk_ite | dsimp only | split | intro _)

theorem execMxFromv_memOk (s : State) (hyps : Memory.wf s.mem) :
    OutOk (execMxFromv s) := by
  unfold execMxFromv
  repeat' (first | with_reducible assumption | with_reducible apply OutOk_next | with_reducible apply State.judge_memOk | with_reducible apply State.mxStart_memOk | with_reducible apply State.ctx_memOk | with_reducible apply memOk_ite | with_reducible apply OutOk_ite | dsimp only | split | intro _)

theorem State.mxFetch_memOk (s : State) (e : Entry) (hyps : Memory.wf s.mem) :
    Memory.wf (State.mxFetch s e).mem := by
  unfold State.mxFetch
  repeat' (first | with_reducible assumption | with_reducible apply State.ctx_memOk)

theorem State.mxCompute_memOk (s : State) (e : Entry) (hyps : Memory.wf s.mem) :
    Memory.wf (State.mxCompute s e).mem := by
  unfold State.mxCompute
  repeat' (first | with_reducible assumption)

theorem State.mxCycle_memOk (s : State) (e : Entry) (hyps : Memory.wf s.mem) :
    Memory.wf (State.mxCycle s e).mem := by
  unfold State.mxCycle
  repeat' (first | with_reducible assumption | with_reducible apply State.mxFetch_memOk | with_reducible apply State.mxCompute_memOk | with_reducible apply memOk_ite)

theorem State.copyStart_memOk (s : State) (e : Entry) (hyps : Memory.wf s.mem) :
    Memory.wf (State.copyStart s e).mem := by
  unfold State.copyStart
  repeat' (first | with_reducible assumption | with_reducible apply State.ctx_memOk | with_reducible apply memOk_ite | with_reducible apply OutOk_ite | dsimp only | split)

theorem execCpCopy_memOk (s : State) (hyps : Memory.wf s.mem) :
    OutOk (execCpCopy s) := by
  unfold execCpCopy
  repeat' (first | with_reducible assumption | with_reducible apply OutOk_next | with_reducible apply State.judge_memOk | with_reducible apply State.copyStart_memOk | with_reducible apply memOk_ite | with_reducible apply OutOk_ite | dsimp only | split | intro _)

theorem execCpCopym_memOk (s : State) (hyps : Memory.wf s.mem) :
    OutOk (execCpCopym s) := by
  unfold execCpCopym
  repeat' (first | with_reducible assumption | with_reducible apply OutOk_next | with_reducible apply State.judge_memOk | with_reducible apply State.copyStart_memOk | with_reducible apply memOk_ite | with_reducible apply OutOk_ite | dsimp only | split | intro _)

theorem execCpFill_memOk (s : State) (hyps : Memory.wf s.mem) :
    OutOk (execCpFill s) := by
  unfold execCpFill
  repeat' (first | with_reducible assumption | with_reducible apply OutOk_next | with_reducible apply State.judge_memOk | with_reducible apply State.copyStart_memOk | with_reducible apply memOk_ite | with_reducible apply OutOk_ite | dsimp only | split | intro _)

theorem execCpGath_memOk (s : State) (hyps : Memory.wf s.mem) :
    OutOk (execCpGath s) := by
  unfold execCpGath
  repeat' (first | with_reducible assumption | with_reducible apply OutOk_next | with_reducible apply State.judge_memOk | with_reducible apply State.copyStart_memOk | with_reducible apply memOk_ite | with_reducible apply OutOk_ite | dsimp only | split | intro _)

theorem execCpScat_memOk (s : State) (hyps : Memory.wf s.mem) :
    OutOk (execCpScat s) := by
  unfold execCpScat
  repeat' (first | with_reducible assumption | with_reducible apply OutOk_next | with_reducible apply State.judge_memOk | with_reducible apply State.copyStart_memOk | with_reducible apply memOk_ite | with_reducible apply OutOk_ite | dsimp only | split | intro _)

theorem execCpPut_memOk (s : State) (hyps : Memory.wf s.mem) :
    OutOk (execCpPut s) := by
  unfold execCpPut
  repeat' (first | with_reducible assumption | with_reducible apply OutOk_next | with_reducible apply State.judge_memOk | with_reducible apply State.copyStart_memOk | with_reducible apply memOk_ite | with_reducible apply OutOk_ite | dsimp only | split | intro _)

theorem execCpGet_memOk (s : State) (hyps : Memory.wf s.mem) :
    OutOk (execCpGet s) := by
  unfold execCpGet
  repeat' (first | with_reducible assumption | with_reducible apply OutOk_next | with_reducible apply State.judge_memOk | with_reducible apply State.copyStart_memOk | with_reducible apply memOk_ite | with_reducible apply OutOk_ite | dsimp only | split | intro _)

theorem execCpGput_memOk (s : State) (hyps : Memory.wf s.mem) :
    OutOk (execCpGput s) := by
  unfold execCpGput
  repeat' (first | with_reducible assumption | with_reducible apply OutOk_next | with_reducible apply State.judge_memOk | with_reducible apply State.copyStart_memOk | with_reducible apply memOk_ite | with_reducible apply OutOk_ite | dsimp only | split | intro _)

theorem State.completionWrite_memOk (s : State) (e : Entry) (hyps : Memory.wf s.mem) :
    Memory.wf (State.completionWrite s e).mem := by
  unfold State.completionWrite
  repeat' (first | with_reducible assumption | with_reducible apply OutOk_next | with_reducible apply State.ctx_memOk | with_reducible apply State.ask_memOk | with_reducible apply State.dispatch_memOk | with_reducible apply State.fresh_memOk | with_reducible apply State.askEntryAt_memOk | with_reducible apply memOk_ite)

theorem State.completions_memOk (s : State) (e : Entry) (hyps : Memory.wf s.mem) :
    Memory.wf (State.completions s e).mem := by
  unfold State.completions
  repeat' (first | with_reducible assumption | with_reducible apply State.ctx_memOk | with_reducible apply State.copymWords_memOk | with_reducible apply State.completionWrite_memOk | with_reducible apply memOk_ite)

theorem execCopyEnd_memOk (uid : Nat) (s : State) (hyps : Memory.wf s.mem) :
    OutOk (execCopyEnd uid s) := by
  unfold execCopyEnd
  repeat' (first | with_reducible assumption | with_reducible apply OutOk_next | with_reducible apply State.ctx_memOk | with_reducible apply State.enqueue_memOk | with_reducible apply State.completions_memOk | with_reducible apply foldl_memOk | with_reducible apply memOk_ite | with_reducible apply OutOk_ite | dsimp only | split)

theorem execCopyFault_memOk (uid : Nat) (s : State) (hyps : Memory.wf s.mem) :
    OutOk (execCopyFault uid s) := by
  unfold execCopyFault
  repeat' (first | with_reducible assumption | with_reducible apply OutOk_next | with_reducible apply State.ctx_memOk)

theorem State.nmStart_memOk (s : State) (e : Entry) (hyps : Memory.wf s.mem) :
    Memory.wf (State.nmStart s e).mem := by
  unfold State.nmStart
  repeat' (first | with_reducible assumption | with_reducible apply State.ctx_memOk | with_reducible apply memOk_ite | with_reducible apply OutOk_ite | dsimp only | split)

theorem execNmCas_memOk (s : State) (hyps : Memory.wf s.mem) :
    OutOk (execNmCas s) := by
  unfold execNmCas
  repeat' (first | with_reducible assumption | with_reducible apply OutOk_next | with_reducible apply State.judge_memOk | with_reducible apply State.nmStart_memOk | with_reducible apply memOk_ite | with_reducible apply OutOk_ite | dsimp only | split | intro _)

theorem execNmEnq_memOk (s : State) (hyps : Memory.wf s.mem) :
    OutOk (execNmEnq s) := by
  unfold execNmEnq
  repeat' (first | with_reducible assumption | with_reducible apply OutOk_next | with_reducible apply State.judge_memOk | with_reducible apply State.nmStart_memOk | with_reducible apply memOk_ite | with_reducible apply OutOk_ite | dsimp only | split | intro _)

theorem execNmDeq_memOk (s : State) (hyps : Memory.wf s.mem) :
    OutOk (execNmDeq s) := by
  unfold execNmDeq
  repeat' (first | with_reducible assumption | with_reducible apply OutOk_next | with_reducible apply State.judge_memOk | with_reducible apply State.nmStart_memOk | with_reducible apply memOk_ite | with_reducible apply OutOk_ite | dsimp only | split | intro _)

theorem execNmChase_memOk (s : State) (hyps : Memory.wf s.mem) :
    OutOk (execNmChase s) := by
  unfold execNmChase
  repeat' (first | with_reducible assumption | with_reducible apply OutOk_next | with_reducible apply State.judge_memOk | with_reducible apply State.nmStart_memOk | with_reducible apply memOk_ite | with_reducible apply OutOk_ite | dsimp only | split | intro _)

theorem execNmRed_memOk (s : State) (hyps : Memory.wf s.mem) :
    OutOk (execNmRed s) := by
  unfold execNmRed
  repeat' (first | with_reducible assumption | with_reducible apply OutOk_next | with_reducible apply State.judge_memOk | with_reducible apply State.nmStart_memOk | with_reducible apply memOk_ite | with_reducible apply OutOk_ite | dsimp only | split | intro _)

theorem execNmMlr_memOk (s : State) (hyps : Memory.wf s.mem) :
    OutOk (execNmMlr s) := by
  unfold execNmMlr
  repeat' (first | with_reducible assumption | with_reducible apply OutOk_next | with_reducible apply State.judge_memOk | with_reducible apply State.nmStart_memOk | with_reducible apply memOk_ite | with_reducible apply OutOk_ite | dsimp only | split | intro _)

theorem execNmSwap_memOk (s : State) (hyps : Memory.wf s.mem) :
    OutOk (execNmSwap s) := by
  unfold execNmSwap
  repeat' (first | with_reducible assumption | with_reducible apply OutOk_next | with_reducible apply State.judge_memOk | with_reducible apply State.nmStart_memOk | with_reducible apply memOk_ite | with_reducible apply OutOk_ite | dsimp only | split | intro _)

theorem State.nmOperandRead_memOk (s : State) (e : Entry) (hyps : Memory.wf s.mem) :
    Memory.wf (State.nmOperandRead s e).mem := by
  unfold State.nmOperandRead
  repeat' (first | with_reducible assumption | with_reducible apply State.ctx_memOk)

theorem State.nmSend_memOk (s : State) (e : Entry) (hyps : Memory.wf s.mem) :
    Memory.wf (State.nmSend s e).mem := by
  unfold State.nmSend
  repeat' (first | with_reducible assumption | with_reducible apply State.ctx_memOk | with_reducible apply State.at_memOk | with_reducible apply State.dispatch_memOk | refine State.translate_memOk _ _ _ _ (by assumption) ?_ | with_reducible apply State.translate_fst | with_reducible apply memOk_ite | with_reducible apply OutOk_ite | dsimp only | split)

theorem State.nmCycle_memOk (s : State) (e : Entry) (hyps : Memory.wf s.mem) :
    Memory.wf (State.nmCycle s e).mem := by
  unfold State.nmCycle
  repeat' (first | with_reducible assumption | with_reducible apply State.nmSend_memOk | with_reducible apply State.nmOperandRead_memOk | with_reducible apply State.ctx_memOk | with_reducible apply memOk_ite | with_reducible apply OutOk_ite | dsimp only | split)

theorem State.nmXlate_fst (s : State) (site asid kind va : Nat) (hyps : Memory.wf s.mem) :
    Memory.wf (State.nmXlate s site asid kind va).1.mem := by
  unfold State.nmXlate
  repeat' (first | with_reducible assumption | with_reducible apply State.onSite_memOk | refine State.walk_memOk _ _ _ _ _ _ (by assumption) ?_ | with_reducible apply State.walk_fst | with_reducible apply memOk_ite | with_reducible apply OutOk_ite | dsimp only | split)

theorem State.nmXlate_memOk (s : State) (site asid kind va : Nat) {t : State} {x} (heq : State.nmXlate s site asid kind va = (t, x)) (hyps : Memory.wf s.mem) :
    Memory.wf t.mem := by
  have h := State.nmXlate_fst s site asid kind va hyps
  rw [heq] at h
  exact h

theorem State.nmTouch_memOk (s : State) (pa n : Nat) (hyps : Memory.wf s.mem) :
    Memory.wf (State.nmTouch s pa n).mem := by
  unfold State.nmTouch
  repeat' (first | with_reducible assumption | refine State.sectorRead_memOk _ _ (by assumption) ?_ | with_reducible apply State.sectorRead_fst | with_reducible apply foldl_memOk | with_reducible apply memOk_ite | with_reducible apply OutOk_ite | dsimp only | split | intro _)

theorem State.nmWrite_memOk (s : State) (pa : Nat) (bs : List Byte) (hyps : Memory.wf s.mem) :
    Memory.wf (State.nmWrite s pa bs).mem := by
  unfold State.nmWrite
  repeat' (first | with_reducible assumption | with_reducible apply State.sectorWrite_memOk | with_reducible apply foldl_memOk | with_reducible apply memOk_ite | with_reducible apply OutOk_ite | dsimp only | split | intro _)

theorem State.nmCasAt_memOk (s : State) (r : Req) (img : BitVec 128) (opnd : List Byte) (hyps : Memory.wf s.mem) :
    Memory.wf (State.nmCasAt s r img opnd).mem := by
  unfold State.nmCasAt
  repeat' (first | with_reducible assumption | with_reducible apply State.nmWrite_memOk | with_reducible apply State.answerWith_memOk | with_reducible apply memOk_ite)

theorem State.nmNode_fst (s : State) (r : Req) (read : Bool) (va : Nat) (hyps : Memory.wf s.mem) :
    Memory.wf (State.nmNode s r read va).1.mem := by
  unfold State.nmNode
  repeat' (first | with_reducible assumption | refine State.nmXlate_memOk _ _ _ _ _ (by assumption) ?_ | with_reducible apply State.nmXlate_fst | with_reducible apply memOk_ite | with_reducible apply OutOk_ite | dsimp only | split)

theorem State.nmNode_memOk (s : State) (r : Req) (read : Bool) (va : Nat) {t : State} {x} (heq : State.nmNode s r read va = (t, x)) (hyps : Memory.wf s.mem) :
    Memory.wf t.mem := by
  have h := State.nmNode_fst s r read va hyps
  rw [heq] at h
  exact h

theorem State.nmEnqAt_memOk (s : State) (r : Req) (opnd : List Byte) (hyps : Memory.wf s.mem) :
    Memory.wf (State.nmEnqAt s r opnd).mem := by
  unfold State.nmEnqAt
  extract_lets n tail
  have h1 := State.nmNode_fst s r false n hyps
  generalize s.nmNode r false n = q at h1 ⊢
  obtain ⟨t, x⟩ := q
  cases x with
  | error c => exact State.answerWith_memOk _ _ _ _ _ h1
  | ok pn =>
    have key : ∀ (u : State), Memory.wf u.mem → Memory.wf ((u.nmWrite (r.pa + 8) (toBytes 8 n)).answerWith r.id 0 (toBytes 8 tail) 0).mem :=
      fun u h => State.answerWith_memOk _ _ _ _ _ (State.nmWrite_memOk _ _ _ h)
    dsimp only
    split
    · exact key _ (State.nmWrite_memOk _ _ _ (State.nmWrite_memOk _ _ _ h1))
    · have h2 := State.nmNode_fst t r false tail h1
      generalize t.nmNode r false tail = q at h2 ⊢
      obtain ⟨u, y⟩ := q
      cases y with
      | error c => exact State.answerWith_memOk _ _ _ _ _ h2
      | ok pt => exact key _ (State.nmWrite_memOk _ _ _ (State.nmWrite_memOk _ _ _ h2))

theorem State.nmDeqAt_memOk (s : State) (r : Req) (hyps : Memory.wf s.mem) : Memory.wf (State.nmDeqAt s r).mem := by
  unfold State.nmDeqAt
  extract_lets head
  split
  · exact State.answerWith_memOk _ _ _ _ _ hyps
  · have h1 := State.nmNode_fst s r true head hyps
    generalize s.nmNode r true head = q at h1 ⊢
    obtain ⟨t, x⟩ := q
    cases x with
    | error c => exact State.answerWith_memOk _ _ _ _ _ h1
    | ok ph =>
      dsimp only
      exact State.answerWith_memOk _ _ _ _ _
        (memOk_ite (State.nmWrite_memOk _ _ _ (State.nmWrite_memOk _ _ _ (State.nmTouch_memOk _ _ _ h1)))
          (State.nmWrite_memOk _ _ _ (State.nmTouch_memOk _ _ _ h1)))

theorem State.nmHops_fst (asid site noff left h p good : Nat) (s : State) (hyps : Memory.wf s.mem) :
    Memory.wf (State.nmHops asid site noff left h p good s).1.mem := by
  induction left generalizing s h p good with
  | zero => exact hyps
  | succ n ih =>
    unfold State.nmHops
    repeat' (first | with_reducible assumption | with_reducible apply ih | refine State.nmXlate_memOk _ _ _ _ _ (by assumption) ?_ | refine State.homeNat_memOk _ _ _ (by assumption) ?_ | dsimp only | split)

theorem State.nmHops_memOk (asid site noff left h p good : Nat) (s : State) {t : State} {x}
    (heq : State.nmHops asid site noff left h p good s = (t, x)) (hyps : Memory.wf s.mem) : Memory.wf t.mem := by
  have h := State.nmHops_fst asid site noff left h p good s hyps
  rw [heq] at h
  exact h

theorem State.nmChaseAt_memOk (s : State) (r : Req) (img : BitVec 128) (hyps : Memory.wf s.mem) :
    Memory.wf (State.nmChaseAt s r img).mem := by
  unfold State.nmChaseAt
  repeat' (first | with_reducible assumption | with_reducible apply State.answerWith_memOk | with_reducible apply State.dropReq_memOk | with_reducible apply State.onReq_memOk | with_reducible apply State.leaves_memOk | with_reducible apply State.at_memOk | refine State.nmHops_memOk _ _ _ _ _ _ _ _ (by assumption) ?_ | with_reducible apply State.nmHops_fst | with_reducible apply memOk_ite | with_reducible apply OutOk_ite | dsimp only | split)

theorem State.nmRedAt_memOk (s : State) (r : Req) (img : BitVec 128) (opnd : List Byte) (hyps : Memory.wf s.mem) :
    Memory.wf (State.nmRedAt s r img opnd).mem := by
  unfold State.nmRedAt
  repeat' (first | with_reducible assumption | with_reducible apply State.nmWrite_memOk | with_reducible apply State.answerWith_memOk)

theorem State.nmPeer_memOk (s : State) (r : Req) (hyps : Memory.wf s.mem) :
    Memory.wf (State.nmPeer s r).mem := by
  unfold State.nmPeer
  repeat' (first | with_reducible assumption | with_reducible apply State.answerWith_memOk | with_reducible apply memOk_ite | with_reducible apply OutOk_ite | dsimp only | split)

theorem execNmuOperation_memOk (id : Nat) (s : State) (hyps : Memory.wf s.mem) :
    OutOk (execNmuOperation id s) := by
  unfold execNmuOperation
  repeat' (first | with_reducible assumption | with_reducible apply OutOk_next | with_reducible apply State.atHome_memOk | with_reducible apply State.nmPeer_memOk | with_reducible apply State.answerWith_memOk | with_reducible apply State.nmTouch_memOk | with_reducible apply State.nmCasAt_memOk | with_reducible apply State.nmEnqAt_memOk | with_reducible apply State.nmDeqAt_memOk | with_reducible apply State.nmChaseAt_memOk | with_reducible apply State.nmRedAt_memOk | with_reducible apply memOk_ite | with_reducible apply OutOk_ite | dsimp only | split | intro _)

theorem State.mlrEnd_memOk (s : State) (pa : Nat) (hyps : Memory.wf s.mem) :
    Memory.wf (State.mlrEnd s pa).mem := by
  unfold State.mlrEnd
  repeat' (first | with_reducible assumption | with_reducible apply State.nmWrite_memOk | with_reducible apply State.onSite_memOk)

theorem State.mlrFail_memOk (s : State) (pa : Nat) (cause : BitVec 8) (hyps : Memory.wf s.mem) :
    Memory.wf (State.mlrFail s pa cause).mem := by
  unfold State.mlrFail
  repeat' (first | with_reducible assumption | with_reducible apply State.answerWith_memOk | with_reducible apply State.mlrEnd_memOk | with_reducible apply foldl_memOk | with_reducible apply memOk_ite | with_reducible apply OutOk_ite | dsimp only | split | intro _)

/-- The state of an answer, from the answer. -/
theorem memOk_fst {α : Type} {q : State × α} {t : State} {x : α} (h : Memory.wf q.1.mem) (e : q = (t, x)) : Memory.wf t.mem := by
  rw [e] at h
  exact h

theorem State.mlrContribution_fst (r : Req) (g : MlrGroup) (m left e : Nat) (s : State) (hyps : Memory.wf s.mem) :
    Memory.wf (State.mlrContribution r g m left e s).1.mem := by
  induction left generalizing s e with
  | zero => exact hyps
  | succ n ih =>
    unfold State.mlrContribution
    repeat' (first | with_reducible assumption | refine State.nmXlate_memOk _ _ _ _ _ (by assumption) ?_ | refine State.homeNat_memOk _ _ _ (by assumption) ?_ | refine memOk_fst (ih _ _ ?_) (by assumption) | dsimp only | split)

theorem State.mlrContribution_memOk (r : Req) (g : MlrGroup) (m left e : Nat) (s : State) {t : State} {x}
    (heq : State.mlrContribution r g m left e s = (t, x)) (hyps : Memory.wf s.mem) : Memory.wf t.mem :=
  memOk_fst (State.mlrContribution_fst r g m left e s hyps) heq

theorem State.mlrSums_fst (r : Req) (g : MlrGroup) (l acc : List Nat) (s : State) (hyps : Memory.wf s.mem) :
    Memory.wf (State.mlrSums r g l acc s).1.mem := by
  induction l generalizing s acc with
  | nil => exact hyps
  | cons m rest ih =>
    unfold State.mlrSums
    repeat' (first | with_reducible assumption | with_reducible apply ih | refine State.mlrContribution_memOk _ _ _ _ _ _ (by assumption) ?_ | dsimp only | split)

theorem State.mlrSums_memOk (r : Req) (g : MlrGroup) (l acc : List Nat) (s : State) {t : State} {x}
    (heq : State.mlrSums r g l acc s = (t, x)) (hyps : Memory.wf s.mem) : Memory.wf t.mem := by
  have h := State.mlrSums_fst r g l acc s hyps
  rw [heq] at h
  exact h

theorem State.mlrStatuses_memOk (s : State) (pa : Nat) (hyps : Memory.wf s.mem) :
    Memory.wf (State.mlrStatuses s pa).mem := by
  unfold State.mlrStatuses
  repeat' (first | with_reducible assumption | with_reducible apply State.answerWith_memOk | with_reducible apply State.mlrEnd_memOk | with_reducible apply foldl_memOk | with_reducible apply memOk_ite | with_reducible apply OutOk_ite | dsimp only | split | intro _)

theorem State.mlrWrite_memOk (s : State) (g : MlrGroup) (bs : List Byte) (status : Word) (a : MlrArrival) (hyps : Memory.wf s.mem) :
    Memory.wf (State.mlrWrite s g bs status a).mem := by
  unfold State.mlrWrite
  repeat' (first | with_reducible assumption | with_reducible apply OutOk_next | with_reducible apply State.sendReq_memOk | with_reducible apply State.onSite_memOk)

theorem State.mlrRun_memOk (s : State) (pa : Nat) (r : Req) (hyps : Memory.wf s.mem) :
    Memory.wf (State.mlrRun s pa r).mem := by
  unfold State.mlrRun
  repeat' (first | with_reducible assumption | with_reducible apply State.mlrFail_memOk | with_reducible apply State.onSite_memOk | with_reducible apply State.mlrWrite_memOk | with_reducible apply State.mlrStatuses_memOk | refine State.mlrSums_memOk _ _ _ _ _ (by assumption) ?_ | with_reducible apply State.mlrSums_fst | with_reducible apply foldl_memOk | with_reducible apply memOk_ite | with_reducible apply OutOk_ite | dsimp only | split | intro _)

theorem State.mlrCheck_memOk (s : State) (pa : Nat) (hyps : Memory.wf s.mem) :
    Memory.wf (State.mlrCheck s pa).mem := by
  unfold State.mlrCheck
  repeat' (first | with_reducible assumption | with_reducible apply State.mlrRun_memOk | with_reducible apply State.mlrFail_memOk | with_reducible apply memOk_ite | with_reducible apply OutOk_ite | dsimp only | split)

theorem State.mlrWritten_memOk (s : State) (r : Req) (hyps : Memory.wf s.mem) :
    Memory.wf (State.mlrWritten s r).mem := by
  unfold State.mlrWritten
  repeat' (first | with_reducible assumption | with_reducible apply State.dropReq_memOk | with_reducible apply State.onSite_memOk | with_reducible apply State.mlrStatuses_memOk | with_reducible apply memOk_ite | with_reducible apply OutOk_ite | dsimp only | split)

theorem State.mlrPeer_memOk (s : State) (r : Req) (hyps : Memory.wf s.mem) :
    Memory.wf (State.mlrPeer s r).mem := by
  unfold State.mlrPeer
  repeat' (first | with_reducible assumption | with_reducible apply State.onReq_memOk | with_reducible apply State.at_memOk | with_reducible apply State.answerWith_memOk | with_reducible apply memOk_ite)

theorem State.mlrArrive_memOk (s : State) (r : Req) (img : BitVec 128) (hyps : Memory.wf s.mem) :
    Memory.wf (State.mlrArrive s r img).mem := by
  unfold State.mlrArrive
  repeat' (first | with_reducible assumption | with_reducible apply State.nmTouch_memOk | with_reducible apply State.answerWith_memOk | with_reducible apply State.nmWrite_memOk | with_reducible apply State.onSite_memOk | with_reducible apply State.onReq_memOk | with_reducible apply State.at_memOk | with_reducible apply State.mlrCheck_memOk | with_reducible apply memOk_ite)

theorem execMlrArrival_memOk (id : Nat) (s : State) (hyps : Memory.wf s.mem) :
    OutOk (execMlrArrival id s) := by
  unfold execMlrArrival
  repeat' (first | with_reducible assumption | with_reducible apply OutOk_next | with_reducible apply State.mlrWritten_memOk | with_reducible apply State.atHome_memOk | with_reducible apply State.mlrPeer_memOk | with_reducible apply State.answerWith_memOk | with_reducible apply State.mlrArrive_memOk | with_reducible apply memOk_ite | with_reducible apply OutOk_ite | dsimp only | split | intro _)

theorem execMlrLimitExpiry_memOk (pa : Nat) (s : State) (hyps : Memory.wf s.mem) :
    OutOk (execMlrLimitExpiry pa s) := by
  unfold execMlrLimitExpiry
  repeat' (first | with_reducible assumption | with_reducible apply OutOk_next | with_reducible apply State.mlrFail_memOk | with_reducible apply memOk_ite | with_reducible apply OutOk_ite | dsimp only | split)

theorem execWaita_memOk (sd sa : BitVec 5) (nz : BitVec 1) (n : BitVec 2) (s : State) (hyps : Memory.wf s.mem) :
    OutOk (execWaita sd sa nz n s) := by
  unfold execWaita
  repeat' (first | with_reducible assumption | with_reducible apply OutOk_next | with_reducible apply State.holdOn_memOk | with_reducible apply State.ctx_memOk | with_reducible apply State.wordFault_memOk | with_reducible apply memOk_ite | with_reducible apply OutOk_ite | dsimp only | split)

theorem State.endWaita_memOk (s : State) (w : Wait) (v : Nat) (hyps : Memory.wf s.mem) :
    Memory.wf (State.endWaita s w v).mem := by
  unfold State.endWaita
  repeat' (first | with_reducible assumption | with_reducible apply State.push_memOk | with_reducible apply State.ctx_memOk)

theorem execWaitaFire_memOk (s : State) (hyps : Memory.wf s.mem) :
    OutOk (execWaitaFire s) := by
  unfold execWaitaFire
  repeat' (first | with_reducible assumption | with_reducible apply OutOk_next | with_reducible apply State.endWaita_memOk | with_reducible apply memOk_ite | with_reducible apply OutOk_ite | dsimp only | split)

theorem execWaitaExpiry_memOk (s : State) (hyps : Memory.wf s.mem) :
    OutOk (execWaitaExpiry s) := by
  unfold execWaitaExpiry
  repeat' (first | with_reducible assumption | with_reducible apply OutOk_next | with_reducible apply State.endWaita_memOk | with_reducible apply memOk_ite | with_reducible apply OutOk_ite | dsimp only | split)

theorem execFsig_memOk (sa : BitVec 5) (eng : BitVec 3) (flag : BitVec 6) (s : State) (hyps : Memory.wf s.mem) :
    OutOk (execFsig sa eng flag s) := by
  unfold execFsig
  repeat' (first | with_reducible assumption | with_reducible apply OutOk_next | with_reducible apply State.ctx_memOk | with_reducible apply State.holdOn_memOk | with_reducible apply State.push_memOk | with_reducible apply State.retire_memOk | with_reducible apply memOk_ite | with_reducible apply OutOk_ite | dsimp only | split)

theorem execFsigWrite_memOk (s : State) (hyps : Memory.wf s.mem) :
    OutOk (execFsigWrite s) := by
  unfold execFsigWrite
  repeat' (first | with_reducible assumption | with_reducible apply OutOk_next | with_reducible apply State.ctx_memOk | with_reducible apply State.askAt_memOk | with_reducible apply State.askFor_memOk | with_reducible apply memOk_ite | with_reducible apply OutOk_ite | dsimp only | split)

theorem execMonset_memOk (sa : BitVec 5) (k : BitVec 2) (s : State) (hyps : Memory.wf s.mem) :
    OutOk (execMonset sa k s) := by
  unfold execMonset
  repeat' (first | with_reducible assumption | with_reducible apply OutOk_next | with_reducible apply State.ctx_memOk | with_reducible apply State.wordFault_memOk | with_reducible apply State.push_memOk | with_reducible apply State.retire_memOk | with_reducible apply memOk_ite | with_reducible apply OutOk_ite | dsimp only | split)

theorem execMonref_memOk (sa : BitVec 5) (k : BitVec 2) (s : State) (hyps : Memory.wf s.mem) :
    OutOk (execMonref sa k s) := by
  unfold execMonref
  repeat' (first | with_reducible assumption | with_reducible apply OutOk_next | with_reducible apply State.wordFault_memOk | with_reducible apply State.push_memOk | with_reducible apply State.retire_memOk | with_reducible apply memOk_ite | with_reducible apply OutOk_ite)

theorem execMonrd_memOk (sd : BitVec 5) (part : BitVec 3) (k : BitVec 2) (s : State) (hyps : Memory.wf s.mem) :
    OutOk (execMonrd sd part k s) := by
  unfold execMonrd
  repeat' (first | with_reducible assumption | with_reducible apply OutOk_next | with_reducible apply State.push_memOk | with_reducible apply State.retire_memOk)

theorem execMonchk_memOk (sd : BitVec 5) (clr : BitVec 1) (k : BitVec 2) (s : State) (hyps : Memory.wf s.mem) :
    OutOk (execMonchk sd clr k s) := by
  unfold execMonchk
  repeat' (first | with_reducible assumption | with_reducible apply OutOk_next | with_reducible apply State.push_memOk | with_reducible apply State.retire_memOk)

theorem State.clearLost_memOk (s : State) (hyps : Memory.wf s.mem) :
    Memory.wf (State.clearLost s).mem := by
  unfold State.clearLost
  repeat' (first | with_reducible assumption)

theorem State.csrReadEffect_memOk (s : State) (sel : BitVec 10) (hyps : Memory.wf s.mem) :
    Memory.wf (State.csrReadEffect s sel).mem := by
  unfold State.csrReadEffect
  repeat' (first | with_reducible assumption | with_reducible apply State.clearLost_memOk | with_reducible apply memOk_ite)

theorem State.sysWrite_memOk (s : State) (cid : Nat) (sel : BitVec 10) (w : Word) (hyps : Memory.wf s.mem) :
    Memory.wf (State.sysWrite s cid sel w).mem := by
  unfold State.sysWrite
  repeat' (first | with_reducible assumption | with_reducible apply State.post_memOk | with_reducible apply State.onCore_memOk | with_reducible apply foldl_memOk)

theorem State.csrWrite_memOk (s : State) (sel : BitVec 10) (w : Word) (hyps : Memory.wf s.mem) :
    Memory.wf (State.csrWrite s sel w).mem := by
  unfold State.csrWrite
  repeat' (first | with_reducible assumption | with_reducible apply State.ctx_memOk | with_reducible apply State.push_memOk)

theorem State.csrPerforms_memOk (s : State) (sel : BitVec 10) (w : Word) (hyps : Memory.wf s.mem) :
    Memory.wf (State.csrPerforms s sel w).mem := by
  unfold State.csrPerforms
  repeat' (first | with_reducible assumption | with_reducible apply State.sysWrite_memOk | with_reducible apply memOk_ite)

theorem execCsrr_memOk (sd : BitVec 5) (g : BitVec 4) (csr : BitVec 10) (s : State) (hyps : Memory.wf s.mem) :
    OutOk (execCsrr sd g csr s) := by
  unfold execCsrr
  repeat' (first | with_reducible assumption | with_reducible apply OutOk_next | with_reducible apply State.guarded_memOk | with_reducible apply State.wordFault_memOk | with_reducible apply State.push_memOk | with_reducible apply State.csrReadEffect_memOk | with_reducible apply State.retire_memOk | with_reducible apply memOk_ite | with_reducible apply OutOk_ite | dsimp only | split | intro _)

theorem execCsrw_memOk (sa : BitVec 5) (g : BitVec 4) (csr : BitVec 10) (s : State) (hyps : Memory.wf s.mem) :
    OutOk (execCsrw sa g csr s) := by
  unfold execCsrw
  repeat' (first | with_reducible assumption | with_reducible apply OutOk_next | with_reducible apply State.guarded_memOk | with_reducible apply State.wordFault_memOk | with_reducible apply State.csrWrite_memOk | with_reducible apply State.retire_memOk | with_reducible apply memOk_ite | with_reducible apply OutOk_ite | dsimp only | split | intro _)

theorem execCsrx_memOk (sd sa : BitVec 5) (g : BitVec 4) (csr : BitVec 10) (s : State) (hyps : Memory.wf s.mem) :
    OutOk (execCsrx sd sa g csr s) := by
  unfold execCsrx
  repeat' (first | with_reducible assumption | with_reducible apply OutOk_next | with_reducible apply State.guarded_memOk | with_reducible apply State.wordFault_memOk | with_reducible apply State.push_memOk | with_reducible apply State.csrReadEffect_memOk | with_reducible apply State.csrWrite_memOk | with_reducible apply State.retire_memOk | with_reducible apply memOk_ite | with_reducible apply OutOk_ite | dsimp only | split | intro _)

theorem execDbgstLostRead_memOk (s : State) (hyps : Memory.wf s.mem) :
    OutOk (execDbgstLostRead s) := by
  unfold execDbgstLostRead
  repeat' (first | with_reducible assumption | with_reducible apply OutOk_next | with_reducible apply State.clearLost_memOk | with_reducible apply State.onCore_memOk | with_reducible apply memOk_ite | with_reducible apply OutOk_ite)

theorem State.onSeg_memOk (s : State) (die i : Nat) (f : Segment → Segment) (hyps : Memory.wf s.mem) :
    Memory.wf (State.onSeg s die i f).mem := by
  unfold State.onSeg
  repeat' (first | with_reducible assumption | with_reducible apply State.onDie_memOk)

theorem State.completeLocal_memOk (s : State) (die seg par : Nat) (ref : Nat × Nat) (hyps : Memory.wf s.mem) :
    Memory.wf (State.completeLocal s die seg par ref).mem := by
  unfold State.completeLocal
  repeat' (first | with_reducible assumption | with_reducible apply State.onSeg_memOk | with_reducible apply State.onCore_memOk | with_reducible apply State.ctx_memOk | with_reducible apply State.onTaskCtx_memOk | with_reducible apply foldl_memOk | with_reducible apply memOk_ite | with_reducible apply OutOk_ite | dsimp only | split | intro _)

theorem State.evaluate_memOk (s : State) (die seg par t : Nat) (ref : Nat × Nat) (hyps : Memory.wf s.mem) :
    Memory.wf (State.evaluate s die seg par t ref).mem := by
  unfold State.evaluate
  repeat' (first | with_reducible assumption | with_reducible apply State.completeLocal_memOk | with_reducible apply State.onSeg_memOk | with_reducible apply State.at_memOk | with_reducible apply memOk_ite)

theorem State.arrival_memOk (s : State) (n par : Nat) (hyps : Memory.wf s.mem) :
    Memory.wf (State.arrival s n par).mem := by
  unfold State.arrival
  repeat' (first | with_reducible assumption | with_reducible apply State.ctx_memOk | with_reducible apply State.onSeg_memOk | with_reducible apply State.evaluate_memOk | with_reducible apply memOk_ite)

theorem State.toModule_memOk (s : State) (m : Nat) (body : List Byte) (hyps : Memory.wf s.mem) :
    Memory.wf (State.toModule s m body).mem := by
  unfold State.toModule
  repeat' (first | with_reducible assumption | with_reducible apply State.sendFlit_memOk | with_reducible apply memOk_ite | with_reducible apply OutOk_ite | dsimp only | split)

theorem State.level5Check_memOk (s : State) (bar par : Nat) (hyps : Memory.wf s.mem) :
    Memory.wf (State.level5Check s bar par).mem := by
  unfold State.level5Check
  repeat' (first | with_reducible assumption | with_reducible apply OutOk_next | with_reducible apply State.toModule_memOk | with_reducible apply State.fresh_memOk | with_reducible apply State.at_memOk | with_reducible apply foldl_memOk | with_reducible apply memOk_ite | with_reducible apply OutOk_ite | dsimp only | split | intro _)

theorem execLevel5BarrierReport_memOk (m bar par : Nat) (s : State) (hyps : Memory.wf s.mem) :
    OutOk (execLevel5BarrierReport m bar par s) := by
  unfold execLevel5BarrierReport
  repeat' (first | with_reducible assumption | with_reducible apply OutOk_next | with_reducible apply State.level5Check_memOk)

theorem execLevel5Release_memOk (bar par rootTick : Nat) (s : State) (hyps : Memory.wf s.mem) :
    OutOk (execLevel5Release bar par rootTick s) := by
  unfold execLevel5Release
  repeat' (first | with_reducible assumption | with_reducible apply OutOk_next | with_reducible apply State.at_memOk | with_reducible apply foldl_memOk | with_reducible apply memOk_ite | with_reducible apply OutOk_ite | dsimp only | split | intro _)

theorem State.setTotals_memOk (s : State) (segs : List (Nat × Nat)) (g : Segment) (par : Nat) (hyps : Memory.wf s.mem) :
    Memory.wf (State.setTotals s segs g par).mem := by
  unfold State.setTotals
  repeat' (first | with_reducible assumption | with_reducible apply State.onSeg_memOk | with_reducible apply memOk_ite | with_reducible apply OutOk_ite | dsimp only | split)

theorem State.rootComplete_memOk (s : State) (die seg par : Nat) (hyps : Memory.wf s.mem) :
    Memory.wf (State.rootComplete s die seg par).mem := by
  unfold State.rootComplete
  repeat' (first | with_reducible assumption | with_reducible apply State.at_memOk | with_reducible apply State.toModule_memOk | with_reducible apply foldl_memOk | with_reducible apply memOk_ite | with_reducible apply OutOk_ite | dsimp only | split | intro _)

theorem execBarrierReport_memOk (die seg par : Nat) (s : State) (hyps : Memory.wf s.mem) :
    OutOk (execBarrierReport die seg par s) := by
  unfold execBarrierReport
  repeat' (first | with_reducible assumption | with_reducible apply OutOk_next | with_reducible apply State.rootComplete_memOk | with_reducible apply State.onSeg_memOk | with_reducible apply State.evaluate_memOk | with_reducible apply memOk_ite | with_reducible apply OutOk_ite | dsimp only | split)

theorem execBarrierRelease_memOk (die seg par : Nat) (s : State) (hyps : Memory.wf s.mem) :
    OutOk (execBarrierRelease die seg par s) := by
  unfold execBarrierRelease
  repeat' (first | with_reducible assumption | with_reducible apply OutOk_next | with_reducible apply State.ctx_memOk | with_reducible apply State.traceHeads_memOk | with_reducible apply State.setTotals_memOk | with_reducible apply State.onTaskCtx_memOk | with_reducible apply State.onSeg_memOk | with_reducible apply State.evaluate_memOk | with_reducible apply foldl_memOk | with_reducible apply memOk_ite | with_reducible apply OutOk_ite | dsimp only | split | intro _)

theorem State.excuse_memOk (s : State) (die core : Nat) (lid : Option Nat) (hyps : Memory.wf s.mem) :
    Memory.wf (State.excuse s die core lid).mem := by
  unfold State.excuse
  repeat' (first | with_reducible assumption | with_reducible apply State.ctx_memOk | with_reducible apply State.onSeg_memOk | with_reducible apply State.evaluate_memOk | with_reducible apply foldl_memOk | with_reducible apply memOk_ite | with_reducible apply OutOk_ite | dsimp only | split | intro _)

theorem execBarrierExcuse_memOk (die core : Nat) (lid : Option Nat) (s : State) (hyps : Memory.wf s.mem) :
    OutOk (execBarrierExcuse die core lid s) := by
  unfold execBarrierExcuse
  repeat' (first | with_reducible assumption | with_reducible apply OutOk_next | with_reducible apply State.excuse_memOk)

theorem execRtick_memOk (sd : BitVec 5) (s : State) (hyps : Memory.wf s.mem) :
    OutOk (execRtick sd s) := by
  unfold execRtick
  repeat' (first | with_reducible assumption | with_reducible apply OutOk_next | with_reducible apply State.scalar_memOk)

theorem execRcyc_memOk (sd : BitVec 5) (s : State) (hyps : Memory.wf s.mem) :
    OutOk (execRcyc sd s) := by
  unfold execRcyc
  repeat' (first | with_reducible assumption | with_reducible apply OutOk_next | with_reducible apply State.scalar_memOk)

theorem State.barChecked_memOk (s : State) (n : Nat) (f : Unit → Out) (hyps : Memory.wf s.mem) (hypf : ∀ x0, OutOk (f x0)) :
    OutOk (State.barChecked s n f) := by
  unfold State.barChecked
  repeat' (first | with_reducible assumption | with_reducible apply OutOk_next | with_reducible apply State.ctx_memOk | with_reducible apply State.wordFault_memOk | with_reducible apply hypf | with_reducible apply memOk_ite | with_reducible apply OutOk_ite)

theorem State.observe_memOk (s : State) (n : Nat) (hyps : Memory.wf s.mem) :
    Memory.wf (State.observe s n).mem := by
  unfold State.observe
  repeat' (first | with_reducible assumption | with_reducible apply State.ctx_memOk)

theorem State.observeAll_memOk (s : State) (n : Nat) (hyps : Memory.wf s.mem) :
    Memory.wf (State.observeAll s n).mem := by
  unfold State.observeAll
  repeat' (first | with_reducible assumption | with_reducible apply State.ctx_memOk | with_reducible apply State.observe_memOk | with_reducible apply foldl_memOk | with_reducible apply memOk_ite | with_reducible apply OutOk_ite | dsimp only | split | intro _)

theorem State.arriveWhenFree_memOk (s : State) (n : Nat) (w : Wait) (f : State → Out) (hyps : Memory.wf s.mem) (hypf : ∀ x0, Memory.wf x0.mem → OutOk (f x0)) :
    OutOk (State.arriveWhenFree s n w f) := by
  unfold State.arriveWhenFree
  repeat' (first | with_reducible assumption | with_reducible apply OutOk_next | with_reducible apply State.ctx_memOk | with_reducible apply State.arrive_memOk | with_reducible apply State.observe_memOk | with_reducible apply State.holdOn_memOk | with_reducible apply hypf | with_reducible apply memOk_ite | with_reducible apply OutOk_ite)

theorem execBar_memOk (n : BitVec 3) (s : State) (hyps : Memory.wf s.mem) :
    OutOk (execBar n s) := by
  unfold execBar
  repeat' (first | with_reducible assumption | with_reducible apply OutOk_next | with_reducible apply State.barChecked_memOk | with_reducible apply State.arriveWhenFree_memOk | with_reducible apply State.retire_memOk | with_reducible apply memOk_ite | with_reducible apply OutOk_ite | dsimp only | split | intro _)

theorem execBarw_memOk (sd sa : BitVec 5) (n : BitVec 3) (s : State) (hyps : Memory.wf s.mem) :
    OutOk (execBarw sd sa n s) := by
  unfold execBarw
  repeat' (first | with_reducible assumption | with_reducible apply OutOk_next | with_reducible apply State.barChecked_memOk | with_reducible apply State.ctx_memOk | with_reducible apply State.endHold_memOk | with_reducible apply State.observe_memOk | with_reducible apply State.holdOn_memOk | with_reducible apply memOk_ite | with_reducible apply OutOk_ite | dsimp only | split | intro _)

theorem State.endAfter_memOk (s : State) (sd : Nat) (v : Word) (hyps : Memory.wf s.mem) :
    Memory.wf (State.endAfter s sd v).mem := by
  unfold State.endAfter
  repeat' (first | with_reducible assumption | with_reducible apply State.push_memOk | with_reducible apply State.ctx_memOk)

theorem execBarwExpiry_memOk (s : State) (hyps : Memory.wf s.mem) :
    OutOk (execBarwExpiry s) := by
  unfold execBarwExpiry
  repeat' (first | with_reducible assumption | with_reducible apply OutOk_next | with_reducible apply State.endAfter_memOk | with_reducible apply memOk_ite | with_reducible apply OutOk_ite | dsimp only | split)

theorem execBart_memOk (sd : BitVec 5) (n : BitVec 3) (s : State) (hyps : Memory.wf s.mem) :
    OutOk (execBart sd n s) := by
  unfold execBart
  repeat' (first | with_reducible assumption | with_reducible apply OutOk_next | with_reducible apply State.barChecked_memOk | with_reducible apply State.ctx_memOk | with_reducible apply State.scalar_memOk | with_reducible apply State.observe_memOk | with_reducible apply memOk_ite | with_reducible apply OutOk_ite | dsimp only | split | intro _)

theorem State.alignOn_memOk (s : State) (w : Wait) (hyps : Memory.wf s.mem) :
    OutOk (State.alignOn s w) := by
  unfold State.alignOn
  repeat' (first | with_reducible assumption | with_reducible apply OutOk_next | with_reducible apply State.ctx_memOk | with_reducible apply State.arriveWhenFree_memOk | with_reducible apply State.holdOn_memOk | with_reducible apply State.observeAll_memOk | with_reducible apply memOk_ite | with_reducible apply OutOk_ite | dsimp only | split | intro _)

theorem execAlign_memOk (sd sa : BitVec 5) (n : BitVec 3) (s : State) (hyps : Memory.wf s.mem) :
    OutOk (execAlign sd sa n s) := by
  unfold execAlign
  repeat' (first | with_reducible assumption | with_reducible apply OutOk_next | with_reducible apply State.alignOn_memOk | with_reducible apply State.barChecked_memOk | with_reducible apply State.ctx_memOk | with_reducible apply State.wordFault_memOk | with_reducible apply memOk_ite | with_reducible apply OutOk_ite | dsimp only | split | intro _)

theorem execAlignRestart_memOk (s : State) (hyps : Memory.wf s.mem) :
    OutOk (execAlignRestart s) := by
  unfold execAlignRestart
  repeat' (first | with_reducible assumption | with_reducible apply OutOk_next | with_reducible apply State.ctx_memOk | with_reducible apply State.sq_memOk | with_reducible apply memOk_ite | with_reducible apply OutOk_ite | dsimp only | split)

theorem execBind_memOk (sa : BitVec 5) (k : BitVec 3) (s : State) (hyps : Memory.wf s.mem) :
    OutOk (execBind sa k s) := by
  unfold execBind
  repeat' (first | with_reducible assumption | with_reducible apply OutOk_next | with_reducible apply State.wordFault_memOk | with_reducible apply State.ctx_memOk | with_reducible apply State.servedHold_memOk | with_reducible apply State.askSq_memOk | with_reducible apply State.push_memOk | with_reducible apply State.retire_memOk | with_reducible apply memOk_ite | with_reducible apply OutOk_ite | dsimp only | split | intro _)

theorem State.lockAnswer_memOk (s : State) (id code : Nat) (hyps : Memory.wf s.mem) :
    Memory.wf (State.lockAnswer s id code).mem := by
  unfold State.lockAnswer
  repeat' (first | with_reducible assumption | with_reducible apply State.onReq_memOk | with_reducible apply State.at_memOk | with_reducible apply memOk_ite | with_reducible apply OutOk_ite | dsimp only | split)

theorem State.lockPage_fst (s : State) (r : Req) (hyps : Memory.wf s.mem) :
    Memory.wf (State.lockPage s r).1.mem := by
  unfold State.lockPage
  repeat' (first | with_reducible assumption | refine State.nmXlate_memOk _ _ _ _ _ (by assumption) ?_ | with_reducible apply State.nmXlate_fst | with_reducible apply memOk_ite | with_reducible apply OutOk_ite | dsimp only | split)

theorem State.lockPage_memOk (s : State) (r : Req) {t : State} {x} (heq : State.lockPage s r = (t, x)) (hyps : Memory.wf s.mem) :
    Memory.wf t.mem := by
  have h := State.lockPage_fst s r hyps
  rw [heq] at h
  exact h

theorem State.atLock_memOk (s : State) (r : Req) (refuse : State → BitVec 8 → Out) (f : State → Nat → Out) (hyps : Memory.wf s.mem) (hyprefuse : ∀ x0 x1, Memory.wf x0.mem → OutOk (refuse x0 x1)) (hypf : ∀ x0 x1, Memory.wf x0.mem → OutOk (f x0 x1)) :
    OutOk (State.atLock s r refuse f) := by
  unfold State.atLock
  repeat' (first | with_reducible assumption | with_reducible apply OutOk_next | with_reducible apply hyprefuse | with_reducible apply hypf | refine State.lockPage_memOk _ _ (by assumption) ?_ | with_reducible apply State.lockPage_fst | refine State.homeNat_memOk _ _ _ (by assumption) ?_ | with_reducible apply State.homeNat_fst | with_reducible apply memOk_ite | with_reducible apply OutOk_ite | dsimp only | split)

theorem State.lockWrite_memOk (s : State) (pa v : Nat) (hyps : Memory.wf s.mem) :
    Memory.wf (State.lockWrite s pa v).mem := by
  unfold State.lockWrite
  repeat' (first | with_reducible assumption | with_reducible apply State.sectorWrite_memOk)

theorem execLockAcquirePacket_memOk (id : Nat) (s : State) (hyps : Memory.wf s.mem) :
    OutOk (execLockAcquirePacket id s) := by
  unfold execLockAcquirePacket
  repeat' (first | with_reducible assumption | with_reducible apply OutOk_next | with_reducible apply State.atHome_memOk | with_reducible apply State.lockAnswer_memOk | with_reducible apply State.atLock_memOk | with_reducible apply State.lockWrite_memOk | with_reducible apply State.onSite_memOk | with_reducible apply memOk_ite | with_reducible apply OutOk_ite | dsimp only | split | intro _)

theorem execLockReleasePacket_memOk (id : Nat) (s : State) (hyps : Memory.wf s.mem) :
    OutOk (execLockReleasePacket id s) := by
  unfold execLockReleasePacket
  repeat' (first | with_reducible assumption | with_reducible apply OutOk_next | with_reducible apply State.atHome_memOk | with_reducible apply State.peerAnswer_memOk | with_reducible apply State.atLock_memOk | with_reducible apply State.answerWith_memOk | with_reducible apply State.lockWrite_memOk | with_reducible apply State.onSite_memOk | with_reducible apply State.lockAnswer_memOk | with_reducible apply memOk_ite | with_reducible apply OutOk_ite | dsimp only | split | intro _)

theorem execLockCancelPacket_memOk (id : Nat) (s : State) (hyps : Memory.wf s.mem) :
    OutOk (execLockCancelPacket id s) := by
  unfold execLockCancelPacket
  repeat' (first | with_reducible assumption | with_reducible apply OutOk_next | with_reducible apply State.atHome_memOk | with_reducible apply State.lockAnswer_memOk | with_reducible apply State.onSite_memOk | with_reducible apply memOk_ite | with_reducible apply OutOk_ite | dsimp only | split | intro _)

theorem State.orphan_memOk (s : State) (site : Nat) (dead : Nat → Bool) (hyps : Memory.wf s.mem) :
    Memory.wf (State.orphan s site dead).mem := by
  unfold State.orphan
  refine foldl_memOk _ (fun s pa h => ?_) _ _ hyps
  extract_lets w
  split
  · exact foldl_memOk _ (fun s p h => State.lockAnswer_memOk _ _ _ h) _ _ (State.onSite_memOk _ _ _ (State.lockWrite_memOk _ _ _ h))
  · exact h

theorem State.lockHome_memOk (s : State) (k : Nat) (wait : State → Out) (f : State → (module pa : Nat) → Out) (hyps : Memory.wf s.mem) (hypwait : ∀ x0, Memory.wf x0.mem → OutOk (wait x0)) (hypf : ∀ x0 x1 x2, Memory.wf x0.mem → OutOk (f x0 x1 x2)) :
    OutOk (State.lockHome s k wait f) := by
  unfold State.lockHome
  repeat' (first | with_reducible assumption | with_reducible apply OutOk_next | with_reducible apply State.ctx_memOk | with_reducible apply State.wordFault_memOk | with_reducible apply State.at_memOk | with_reducible apply hypwait | with_reducible apply hypf | refine State.translate_memOk _ _ _ _ (by assumption) ?_ | with_reducible apply State.translate_fst | with_reducible apply memOk_ite | with_reducible apply OutOk_ite | dsimp only | split)

theorem State.acqSend_memOk (s : State) (w : Wait) (hyps : Memory.wf s.mem) :
    OutOk (State.acqSend s w) := by
  unfold State.acqSend
  repeat' (first | with_reducible assumption | with_reducible apply OutOk_next | with_reducible apply State.lockHome_memOk | with_reducible apply State.holdOn_memOk | with_reducible apply State.dispatch_memOk | with_reducible apply State.ctx_memOk | with_reducible apply memOk_ite | with_reducible apply OutOk_ite | dsimp only | split | intro _)

theorem State.acqLockOn_memOk (s : State) (sd : BitVec 5) (w : Wait) (hyps : Memory.wf s.mem) :
    OutOk (State.acqLockOn s sd w) := by
  unfold State.acqLockOn
  repeat' (first | with_reducible assumption | with_reducible apply OutOk_next | with_reducible apply State.endHold_memOk | with_reducible apply State.acqSend_memOk | with_reducible apply State.holdOn_memOk | with_reducible apply memOk_ite | with_reducible apply OutOk_ite)

theorem State.acqBarrierOn_memOk (s : State) (sd : BitVec 5) (k : Nat) (w : Wait) (hyps : Memory.wf s.mem) :
    OutOk (State.acqBarrierOn s sd k w) := by
  unfold State.acqBarrierOn
  repeat' (first | with_reducible assumption | with_reducible apply OutOk_next | with_reducible apply State.ctx_memOk | with_reducible apply State.observeAll_memOk | with_reducible apply State.endHold_memOk | with_reducible apply State.holdOn_memOk | with_reducible apply memOk_ite | with_reducible apply OutOk_ite | dsimp only | split)

theorem execAcq_memOk (sd sa : BitVec 5) (k : BitVec 3) (s : State) (hyps : Memory.wf s.mem) :
    OutOk (execAcq sd sa k s) := by
  unfold execAcq
  repeat' (first | with_reducible assumption | with_reducible apply OutOk_next | with_reducible apply State.acqLockOn_memOk | with_reducible apply State.acqBarrierOn_memOk | with_reducible apply State.ctx_memOk | with_reducible apply State.wordFault_memOk | with_reducible apply memOk_ite | with_reducible apply OutOk_ite | dsimp only | split)

theorem execAcqAnswer_memOk (id code : Nat) (s : State) (hyps : Memory.wf s.mem) :
    OutOk (execAcqAnswer id code s) := by
  unfold execAcqAnswer
  repeat' (first | with_reducible assumption | with_reducible apply OutOk_next | with_reducible apply State.onReq_memOk | with_reducible apply State.dropReq_memOk | with_reducible apply State.onTaskCtx_memOk | with_reducible apply State.lockAnswer_memOk | with_reducible apply memOk_ite | with_reducible apply OutOk_ite | dsimp only | split)

theorem execAcqBusyResend_memOk (s : State) (hyps : Memory.wf s.mem) :
    OutOk (execAcqBusyResend s) := by
  unfold execAcqBusyResend
  repeat' (first | with_reducible assumption | with_reducible apply OutOk_next | with_reducible apply State.sq_memOk | with_reducible apply memOk_ite | with_reducible apply OutOk_ite | dsimp only | split)

theorem execAcqLimitExpiry_memOk (s : State) (hyps : Memory.wf s.mem) :
    OutOk (execAcqLimitExpiry s) := by
  unfold execAcqLimitExpiry
  repeat' (first | with_reducible assumption | with_reducible apply OutOk_next | with_reducible apply State.sq_memOk | with_reducible apply State.dispatch_memOk | with_reducible apply State.ctx_memOk | with_reducible apply memOk_ite | with_reducible apply OutOk_ite | dsimp only | split)

theorem State.fencing_memOk (s : State) (k : WaitKind) (on : Entry → Bool) (hyps : Memory.wf s.mem) :
    Memory.wf (State.fencing s k on).mem := by
  unfold State.fencing
  repeat' (first | with_reducible assumption | with_reducible apply State.ctx_memOk | with_reducible apply memOk_ite)

theorem State.releaseObject_memOk (s : State) (k : Nat) (w : Wait) (f : State → Out) (hyps : Memory.wf s.mem) (hypf : ∀ x0, Memory.wf x0.mem → OutOk (f x0)) :
    OutOk (State.releaseObject s k w f) := by
  unfold State.releaseObject
  repeat' (first | with_reducible assumption | with_reducible apply OutOk_next | with_reducible apply State.ctx_memOk | with_reducible apply State.barChecked_memOk | with_reducible apply State.arriveWhenFree_memOk | with_reducible apply State.holdOn_memOk | with_reducible apply State.lockHome_memOk | with_reducible apply State.dispatch_memOk | with_reducible apply hypf | with_reducible apply memOk_ite | with_reducible apply OutOk_ite | dsimp only | split | intro _)

theorem execRel_memOk (ovr : BitVec 1) (scope : BitVec 2) (k : BitVec 3) (s : State) (hyps : Memory.wf s.mem) :
    OutOk (execRel ovr scope k s) := by
  unfold execRel
  repeat' (first | with_reducible assumption | with_reducible apply OutOk_next | with_reducible apply State.ctx_memOk | with_reducible apply State.wordFault_memOk | with_reducible apply State.fencing_memOk | with_reducible apply State.releaseObject_memOk | with_reducible apply State.retire_memOk | with_reducible apply State.holdOn_memOk | with_reducible apply memOk_ite | with_reducible apply OutOk_ite | dsimp only | split | intro _)

theorem execFence_memOk (scope : BitVec 2) (s : State) (hyps : Memory.wf s.mem) :
    OutOk (execFence scope s) := by
  unfold execFence
  repeat' (first | with_reducible assumption | with_reducible apply OutOk_next | with_reducible apply State.fencing_memOk | with_reducible apply State.ctx_memOk | with_reducible apply State.retire_memOk | with_reducible apply State.holdOn_memOk | with_reducible apply memOk_ite | with_reducible apply OutOk_ite)

theorem execCommitHold_memOk (id : Nat) (s : State) (hyps : Memory.wf s.mem) :
    OutOk (execCommitHold id s) := by
  unfold execCommitHold
  repeat' (first | with_reducible assumption | with_reducible apply OutOk_next | with_reducible apply State.atHome_memOk | with_reducible apply State.peerAnswer_memOk | with_reducible apply State.onSite_memOk | with_reducible apply State.answerWith_memOk | with_reducible apply memOk_ite | with_reducible apply OutOk_ite | dsimp only | split | intro _)

theorem execPublish_memOk (id : Nat) (s : State) (hyps : Memory.wf s.mem) :
    OutOk (execPublish id s) := by
  unfold execPublish
  repeat' (first | with_reducible assumption | with_reducible apply OutOk_next | with_reducible apply State.atHome_memOk | with_reducible apply State.peerAnswer_memOk | with_reducible apply State.onSite_memOk | with_reducible apply State.sectorWrite_memOk | with_reducible apply State.answerWith_memOk | with_reducible apply foldl_memOk | with_reducible apply memOk_ite | with_reducible apply OutOk_ite | dsimp only | split | intro _)

theorem execDiscard_memOk (id : Nat) (s : State) (hyps : Memory.wf s.mem) :
    OutOk (execDiscard id s) := by
  unfold execDiscard
  repeat' (first | with_reducible assumption | with_reducible apply OutOk_next | with_reducible apply State.atHome_memOk | with_reducible apply State.peerAnswer_memOk | with_reducible apply State.onSite_memOk | with_reducible apply State.answerWith_memOk | with_reducible apply memOk_ite | with_reducible apply OutOk_ite | dsimp only | split | intro _)

theorem execCommitAnswer_memOk (id : Nat) (s : State) (hyps : Memory.wf s.mem) :
    OutOk (execCommitAnswer id s) := by
  unfold execCommitAnswer
  repeat' (first | with_reducible assumption | with_reducible apply OutOk_next | with_reducible apply State.dropReq_memOk | with_reducible apply State.onIssuer_memOk | with_reducible apply State.ctrlAborts_memOk | with_reducible apply memOk_ite | with_reducible apply OutOk_ite | dsimp only | split)

theorem execCgopen_memOk (sa : BitVec 5) (k cg : BitVec 3) (s : State) (hyps : Memory.wf s.mem) :
    OutOk (execCgopen sa k cg s) := by
  unfold execCgopen
  repeat' (first | with_reducible assumption | with_reducible apply OutOk_next | with_reducible apply State.wordFault_memOk | with_reducible apply State.ctx_memOk | with_reducible apply State.push_memOk | with_reducible apply State.retire_memOk | with_reducible apply memOk_ite | with_reducible apply OutOk_ite)

theorem State.sendPackets_memOk (s : State) (g : Nat) (publish : Bool) (hyps : Memory.wf s.mem) :
    Memory.wf (State.sendPackets s g publish).mem := by
  unfold State.sendPackets
  repeat' (first | with_reducible assumption | with_reducible apply State.ctx_memOk | with_reducible apply State.sendReq_memOk | with_reducible apply foldl_memOk | with_reducible apply memOk_ite | with_reducible apply OutOk_ite | dsimp only | split | intro _)

theorem State.groupRelease_memOk (s : State) (sd : BitVec 5) (g : Nat) (w : Wait) (hyps : Memory.wf s.mem) :
    OutOk (State.groupRelease s sd g w) := by
  unfold State.groupRelease
  repeat' (first | with_reducible assumption | with_reducible apply OutOk_next | with_reducible apply State.releaseObject_memOk | with_reducible apply State.endHold_memOk | with_reducible apply memOk_ite | with_reducible apply OutOk_ite | dsimp only | split | intro _)

theorem State.groupAnswers_memOk (s : State) (sd : BitVec 5) (g : Nat) (publish : Bool) (w : Wait) (hyps : Memory.wf s.mem) :
    OutOk (State.groupAnswers s sd g publish w) := by
  unfold State.groupAnswers
  repeat' (first | with_reducible assumption | with_reducible apply OutOk_next | with_reducible apply State.holdOn_memOk | with_reducible apply State.ctx_memOk | with_reducible apply State.groupRelease_memOk | with_reducible apply State.endHold_memOk | with_reducible apply memOk_ite | with_reducible apply OutOk_ite)

theorem State.groupPublish_memOk (s : State) (sd : BitVec 5) (g : Nat) (w : Wait) (hyps : Memory.wf s.mem) :
    OutOk (State.groupPublish s sd g w) := by
  unfold State.groupPublish
  repeat' (first | with_reducible assumption | with_reducible apply OutOk_next | with_reducible apply State.ctx_memOk | with_reducible apply State.sendPackets_memOk | with_reducible apply State.groupAnswers_memOk | with_reducible apply State.holdOn_memOk | with_reducible apply memOk_ite | with_reducible apply OutOk_ite)

theorem State.groupOn_memOk (s : State) (sd : BitVec 5) (g : Nat) (commit : Bool) (w : Wait) (hyps : Memory.wf s.mem) :
    OutOk (State.groupOn s sd g commit w) := by
  unfold State.groupOn
  repeat' (first | with_reducible assumption | with_reducible apply OutOk_next | with_reducible apply State.groupRelease_memOk | with_reducible apply State.groupAnswers_memOk | with_reducible apply State.groupPublish_memOk | with_reducible apply State.holdOn_memOk | with_reducible apply State.sendPackets_memOk | with_reducible apply memOk_ite | with_reducible apply OutOk_ite)

theorem State.groupWord_memOk (s : State) (sd : BitVec 5) (g : Nat) (commit : Bool) (hyps : Memory.wf s.mem) :
    OutOk (State.groupWord s sd g commit) := by
  unfold State.groupWord
  repeat' (first | with_reducible assumption | with_reducible apply OutOk_next | with_reducible apply State.groupOn_memOk | with_reducible apply State.ctx_memOk | with_reducible apply State.wordFault_memOk | with_reducible apply State.fencing_memOk | with_reducible apply memOk_ite | with_reducible apply OutOk_ite | dsimp only | split)

theorem execCgcommit_memOk (sd : BitVec 5) (cg : BitVec 3) (s : State) (hyps : Memory.wf s.mem) :
    OutOk (execCgcommit sd cg s) := by
  unfold execCgcommit
  repeat' (first | with_reducible assumption | with_reducible apply OutOk_next | with_reducible apply State.groupWord_memOk)

theorem execCgabort_memOk (sd : BitVec 5) (cg : BitVec 3) (s : State) (hyps : Memory.wf s.mem) :
    OutOk (execCgabort sd cg s) := by
  unfold execCgabort
  repeat' (first | with_reducible assumption | with_reducible apply OutOk_next | with_reducible apply State.groupWord_memOk)

theorem execCgstat_memOk (sd : BitVec 5) (cg : BitVec 3) (s : State) (hyps : Memory.wf s.mem) :
    OutOk (execCgstat sd cg s) := by
  unfold execCgstat
  repeat' (first | with_reducible assumption | with_reducible apply OutOk_next | with_reducible apply State.scalar_memOk)

theorem State.onHandle_memOk (s : State) (die h : Nat) (f : Handle → Handle) (hyps : Memory.wf s.mem) :
    Memory.wf (State.onHandle s die h f).mem := by
  unfold State.onHandle
  repeat' (first | with_reducible assumption | with_reducible apply State.onDie_memOk)

theorem State.onRegions_memOk (s : State) (f : Nat → Nat) (rs : List Nat) (hyps : Memory.wf s.mem) :
    Memory.wf (State.onRegions s f rs).mem := by
  unfold State.onRegions
  repeat' (first | with_reducible assumption)

theorem State.onEntries_memOk (s : State) (die : Nat) (f : Entry → Entry) (hyps : Memory.wf s.mem) :
    Memory.wf (State.onEntries s die f).mem := by
  unfold State.onEntries
  repeat' (first | with_reducible assumption)

theorem State.onEntry_memOk (s : State) (cid uid : Nat) (f : Entry → Entry) (hyps : Memory.wf s.mem) :
    Memory.wf (State.onEntry s cid uid f).mem := by
  unfold State.onEntry
  repeat' (first | with_reducible assumption | with_reducible apply State.onCore_memOk)

theorem State.freeSends_memOk (s : State) (die h : Nat) (hyps : Memory.wf s.mem) :
    Memory.wf (State.freeSends s die h).mem := by
  unfold State.freeSends
  repeat' (first | with_reducible assumption | with_reducible apply State.leaves_memOk | with_reducible apply State.onHandle_memOk)

theorem State.loseWindows_memOk (s : State) (die h : Nat) (hyps : Memory.wf s.mem) :
    Memory.wf (State.loseWindows s die h).mem := by
  unfold State.loseWindows
  repeat' (first | with_reducible assumption | with_reducible apply State.onEntry_memOk | with_reducible apply State.onHandle_memOk | with_reducible apply foldl_memOk | with_reducible apply memOk_ite | with_reducible apply OutOk_ite | dsimp only | split | intro _)

theorem State.cut_memOk (s : State) (die h : Nat) (hyps : Memory.wf s.mem) :
    Memory.wf (State.cut s die h).mem := by
  unfold State.cut
  repeat' (first | with_reducible assumption | with_reducible apply State.onRegions_memOk | with_reducible apply State.loseWindows_memOk | with_reducible apply State.onEntries_memOk | with_reducible apply State.onHandle_memOk | with_reducible apply State.freeSends_memOk | with_reducible apply memOk_ite)

theorem State.darken_memOk (s : State) (die h : Nat) (hyps : Memory.wf s.mem) :
    Memory.wf (State.darken s die h).mem := by
  unfold State.darken
  repeat' (first | with_reducible assumption | with_reducible apply State.cut_memOk | with_reducible apply State.onHandle_memOk)

theorem State.faultHandle_memOk (s : State) (die h code lgrp region : Nat) (hyps : Memory.wf s.mem) :
    Memory.wf (State.faultHandle s die h code lgrp region).mem := by
  unfold State.faultHandle
  repeat' (first | with_reducible assumption | with_reducible apply State.cut_memOk | with_reducible apply State.onHandle_memOk)

theorem State.freeHandle_memOk (s : State) (die h : Nat) (hyps : Memory.wf s.mem) :
    Memory.wf (State.freeHandle s die h).mem := by
  unfold State.freeHandle
  repeat' (first | with_reducible assumption | with_reducible apply State.darken_memOk | with_reducible apply State.onHandle_memOk | with_reducible apply memOk_ite)

theorem State.onSlice_memOk (s : State) (f : Seq → Seq) (hyps : Memory.wf s.mem) :
    Memory.wf (State.onSlice s f).mem := by
  unfold State.onSlice
  repeat' (first | with_reducible assumption | with_reducible apply State.onDie_memOk)

theorem State.seqNext_memOk (s : State) (hyps : Memory.wf s.mem) :
    Memory.wf (State.seqNext s).mem := by
  unfold State.seqNext
  repeat' (first | with_reducible assumption | with_reducible apply State.onSlice_memOk)

theorem State.seqStop_memOk (s : State) (reason : Nat) (hyps : Memory.wf s.mem) :
    Memory.wf (State.seqStop s reason).mem := by
  unfold State.seqStop
  repeat' (first | with_reducible assumption | with_reducible apply State.onSlice_memOk)

theorem State.seqHandle_memOk (s : State) (h : BitVec 5) (f : Handle → State) (hyps : Memory.wf s.mem) (hypf : ∀ x0, Memory.wf (f x0).mem) :
    OutOk (State.seqHandle s h f) := by
  unfold State.seqHandle
  repeat' (first | with_reducible assumption | with_reducible apply OutOk_next | with_reducible apply State.seqStop_memOk | with_reducible apply hypf | with_reducible apply memOk_ite)

theorem execRoute_memOk (h : BitVec 5) (die : BitVec 9) (port fport : BitVec 3) (fh : BitVec 5) (alt : BitVec 2) (s : State) (hyps : Memory.wf s.mem) :
    OutOk (execRoute h die port fport fh alt s) := by
  unfold execRoute
  repeat' (first | with_reducible assumption | with_reducible apply OutOk_next | with_reducible apply State.seqStop_memOk | with_reducible apply State.seqHandle_memOk | with_reducible apply State.onHandle_memOk | with_reducible apply State.seqNext_memOk | with_reducible apply memOk_ite | with_reducible apply OutOk_ite | dsimp only | split | intro _)

theorem State.settle_memOk (s : State) (die h : Nat) (r : Route) (hyps : Memory.wf s.mem) :
    Memory.wf (State.settle s die h r).mem := by
  unfold State.settle
  repeat' (first | with_reducible assumption | with_reducible apply State.onHandle_memOk | with_reducible apply State.faultHandle_memOk | with_reducible apply State.onRegions_memOk | with_reducible apply State.at_memOk | with_reducible apply memOk_ite | with_reducible apply OutOk_ite | dsimp only | split)

theorem execEst_memOk (h : BitVec 5) (s : State) (hyps : Memory.wf s.mem) :
    OutOk (execEst h s) := by
  unfold execEst
  repeat' (first | with_reducible assumption | with_reducible apply OutOk_next | with_reducible apply State.seqHandle_memOk | with_reducible apply State.seqStop_memOk | with_reducible apply State.seqNext_memOk | with_reducible apply State.settle_memOk | with_reducible apply memOk_ite | with_reducible apply OutOk_ite | dsimp only | split | intro _)

theorem State.setHold_memOk (s : State) (die h n : Nat) (hyps : Memory.wf s.mem) :
    Memory.wf (State.setHold s die h n).mem := by
  unfold State.setHold
  repeat' (first | with_reducible assumption | with_reducible apply State.onHandle_memOk | with_reducible apply State.at_memOk | with_reducible apply memOk_ite)

theorem execHold_memOk (h : BitVec 5) (n : BitVec 23) (s : State) (hyps : Memory.wf s.mem) :
    OutOk (execHold h n s) := by
  unfold execHold
  repeat' (first | with_reducible assumption | with_reducible apply OutOk_next | with_reducible apply State.seqHandle_memOk | with_reducible apply State.seqNext_memOk | with_reducible apply State.setHold_memOk | with_reducible apply memOk_ite | with_reducible apply OutOk_ite | dsimp only | split | intro _)

theorem execHoldEnd_memOk (die h : Nat) (s : State) (hyps : Memory.wf s.mem) :
    OutOk (execHoldEnd die h s) := by
  unfold execHoldEnd
  repeat' (first | with_reducible assumption | with_reducible apply OutOk_next | with_reducible apply State.darken_memOk | with_reducible apply memOk_ite | with_reducible apply OutOk_ite | dsimp only | split)

theorem execTear_memOk (h : BitVec 5) (s : State) (hyps : Memory.wf s.mem) :
    OutOk (execTear h s) := by
  unfold execTear
  repeat' (first | with_reducible assumption | with_reducible apply OutOk_next | with_reducible apply State.seqHandle_memOk | with_reducible apply State.seqNext_memOk | with_reducible apply State.onHandle_memOk | with_reducible apply State.darken_memOk | with_reducible apply State.faultHandle_memOk | with_reducible apply memOk_ite | with_reducible apply OutOk_ite | dsimp only | split | intro _)

theorem execAtstep_memOk (r : BitVec 1) (n : BitVec 27) (s : State) (hyps : Memory.wf s.mem) :
    OutOk (execAtstep r n s) := by
  unfold execAtstep
  repeat' (first | with_reducible assumption | with_reducible apply OutOk_next | with_reducible apply State.seqStop_memOk | with_reducible apply State.onSlice_memOk | with_reducible apply memOk_ite)

theorem execRpt_memOk (b : BitVec 8) (c : BitVec 20) (s : State) (hyps : Memory.wf s.mem) :
    OutOk (execRpt b c s) := by
  unfold execRpt
  repeat' (first | with_reducible assumption | with_reducible apply OutOk_next | with_reducible apply State.seqStop_memOk | with_reducible apply State.onSlice_memOk | with_reducible apply memOk_ite)

theorem execNop_memOk (s : State) (hyps : Memory.wf s.mem) :
    OutOk (execNop s) := by
  unfold execNop
  repeat' (first | with_reducible assumption | with_reducible apply OutOk_next | with_reducible apply State.seqNext_memOk)

theorem execFend_memOk (s : State) (hyps : Memory.wf s.mem) :
    OutOk (execFend s) := by
  unfold execFend
  repeat' (first | with_reducible assumption | with_reducible apply OutOk_next | with_reducible apply State.onSlice_memOk)

theorem execSliceStart_memOk (s : State) (hyps : Memory.wf s.mem) :
    OutOk (execSliceStart s) := by
  unfold execSliceStart
  repeat' (first | with_reducible assumption | with_reducible apply OutOk_next)

theorem State.fly_memOk (s : State) (t : Nat) (u : CircuitUnit) (hyps : Memory.wf s.mem) :
    Memory.wf (State.fly s t u).mem := by
  unfold State.fly
  repeat' (first | with_reducible assumption | with_reducible apply OutOk_next | with_reducible apply State.fresh_memOk | with_reducible apply State.at_memOk)

theorem execSig_memOk (core : BitVec 7) (flag : BitVec 6) (val : BitVec 15) (s : State) (hyps : Memory.wf s.mem) :
    OutOk (execSig core flag val s) := by
  unfold execSig
  repeat' (first | with_reducible assumption | with_reducible apply OutOk_next | with_reducible apply State.seqStop_memOk | with_reducible apply State.ctx_memOk | with_reducible apply State.seqNext_memOk | with_reducible apply State.fly_memOk | with_reducible apply memOk_ite | with_reducible apply OutOk_ite)

theorem execCircuitSettleEnd_memOk (die h : Nat) (unlocked : Option Nat) (s : State) (hyps : Memory.wf s.mem) :
    OutOk (execCircuitSettleEnd die h unlocked s) := by
  unfold execCircuitSettleEnd
  repeat' (first | with_reducible assumption | with_reducible apply OutOk_next | with_reducible apply State.faultHandle_memOk | with_reducible apply State.onHandle_memOk | with_reducible apply memOk_ite | with_reducible apply OutOk_ite | dsimp only | split)

theorem execCircuitFault_memOk (die h code lgrp region : Nat) (s : State) (hyps : Memory.wf s.mem) :
    OutOk (execCircuitFault die h code lgrp region s) := by
  unfold execCircuitFault
  repeat' (first | with_reducible assumption | with_reducible apply OutOk_next | with_reducible apply State.faultHandle_memOk | with_reducible apply memOk_ite | with_reducible apply OutOk_ite | dsimp only | split)

theorem execCircuitReestablish_memOk (die h : Nat) (s : State) (hyps : Memory.wf s.mem) :
    OutOk (execCircuitReestablish die h s) := by
  unfold execCircuitReestablish
  repeat' (first | with_reducible assumption | with_reducible apply OutOk_next | with_reducible apply State.onHandle_memOk | with_reducible apply State.settle_memOk | with_reducible apply memOk_ite | with_reducible apply OutOk_ite | dsimp only | split)

theorem execCpCsend_memOk (s : State) (hyps : Memory.wf s.mem) :
    OutOk (execCpCsend s) := by
  unfold execCpCsend
  repeat' (first | with_reducible assumption | with_reducible apply OutOk_next | with_reducible apply State.judge_memOk | with_reducible apply State.ctx_memOk | with_reducible apply State.onHandle_memOk | with_reducible apply memOk_ite | with_reducible apply OutOk_ite | dsimp only | split | intro _)

theorem State.startFeed_memOk (s : State) (die h t : Nat) (hyps : Memory.wf s.mem) :
    Memory.wf (State.startFeed s die h t).mem := by
  unfold State.startFeed
  repeat' (first | with_reducible assumption | with_reducible apply State.onHandle_memOk | with_reducible apply State.fly_memOk | with_reducible apply memOk_ite)

theorem execCpCbind_memOk (s : State) (hyps : Memory.wf s.mem) :
    OutOk (execCpCbind s) := by
  unfold execCpCbind
  repeat' (first | with_reducible assumption | with_reducible apply OutOk_next | with_reducible apply State.judge_memOk | with_reducible apply State.ctx_memOk | with_reducible apply State.onHandle_memOk | with_reducible apply State.startFeed_memOk | with_reducible apply memOk_ite | with_reducible apply OutOk_ite | dsimp only | split | intro _)

theorem State.sendUnits_memOk (s : State) (die : Nat) (r : Route) (e : Entry) (cid ts : Nat) (hyps : Memory.wf s.mem) :
    Memory.wf (State.sendUnits s die r e cid ts).mem := by
  unfold State.sendUnits
  repeat' (first | with_reducible assumption | with_reducible apply State.fly_memOk | with_reducible apply State.leaves_memOk | with_reducible apply foldl_memOk | with_reducible apply memOk_ite | with_reducible apply OutOk_ite | dsimp only | split | intro _)

theorem State.assignSends_memOk (s : State) (die h : Nat) (l : List (Nat × Nat)) (hyps : Memory.wf s.mem) :
    Memory.wf (State.assignSends s die h l).mem := by
  induction l generalizing s with
  | nil => exact State.onHandle_memOk _ _ _ _ hyps
  | cons x r ih =>
    obtain ⟨cid, uid⟩ := x
    unfold State.assignSends
    repeat' (first | with_reducible assumption | with_reducible apply ih | with_reducible apply State.onHandle_memOk | with_reducible apply State.onEntry_memOk | with_reducible apply State.sendUnits_memOk | dsimp only | split)

theorem State.dropSender_memOk (s : State) (die h cid uid : Nat) (hyps : Memory.wf s.mem) :
    Memory.wf (State.dropSender s die h cid uid).mem := by
  unfold State.dropSender
  repeat' (first | with_reducible assumption | with_reducible apply State.freeSends_memOk | with_reducible apply State.onHandle_memOk | with_reducible apply State.assignSends_memOk)

theorem State.portFault_memOk (s : State) (e : Entry) (frozen : Bool) (cause : BitVec 8) (tv : Word) (hyps : Memory.wf s.mem) :
    Memory.wf (State.portFault s e frozen cause tv).mem := by
  unfold State.portFault
  repeat' (first | with_reducible assumption | with_reducible apply State.ctx_memOk | with_reducible apply State.onEntry_memOk | with_reducible apply memOk_ite)

theorem State.portDone_memOk (s : State) (e : Entry) (frozen : Bool) (hyps : Memory.wf s.mem) :
    Memory.wf (State.portDone s e frozen).mem := by
  unfold State.portDone
  repeat' (first | with_reducible assumption | with_reducible apply State.ask_memOk | with_reducible apply State.ctx_memOk | with_reducible apply State.onEntry_memOk | with_reducible apply State.completionWrite_memOk | with_reducible apply memOk_ite)

theorem State.csendCycle_memOk (s : State) (e : Entry) (frozen : Bool) (hyps : Memory.wf s.mem) :
    Memory.wf (State.csendCycle s e frozen).mem := by
  unfold State.csendCycle
  repeat' (first | with_reducible assumption | with_reducible apply State.portFault_memOk | with_reducible apply State.ctx_memOk | with_reducible apply State.onEntry_memOk | with_reducible apply State.portDone_memOk | with_reducible apply State.dropSender_memOk | with_reducible apply State.assignSends_memOk | with_reducible apply memOk_ite | with_reducible apply OutOk_ite | dsimp only | split)

theorem State.windowEnd_memOk (s : State) (e : Entry) (frozen : Bool) (hyps : Memory.wf s.mem) :
    Memory.wf (State.windowEnd s e frozen).mem := by
  unfold State.windowEnd
  repeat' (first | with_reducible assumption | with_reducible apply OutOk_next | with_reducible apply State.portDone_memOk | with_reducible apply State.ctx_memOk | with_reducible apply State.enqueue_memOk | with_reducible apply State.completionWrite_memOk | with_reducible apply memOk_ite | with_reducible apply OutOk_ite | dsimp only | split)

theorem State.openWindow_memOk (s : State) (e : Entry) (hyps : Memory.wf s.mem) :
    Memory.wf (State.openWindow s e).mem := by
  unfold State.openWindow
  repeat' (first | with_reducible assumption | with_reducible apply State.onHandle_memOk | with_reducible apply State.startFeed_memOk | with_reducible apply memOk_ite)

theorem State.cbindCycle_memOk (s : State) (e : Entry) (frozen : Bool) (hyps : Memory.wf s.mem) :
    Memory.wf (State.cbindCycle s e frozen).mem := by
  unfold State.cbindCycle
  repeat' (first | with_reducible assumption | with_reducible apply State.portFault_memOk | with_reducible apply State.windowEnd_memOk | with_reducible apply State.openWindow_memOk | with_reducible apply memOk_ite | with_reducible apply OutOk_ite | dsimp only | split)

theorem State.portCycle_memOk (s : State) (e : Entry) (frozen : Bool) (hyps : Memory.wf s.mem) :
    Memory.wf (State.portCycle s e frozen).mem := by
  unfold State.portCycle
  repeat' (first | with_reducible assumption | with_reducible apply State.ctx_memOk | with_reducible apply State.csendCycle_memOk | with_reducible apply State.cbindCycle_memOk | with_reducible apply memOk_ite)

theorem State.dropWindow_memOk (s : State) (die h cid uid : Nat) (hyps : Memory.wf s.mem) :
    Memory.wf (State.dropWindow s die h cid uid).mem := by
  unfold State.dropWindow
  repeat' (first | with_reducible assumption | with_reducible apply State.onHandle_memOk)

theorem State.placeBytes_memOk (s : State) (die h cid : Nat) (e : Entry) (bs : List Byte) (hyps : Memory.wf s.mem) :
    Memory.wf (State.placeBytes s die h cid e bs).mem := by
  unfold State.placeBytes
  repeat' (first | with_reducible assumption | with_reducible apply State.fly_memOk | with_reducible apply State.onEntry_memOk | with_reducible apply State.dropWindow_memOk | with_reducible apply memOk_ite)

theorem State.fillWindows_fst (s : State) (die h n : Nat) (bs : List Byte) (hyps : Memory.wf s.mem) :
    Memory.wf (State.fillWindows s die h n bs).1.mem := by
  induction n generalizing s bs with
  | zero => exact hyps
  | succ n ih =>
    unfold State.fillWindows
    repeat' (first | with_reducible assumption | with_reducible apply ih | with_reducible apply State.dropWindow_memOk | with_reducible apply State.placeBytes_memOk | dsimp only | split)

theorem State.fillWindows_memOk (s : State) (die h n : Nat) (bs : List Byte) {t : State} {x} (heq : State.fillWindows s die h n bs = (t, x))
    (hyps : Memory.wf s.mem) : Memory.wf t.mem := by
  have h := State.fillWindows_fst s die h n bs hyps
  rw [heq] at h
  exact h

theorem State.stash_memOk (s : State) (die h : Nat) (bs : List Byte) (hyps : Memory.wf s.mem) :
    Memory.wf (State.stash s die h bs).mem := by
  unfold State.stash
  repeat' (first | with_reducible assumption | with_reducible apply State.onHandle_memOk)

theorem State.deliver_memOk (s : State) (die h : Nat) (bs : List Byte) (hyps : Memory.wf s.mem) :
    Memory.wf (State.deliver s die h bs).mem := by
  unfold State.deliver
  repeat' (first | with_reducible assumption | with_reducible apply State.stash_memOk | refine State.fillWindows_memOk _ _ _ _ _ (by assumption) ?_ | with_reducible apply State.fillWindows_fst | with_reducible apply memOk_ite)

theorem State.feed_memOk (s : State) (die h n left : Nat) (hyps : Memory.wf s.mem) :
    Memory.wf (State.feed s die h n left).mem := by
  induction n generalizing s left with
  | zero => exact hyps
  | succ n ih =>
    unfold State.feed
    extract_lets x
    split
    · exact ih _ _ (State.onEntry_memOk _ _ _ _ (State.dropWindow_memOk _ _ _ _ _ (State.onHandle_memOk _ _ _ _ hyps)))
    · split
      · exact hyps
      · rename_i bs _ _ _ _ _ _ _ _ _ _
        have hf := State.fillWindows_fst s die h 5 bs hyps
        cases hx : s.fillWindows die h 5 bs with
        | mk t rest =>
          rw [hx] at hf
          exact ih _ _ (State.onHandle_memOk _ _ _ _ hf)
    · exact hyps

theorem State.unitPerform_memOk (s : State) (u : CircuitUnit) (hyps : Memory.wf s.mem) :
    Memory.wf (State.unitPerform s u).mem := by
  unfold State.unitPerform
  repeat' (first | with_reducible assumption | with_reducible apply State.onEntry_memOk | with_reducible apply memOk_ite)

theorem State.unitDue_memOk (s : State) (u : CircuitUnit) (hyps : Memory.wf s.mem) :
    Memory.wf (State.unitDue s u).mem := by
  unfold State.unitDue
  repeat' (first | with_reducible assumption | with_reducible apply State.askAt_memOk)

theorem execCircuitUnitLanding_memOk (id : Nat) (s : State) (hyps : Memory.wf s.mem) :
    OutOk (execCircuitUnitLanding id s) := by
  unfold execCircuitUnitLanding
  repeat' (first | with_reducible assumption | with_reducible apply OutOk_next | with_reducible apply State.deliver_memOk | with_reducible apply State.feed_memOk | with_reducible apply State.onHandle_memOk | with_reducible apply State.startFeed_memOk | with_reducible apply State.unitDue_memOk | with_reducible apply State.unitPerform_memOk | with_reducible apply memOk_ite | with_reducible apply OutOk_ite | dsimp only | split)

theorem execCstat_memOk (sd h : BitVec 5) (s : State) (hyps : Memory.wf s.mem) :
    OutOk (execCstat sd h s) := by
  unfold execCstat
  repeat' (first | with_reducible assumption | with_reducible apply OutOk_next | with_reducible apply State.scalar_memOk)

theorem execCstatSettle_memOk (sd : BitVec 5) (s : State) (hyps : Memory.wf s.mem) :
    OutOk (execCstatSettle sd s) := by
  unfold execCstatSettle
  repeat' (first | with_reducible assumption | with_reducible apply OutOk_next | with_reducible apply State.scalar_memOk)

theorem execCstatStart_memOk (sd : BitVec 5) (s : State) (hyps : Memory.wf s.mem) :
    OutOk (execCstatStart sd s) := by
  unfold execCstatStart
  repeat' (first | with_reducible assumption | with_reducible apply OutOk_next | with_reducible apply State.ctx_memOk | with_reducible apply State.scalar_memOk)

theorem execCstatFrec_memOk (sd h : BitVec 5) (s : State) (hyps : Memory.wf s.mem) :
    OutOk (execCstatFrec sd h s) := by
  unfold execCstatFrec
  repeat' (first | with_reducible assumption | with_reducible apply OutOk_next | with_reducible apply State.scalar_memOk)

theorem execCwait_memOk (sd sa h : BitVec 5) (s : State) (hyps : Memory.wf s.mem) :
    OutOk (execCwait sd sa h s) := by
  unfold execCwait
  repeat' (first | with_reducible assumption | with_reducible apply OutOk_next | with_reducible apply State.endHold_memOk | with_reducible apply State.holdOn_memOk | with_reducible apply memOk_ite | with_reducible apply OutOk_ite)

theorem execCwaitExpiry_memOk (s : State) (hyps : Memory.wf s.mem) :
    OutOk (execCwaitExpiry s) := by
  unfold execCwaitExpiry
  repeat' (first | with_reducible assumption | with_reducible apply OutOk_next | with_reducible apply State.endAfter_memOk | with_reducible apply memOk_ite | with_reducible apply OutOk_ite | dsimp only | split)

theorem State.control_memOk (s : State) (f : Unit → Out) (hyps : Memory.wf s.mem) (hypf : ∀ x0, OutOk (f x0)) :
    OutOk (State.control s f) := by
  unfold State.control
  repeat' (first | with_reducible assumption | with_reducible apply OutOk_next | with_reducible apply State.ctx_memOk | with_reducible apply State.sq_memOk | with_reducible apply State.illegal_memOk | with_reducible apply hypf | with_reducible apply memOk_ite | with_reducible apply OutOk_ite)

theorem State.branchTo_memOk (s : State) (target : Int) (f : Nat → Out) (hyps : Memory.wf s.mem) (hypf : ∀ x0, OutOk (f x0)) :
    OutOk (State.branchTo s target f) := by
  unfold State.branchTo
  repeat' (first | with_reducible assumption | with_reducible apply OutOk_next | with_reducible apply State.wordFault_memOk | with_reducible apply hypf | with_reducible apply memOk_ite | with_reducible apply OutOk_ite)

theorem execBr_memOk (g : BitVec 4) (off : BitVec 20) (s : State) (hyps : Memory.wf s.mem) :
    OutOk (execBr g off s) := by
  unfold execBr
  repeat' (first | with_reducible assumption | with_reducible apply OutOk_next | with_reducible apply State.control_memOk | with_reducible apply State.branchTo_memOk | with_reducible apply State.retireBranch_memOk | with_reducible apply memOk_ite | with_reducible apply OutOk_ite | dsimp only | split | intro _)

theorem execCall_memOk (g : BitVec 4) (off : BitVec 20) (s : State) (hyps : Memory.wf s.mem) :
    OutOk (execCall g off s) := by
  unfold execCall
  repeat' (first | with_reducible assumption | with_reducible apply OutOk_next | with_reducible apply State.control_memOk | with_reducible apply State.branchTo_memOk | with_reducible apply State.push_memOk | with_reducible apply State.retireBranch_memOk | with_reducible apply memOk_ite | with_reducible apply OutOk_ite | dsimp only | split | intro _)

theorem execJr_memOk (sd sa : BitVec 5) (g : BitVec 4) (s : State) (hyps : Memory.wf s.mem) :
    OutOk (execJr sd sa g s) := by
  unfold execJr
  repeat' (first | with_reducible assumption | with_reducible apply OutOk_next | with_reducible apply State.control_memOk | with_reducible apply State.branchTo_memOk | with_reducible apply State.push_memOk | with_reducible apply State.retireBranch_memOk | with_reducible apply memOk_ite | with_reducible apply OutOk_ite | dsimp only | split | intro _)

theorem State.startLoop_memOk (s : State) (l : BitVec 2) (count : BitVec 32) (b : Nat) (hyps : Memory.wf s.mem) :
    OutOk (State.startLoop s l count b) := by
  unfold State.startLoop
  repeat' (first | with_reducible assumption | with_reducible apply OutOk_next | with_reducible apply State.ctx_memOk | with_reducible apply State.sq_memOk | with_reducible apply State.wordFault_memOk | with_reducible apply State.push_memOk | with_reducible apply State.retireTo_memOk | with_reducible apply memOk_ite | with_reducible apply OutOk_ite)

theorem execLoop_memOk (l : BitVec 2) (sa : BitVec 5) (g : BitVec 4) (b : BitVec 10) (s : State) (hyps : Memory.wf s.mem) :
    OutOk (execLoop l sa g b s) := by
  unfold execLoop
  repeat' (first | with_reducible assumption | with_reducible apply OutOk_next | with_reducible apply State.control_memOk | with_reducible apply State.guarded_memOk | with_reducible apply State.startLoop_memOk | with_reducible apply memOk_ite | with_reducible apply OutOk_ite | dsimp only | split | intro _)

theorem execLoopi_memOk (l : BitVec 2) (c : BitVec 9) (b : BitVec 10) (s : State) (hyps : Memory.wf s.mem) :
    OutOk (execLoopi l c b s) := by
  unfold execLoopi
  repeat' (first | with_reducible assumption | with_reducible apply OutOk_next | with_reducible apply State.control_memOk | with_reducible apply State.startLoop_memOk | with_reducible apply memOk_ite | with_reducible apply OutOk_ite | dsimp only | split | intro _)

theorem execLbrk_memOk (l : BitVec 2) (g : BitVec 4) (s : State) (hyps : Memory.wf s.mem) :
    OutOk (execLbrk l g s) := by
  unfold execLbrk
  repeat' (first | with_reducible assumption | with_reducible apply OutOk_next | with_reducible apply State.control_memOk | with_reducible apply State.ctx_memOk | with_reducible apply State.branchTo_memOk | with_reducible apply State.push_memOk | with_reducible apply State.retireBranch_memOk | with_reducible apply foldl_memOk | with_reducible apply memOk_ite | with_reducible apply OutOk_ite | dsimp only | split | intro _)

theorem State.farJump_memOk (s : State) (f : Unit → Out) (hyps : Memory.wf s.mem) (hypf : ∀ x0, OutOk (f x0)) :
    OutOk (State.farJump s f) := by
  unfold State.farJump
  repeat' (first | with_reducible assumption | with_reducible apply OutOk_next | with_reducible apply State.wide_memOk | with_reducible apply State.ctx_memOk | with_reducible apply State.sq_memOk | with_reducible apply State.illegal_memOk | with_reducible apply hypf | with_reducible apply memOk_ite | with_reducible apply OutOk_ite | dsimp only | split | intro _)

theorem execJmpf_memOk (tgt : BitVec 13) (s : State) (hyps : Memory.wf s.mem) :
    OutOk (execJmpf tgt s) := by
  unfold execJmpf
  repeat' (first | with_reducible assumption | with_reducible apply OutOk_next | with_reducible apply State.farJump_memOk | with_reducible apply State.retireTo_memOk | with_reducible apply memOk_ite | with_reducible apply OutOk_ite | dsimp only | split | intro _)

theorem execCallf_memOk (sd : BitVec 5) (tgt : BitVec 13) (s : State) (hyps : Memory.wf s.mem) :
    OutOk (execCallf sd tgt s) := by
  unfold execCallf
  repeat' (first | with_reducible assumption | with_reducible apply OutOk_next | with_reducible apply State.farJump_memOk | with_reducible apply State.push_memOk | with_reducible apply State.retireTo_memOk | with_reducible apply memOk_ite | with_reducible apply OutOk_ite | dsimp only | split | intro _)

theorem execIdle_memOk (sa : BitVec 5) (g : BitVec 4) (n : BitVec 10) (s : State) (hyps : Memory.wf s.mem) :
    OutOk (execIdle sa g n s) := by
  unfold execIdle
  repeat' (first | with_reducible assumption | with_reducible apply OutOk_next | with_reducible apply State.retire_memOk | with_reducible apply State.holdOn_memOk | with_reducible apply memOk_ite | with_reducible apply OutOk_ite)

theorem State.faultTrap_memOk (s : State) (hyps : Memory.wf s.mem) :
    Memory.wf (State.faultTrap s).mem := by
  unfold State.faultTrap
  repeat' (first | with_reducible assumption | with_reducible apply State.ctx_memOk | with_reducible apply State.trapNext_memOk | with_reducible apply State.wheel_memOk | with_reducible apply memOk_ite | with_reducible apply OutOk_ite | dsimp only | split)

theorem execRqrd_memOk (sd i w : BitVec 5) (s : State) (hyps : Memory.wf s.mem) :
    OutOk (execRqrd sd i w s) := by
  unfold execRqrd
  repeat' (first | with_reducible assumption | with_reducible apply OutOk_next | with_reducible apply State.ctx_memOk | with_reducible apply State.scalar_memOk)

theorem execRqwr_memOk (sa i w : BitVec 5) (s : State) (hyps : Memory.wf s.mem) :
    OutOk (execRqwr sa i w s) := by
  unfold execRqwr
  repeat' (first | with_reducible assumption | with_reducible apply OutOk_next | with_reducible apply State.ctx_memOk | with_reducible apply State.retire_memOk)

theorem State.dropEntry_memOk (s : State) (e : Entry) (hyps : Memory.wf s.mem) :
    Memory.wf (State.dropEntry s e).mem := by
  unfold State.dropEntry
  repeat' (first | with_reducible assumption | with_reducible apply State.ctx_memOk | with_reducible apply State.leaves_memOk | with_reducible apply State.onHandle_memOk | with_reducible apply State.dropSender_memOk | with_reducible apply State.dropWindow_memOk | with_reducible apply memOk_ite)

theorem State.restartPort_memOk (s : State) (e : Entry) (hyps : Memory.wf s.mem) :
    Memory.wf (State.restartPort s e).mem := by
  unfold State.restartPort
  repeat' (first | with_reducible assumption | with_reducible apply State.ctx_memOk | with_reducible apply State.onHandle_memOk | with_reducible apply State.openWindow_memOk | with_reducible apply memOk_ite)

theorem State.resumeEntry_memOk (s : State) (e : Entry) (hyps : Memory.wf s.mem) :
    Memory.wf (State.resumeEntry s e).mem := by
  unfold State.resumeEntry
  repeat' (first | with_reducible assumption | with_reducible apply State.restartPort_memOk | with_reducible apply State.ctx_memOk | with_reducible apply memOk_ite)

theorem State.putBack_memOk (s : State) (reported : Option Nat) (x : Entry × Nat) (hyps : Memory.wf s.mem) :
    Memory.wf (State.putBack s reported x).mem := by
  unfold State.putBack
  repeat' (first | with_reducible assumption | with_reducible apply State.dropEntry_memOk | with_reducible apply State.ctx_memOk | with_reducible apply State.resumeEntry_memOk | with_reducible apply memOk_ite)

theorem State.reinject_memOk (s : State) (reported : Option Nat) (es : List Entry) (hyps : Memory.wf s.mem) :
    Memory.wf (State.reinject s reported es).mem := by
  unfold State.reinject
  repeat' (first | with_reducible assumption | with_reducible apply State.putBack_memOk | with_reducible apply State.faultTrap_memOk | with_reducible apply foldl_memOk | with_reducible apply memOk_ite | with_reducible apply OutOk_ite | dsimp only | split | intro _)

theorem State.resume_memOk (s : State) (hyps : Memory.wf s.mem) :
    Memory.wf (State.resume s).mem := by
  unfold State.resume
  repeat' (first | with_reducible assumption | with_reducible apply State.ctx_memOk | with_reducible apply State.sq_memOk | with_reducible apply State.reinject_memOk | with_reducible apply memOk_ite | with_reducible apply OutOk_ite | dsimp only | split)

theorem execRett_memOk (s : State) (hyps : Memory.wf s.mem) :
    OutOk (execRett s) := by
  unfold execRett
  repeat' (first | with_reducible assumption | with_reducible apply OutOk_next | with_reducible apply State.holdOn_memOk | with_reducible apply State.resume_memOk | with_reducible apply State.ctx_memOk | with_reducible apply State.wordFault_memOk | with_reducible apply memOk_ite | with_reducible apply OutOk_ite | dsimp only | split)

theorem execTrap_memOk (sa : BitVec 5) (code : BitVec 8) (s : State) (hyps : Memory.wf s.mem) :
    OutOk (execTrap sa code s) := by
  unfold execTrap
  repeat' (first | with_reducible assumption | with_reducible apply OutOk_next | with_reducible apply State.illegal_memOk | with_reducible apply State.ctx_memOk | with_reducible apply State.retire_memOk | with_reducible apply memOk_ite | with_reducible apply OutOk_ite)

theorem State.stopCore_memOk (s : State) (cid : Nat) (reason : BitVec 3) (hyps : Memory.wf s.mem) :
    Memory.wf (State.stopCore s cid reason).mem := by
  unfold State.stopCore
  repeat' (first | with_reducible assumption | with_reducible apply State.traceHeads_memOk | with_reducible apply State.onCore_memOk)

theorem State.stopHere_memOk (s : State) (reason : BitVec 3) (hyps : Memory.wf s.mem) :
    Memory.wf (State.stopHere s reason).mem := by
  unfold State.stopHere
  repeat' (first | with_reducible assumption | with_reducible apply State.stopCore_memOk | with_reducible apply State.onCore_memOk | with_reducible apply foldl_memOk | with_reducible apply memOk_ite | with_reducible apply OutOk_ite | dsimp only | split | intro _)

theorem State.unfreeze_memOk (s : State) (hyps : Memory.wf s.mem) :
    Memory.wf (State.unfreeze s).mem := by
  unfold State.unfreeze
  repeat' (first | with_reducible assumption | with_reducible apply State.ctx_memOk | with_reducible apply State.wheel_memOk | with_reducible apply State.reinject_memOk | with_reducible apply memOk_ite | with_reducible apply OutOk_ite | dsimp only | split)

theorem execPbr_memOk (pd : BitVec 3) (lvl : BitVec 2) (s : State) (hyps : Memory.wf s.mem) :
    OutOk (execPbr pd lvl s) := by
  unfold execPbr
  repeat' (first | with_reducible assumption | with_reducible apply OutOk_next | with_reducible apply State.illegal_memOk | with_reducible apply State.predicate_memOk | with_reducible apply memOk_ite | with_reducible apply OutOk_ite)

theorem execPack_memOk (sd : BitVec 5) (s : State) (hyps : Memory.wf s.mem) :
    OutOk (execPack sd s) := by
  unfold execPack
  repeat' (first | with_reducible assumption | with_reducible apply OutOk_next | with_reducible apply State.onDie_memOk | with_reducible apply State.at_memOk | with_reducible apply State.scalar_memOk | with_reducible apply memOk_ite | with_reducible apply OutOk_ite)

theorem execPowerEvaluation_memOk (die milliwatt : Nat) (s : State) (hyps : Memory.wf s.mem) :
    OutOk (execPowerEvaluation die milliwatt s) := by
  unfold execPowerEvaluation
  repeat' (first | with_reducible assumption | with_reducible apply OutOk_next | with_reducible apply State.onDie_memOk | with_reducible apply State.at_memOk | with_reducible apply memOk_ite | with_reducible apply OutOk_ite)

theorem execDemandEpisodeExpiry_memOk (die : Nat) (s : State) (hyps : Memory.wf s.mem) :
    OutOk (execDemandEpisodeExpiry die s) := by
  unfold execDemandEpisodeExpiry
  repeat' (first | with_reducible assumption | with_reducible apply OutOk_next | with_reducible apply State.onDie_memOk | with_reducible apply memOk_ite | with_reducible apply OutOk_ite | dsimp only | split)

theorem execDroopDetect_memOk (die : Nat) (s : State) (hyps : Memory.wf s.mem) :
    OutOk (execDroopDetect die s) := by
  unfold execDroopDetect
  repeat' (first | with_reducible assumption | with_reducible apply OutOk_next | with_reducible apply State.onDie_memOk)

theorem execDroopDetectorClear_memOk (die : Nat) (s : State) (hyps : Memory.wf s.mem) :
    OutOk (execDroopDetectorClear die s) := by
  unfold execDroopDetectorClear
  repeat' (first | with_reducible assumption | with_reducible apply OutOk_next | with_reducible apply State.onDie_memOk)

theorem State.setClock_memOk (s : State) (die mhz : Nat) (hyps : Memory.wf s.mem) :
    Memory.wf (State.setClock s die mhz).mem := by
  unfold State.setClock
  repeat' (first | with_reducible assumption | with_reducible apply State.onDie_memOk)

theorem execFrequencyChange_memOk (die mhz : Nat) (s : State) (hyps : Memory.wf s.mem) :
    OutOk (execFrequencyChange die mhz s) := by
  unfold execFrequencyChange
  repeat' (first | with_reducible assumption | with_reducible apply OutOk_next | with_reducible apply State.setClock_memOk | with_reducible apply memOk_ite | with_reducible apply OutOk_ite)

theorem execFabricEnergyCheck_memOk (milliwatt : Nat × Nat) (shares : List (Nat × Nat)) (s : State) (hyps : Memory.wf s.mem) :
    OutOk (execFabricEnergyCheck milliwatt shares s) := by
  unfold execFabricEnergyCheck
  repeat' (first | with_reducible assumption | with_reducible apply OutOk_next | with_reducible apply State.onDie_memOk | with_reducible apply State.post_memOk | with_reducible apply foldl_memOk | with_reducible apply memOk_ite | with_reducible apply OutOk_ite | dsimp only | split | intro _)

theorem State.onCluster_memOk (s : State) (die c : Nat) (f : Cluster → Cluster) (hyps : Memory.wf s.mem) :
    Memory.wf (State.onCluster s die c f).mem := by
  unfold State.onCluster
  repeat' (first | with_reducible assumption | with_reducible apply State.onDie_memOk)

theorem execClusterClosing_memOk (die c : Nat) (value : Bool) (s : State) (hyps : Memory.wf s.mem) :
    OutOk (execClusterClosing die c value s) := by
  unfold execClusterClosing
  repeat' (first | with_reducible assumption | with_reducible apply OutOk_next | with_reducible apply State.onCluster_memOk | with_reducible apply State.drainCheck_memOk | with_reducible apply State.ctx_memOk | with_reducible apply State.at_memOk | with_reducible apply memOk_ite | with_reducible apply OutOk_ite)

theorem execClusterGate_memOk (die c : Nat) (s : State) (hyps : Memory.wf s.mem) :
    OutOk (execClusterGate die c s) := by
  unfold execClusterGate
  repeat' (first | with_reducible assumption | with_reducible apply OutOk_next | with_reducible apply State.onCluster_memOk | with_reducible apply State.at_memOk | with_reducible apply memOk_ite | with_reducible apply OutOk_ite)

theorem State.startWake_memOk (s : State) (die c : Nat) (hyps : Memory.wf s.mem) :
    Memory.wf (State.startWake s die c).mem := by
  unfold State.startWake
  repeat' (first | with_reducible assumption | with_reducible apply State.at_memOk)

theorem execClusterGateProgress_memOk (die c : Nat) (s : State) (hyps : Memory.wf s.mem) :
    OutOk (execClusterGateProgress die c s) := by
  unfold execClusterGateProgress
  repeat' (first | with_reducible assumption | with_reducible apply OutOk_next | with_reducible apply State.onCluster_memOk | with_reducible apply State.at_memOk | with_reducible apply State.onCore_memOk | with_reducible apply State.startWake_memOk | with_reducible apply foldl_memOk | with_reducible apply memOk_ite | with_reducible apply OutOk_ite | dsimp only | split | intro _)

theorem State.wake_memOk (s : State) (die c : Nat) (hyps : Memory.wf s.mem) :
    Memory.wf (State.wake s die c).mem := by
  unfold State.wake
  repeat' (first | with_reducible assumption | with_reducible apply State.onCluster_memOk | with_reducible apply State.startWake_memOk | with_reducible apply memOk_ite)

theorem execClusterWake_memOk (die c : Nat) (s : State) (hyps : Memory.wf s.mem) :
    OutOk (execClusterWake die c s) := by
  unfold execClusterWake
  repeat' (first | with_reducible assumption | with_reducible apply OutOk_next | with_reducible apply State.wake_memOk)

theorem execClusterWakeProgress_memOk (die c : Nat) (s : State) (hyps : Memory.wf s.mem) :
    OutOk (execClusterWakeProgress die c s) := by
  unfold execClusterWakeProgress
  repeat' (first | with_reducible assumption | with_reducible apply OutOk_next | with_reducible apply State.onCluster_memOk | with_reducible apply State.at_memOk | with_reducible apply State.poke_memOk | with_reducible apply memOk_ite | with_reducible apply OutOk_ite)

theorem execMarginReplan_memOk (die fmax vguard hours : Nat) (s : State) (hyps : Memory.wf s.mem) :
    OutOk (execMarginReplan die fmax vguard hours s) := by
  unfold execMarginReplan
  repeat' (first | with_reducible assumption | with_reducible apply OutOk_next | with_reducible apply State.onDie_memOk | with_reducible apply State.post_memOk | with_reducible apply State.at_memOk | with_reducible apply foldl_memOk | with_reducible apply memOk_ite | with_reducible apply OutOk_ite | dsimp only | split | intro _)

theorem execBkpt_memOk (code : BitVec 12) (s : State) (hyps : Memory.wf s.mem) :
    OutOk (execBkpt code s) := by
  unfold execBkpt
  repeat' (first | with_reducible assumption | with_reducible apply OutOk_next | with_reducible apply State.retire_memOk | with_reducible apply State.wordFault_memOk | with_reducible apply memOk_ite | with_reducible apply OutOk_ite)

theorem State.askStop_memOk (s : State) (cid : Nat) (hyps : Memory.wf s.mem) :
    Memory.wf (State.askStop s cid).mem := by
  unfold State.askStop
  repeat' (first | with_reducible assumption | with_reducible apply State.onCore_memOk | with_reducible apply State.stopCore_memOk | with_reducible apply memOk_ite)

theorem execDebugStopreq_memOk (cid : Nat) (s : State) (hyps : Memory.wf s.mem) :
    OutOk (execDebugStopreq cid s) := by
  unfold execDebugStopreq
  repeat' (first | with_reducible assumption | with_reducible apply OutOk_next | with_reducible apply State.stopCore_memOk | with_reducible apply State.askStop_memOk | with_reducible apply foldl_memOk | with_reducible apply memOk_ite | with_reducible apply OutOk_ite | dsimp only | split | intro _)

theorem execBkcycStop_memOk (s : State) (hyps : Memory.wf s.mem) :
    OutOk (execBkcycStop s) := by
  unfold execBkcycStop
  repeat' (first | with_reducible assumption | with_reducible apply OutOk_next | with_reducible apply State.stopHere_memOk | with_reducible apply memOk_ite)

theorem execModuleHalt_memOk (s : State) (hyps : Memory.wf s.mem) :
    OutOk (execModuleHalt s) := by
  unfold execModuleHalt
  repeat' (first | with_reducible assumption | with_reducible apply OutOk_next | with_reducible apply State.askStop_memOk | with_reducible apply foldl_memOk)

theorem State.syncClock_memOk (s : State) (cid : Nat) (later : Bool) (hyps : Memory.wf s.mem) :
    Memory.wf (State.syncClock s cid later).mem := by
  unfold State.syncClock
  repeat' (first | with_reducible assumption | with_reducible apply State.onCore_memOk)

theorem State.haltEnds_memOk (s : State) (hyps : Memory.wf s.mem) :
    Memory.wf (State.haltEnds s).mem := by
  unfold State.haltEnds
  repeat' (first | with_reducible assumption | with_reducible apply memOk_ite)

theorem State.resumeCore_memOk (s : State) (cid : Nat) (hyps : Memory.wf s.mem) :
    Memory.wf (State.resumeCore s cid).mem := by
  unfold State.resumeCore
  repeat' (first | with_reducible assumption | with_reducible apply State.focus_memOk | with_reducible apply State.syncClock_memOk | with_reducible apply State.unfreeze_memOk | with_reducible apply State.haltEnds_memOk | with_reducible apply memOk_ite)

theorem execDebugResume_memOk (cid : Nat) (s : State) (hyps : Memory.wf s.mem) :
    OutOk (execDebugResume cid s) := by
  unfold execDebugResume
  repeat' (first | with_reducible assumption | with_reducible apply OutOk_next | with_reducible apply State.resumeCore_memOk)

theorem State.beginStep_memOk (s : State) (cid : Nat) (hyps : Memory.wf s.mem) :
    Memory.wf (State.beginStep s cid).mem := by
  unfold State.beginStep
  repeat' (first | with_reducible assumption | with_reducible apply OutOk_next | with_reducible apply State.resumeCore_memOk | with_reducible apply State.fresh_memOk | with_reducible apply State.onCore_memOk | with_reducible apply State.ctx_memOk | with_reducible apply State.sq_memOk | with_reducible apply memOk_ite)

theorem execDebugStep_memOk (cid : Nat) (s : State) (hyps : Memory.wf s.mem) :
    OutOk (execDebugStep cid s) := by
  unfold execDebugStep
  repeat' (first | with_reducible assumption | with_reducible apply OutOk_next | with_reducible apply State.beginStep_memOk | with_reducible apply foldl_memOk)

theorem State.finishStep_memOk (s : State) (hyps : Memory.wf s.mem) :
    Memory.wf (State.finishStep s).mem := by
  unfold State.finishStep
  repeat' (first | with_reducible assumption | with_reducible apply State.traceHeads_memOk | with_reducible apply State.trapNext_memOk | with_reducible apply State.stopHere_memOk | with_reducible apply memOk_ite)

theorem execPrctlClr_memOk (s : State) (hyps : Memory.wf s.mem) :
    OutOk (execPrctlClr s) := by
  unfold execPrctlClr
  repeat' (first | with_reducible assumption | with_reducible apply OutOk_next)

theorem execSampleRecord_memOk (s : State) (hyps : Memory.wf s.mem) :
    OutOk (execSampleRecord s) := by
  unfold execSampleRecord
  repeat' (first | with_reducible assumption | with_reducible apply OutOk_next | with_reducible apply State.traceHeads_memOk)

theorem State.checkEnd_memOk (s : State) (hyps : Memory.wf s.mem) :
    Memory.wf (State.checkEnd s).mem := by
  unfold State.checkEnd
  repeat' (first | with_reducible assumption | with_reducible apply State.ctx_memOk | with_reducible apply State.sq_memOk | with_reducible apply State.trapFrame_memOk | with_reducible apply State.faultEnd_memOk | with_reducible apply memOk_ite)

theorem State.logCheck_memOk (s : State) (cid unit : Nat) (hyps : Memory.wf s.mem) :
    Memory.wf (State.logCheck s cid unit).mem := by
  unfold State.logCheck
  repeat' (first | with_reducible assumption)

theorem execMachineCheck_memOk (cid : Nat) (s : State) (hyps : Memory.wf s.mem) :
    OutOk (execMachineCheck cid s) := by
  unfold execMachineCheck
  repeat' (first | with_reducible assumption | with_reducible apply OutOk_next | with_reducible apply State.logCheck_memOk | with_reducible apply State.focus_memOk | with_reducible apply State.checkEnd_memOk)

theorem State.entryRetired_memOk (s : State) (cid : Nat) (c : Ctx) (hyps : Memory.wf s.mem) :
    Memory.wf (State.entryRetired s cid c).mem := by
  unfold State.entryRetired
  repeat' (first | with_reducible assumption | with_reducible apply State.vaTouched_memOk | with_reducible apply State.vaWrite_memOk | with_reducible apply State.onTask_memOk | with_reducible apply State.recordWrite_memOk | with_reducible apply memOk_ite | with_reducible apply OutOk_ite | dsimp only | split)

theorem State.buryHolders_memOk (s : State) (dead : Nat → Bool) (hyps : Memory.wf s.mem) :
    Memory.wf (State.buryHolders s dead).mem := by
  unfold State.buryHolders
  repeat' (first | with_reducible assumption | with_reducible apply State.orphan_memOk | with_reducible apply State.mlrCheck_memOk | with_reducible apply foldl_memOk | with_reducible apply memOk_ite | with_reducible apply OutOk_ite | dsimp only | split | intro _)

theorem State.exchange_memOk (s : State) (hyps : Memory.wf s.mem) :
    Memory.wf (State.exchange s).mem := by
  unfold State.exchange
  repeat' (first | with_reducible assumption | with_reducible apply State.ctx_memOk | with_reducible apply memOk_ite | with_reducible apply OutOk_ite | dsimp only | split)

theorem execCoreRetire_memOk (cid : Nat) (s : State) (hyps : Memory.wf s.mem) :
    OutOk (execCoreRetire cid s) := by
  unfold execCoreRetire
  split
  · exact OutOk_next hyps
  · extract_lets s1 s2 _ s3 s4 held s5 s6
    have h1 : Memory.wf s1.mem := State.checkEnd_memOk _ (State.focus_memOk _ _ hyps)
    have h2 : Memory.wf s2.mem := memOk_ite (State.exchange_memOk _ (State.checkEnd_memOk _ (State.exchange_memOk _ h1))) h1
    clear_value s1 s2
    have h3 : Memory.wf s3.mem := h2
    clear_value s3
    have h4 : Memory.wf s4.mem := State.buryHolders_memOk _ _ (State.excuse_memOk _ _ _ _ h3)
    clear_value s4
    have h5 : Memory.wf s5.mem := foldl_memOk _ (fun s c h => State.entryRetired_memOk _ _ _ h) _ _ h4
    clear_value s5
    have h6 : Memory.wf s6.mem := by
      dsimp only [s6]
      split
      · exact memOk_ite (State.mapWrite_memOk _ _ _ _ h5) (State.mapPut_memOk _ _ _ _ _ h5)
      · exact State.mapPut_memOk _ _ _ _ _ h5
    clear_value s6
    exact OutOk_next <| foldl_memOk _ (fun s c h => State.post_memOk _ _ h) _ _ h6

theorem execFadd_memOk (sd sa sb : BitVec 5) (g : BitVec 4) (p : BitVec 1) (rm : BitVec 3) (s : State) (hyps : Memory.wf s.mem) :
    OutOk (execFadd sd sa sb g p rm s) := by
  unfold execFadd
  repeat' (first | with_reducible assumption | with_reducible apply OutOk_next | with_reducible apply State.guarded_memOk | with_reducible apply State.floatResult_memOk | with_reducible apply memOk_ite | with_reducible apply OutOk_ite | dsimp only | split | intro _)

theorem execFsub_memOk (sd sa sb : BitVec 5) (g : BitVec 4) (p : BitVec 1) (rm : BitVec 3) (s : State) (hyps : Memory.wf s.mem) :
    OutOk (execFsub sd sa sb g p rm s) := by
  unfold execFsub
  repeat' (first | with_reducible assumption | with_reducible apply OutOk_next | with_reducible apply State.guarded_memOk | with_reducible apply State.floatResult_memOk | with_reducible apply memOk_ite | with_reducible apply OutOk_ite | dsimp only | split | intro _)

theorem execFmul_memOk (sd sa sb : BitVec 5) (g : BitVec 4) (p : BitVec 1) (rm : BitVec 3) (s : State) (hyps : Memory.wf s.mem) :
    OutOk (execFmul sd sa sb g p rm s) := by
  unfold execFmul
  repeat' (first | with_reducible assumption | with_reducible apply OutOk_next | with_reducible apply State.guarded_memOk | with_reducible apply State.floatResult_memOk | with_reducible apply memOk_ite | with_reducible apply OutOk_ite | dsimp only | split | intro _)

theorem execFdiv_memOk (sd sa sb : BitVec 5) (g : BitVec 4) (p : BitVec 1) (rm : BitVec 3) (s : State) (hyps : Memory.wf s.mem) :
    OutOk (execFdiv sd sa sb g p rm s) := by
  unfold execFdiv
  repeat' (first | with_reducible assumption | with_reducible apply OutOk_next | with_reducible apply State.guarded_memOk | with_reducible apply State.floatResult_memOk | with_reducible apply memOk_ite | with_reducible apply OutOk_ite | dsimp only | split | intro _)

theorem execFsqrt_memOk (sd sa : BitVec 5) (g : BitVec 4) (p : BitVec 1) (rm : BitVec 3) (s : State) (hyps : Memory.wf s.mem) :
    OutOk (execFsqrt sd sa g p rm s) := by
  unfold execFsqrt
  repeat' (first | with_reducible assumption | with_reducible apply OutOk_next | with_reducible apply State.guarded_memOk | with_reducible apply State.floatResult_memOk | with_reducible apply memOk_ite | with_reducible apply OutOk_ite | dsimp only | split | intro _)

theorem execFma_memOk (sd sa sb : BitVec 5) (g : BitVec 4) (p : BitVec 1) (rm : BitVec 3) (s : State) (hyps : Memory.wf s.mem) :
    OutOk (execFma sd sa sb g p rm s) := by
  unfold execFma
  repeat' (first | with_reducible assumption | with_reducible apply OutOk_next | with_reducible apply State.guarded_memOk | with_reducible apply State.floatResult_memOk | with_reducible apply memOk_ite | with_reducible apply OutOk_ite | dsimp only | split | intro _)

theorem execFmin_memOk (sd sa sb : BitVec 5) (g : BitVec 4) (p : BitVec 1) (s : State) (hyps : Memory.wf s.mem) :
    OutOk (execFmin sd sa sb g p s) := by
  unfold execFmin
  repeat' (first | with_reducible assumption | with_reducible apply OutOk_next | with_reducible apply State.guarded_memOk | with_reducible apply State.floatResult_memOk | with_reducible apply memOk_ite | with_reducible apply OutOk_ite | dsimp only | split | intro _)

theorem execFmax_memOk (sd sa sb : BitVec 5) (g : BitVec 4) (p : BitVec 1) (s : State) (hyps : Memory.wf s.mem) :
    OutOk (execFmax sd sa sb g p s) := by
  unfold execFmax
  repeat' (first | with_reducible assumption | with_reducible apply OutOk_next | with_reducible apply State.guarded_memOk | with_reducible apply State.floatResult_memOk | with_reducible apply memOk_ite | with_reducible apply OutOk_ite | dsimp only | split | intro _)

theorem execFcmp_memOk (pd : BitVec 3) (sa sb : BitVec 5) (g : BitVec 4) (p : BitVec 1) (cond : BitVec 3) (s : State) (hyps : Memory.wf s.mem) :
    OutOk (execFcmp pd sa sb g p cond s) := by
  unfold execFcmp
  repeat' (first | with_reducible assumption | with_reducible apply OutOk_next | with_reducible apply State.guarded_memOk | with_reducible apply State.push_memOk | with_reducible apply State.retire_memOk | with_reducible apply memOk_ite | with_reducible apply OutOk_ite | dsimp only | split | intro _)

theorem execFcvt_memOk (sd sa : BitVec 5) (sto : BitVec 1) (dst g : BitVec 4) (rtz : BitVec 1) (src : BitVec 4) (s : State) (hyps : Memory.wf s.mem) :
    OutOk (execFcvt sd sa sto dst g rtz src s) := by
  unfold execFcvt
  repeat' (first | with_reducible assumption | with_reducible apply OutOk_next | with_reducible apply State.guarded_memOk | with_reducible apply State.ctx_memOk | with_reducible apply State.push_memOk | with_reducible apply State.retire_memOk | with_reducible apply memOk_ite | with_reducible apply OutOk_ite | dsimp only | split | intro _)

theorem State.allotSeg_memOk (s : State) (x : Nat × Segment) (hyps : Memory.wf s.mem) :
    Memory.wf (State.allotSeg s x).mem := by
  unfold State.allotSeg
  repeat' (first | with_reducible assumption | with_reducible apply State.onSeg_memOk | with_reducible apply memOk_ite | with_reducible apply OutOk_ite | dsimp only | split)

theorem State.headerWrite_memOk (s : State) (l : Launch) (state reason : Nat) (hyps : Memory.wf s.mem) :
    Memory.wf (State.headerWrite s l state reason).mem := by
  unfold State.headerWrite
  repeat' (first | with_reducible assumption | with_reducible apply State.recordWrite_memOk)

theorem State.submit_fst (s : State) (asid va minCls : Nat) (job : Option Nat) (graph : Option (Nat × Nat)) (hyps : Memory.wf s.mem) :
    Memory.wf (State.submit s asid va minCls job graph).1.mem := by
  unfold State.submit
  repeat' (first | with_reducible assumption | with_reducible apply State.headerWrite_memOk | with_reducible apply State.onDie_memOk | with_reducible apply State.poke_memOk | refine State.vaAccess_memOk _ _ _ _ (by assumption) ?_ | with_reducible apply State.vaAccess_fst | with_reducible apply memOk_ite | with_reducible apply OutOk_ite | dsimp only | split)

theorem State.submit_memOk (s : State) (asid va minCls : Nat) (job : Option Nat) (graph : Option (Nat × Nat)) {t : State} {x} (heq : State.submit s asid va minCls job graph = (t, x)) (hyps : Memory.wf s.mem) :
    Memory.wf t.mem := by
  have h := State.submit_fst s asid va minCls job graph hyps
  rw [heq] at h
  exact h

theorem execLaunchSubmit_memOk (asid va minClass die : Nat) (s : State) (hyps : Memory.wf s.mem) :
    OutOk (execLaunchSubmit asid va minClass die s) := by
  unfold execLaunchSubmit
  repeat' (first | with_reducible assumption | with_reducible apply OutOk_next | refine State.submit_memOk _ _ _ _ _ _ (by assumption) ?_ | with_reducible apply State.submit_fst | with_reducible apply memOk_ite | with_reducible apply OutOk_ite)

theorem State.entryPreempted_memOk (s : State) (cid : Nat) (c : Ctx) (hyps : Memory.wf s.mem) :
    Memory.wf (State.entryPreempted s cid c).mem := by
  unfold State.entryPreempted
  repeat' (first | with_reducible assumption | with_reducible apply State.recordWrite_memOk | with_reducible apply State.sq_memOk | with_reducible apply State.onTask_memOk | with_reducible apply memOk_ite | with_reducible apply OutOk_ite | dsimp only | split)

theorem State.beginSwap_memOk (s : State) (cid : Nat) (next : Ctx) (hyps : Memory.wf s.mem) :
    Memory.wf (State.beginSwap s cid next).mem := by
  unfold State.beginSwap
  repeat' (first | with_reducible assumption | with_reducible apply State.syncClock_memOk | with_reducible apply State.ctx_memOk | with_reducible apply State.onCore_memOk | with_reducible apply State.entryPreempted_memOk | with_reducible apply State.mapWrite_memOk | with_reducible apply memOk_ite | with_reducible apply OutOk_ite | dsimp only | split)

theorem execSaggerSwap_memOk (cid : Nat) (s : State) (hyps : Memory.wf s.mem) :
    OutOk (execSaggerSwap cid s) := by
  unfold execSaggerSwap
  repeat' (first | with_reducible assumption | with_reducible apply OutOk_next | with_reducible apply State.at_memOk | with_reducible apply State.beginSwap_memOk | with_reducible apply memOk_ite | with_reducible apply OutOk_ite | dsimp only | split)

theorem State.endSwap_memOk (s : State) (hyps : Memory.wf s.mem) :
    Memory.wf (State.endSwap s).mem := by
  unfold State.endSwap
  repeat' (first | with_reducible assumption | with_reducible apply State.ctx_memOk | with_reducible apply State.unfreeze_memOk | with_reducible apply State.poke_memOk | with_reducible apply State.post_memOk | with_reducible apply memOk_ite)

theorem State.loadFree_memOk (s : State) (l : Launch) (i : Image) (x : Nat × Nat) (hyps : Memory.wf s.mem) :
    Memory.wf (State.loadFree s l i x).mem := by
  unfold State.loadFree
  repeat' (first | with_reducible assumption | with_reducible apply State.onCore_memOk)

theorem State.loadVictim_memOk (s : State) (l : Launch) (i : Image) (slice : Bool) (x : Nat × Nat) (hyps : Memory.wf s.mem) :
    Memory.wf (State.loadVictim s l i slice x).mem := by
  unfold State.loadVictim
  repeat' (first | with_reducible assumption | with_reducible apply State.post_memOk | with_reducible apply State.ctx_memOk | with_reducible apply State.onCore_memOk | with_reducible apply memOk_ite)

theorem State.allotCircuits_memOk (s : State) (l : Launch) (i : Image) (hyps : Memory.wf s.mem) :
    Memory.wf (State.allotCircuits s l i).mem := by
  unfold State.allotCircuits
  repeat' (first | with_reducible assumption | with_reducible apply State.onHandle_memOk | with_reducible apply State.onDie_memOk | with_reducible apply foldl_memOk | with_reducible apply memOk_ite | with_reducible apply OutOk_ite | dsimp only | split | intro _)

theorem State.wakeFor_memOk (s : State) (l : Launch) (hyps : Memory.wf s.mem) :
    Memory.wf (State.wakeFor s l).mem := by
  unfold State.wakeFor
  repeat' (first | with_reducible assumption | with_reducible apply State.wake_memOk | with_reducible apply foldl_memOk | with_reducible apply memOk_ite | with_reducible apply OutOk_ite | dsimp only | split | intro _)

theorem State.retryAdmit_memOk (s : State) (lid : Nat) (hyps : Memory.wf s.mem) :
    Memory.wf (State.retryAdmit s lid).mem := by
  unfold State.retryAdmit
  repeat' (first | with_reducible assumption | with_reducible apply State.at_memOk | with_reducible apply memOk_ite)

theorem State.pokeNext_memOk (s : State) (hyps : Memory.wf s.mem) :
    Memory.wf (State.pokeNext s).mem := by
  unfold State.pokeNext
  repeat' (first | with_reducible assumption | with_reducible apply State.retryAdmit_memOk | with_reducible apply foldl_memOk | with_reducible apply memOk_ite | with_reducible apply OutOk_ite | dsimp only | split | intro _)

theorem State.armDebit_memOk (s : State) (l : Launch) (hyps : Memory.wf s.mem) :
    Memory.wf (State.armDebit s l).mem := by
  unfold State.armDebit
  repeat' (first | with_reducible assumption | with_reducible apply State.at_memOk | with_reducible apply memOk_ite)

theorem State.startTasks_memOk (s : State) (l : Launch) (hyps : Memory.wf s.mem) :
    Memory.wf (State.startTasks s l).mem := by
  unfold State.startTasks
  repeat' (first | with_reducible assumption | with_reducible apply OutOk_next | with_reducible apply State.fresh_memOk | with_reducible apply State.onLaunch_memOk | with_reducible apply State.headerWrite_memOk | with_reducible apply State.armDebit_memOk | with_reducible apply State.at_memOk | with_reducible apply foldl_memOk | with_reducible apply memOk_ite | with_reducible apply OutOk_ite | dsimp only | split | intro _)

theorem State.writeRetired_memOk (s : State) (l : Launch) (hyps : Memory.wf s.mem) :
    Memory.wf (State.writeRetired s l).mem := by
  unfold State.writeRetired
  refine foldl_memOk _ (fun s i h => ?_) _ _ hyps
  split
  · exact State.recordWrite_memOk _ _ _ _ h
  · exact h

theorem State.seatLaunch_memOk (s : State) (l : Launch) (i : Image) (hyps : Memory.wf s.mem) :
    Memory.wf (State.seatLaunch s l i).mem := by
  unfold State.seatLaunch
  repeat' (first | with_reducible assumption | with_reducible apply State.wakeFor_memOk | with_reducible apply State.allotCircuits_memOk | with_reducible apply State.allotSeg_memOk | with_reducible apply State.ctx_memOk | with_reducible apply State.onLaunch_memOk | with_reducible apply State.loadVictim_memOk | with_reducible apply State.loadFree_memOk | with_reducible apply State.mapWrite_memOk | with_reducible apply State.writeRetired_memOk | with_reducible apply State.poke_memOk | with_reducible apply foldl_memOk | with_reducible apply memOk_ite | with_reducible apply OutOk_ite | dsimp only | split | intro _)

theorem State.spillAsk_memOk (s : State) (cid : Nat) (lid : Option Nat) (n : Nat) (as : List BankAcc) (hyps : Memory.wf s.mem) :
    Memory.wf (State.spillAsk s cid lid n as).mem := by
  unfold State.spillAsk
  repeat' (first | with_reducible assumption | with_reducible apply OutOk_next | with_reducible apply State.fresh_memOk | with_reducible apply State.onCore_memOk | with_reducible apply State.askAt_memOk)

theorem State.blockWrite_memOk (s : State) (cid block : Nat) (as : List Nat) (hyps : Memory.wf s.mem) :
    Memory.wf (State.blockWrite s cid block as).mem := by
  unfold State.blockWrite
  repeat' (first | with_reducible assumption | with_reducible apply State.sectorWrite_memOk | with_reducible apply foldl_memOk | with_reducible apply memOk_ite | with_reducible apply OutOk_ite | dsimp only | split | intro _)

theorem State.blockRead_fst (s : State) (block : Nat) (as : List Nat) (hyps : Memory.wf s.mem) :
    Memory.wf (State.blockRead s block as).1.mem := by
  unfold State.blockRead
  repeat' (first | with_reducible assumption | refine State.sectorRead_memOk _ _ (by assumption) ?_ | with_reducible apply State.sectorRead_fst | with_reducible apply foldl_memOk | with_reducible apply memOk_ite | with_reducible apply OutOk_ite | dsimp only | split | intro _)

theorem State.blockRead_memOk (s : State) (block : Nat) (as : List Nat) {t : State} {x} (heq : State.blockRead s block as = (t, x)) (hyps : Memory.wf s.mem) :
    Memory.wf t.mem := by
  have h := State.blockRead_fst s block as hyps
  rw [heq] at h
  exact h

theorem State.restoreChunk_memOk (s : State) (x : Saved) (n : Nat) (hyps : Memory.wf s.mem) :
    Memory.wf (State.restoreChunk s x n).mem := by
  unfold State.restoreChunk
  repeat' (first | with_reducible assumption | with_reducible apply State.ctx_memOk | with_reducible apply State.spillAsk_memOk | refine State.blockRead_memOk _ _ _ (by assumption) ?_ | with_reducible apply State.blockRead_fst)

theorem State.restoreSave_memOk (s : State) (x : Saved) (hyps : Memory.wf s.mem) :
    Memory.wf (State.restoreSave s x).mem := by
  unfold State.restoreSave
  repeat' (first | with_reducible assumption | with_reducible apply State.restoreChunk_memOk | with_reducible apply State.post_memOk | with_reducible apply memOk_ite)

theorem State.restored_memOk (s : State) (x : Saved) (hyps : Memory.wf s.mem) :
    Memory.wf (State.restored s x).mem := by
  unfold State.restored
  repeat' (first | with_reducible assumption | with_reducible apply State.onCore_memOk | with_reducible apply State.ctx_memOk | with_reducible apply State.beginSwap_memOk | with_reducible apply State.onTask_memOk)

theorem State.freeSegments_memOk (s : State) (lid : Nat) (hyps : Memory.wf s.mem) :
    Memory.wf (State.freeSegments s lid).mem := by
  unfold State.freeSegments
  repeat' (first | with_reducible assumption)

theorem State.moveLaunch_memOk (s : State) (l : Launch) (i : Image) (col row : Nat) (hyps : Memory.wf s.mem) :
    Memory.wf (State.moveLaunch s l i col row).mem := by
  unfold State.moveLaunch
  repeat' (first | with_reducible assumption | with_reducible apply State.allotSeg_memOk | with_reducible apply State.freeSegments_memOk | with_reducible apply State.onLaunch_memOk | with_reducible apply State.ctx_memOk | with_reducible apply foldl_memOk)

theorem execLaunchAdmit_memOk (lid : Nat) (s : State) (hyps : Memory.wf s.mem) :
    OutOk (execLaunchAdmit lid s) := by
  unfold execLaunchAdmit
  repeat' (first | with_reducible assumption | with_reducible apply OutOk_next | with_reducible apply State.seatLaunch_memOk | with_reducible apply State.retryAdmit_memOk | with_reducible apply State.startTasks_memOk | with_reducible apply State.ctx_memOk | with_reducible apply State.moveLaunch_memOk | with_reducible apply State.restoreSave_memOk | with_reducible apply foldl_memOk | with_reducible apply memOk_ite | with_reducible apply OutOk_ite | dsimp only | split)

theorem execTaskStart_memOk (lid cid : Nat) (s : State) (hyps : Memory.wf s.mem) :
    OutOk (execTaskStart lid cid s) := by
  unfold execTaskStart
  repeat' (first | with_reducible assumption | with_reducible apply OutOk_next | with_reducible apply State.ctx_memOk | with_reducible apply State.syncClock_memOk | with_reducible apply State.onCore_memOk | with_reducible apply State.onTask_memOk | with_reducible apply State.focus_memOk | with_reducible apply State.stopHere_memOk | with_reducible apply memOk_ite | with_reducible apply OutOk_ite)

theorem State.spill_memOk (s : State) (cid : Nat) (b : Ctx) (hyps : Memory.wf s.mem) :
    Memory.wf (State.spill s cid b).mem := by
  unfold State.spill
  repeat' (first | with_reducible assumption | with_reducible apply State.onCore_memOk)

theorem State.afterSpill_memOk (s : State) (cid : Nat) (hyps : Memory.wf s.mem) :
    Memory.wf (State.afterSpill s cid).mem := by
  unfold State.afterSpill
  repeat' (first | with_reducible assumption | with_reducible apply State.loadFree_memOk | with_reducible apply State.ctx_memOk | with_reducible apply State.onCore_memOk | with_reducible apply State.beginSwap_memOk | with_reducible apply State.poke_memOk | with_reducible apply memOk_ite | with_reducible apply OutOk_ite | dsimp only | split)

theorem State.spillOn_memOk (s : State) (cid : Nat) (lid : Option Nat) (n : Nat) (hyps : Memory.wf s.mem) :
    Memory.wf (State.spillOn s cid lid n).mem := by
  unfold State.spillOn
  split
  · split
    · exact State.onCore_memOk _ _ _ hyps
    · exact memOk_ite (State.afterSpill_memOk _ _ (State.spill_memOk _ _ _ (State.blockWrite_memOk _ _ _ _ hyps)))
        (State.spillAsk_memOk _ _ _ _ _ (State.blockWrite_memOk _ _ _ _ hyps))
  · split
    · exact State.onCore_memOk _ _ _ hyps
    · exact memOk_ite (State.restored_memOk _ _ hyps) (State.restoreChunk_memOk _ _ _ hyps)

theorem execFullPreemption_memOk (cid : Nat) (s : State) (hyps : Memory.wf s.mem) :
    OutOk (execFullPreemption cid s) := by
  unfold execFullPreemption
  repeat' (first | with_reducible assumption | with_reducible apply OutOk_next | with_reducible apply State.spill_memOk | with_reducible apply State.spillOn_memOk | with_reducible apply State.at_memOk | with_reducible apply State.spillAsk_memOk | with_reducible apply State.onCore_memOk | with_reducible apply State.ctx_memOk | with_reducible apply State.beginSwap_memOk | with_reducible apply State.afterSpill_memOk | with_reducible apply memOk_ite | with_reducible apply OutOk_ite | dsimp only | split)

theorem execEquivalenceStop_memOk (cid : Nat) (s : State) (hyps : Memory.wf s.mem) :
    OutOk (execEquivalenceStop cid s) := by
  unfold execEquivalenceStop
  repeat' (first | with_reducible assumption | with_reducible apply OutOk_next | with_reducible apply State.ctx_memOk | with_reducible apply State.onCore_memOk | with_reducible apply State.onTask_memOk | with_reducible apply State.beginSwap_memOk | with_reducible apply memOk_ite | with_reducible apply OutOk_ite | dsimp only | split)

theorem execMigrationResume_memOk (lid shape point : Nat) (s : State) (hyps : Memory.wf s.mem) :
    OutOk (execMigrationResume lid shape point s) := by
  unfold execMigrationResume
  repeat' (first | with_reducible assumption | with_reducible apply OutOk_next | with_reducible apply State.ctx_memOk | with_reducible apply State.carry_memOk | with_reducible apply State.freeSegments_memOk | with_reducible apply State.onLaunch_memOk | with_reducible apply State.poke_memOk | with_reducible apply memOk_ite | with_reducible apply OutOk_ite | dsimp only | split)

theorem State.onContexts_memOk (s : State) (lid : Nat) (f : Ctx → Ctx) (hyps : Memory.wf s.mem) :
    Memory.wf (State.onContexts s lid f).mem := by
  unfold State.onContexts
  repeat' (first | with_reducible assumption)

theorem execBudgetDebit_memOk (lid cones : Nat) (s : State) (hyps : Memory.wf s.mem) :
    OutOk (execBudgetDebit lid cones s) := by
  unfold execBudgetDebit
  repeat' (first | with_reducible assumption | with_reducible apply OutOk_next | with_reducible apply State.onLaunch_memOk | with_reducible apply State.headerWrite_memOk | with_reducible apply State.onContexts_memOk | with_reducible apply State.pokeNext_memOk | with_reducible apply State.armDebit_memOk | with_reducible apply memOk_ite | with_reducible apply OutOk_ite | dsimp only | split)

theorem State.vacate_memOk (s : State) (cid : Nat) (hyps : Memory.wf s.mem) :
    Memory.wf (State.vacate s cid).mem := by
  unfold State.vacate
  repeat' (first | with_reducible assumption | with_reducible apply State.onCore_memOk | with_reducible apply State.ctx_memOk | with_reducible apply State.beginSwap_memOk | with_reducible apply State.onTask_memOk | with_reducible apply State.post_memOk | with_reducible apply State.poke_memOk | with_reducible apply memOk_ite | with_reducible apply OutOk_ite | dsimp only | split)

theorem State.endTask_memOk (s : State) (exit : Word) (hyps : Memory.wf s.mem) :
    Memory.wf (State.endTask s exit).mem := by
  unfold State.endTask
  repeat' (first | with_reducible assumption | with_reducible apply State.ctx_memOk | with_reducible apply State.recordWrite_memOk | with_reducible apply State.onTask_memOk | with_reducible apply State.excuse_memOk | with_reducible apply State.vacate_memOk | with_reducible apply State.at_memOk | with_reducible apply memOk_ite | with_reducible apply OutOk_ite | dsimp only | split)

theorem State.kendOn_memOk (s : State) (w : Wait) (hyps : Memory.wf s.mem) :
    OutOk (State.kendOn s w) := by
  unfold State.kendOn
  repeat' (first | with_reducible assumption | with_reducible apply OutOk_next | with_reducible apply State.ctx_memOk | with_reducible apply State.ctrlAborts_memOk | with_reducible apply State.holdOn_memOk | with_reducible apply State.endTask_memOk | with_reducible apply memOk_ite | with_reducible apply OutOk_ite)

theorem execKend_memOk (sa : BitVec 5) (s : State) (hyps : Memory.wf s.mem) :
    OutOk (execKend sa s) := by
  unfold execKend
  repeat' (first | with_reducible assumption | with_reducible apply OutOk_next | with_reducible apply State.kendOn_memOk)

theorem State.freeCircuits_memOk (s : State) (lid : Nat) (hyps : Memory.wf s.mem) :
    Memory.wf (State.freeCircuits s lid).mem := by
  unfold State.freeCircuits
  repeat' (first | with_reducible assumption | with_reducible apply State.freeHandle_memOk | with_reducible apply foldl_memOk | with_reducible apply memOk_ite | with_reducible apply OutOk_ite | dsimp only | split | intro _)

theorem State.releaseCore_memOk (s : State) (l : Launch) (cid : Nat) (hyps : Memory.wf s.mem) :
    Memory.wf (State.releaseCore s l cid).mem := by
  unfold State.releaseCore
  repeat' (first | with_reducible assumption | with_reducible apply State.ctx_memOk | with_reducible apply State.vacate_memOk | with_reducible apply State.onCore_memOk | with_reducible apply State.mapPut_memOk | refine State.homeNat_memOk _ _ _ (by assumption) ?_ | with_reducible apply State.homeNat_fst | with_reducible apply memOk_ite | with_reducible apply OutOk_ite | dsimp only | split)

theorem execLaunchClose_memOk (lid : Nat) (s : State) (hyps : Memory.wf s.mem) :
    OutOk (execLaunchClose lid s) := by
  unfold execLaunchClose
  repeat' (first | with_reducible assumption | with_reducible apply OutOk_next | with_reducible apply State.freeCircuits_memOk | with_reducible apply State.freeSegments_memOk | with_reducible apply State.at_memOk | with_reducible apply State.recordWrite_memOk | with_reducible apply State.headerWrite_memOk | with_reducible apply State.releaseCore_memOk | with_reducible apply State.post_memOk | with_reducible apply State.poke_memOk | with_reducible apply foldl_memOk | with_reducible apply memOk_ite | with_reducible apply OutOk_ite | dsimp only | split | intro _)

theorem State.onNode_memOk (s : State) (gid n : Nat) (f : NodeState → NodeState) (hyps : Memory.wf s.mem) :
    Memory.wf (State.onNode s gid n f).mem := by
  unfold State.onNode
  repeat' (first | with_reducible assumption)

theorem State.endGraph_memOk (s : State) (gid word : Nat) (hyps : Memory.wf s.mem) :
    Memory.wf (State.endGraph s gid word).mem := by
  unfold State.endGraph
  repeat' (first | with_reducible assumption | with_reducible apply State.vaWrite_memOk | with_reducible apply memOk_ite | with_reducible apply OutOk_ite | dsimp only | split)

theorem State.refuseNode_memOk (s : State) (gid n reason : Nat) (hyps : Memory.wf s.mem) :
    Memory.wf (State.refuseNode s gid n reason).mem := by
  unfold State.refuseNode
  repeat' (first | with_reducible assumption | with_reducible apply State.endGraph_memOk)

theorem State.readyNode_memOk (s : State) (gid n : Nat) (hyps : Memory.wf s.mem) :
    Memory.wf (State.readyNode s gid n).mem := by
  unfold State.readyNode
  repeat' (first | with_reducible assumption | with_reducible apply State.refuseNode_memOk | with_reducible apply State.vaTouched_memOk | with_reducible apply State.onNode_memOk | with_reducible apply State.post_memOk | with_reducible apply memOk_ite | with_reducible apply OutOk_ite | dsimp only | split)

theorem State.releaseNode_memOk (s : State) (gid n : Nat) (hyps : Memory.wf s.mem) :
    Memory.wf (State.releaseNode s gid n).mem := by
  unfold State.releaseNode
  repeat' (first | with_reducible assumption | with_reducible apply State.onNode_memOk | with_reducible apply State.readyNode_memOk | with_reducible apply memOk_ite | with_reducible apply OutOk_ite | dsimp only | split)

theorem State.iterate_memOk (s : State) (gid : Nat) (w : List Nat) (hyps : Memory.wf s.mem) :
    Memory.wf (State.iterate s gid w).mem := by
  unfold State.iterate
  repeat' (first | with_reducible assumption | with_reducible apply State.onNode_memOk | with_reducible apply State.readyNode_memOk | with_reducible apply foldl_memOk | with_reducible apply memOk_ite | with_reducible apply OutOk_ite | dsimp only | split | intro _)

theorem State.closeIteration_memOk (s : State) (gid n : Nat) (hyps : Memory.wf s.mem) :
    Memory.wf (State.closeIteration s gid n).mem := by
  unfold State.closeIteration
  repeat' (first | with_reducible assumption | with_reducible apply State.onNode_memOk | with_reducible apply State.post_memOk | with_reducible apply State.iterate_memOk | with_reducible apply foldl_memOk | with_reducible apply memOk_ite | with_reducible apply OutOk_ite | dsimp only | split)

theorem State.completeNode_memOk (s : State) (gid n : Nat) (succs : List Nat) (hyps : Memory.wf s.mem) :
    Memory.wf (State.completeNode s gid n succs).mem := by
  unfold State.completeNode
  repeat' (first | with_reducible assumption | with_reducible apply State.onNode_memOk | with_reducible apply State.releaseNode_memOk | with_reducible apply State.closeIteration_memOk | with_reducible apply foldl_memOk | with_reducible apply memOk_ite | with_reducible apply OutOk_ite | dsimp only | split | intro _)

theorem execGraphNodeComplete_memOk (gid node : Nat) (s : State) (hyps : Memory.wf s.mem) :
    OutOk (execGraphNodeComplete gid node s) := by
  unfold execGraphNodeComplete
  repeat' (first | with_reducible assumption | with_reducible apply OutOk_next | with_reducible apply State.completeNode_memOk | with_reducible apply memOk_ite | with_reducible apply OutOk_ite | dsimp only | split)

theorem execGraphKernelNode_memOk (s : State) (hyps : Memory.wf s.mem) :
    OutOk (execGraphKernelNode s) := by
  unfold execGraphKernelNode
  repeat' (first | with_reducible assumption | with_reducible apply OutOk_next | with_reducible apply State.onNode_memOk | with_reducible apply State.refuseNode_memOk | refine State.submit_memOk _ _ _ _ _ _ (by assumption) ?_ | with_reducible apply State.submit_fst | with_reducible apply memOk_ite | with_reducible apply OutOk_ite | dsimp only | split)

theorem execGraphCopyNode_memOk (s : State) (hyps : Memory.wf s.mem) :
    OutOk (execGraphCopyNode s) := by
  unfold execGraphCopyNode
  repeat' (first | with_reducible assumption | with_reducible apply OutOk_next | with_reducible apply State.vaWrite_memOk | with_reducible apply State.onNode_memOk | with_reducible apply State.completeNode_memOk | with_reducible apply State.fresh_memOk | with_reducible apply State.at_memOk | with_reducible apply State.refuseNode_memOk | refine State.vaAccess_memOk _ _ _ _ (by assumption) ?_ | with_reducible apply State.vaAccess_fst | refine State.walk_memOk _ _ _ _ _ _ (by assumption) ?_ | with_reducible apply State.walk_fst | with_reducible apply memOk_ite | with_reducible apply OutOk_ite | dsimp only | split)

theorem execGraphBarrierNode_memOk (s : State) (hyps : Memory.wf s.mem) :
    OutOk (execGraphBarrierNode s) := by
  unfold execGraphBarrierNode
  repeat' (first | with_reducible assumption | with_reducible apply OutOk_next | with_reducible apply State.completeNode_memOk | with_reducible apply memOk_ite | with_reducible apply OutOk_ite | dsimp only | split)

theorem execGraphCondNode_memOk (s : State) (hyps : Memory.wf s.mem) :
    OutOk (execGraphCondNode s) := by
  unfold execGraphCondNode
  repeat' (first | with_reducible assumption | with_reducible apply OutOk_next | with_reducible apply State.vaTouched_memOk | with_reducible apply State.refuseNode_memOk | with_reducible apply State.completeNode_memOk | with_reducible apply memOk_ite | with_reducible apply OutOk_ite | dsimp only | split)

theorem execGraphLoopNode_memOk (s : State) (hyps : Memory.wf s.mem) :
    OutOk (execGraphLoopNode s) := by
  unfold execGraphLoopNode
  repeat' (first | with_reducible assumption | with_reducible apply OutOk_next | with_reducible apply State.vaTouched_memOk | with_reducible apply State.refuseNode_memOk | with_reducible apply State.completeNode_memOk | with_reducible apply State.onNode_memOk | with_reducible apply State.iterate_memOk | with_reducible apply memOk_ite | with_reducible apply OutOk_ite | dsimp only | split)

theorem execGraphEndNode_memOk (s : State) (hyps : Memory.wf s.mem) :
    OutOk (execGraphEndNode s) := by
  unfold execGraphEndNode
  repeat' (first | with_reducible assumption | with_reducible apply OutOk_next | with_reducible apply State.endGraph_memOk | with_reducible apply memOk_ite | with_reducible apply OutOk_ite | dsimp only | split)

theorem State.startGraph_fst (s : State) (asid va : Nat) (hyps : Memory.wf s.mem) :
    Memory.wf (State.startGraph s asid va).1.mem := by
  unfold State.startGraph
  repeat' (first | with_reducible assumption | with_reducible apply OutOk_next | with_reducible apply State.vaTouched_memOk | with_reducible apply State.fresh_memOk | with_reducible apply State.readyNode_memOk | with_reducible apply memOk_ite | with_reducible apply OutOk_ite | dsimp only | split)

theorem State.startGraph_memOk (s : State) (asid va : Nat) {t : State} {x} (heq : State.startGraph s asid va = (t, x)) (hyps : Memory.wf s.mem) :
    Memory.wf t.mem := by
  have h := State.startGraph_fst s asid va hyps
  rw [heq] at h
  exact h

theorem execLaunch_memOk (sa : BitVec 5) (addr : BitVec 15) (s : State) (hyps : Memory.wf s.mem) :
    OutOk (execLaunch sa addr s) := by
  unfold execLaunch
  repeat' (first | with_reducible assumption | with_reducible apply OutOk_next | with_reducible apply State.wide_memOk | with_reducible apply State.ctx_memOk | with_reducible apply State.wordFault_memOk | with_reducible apply State.holdOn_memOk | with_reducible apply State.sendReq_memOk | with_reducible apply State.retireWide_memOk | with_reducible apply memOk_ite | with_reducible apply OutOk_ite | dsimp only | split | intro _)

theorem State.launchReply_memOk (s : State) (id : Nat) (x : Except Nat Nat) (hyps : Memory.wf s.mem) :
    Memory.wf (State.launchReply s id x).mem := by
  unfold State.launchReply
  repeat' (first | with_reducible assumption | with_reducible apply State.answerWith_memOk | with_reducible apply memOk_ite | with_reducible apply OutOk_ite | dsimp only | split)

theorem State.launchNode_fst (s : State) (r : Req) (l : Launch) (gid va : Nat) (hyps : Memory.wf s.mem) :
    Memory.wf (State.launchNode s r l gid va).1.mem := by
  unfold State.launchNode
  repeat' (first | with_reducible assumption | with_reducible apply OutOk_next | with_reducible apply State.fresh_memOk | with_reducible apply State.readyNode_memOk | with_reducible apply State.onNode_memOk | with_reducible apply State.refuseNode_memOk | refine State.submit_memOk _ _ _ _ _ _ (by assumption) ?_ | with_reducible apply State.submit_fst | with_reducible apply memOk_ite | with_reducible apply OutOk_ite | dsimp only | split)

theorem State.launchNode_memOk (s : State) (r : Req) (l : Launch) (gid va : Nat) {t : State} {x} (heq : State.launchNode s r l gid va = (t, x)) (hyps : Memory.wf s.mem) :
    Memory.wf t.mem := by
  have h := State.launchNode_fst s r l gid va hyps
  rw [heq] at h
  exact h

theorem execLaunchRequestAccept_memOk (id : Nat) (s : State) (hyps : Memory.wf s.mem) :
    OutOk (execLaunchRequestAccept id s) := by
  unfold execLaunchRequestAccept
  repeat' (first | with_reducible assumption | with_reducible apply OutOk_next | with_reducible apply State.launchReply_memOk | refine State.submit_memOk _ _ _ _ _ _ (by assumption) ?_ | with_reducible apply State.submit_fst | refine State.launchNode_memOk _ _ _ _ _ (by assumption) ?_ | with_reducible apply State.launchNode_fst | with_reducible apply memOk_ite | with_reducible apply OutOk_ite | dsimp only | split)

theorem execAdd_memOk (sd sa sb : BitVec 5) (g : BitVec 4) (u : BitVec 2) (s : State) (hyps : Memory.wf s.mem) :
    OutOk (execAdd sd sa sb g u s) := by
  unfold execAdd
  repeat' (first | with_reducible assumption | with_reducible apply OutOk_next | with_reducible apply State.guarded_memOk | with_reducible apply State.scalar_memOk | with_reducible apply memOk_ite | with_reducible apply OutOk_ite | dsimp only | split | intro _)

theorem execSub_memOk (sd sa sb : BitVec 5) (g : BitVec 4) (u : BitVec 2) (s : State) (hyps : Memory.wf s.mem) :
    OutOk (execSub sd sa sb g u s) := by
  unfold execSub
  repeat' (first | with_reducible assumption | with_reducible apply OutOk_next | with_reducible apply State.guarded_memOk | with_reducible apply State.scalar_memOk | with_reducible apply memOk_ite | with_reducible apply OutOk_ite | dsimp only | split | intro _)

theorem execMul_memOk (sd sa sb : BitVec 5) (g : BitVec 4) (u : BitVec 1) (s : State) (hyps : Memory.wf s.mem) :
    OutOk (execMul sd sa sb g u s) := by
  unfold execMul
  repeat' (first | with_reducible assumption | with_reducible apply OutOk_next | with_reducible apply State.guarded_memOk | with_reducible apply State.scalar_memOk | with_reducible apply memOk_ite | with_reducible apply OutOk_ite | dsimp only | split | intro _)

theorem execMulh_memOk (sd sa sb : BitVec 5) (g : BitVec 4) (u : BitVec 2) (s : State) (hyps : Memory.wf s.mem) :
    OutOk (execMulh sd sa sb g u s) := by
  unfold execMulh
  repeat' (first | with_reducible assumption | with_reducible apply OutOk_next | with_reducible apply State.guarded_memOk | with_reducible apply State.scalar_memOk | with_reducible apply memOk_ite | with_reducible apply OutOk_ite | dsimp only | split | intro _)

theorem execDiv_memOk (sd sa sb : BitVec 5) (g : BitVec 4) (u : BitVec 1) (s : State) (hyps : Memory.wf s.mem) :
    OutOk (execDiv sd sa sb g u s) := by
  unfold execDiv
  repeat' (first | with_reducible assumption | with_reducible apply OutOk_next | with_reducible apply State.guarded_memOk | with_reducible apply State.scalar_memOk | with_reducible apply memOk_ite | with_reducible apply OutOk_ite | dsimp only | split | intro _)

theorem execRem_memOk (sd sa sb : BitVec 5) (g : BitVec 4) (u : BitVec 1) (s : State) (hyps : Memory.wf s.mem) :
    OutOk (execRem sd sa sb g u s) := by
  unfold execRem
  repeat' (first | with_reducible assumption | with_reducible apply OutOk_next | with_reducible apply State.guarded_memOk | with_reducible apply State.scalar_memOk | with_reducible apply memOk_ite | with_reducible apply OutOk_ite | dsimp only | split | intro _)

theorem execAnd_memOk (sd sa sb : BitVec 5) (g : BitVec 4) (s : State) (hyps : Memory.wf s.mem) :
    OutOk (execAnd sd sa sb g s) := by
  unfold execAnd
  repeat' (first | with_reducible assumption | with_reducible apply OutOk_next | with_reducible apply State.guarded_memOk | with_reducible apply State.scalar_memOk | with_reducible apply memOk_ite | with_reducible apply OutOk_ite | dsimp only | split | intro _)

theorem execOr_memOk (sd sa sb : BitVec 5) (g : BitVec 4) (s : State) (hyps : Memory.wf s.mem) :
    OutOk (execOr sd sa sb g s) := by
  unfold execOr
  repeat' (first | with_reducible assumption | with_reducible apply OutOk_next | with_reducible apply State.guarded_memOk | with_reducible apply State.scalar_memOk | with_reducible apply memOk_ite | with_reducible apply OutOk_ite | dsimp only | split | intro _)

theorem execXor_memOk (sd sa sb : BitVec 5) (g : BitVec 4) (s : State) (hyps : Memory.wf s.mem) :
    OutOk (execXor sd sa sb g s) := by
  unfold execXor
  repeat' (first | with_reducible assumption | with_reducible apply OutOk_next | with_reducible apply State.guarded_memOk | with_reducible apply State.scalar_memOk | with_reducible apply memOk_ite | with_reducible apply OutOk_ite | dsimp only | split | intro _)

theorem execShl_memOk (sd sa sb : BitVec 5) (g : BitVec 4) (u : BitVec 1) (s : State) (hyps : Memory.wf s.mem) :
    OutOk (execShl sd sa sb g u s) := by
  unfold execShl
  repeat' (first | with_reducible assumption | with_reducible apply OutOk_next | with_reducible apply State.guarded_memOk | with_reducible apply State.scalar_memOk | with_reducible apply memOk_ite | with_reducible apply OutOk_ite | dsimp only | split | intro _)

theorem execShr_memOk (sd sa sb : BitVec 5) (g : BitVec 4) (u : BitVec 1) (s : State) (hyps : Memory.wf s.mem) :
    OutOk (execShr sd sa sb g u s) := by
  unfold execShr
  repeat' (first | with_reducible assumption | with_reducible apply OutOk_next | with_reducible apply State.guarded_memOk | with_reducible apply State.scalar_memOk | with_reducible apply memOk_ite | with_reducible apply OutOk_ite | dsimp only | split | intro _)

theorem execSra_memOk (sd sa sb : BitVec 5) (g : BitVec 4) (u : BitVec 1) (s : State) (hyps : Memory.wf s.mem) :
    OutOk (execSra sd sa sb g u s) := by
  unfold execSra
  repeat' (first | with_reducible assumption | with_reducible apply OutOk_next | with_reducible apply State.guarded_memOk | with_reducible apply State.scalar_memOk | with_reducible apply memOk_ite | with_reducible apply OutOk_ite | dsimp only | split | intro _)

theorem execMin_memOk (sd sa sb : BitVec 5) (g : BitVec 4) (u : BitVec 1) (s : State) (hyps : Memory.wf s.mem) :
    OutOk (execMin sd sa sb g u s) := by
  unfold execMin
  repeat' (first | with_reducible assumption | with_reducible apply OutOk_next | with_reducible apply State.guarded_memOk | with_reducible apply State.scalar_memOk | with_reducible apply memOk_ite | with_reducible apply OutOk_ite | dsimp only | split | intro _)

theorem execMax_memOk (sd sa sb : BitVec 5) (g : BitVec 4) (u : BitVec 1) (s : State) (hyps : Memory.wf s.mem) :
    OutOk (execMax sd sa sb g u s) := by
  unfold execMax
  repeat' (first | with_reducible assumption | with_reducible apply OutOk_next | with_reducible apply State.guarded_memOk | with_reducible apply State.scalar_memOk | with_reducible apply memOk_ite | with_reducible apply OutOk_ite | dsimp only | split | intro _)

theorem execClz_memOk (sd sa : BitVec 5) (g : BitVec 4) (u : BitVec 1) (s : State) (hyps : Memory.wf s.mem) :
    OutOk (execClz sd sa g u s) := by
  unfold execClz
  repeat' (first | with_reducible assumption | with_reducible apply OutOk_next | with_reducible apply State.guarded_memOk | with_reducible apply State.scalar_memOk | with_reducible apply memOk_ite | with_reducible apply OutOk_ite | dsimp only | split | intro _)

theorem execPopc_memOk (sd sa : BitVec 5) (g : BitVec 4) (u : BitVec 1) (s : State) (hyps : Memory.wf s.mem) :
    OutOk (execPopc sd sa g u s) := by
  unfold execPopc
  repeat' (first | with_reducible assumption | with_reducible apply OutOk_next | with_reducible apply State.guarded_memOk | with_reducible apply State.scalar_memOk | with_reducible apply memOk_ite | with_reducible apply OutOk_ite | dsimp only | split | intro _)

theorem execSel_memOk (sd sa sb : BitVec 5) (g : BitVec 4) (n : BitVec 3) (s : State) (hyps : Memory.wf s.mem) :
    OutOk (execSel sd sa sb g n s) := by
  unfold execSel
  repeat' (first | with_reducible assumption | with_reducible apply OutOk_next | with_reducible apply State.guarded_memOk | with_reducible apply State.scalar_memOk | with_reducible apply State.ctx_memOk | with_reducible apply memOk_ite | with_reducible apply OutOk_ite | dsimp only | split | intro _)

theorem execCmp_memOk (pd : BitVec 3) (sa sb : BitVec 5) (g : BitVec 4) (w : BitVec 1) (cond : BitVec 3) (s : State) (hyps : Memory.wf s.mem) :
    OutOk (execCmp pd sa sb g w cond s) := by
  unfold execCmp
  repeat' (first | with_reducible assumption | with_reducible apply OutOk_next | with_reducible apply State.guarded_memOk | with_reducible apply State.predicate_memOk | with_reducible apply memOk_ite | with_reducible apply OutOk_ite | dsimp only | split | intro _)

theorem execPlog_memOk (pd pa pb : BitVec 3) (g : BitVec 4) (op : BitVec 5) (s : State) (hyps : Memory.wf s.mem) :
    OutOk (execPlog pd pa pb g op s) := by
  unfold execPlog
  repeat' (first | with_reducible assumption | with_reducible apply OutOk_next | with_reducible apply State.guarded_memOk | with_reducible apply State.predicate_memOk | with_reducible apply State.ctx_memOk | with_reducible apply memOk_ite | with_reducible apply OutOk_ite | dsimp only | split | intro _)

theorem execAddi_memOk (sd sa : BitVec 5) (g : BitVec 4) (imm : BitVec 10) (s : State) (hyps : Memory.wf s.mem) :
    OutOk (execAddi sd sa g imm s) := by
  unfold execAddi
  repeat' (first | with_reducible assumption | with_reducible apply OutOk_next | with_reducible apply State.guarded_memOk | with_reducible apply State.scalar_memOk | with_reducible apply memOk_ite | with_reducible apply OutOk_ite | dsimp only | split | intro _)

theorem execAndi_memOk (sd sa : BitVec 5) (g : BitVec 4) (imm : BitVec 10) (s : State) (hyps : Memory.wf s.mem) :
    OutOk (execAndi sd sa g imm s) := by
  unfold execAndi
  repeat' (first | with_reducible assumption | with_reducible apply OutOk_next | with_reducible apply State.guarded_memOk | with_reducible apply State.scalar_memOk | with_reducible apply memOk_ite | with_reducible apply OutOk_ite | dsimp only | split | intro _)

theorem execOri_memOk (sd sa : BitVec 5) (g : BitVec 4) (imm : BitVec 10) (s : State) (hyps : Memory.wf s.mem) :
    OutOk (execOri sd sa g imm s) := by
  unfold execOri
  repeat' (first | with_reducible assumption | with_reducible apply OutOk_next | with_reducible apply State.guarded_memOk | with_reducible apply State.scalar_memOk | with_reducible apply memOk_ite | with_reducible apply OutOk_ite | dsimp only | split | intro _)

theorem execXori_memOk (sd sa : BitVec 5) (g : BitVec 4) (imm : BitVec 10) (s : State) (hyps : Memory.wf s.mem) :
    OutOk (execXori sd sa g imm s) := by
  unfold execXori
  repeat' (first | with_reducible assumption | with_reducible apply OutOk_next | with_reducible apply State.guarded_memOk | with_reducible apply State.scalar_memOk | with_reducible apply memOk_ite | with_reducible apply OutOk_ite | dsimp only | split | intro _)

theorem execShli_memOk (sd sa : BitVec 5) (g : BitVec 4) (w : BitVec 1) (amt : BitVec 6) (s : State) (hyps : Memory.wf s.mem) :
    OutOk (execShli sd sa g w amt s) := by
  unfold execShli
  repeat' (first | with_reducible assumption | with_reducible apply OutOk_next | with_reducible apply State.guarded_memOk | with_reducible apply State.scalar_memOk | with_reducible apply memOk_ite | with_reducible apply OutOk_ite | dsimp only | split | intro _)

theorem execShri_memOk (sd sa : BitVec 5) (g : BitVec 4) (w : BitVec 1) (amt : BitVec 6) (s : State) (hyps : Memory.wf s.mem) :
    OutOk (execShri sd sa g w amt s) := by
  unfold execShri
  repeat' (first | with_reducible assumption | with_reducible apply OutOk_next | with_reducible apply State.guarded_memOk | with_reducible apply State.scalar_memOk | with_reducible apply memOk_ite | with_reducible apply OutOk_ite | dsimp only | split | intro _)

theorem execSrai_memOk (sd sa : BitVec 5) (g : BitVec 4) (w : BitVec 1) (amt : BitVec 6) (s : State) (hyps : Memory.wf s.mem) :
    OutOk (execSrai sd sa g w amt s) := by
  unfold execSrai
  repeat' (first | with_reducible assumption | with_reducible apply OutOk_next | with_reducible apply State.guarded_memOk | with_reducible apply State.scalar_memOk | with_reducible apply memOk_ite | with_reducible apply OutOk_ite | dsimp only | split | intro _)

theorem execCmpi_memOk (cond : BitVec 2) (pd : BitVec 3) (sa : BitVec 5) (g : BitVec 4) (imm : BitVec 10) (s : State) (hyps : Memory.wf s.mem) :
    OutOk (execCmpi cond pd sa g imm s) := by
  unfold execCmpi
  repeat' (first | with_reducible assumption | with_reducible apply OutOk_next | with_reducible apply State.guarded_memOk | with_reducible apply State.predicate_memOk | with_reducible apply memOk_ite | with_reducible apply OutOk_ite | dsimp only | split | intro _)

theorem execLhi_memOk (sd : BitVec 5) (imm : BitVec 19) (s : State) (hyps : Memory.wf s.mem) :
    OutOk (execLhi sd imm s) := by
  unfold execLhi
  repeat' (first | with_reducible assumption | with_reducible apply OutOk_next | with_reducible apply State.scalar_memOk)

theorem execLi_memOk (sd : BitVec 5) (h : BitVec 1) (hi : BitVec 16) (lo : BitVec 32) (s : State) (hyps : Memory.wf s.mem) :
    OutOk (execLi sd h hi lo s) := by
  unfold execLi
  repeat' (first | with_reducible assumption | with_reducible apply OutOk_next | with_reducible apply State.wide_memOk | with_reducible apply State.push_memOk | with_reducible apply State.retireWide_memOk | with_reducible apply memOk_ite | with_reducible apply OutOk_ite | dsimp only | split | intro _)

theorem State.losePackets_memOk (s : State) (link : Nat) (hyps : Memory.wf s.mem) :
    Memory.wf (State.losePackets s link).mem := by
  unfold State.losePackets
  repeat' (first | with_reducible assumption)

theorem State.failLink_memOk (s : State) (link : Nat) (hyps : Memory.wf s.mem) :
    Memory.wf (State.failLink s link).mem := by
  unfold State.failLink
  repeat' (first | with_reducible assumption | with_reducible apply State.losePackets_memOk | with_reducible apply State.onLink_memOk | with_reducible apply memOk_ite)

theorem State.replayFlits_memOk (s : State) (link : Nat) (hyps : Memory.wf s.mem) :
    Memory.wf (State.replayFlits s link).mem := by
  unfold State.replayFlits
  repeat' (first | with_reducible assumption | with_reducible apply State.onLink_memOk | with_reducible apply State.carry_memOk)

theorem State.askReplay_memOk (s : State) (link : Nat) (hyps : Memory.wf s.mem) :
    Memory.wf (State.askReplay s link).mem := by
  unfold State.askReplay
  repeat' (first | with_reducible assumption | with_reducible apply State.onLink_memOk | with_reducible apply State.carry_memOk)

theorem State.sendForwards_memOk (s : State) (inLink : Nat) (seq : BitVec 12) (bad : Bool) (hyps : Memory.wf s.mem) :
    Memory.wf (State.sendForwards s inLink seq bad).mem := by
  unfold State.sendForwards
  repeat' (first | with_reducible assumption | with_reducible apply State.onLink_memOk | with_reducible apply State.carry_memOk | with_reducible apply foldl_memOk | with_reducible apply memOk_ite | with_reducible apply OutOk_ite | dsimp only | split | intro _)

theorem State.goodForwards_memOk (s : State) (inLink : Nat) (flit : BitVec 2048) (hyps : Memory.wf s.mem) :
    Memory.wf (State.goodForwards s inLink flit).mem := by
  unfold State.goodForwards
  repeat' (first | with_reducible assumption | with_reducible apply State.onLink_memOk | with_reducible apply State.replayFlits_memOk | with_reducible apply foldl_memOk | with_reducible apply memOk_ite | with_reducible apply OutOk_ite | dsimp only | split | intro _)

theorem execSlotForward_memOk (inLink outLink : Nat) (slot : Nat × BitVec 64 × BitVec 480) (s : State) (hyps : Memory.wf s.mem) :
    OutOk (execSlotForward inLink outLink slot s) := by
  unfold execSlotForward
  repeat' (first | with_reducible assumption | with_reducible apply OutOk_next | with_reducible apply State.onLink_memOk | with_reducible apply memOk_ite | with_reducible apply OutOk_ite)

theorem execLaneShed_memOk (link : Nat) (s : State) (hyps : Memory.wf s.mem) :
    OutOk (execLaneShed link s) := by
  unfold execLaneShed
  repeat' (first | with_reducible assumption | with_reducible apply OutOk_next | with_reducible apply State.onLink_memOk | with_reducible apply State.failLink_memOk | with_reducible apply memOk_ite | with_reducible apply OutOk_ite)

theorem execHeartbeatSend_memOk (link : Nat) (s : State) (hyps : Memory.wf s.mem) :
    OutOk (execHeartbeatSend link s) := by
  unfold execHeartbeatSend
  repeat' (first | with_reducible assumption | with_reducible apply OutOk_next | with_reducible apply State.sendFlit_memOk | with_reducible apply State.at_memOk | with_reducible apply memOk_ite | with_reducible apply OutOk_ite)

theorem State.startLink_memOk (s : State) (link : Nat) (hyps : Memory.wf s.mem) :
    Memory.wf (State.startLink s link).mem := by
  unfold State.startLink
  repeat' (first | with_reducible assumption | with_reducible apply State.onLink_memOk | with_reducible apply State.post_memOk | with_reducible apply State.at_memOk)

theorem execLinkSilenceTimeout_memOk (link : Nat) (s : State) (hyps : Memory.wf s.mem) :
    OutOk (execLinkSilenceTimeout link s) := by
  unfold execLinkSilenceTimeout
  repeat' (first | with_reducible assumption | with_reducible apply OutOk_next | with_reducible apply State.failLink_memOk | with_reducible apply memOk_ite | with_reducible apply OutOk_ite)

theorem State.killRequests_memOk (s : State) (m : Nat) (hyps : Memory.wf s.mem) :
    Memory.wf (State.killRequests s m).mem := by
  unfold State.killRequests
  repeat' (first | with_reducible assumption | with_reducible apply State.onReq_memOk | with_reducible apply State.atHome_memOk | with_reducible apply State.post_memOk | with_reducible apply foldl_memOk | with_reducible apply memOk_ite | with_reducible apply OutOk_ite | dsimp only | split | intro _)

theorem State.moduleDead_memOk (s : State) (m : Nat) (hyps : Memory.wf s.mem) :
    Memory.wf (State.moduleDead s m).mem := by
  unfold State.moduleDead
  repeat' (first | with_reducible assumption | with_reducible apply State.killRequests_memOk | with_reducible apply State.ctx_memOk | with_reducible apply State.buryHolders_memOk | with_reducible apply State.level5Check_memOk | with_reducible apply foldl_memOk | with_reducible apply memOk_ite | with_reducible apply OutOk_ite | dsimp only | split | intro _)

theorem State.flood_memOk (s : State) (m : Nat) (hyps : Memory.wf s.mem) :
    Memory.wf (State.flood s m).mem := by
  unfold State.flood
  repeat' (first | with_reducible assumption | with_reducible apply State.sendFlit_memOk | with_reducible apply foldl_memOk | with_reducible apply memOk_ite | with_reducible apply OutOk_ite | dsimp only | split | intro _)

theorem execDeathNotice_memOk (m epoch : Nat) (s : State) (hyps : Memory.wf s.mem) :
    OutOk (execDeathNotice m epoch s) := by
  unfold execDeathNotice
  repeat' (first | with_reducible assumption | with_reducible apply OutOk_next | with_reducible apply State.moduleDead_memOk | with_reducible apply State.flood_memOk | with_reducible apply memOk_ite | with_reducible apply OutOk_ite)

theorem execModuleSilenceTimeout_memOk (m : Nat) (s : State) (hyps : Memory.wf s.mem) :
    OutOk (execModuleSilenceTimeout m s) := by
  unfold execModuleSilenceTimeout
  repeat' (first | with_reducible assumption | with_reducible apply OutOk_next | with_reducible apply State.moduleDead_memOk | with_reducible apply State.flood_memOk | with_reducible apply memOk_ite | with_reducible apply OutOk_ite)

theorem State.standStill_memOk (s : State) (n : Nat) (hyps : Memory.wf s.mem) :
    Memory.wf (State.standStill s n).mem := by
  unfold State.standStill
  repeat' (first | with_reducible assumption)

theorem State.toTick_memOk (s : State) (t : Nat) (hyps : Memory.wf s.mem) :
    Memory.wf (State.toTick s t).mem := by
  unfold State.toTick
  repeat' (first | with_reducible assumption | with_reducible apply State.standStill_memOk | with_reducible apply memOk_ite)

theorem State.postForm_memOk (s : State) (hyps : Memory.wf s.mem) : Memory.wf (State.postForm s).mem := by
  unfold State.postForm
  repeat' (first | with_reducible assumption | with_reducible apply State.post_memOk)

theorem State.claim_memOk (s : State) (link num : Nat) (members : BitVec 32) (epoch tick : Nat) (hyps : Memory.wf s.mem) :
    Memory.wf (State.claim s link num members epoch tick).mem := by
  unfold State.claim
  repeat' (first | with_reducible assumption | with_reducible apply State.postForm_memOk | with_reducible apply State.post_memOk | with_reducible apply memOk_ite)

theorem State.heartbeat_memOk (s : State) (link m : Nat) (halt : Bool) (hyps : Memory.wf s.mem) :
    Memory.wf (State.heartbeat s link m halt).mem := by
  unfold State.heartbeat
  repeat' (first | with_reducible assumption | with_reducible apply State.onLink_memOk | with_reducible apply State.at_memOk | with_reducible apply memOk_ite)

theorem State.managed_memOk (s : State) (link : Nat) (f : BitVec 2048) (hyps : Memory.wf s.mem) :
    Memory.wf (State.managed s link f).mem := by
  unfold State.managed
  repeat' (first | with_reducible assumption | with_reducible apply State.heartbeat_memOk | with_reducible apply State.claim_memOk | with_reducible apply State.post_memOk | with_reducible apply memOk_ite)

theorem State.slotArrives_memOk (s : State) (port : Nat) (h : SlotHead) (operand : List Byte) (aux : BitVec 96) (data : Option (Nat × List Byte)) (hyps : Memory.wf s.mem) :
    Memory.wf (State.slotArrives s port h operand aux data).mem := by
  unfold State.slotArrives
  repeat' (first | with_reducible assumption | with_reducible apply OutOk_next | with_reducible apply State.fresh_memOk | with_reducible apply State.at_memOk | with_reducible apply State.arrival_memOk | with_reducible apply memOk_ite | with_reducible apply OutOk_ite | dsimp only | split)

theorem State.flitArrives_memOk (s : State) (port : Nat) (f : BitVec 2048) (hyps : Memory.wf s.mem) :
    Memory.wf (State.flitArrives s port f).mem := by
  unfold State.flitArrives
  extract_lets t
  have h1 : Memory.wf t.mem := by
    dsimp only [t]
    split
    · exact memOk_ite (State.slotArrives_memOk _ _ _ _ _ _ hyps) hyps
    · exact hyps
  clear_value t
  exact memOk_ite h1 (foldl_memOk _ (fun s x h => memOk_ite (State.slotArrives_memOk _ _ _ _ _ _ h) h) _ _ h1)

theorem State.badFlit_memOk (s : State) (link : Nat) (flit : BitVec 2048) (failed : Bool) (hyps : Memory.wf s.mem) :
    Memory.wf (State.badFlit s link flit failed).mem := by
  unfold State.badFlit
  repeat' (first | with_reducible assumption | with_reducible apply State.onLink_memOk | with_reducible apply State.sendForwards_memOk | with_reducible apply State.failLink_memOk | with_reducible apply State.askReplay_memOk | with_reducible apply memOk_ite)

theorem State.goodFlitIn_memOk (s : State) (link : Nat) (flit : BitVec 2048) (hyps : Memory.wf s.mem) :
    Memory.wf (State.goodFlitIn s link flit).mem := by
  unfold State.goodFlitIn
  repeat' (first | with_reducible assumption | with_reducible apply State.onLink_memOk | with_reducible apply State.sendForwards_memOk | with_reducible apply State.goodForwards_memOk | with_reducible apply State.replayFlits_memOk | with_reducible apply State.carry_memOk | with_reducible apply State.managed_memOk | with_reducible apply State.flitArrives_memOk | with_reducible apply memOk_ite)

theorem execFlitReceive_memOk (link : Nat) (flit : BitVec 2048) (s : State) (hyps : Memory.wf s.mem) :
    OutOk (execFlitReceive link flit s) := by
  unfold execFlitReceive
  repeat' (first | with_reducible assumption | with_reducible apply OutOk_next | with_reducible apply State.badFlit_memOk | with_reducible apply State.goodFlitIn_memOk | with_reducible apply memOk_ite | with_reducible apply OutOk_ite)

theorem State.setEnds_memOk (s : State) (cause : Nat) (hyps : Memory.wf s.mem) :
    Memory.wf (State.setEnds s cause).mem := by
  unfold State.setEnds
  repeat' (first | with_reducible assumption)

theorem State.setRequest_memOk (s : State) (v : Word) (hyps : Memory.wf s.mem) :
    Memory.wf (State.setRequest s v).mem := by
  unfold State.setRequest
  repeat' (first | with_reducible assumption | with_reducible apply State.postForm_memOk | with_reducible apply State.setEnds_memOk | with_reducible apply State.post_memOk | with_reducible apply State.sendFlit_memOk | with_reducible apply State.at_memOk | with_reducible apply foldl_memOk | with_reducible apply memOk_ite | with_reducible apply OutOk_ite | dsimp only | split | intro _)

theorem State.newEpoch_memOk (s : State) (modnum : Nat) (members : BitVec 32) (epoch : Nat) (offset : Int) (hyps : Memory.wf s.mem) :
    Memory.wf (State.newEpoch s modnum members epoch offset).mem := by
  unfold State.newEpoch
  repeat' (first | with_reducible assumption)

theorem execSetLeave_memOk (s : State) (hyps : Memory.wf s.mem) :
    OutOk (execSetLeave s) := by
  unfold execSetLeave
  repeat' (first | with_reducible assumption | with_reducible apply OutOk_next | with_reducible apply State.newEpoch_memOk | with_reducible apply State.setEnds_memOk | with_reducible apply memOk_ite | with_reducible apply OutOk_ite)

theorem execSetForm_memOk (maxEpoch : Nat) (offset : Int) (agree : Bool) (s : State) (hyps : Memory.wf s.mem) :
    OutOk (execSetForm maxEpoch offset agree s) := by
  unfold execSetForm
  repeat' (first | with_reducible assumption | with_reducible apply OutOk_next | with_reducible apply State.setEnds_memOk | with_reducible apply State.newEpoch_memOk | with_reducible apply State.at_memOk | with_reducible apply foldl_memOk | with_reducible apply memOk_ite | with_reducible apply OutOk_ite | dsimp only | split | intro _)

theorem execSetFormLimit_memOk (s : State) (hyps : Memory.wf s.mem) :
    OutOk (execSetFormLimit s) := by
  unfold execSetFormLimit
  repeat' (first | with_reducible assumption | with_reducible apply OutOk_next | with_reducible apply State.setEnds_memOk | with_reducible apply memOk_ite | with_reducible apply OutOk_ite)

theorem State.imageTouched_memOk (s : State) (asid va : Nat) (hyps : Memory.wf s.mem) :
    Memory.wf (State.imageTouched s asid va).mem := by
  unfold State.imageTouched
  repeat' (first | with_reducible assumption | with_reducible apply State.vaTouched_memOk | with_reducible apply foldl_memOk | with_reducible apply memOk_ite | with_reducible apply OutOk_ite | dsimp only | split | intro _)

theorem State.publishImage_memOk (s : State) (i : Image) (base : Nat) (data : List Byte) (hyps : Memory.wf s.mem) :
    Memory.wf (State.publishImage s i base data).mem := by
  unfold State.publishImage
  repeat' (first | with_reducible assumption | with_reducible apply State.vaWrite_memOk)

theorem State.watchTails_memOk (s : State) (hyps : Memory.wf s.mem) :
    Memory.wf (State.watchTails s).mem := by
  unfold State.watchTails
  refine foldl_memOk _ (fun s p h => ?_) _ _ hyps
  extract_lets base tail
  exact memOk_ite (State.at_memOk _ _ _ (State.fresh_memOk _ h)) h

theorem State.hostWrite_memOk (s : State) (pa : Nat) (bs : List Byte) (hyps : Memory.wf s.mem) :
    Memory.wf (State.hostWrite s pa bs).mem := by
  unfold State.hostWrite
  repeat' (first | with_reducible assumption | with_reducible apply State.onSite_memOk | with_reducible apply State.sectorWrite_memOk | with_reducible apply State.watchTails_memOk | with_reducible apply foldl_memOk | with_reducible apply memOk_ite | with_reducible apply OutOk_ite | dsimp only | split | intro _)

theorem execHostAccess_memOk (port pa : Nat) (write : Option (List (BitVec 8))) (s : State) (hyps : Memory.wf s.mem) :
    OutOk (execHostAccess port pa write s) := by
  unfold execHostAccess
  repeat' (first | with_reducible assumption | with_reducible apply OutOk_next | with_reducible apply State.hostWrite_memOk | with_reducible apply State.nmTouch_memOk | with_reducible apply memOk_ite | with_reducible apply OutOk_ite | dsimp only | split)

theorem State.lease_memOk (s : State) (lease : Nat) (hyps : Memory.wf s.mem) :
    Memory.wf (State.lease s lease).mem := by
  unfold State.lease
  repeat' (first | with_reducible assumption | with_reducible apply State.at_memOk)

theorem execSemaAcquire_memOk (port owner lease : Nat) (s : State) (hyps : Memory.wf s.mem) :
    OutOk (execSemaAcquire port owner lease s) := by
  unfold execSemaAcquire
  repeat' (first | with_reducible assumption | with_reducible apply OutOk_next | with_reducible apply State.lease_memOk | with_reducible apply memOk_ite | with_reducible apply OutOk_ite)

theorem execSemaRenew_memOk (port owner lease : Nat) (s : State) (hyps : Memory.wf s.mem) :
    OutOk (execSemaRenew port owner lease s) := by
  unfold execSemaRenew
  repeat' (first | with_reducible assumption | with_reducible apply OutOk_next | with_reducible apply State.lease_memOk | with_reducible apply memOk_ite | with_reducible apply OutOk_ite)

theorem execSemaRelease_memOk (port owner : Nat) (s : State) (hyps : Memory.wf s.mem) :
    OutOk (execSemaRelease port owner s) := by
  unfold execSemaRelease
  repeat' (first | with_reducible assumption | with_reducible apply OutOk_next | with_reducible apply memOk_ite | with_reducible apply OutOk_ite)

theorem execLeaseExpiry_memOk (s : State) (hyps : Memory.wf s.mem) :
    OutOk (execLeaseExpiry s) := by
  unfold execLeaseExpiry
  repeat' (first | with_reducible assumption | with_reducible apply OutOk_next | with_reducible apply State.post_memOk | with_reducible apply memOk_ite | with_reducible apply OutOk_ite)

theorem State.semaCommand_memOk (s : State) (port : Nat) (v : Word) (hyps : Memory.wf s.mem) :
    Memory.wf (State.semaCommand s port v).mem := by
  unfold State.semaCommand
  repeat' (first | with_reducible assumption | with_reducible apply State.lease_memOk | with_reducible apply memOk_ite | with_reducible apply OutOk_ite | dsimp only | split)

theorem State.controlled_memOk (s : State) (port : Nat) (f : State → State) (hyps : Memory.wf s.mem) (hypf : ∀ x0, Memory.wf x0.mem → Memory.wf (f x0).mem) :
    Memory.wf (State.controlled s port f).mem := by
  unfold State.controlled
  repeat' (first | with_reducible assumption | with_reducible apply hypf | with_reducible apply memOk_ite)

theorem execSubbaseWrite_memOk (port : Nat) (value : BitVec 64) (s : State) (hyps : Memory.wf s.mem) :
    OutOk (execSubbaseWrite port value s) := by
  unfold execSubbaseWrite
  repeat' (first | with_reducible assumption | with_reducible apply OutOk_next | with_reducible apply State.watchTails_memOk)

theorem State.entryStatus_memOk (s : State) (entry : Nat) (result cause reason : Nat) (hyps : Memory.wf s.mem) :
    Memory.wf (State.entryStatus s entry result cause reason).mem := by
  unfold State.entryStatus
  repeat' (first | with_reducible assumption | with_reducible apply State.sectorWrite_memOk)

theorem State.entryRefused_memOk (s : State) (entry reason : Nat) (hyps : Memory.wf s.mem) :
    Memory.wf (State.entryRefused s entry reason).mem := by
  unfold State.entryRefused
  repeat' (first | with_reducible assumption | with_reducible apply State.entryStatus_memOk)

theorem execSubmissionTake_memOk (port : Nat) (s : State) (hyps : Memory.wf s.mem) :
    OutOk (execSubmissionTake port s) := by
  unfold execSubmissionTake
  repeat' (first | with_reducible assumption | with_reducible apply OutOk_next | with_reducible apply State.watchTails_memOk | with_reducible apply State.entryRefused_memOk | with_reducible apply State.post_memOk | refine State.homeNat_memOk _ _ _ (by assumption) ?_ | with_reducible apply State.homeNat_fst | with_reducible apply memOk_ite | with_reducible apply OutOk_ite)

theorem execSubmitLaunchRecord_memOk (entry : Nat) (s : State) (hyps : Memory.wf s.mem) :
    OutOk (execSubmitLaunchRecord entry s) := by
  unfold execSubmitLaunchRecord
  split
  · exact OutOk_next hyps
  · extract_lets va
    split
    · exact OutOk_next <| State.entryRefused_memOk _ _ _ hyps
    · rename_i asid _
      have h := State.submit_fst s asid va 0 none none hyps
      cases hx : s.submit asid va 0 none none with
      | mk t x =>
        rw [hx] at h
        cases x with
        | ok lid => exact OutOk_next <| State.entryStatus_memOk _ _ _ _ _ h
        | error reason => exact OutOk_next <| State.entryRefused_memOk _ _ _ h

theorem execSubmitGraph_memOk (entry : Nat) (s : State) (hyps : Memory.wf s.mem) :
    OutOk (execSubmitGraph entry s) := by
  unfold execSubmitGraph
  repeat' (first | with_reducible assumption | with_reducible apply OutOk_next | with_reducible apply State.entryStatus_memOk | with_reducible apply State.entryRefused_memOk | refine State.startGraph_memOk _ _ _ (by assumption) ?_ | with_reducible apply State.startGraph_fst | with_reducible apply memOk_ite | with_reducible apply OutOk_ite | dsimp only | split)

theorem execSubmitImageLoad_memOk (entry : Nat) (parts : ImageParts) (s : State) (hyps : Memory.wf s.mem) :
    OutOk (execSubmitImageLoad entry parts s) := by
  unfold execSubmitImageLoad
  repeat' (first | with_reducible assumption | with_reducible apply OutOk_next | with_reducible apply State.imageTouched_memOk | with_reducible apply State.publishImage_memOk | with_reducible apply State.entryStatus_memOk | with_reducible apply State.entryRefused_memOk | with_reducible apply memOk_ite | with_reducible apply OutOk_ite | dsimp only | split)

theorem State.lightPorts_memOk (s : State) (hyps : Memory.wf s.mem) :
    Memory.wf (State.lightPorts s).mem := by
  unfold State.lightPorts
  repeat' (first | with_reducible assumption | with_reducible apply State.startLink_memOk | with_reducible apply foldl_memOk | with_reducible apply memOk_ite | with_reducible apply OutOk_ite | dsimp only | split | intro _)

theorem State.darkPorts_memOk (s : State) (hyps : Memory.wf s.mem) :
    Memory.wf (State.darkPorts s).mem := by
  unfold State.darkPorts
  repeat' (first | with_reducible assumption)

theorem State.beginCalibration_memOk (s : State) (hyps : Memory.wf s.mem) :
    Memory.wf (State.beginCalibration s).mem := by
  unfold State.beginCalibration
  repeat' (first | with_reducible assumption | with_reducible apply State.setClock_memOk | with_reducible apply State.darkPorts_memOk | with_reducible apply foldl_memOk | with_reducible apply memOk_ite | with_reducible apply OutOk_ite | dsimp only | split | intro _)

theorem State.calctl_memOk (s : State) (hyps : Memory.wf s.mem) :
    Memory.wf (State.calctl s).mem := by
  unfold State.calctl
  repeat' (first | with_reducible assumption | with_reducible apply State.beginCalibration_memOk | with_reducible apply memOk_ite)

theorem execRecalibrate_memOk (ok : Bool) (s : State) (hyps : Memory.wf s.mem) :
    OutOk (execRecalibrate ok s) := by
  unfold execRecalibrate
  repeat' (first | with_reducible assumption | with_reducible apply OutOk_next | with_reducible apply State.lightPorts_memOk | with_reducible apply State.beginCalibration_memOk | with_reducible apply State.fresh_memOk | with_reducible apply State.at_memOk | with_reducible apply memOk_ite | with_reducible apply OutOk_ite)

theorem execServiceRegisterWrite_memOk (port off : Nat) (value : BitVec 64) (s : State) (hyps : Memory.wf s.mem) :
    OutOk (execServiceRegisterWrite port off value s) := by
  unfold execServiceRegisterWrite
  repeat' (first | with_reducible assumption | with_reducible apply OutOk_next | with_reducible apply State.semaCommand_memOk | with_reducible apply State.post_memOk | with_reducible apply State.controlled_memOk | with_reducible apply State.calctl_memOk | with_reducible apply State.setRequest_memOk | with_reducible apply memOk_ite | with_reducible apply OutOk_ite | dsimp only | split | intro _)

theorem State.agentWrite_memOk (s : State) (cid : Nat) (sel : BitVec 10) (w : Word) (hyps : Memory.wf s.mem) :
    Memory.wf (State.agentWrite s cid sel w).mem := by
  unfold State.agentWrite
  repeat' (first | with_reducible assumption | with_reducible apply State.onCore_memOk | with_reducible apply State.ctx_memOk | with_reducible apply State.sysWrite_memOk)

theorem execDbgdataWrite_memOk (port : Nat) (value : BitVec 64) (s : State) (hyps : Memory.wf s.mem) :
    OutOk (execDbgdataWrite port value s) := by
  unfold execDbgdataWrite
  repeat' (first | with_reducible assumption | with_reducible apply OutOk_next | with_reducible apply State.agentWrite_memOk | with_reducible apply memOk_ite | with_reducible apply OutOk_ite)

theorem execModuleReset_memOk (s : State) (_ : Memory.wf s.mem) : OutOk (execModuleReset s) := by
  have h : Memory.wf State.reset.mem := by decide
  exact OutOk_next h

theorem execBootGo_memOk (port len : Nat) (s : State) (hyps : Memory.wf s.mem) :
    OutOk (execBootGo port len s) := by
  unfold execBootGo
  repeat' (first | with_reducible assumption | with_reducible apply OutOk_next | with_reducible apply State.onSite_memOk | with_reducible apply State.startLink_memOk | with_reducible apply foldl_memOk | with_reducible apply memOk_ite | with_reducible apply OutOk_ite | dsimp only | split | intro _)

theorem State.measure_memOk (s : State) (x : Nat × Nat) (hyps : Memory.wf s.mem) : Memory.wf (State.measure s x).mem := by
  unfold State.measure
  dsimp only
  exact State.sectorWrite_memOk _ _ hyps

theorem execBootDistribute_memOk (digests : List Nat) (s : State) (hyps : Memory.wf s.mem) :
    OutOk (execBootDistribute digests s) := by
  unfold execBootDistribute
  repeat' (first | with_reducible assumption | with_reducible apply OutOk_next | with_reducible apply State.measure_memOk | with_reducible apply foldl_memOk | with_reducible apply memOk_ite | with_reducible apply OutOk_ite)

theorem execHbmTraining_memOk (s : State) (hyps : Memory.wf s.mem) :
    OutOk (execHbmTraining s) := by
  unfold execHbmTraining
  repeat' (first | with_reducible assumption | with_reducible apply OutOk_next | with_reducible apply memOk_ite | with_reducible apply OutOk_ite)

theorem execOpticalCalibration_memOk (ok : Bool) (s : State) (hyps : Memory.wf s.mem) :
    OutOk (execOpticalCalibration ok s) := by
  unfold execOpticalCalibration
  repeat' (first | with_reducible assumption | with_reducible apply OutOk_next | with_reducible apply State.lightPorts_memOk | with_reducible apply State.watchTails_memOk | with_reducible apply memOk_ite | with_reducible apply OutOk_ite)

theorem execAttestQuote_memOk (pa : Nat) (s : State) (hyps : Memory.wf s.mem) :
    OutOk (execAttestQuote pa s) := by
  unfold execAttestQuote
  repeat' (first | with_reducible assumption | with_reducible apply OutOk_next | with_reducible apply State.sectorWrite_memOk | with_reducible apply State.nmTouch_memOk | with_reducible apply foldl_memOk | with_reducible apply memOk_ite | with_reducible apply OutOk_ite | dsimp only | split | intro _)

theorem execScrub_memOk (pa : Nat) (corrected uncorrectable : Bool) (s : State) (hyps : Memory.wf s.mem) :
    OutOk (execScrub pa corrected uncorrectable s) := by
  unfold execScrub
  repeat' (first | with_reducible assumption | with_reducible apply OutOk_next | with_reducible apply State.onSite_memOk)

theorem State.headStep_memOk (s : State) (u : Unit7) (hyps : Memory.wf s.mem) :
    OutOk (State.headStep s u) := by
  unfold State.headStep
  repeat' (first | with_reducible assumption | with_reducible apply OutOk_next | with_reducible apply State.ctx_memOk | with_reducible apply State.vxStep_memOk | with_reducible apply execLdStrm_memOk | with_reducible apply execLdVec_memOk | with_reducible apply execLdAcc_memOk | with_reducible apply execStStrm_memOk | with_reducible apply execStVec_memOk | with_reducible apply execStAcc_memOk | with_reducible apply execQTok_memOk | with_reducible apply execMxMma_memOk | with_reducible apply execMxMmac_memOk | with_reducible apply execMxMmi_memOk | with_reducible apply execMxZero_memOk | with_reducible apply execMxLsf_memOk | with_reducible apply execMxTov_memOk | with_reducible apply execMxFromv_memOk | with_reducible apply OutOk_get | refine OutOk_of ?_ (by assumption) | with_reducible apply memOk_ite | with_reducible apply OutOk_ite | dsimp only | split)

theorem execTokPush_memOk (fifo : BitVec 3) (s : State) (hyps : Memory.wf s.mem) : OutOk (execTokPush fifo s) := by
  unfold execTokPush
  generalize s.willPop fifo.toNat = n
  exact OutOk_ite (State.wordFault_memOk _ _ _ hyps) (OutOk_next (State.retire_memOk _ (State.push_memOk _ _ _ hyps)))

set_option maxRecDepth 100000 in
theorem exec_memOk (i : Instr) (s : State) (hyps : Memory.wf s.mem) : OutOk (exec i s) := by
  cases i with
  | add _ _ _ _ _ => exact execAdd_memOk _ _ _ _ _ s hyps
  | sub _ _ _ _ _ => exact execSub_memOk _ _ _ _ _ s hyps
  | mul _ _ _ _ _ => exact execMul_memOk _ _ _ _ _ s hyps
  | mulh _ _ _ _ _ => exact execMulh_memOk _ _ _ _ _ s hyps
  | div _ _ _ _ _ => exact execDiv_memOk _ _ _ _ _ s hyps
  | rem _ _ _ _ _ => exact execRem_memOk _ _ _ _ _ s hyps
  | and _ _ _ _ => exact execAnd_memOk _ _ _ _ s hyps
  | or _ _ _ _ => exact execOr_memOk _ _ _ _ s hyps
  | xor _ _ _ _ => exact execXor_memOk _ _ _ _ s hyps
  | shl _ _ _ _ _ => exact execShl_memOk _ _ _ _ _ s hyps
  | shr _ _ _ _ _ => exact execShr_memOk _ _ _ _ _ s hyps
  | sra _ _ _ _ _ => exact execSra_memOk _ _ _ _ _ s hyps
  | min _ _ _ _ _ => exact execMin_memOk _ _ _ _ _ s hyps
  | max _ _ _ _ _ => exact execMax_memOk _ _ _ _ _ s hyps
  | clz _ _ _ _ => exact execClz_memOk _ _ _ _ s hyps
  | popc _ _ _ _ => exact execPopc_memOk _ _ _ _ s hyps
  | sel _ _ _ _ _ => exact execSel_memOk _ _ _ _ _ s hyps
  | cmp _ _ _ _ _ _ => exact execCmp_memOk _ _ _ _ _ _ s hyps
  | plog _ _ _ _ _ => exact execPlog_memOk _ _ _ _ _ s hyps
  | addi _ _ _ _ => exact execAddi_memOk _ _ _ _ s hyps
  | andi _ _ _ _ => exact execAndi_memOk _ _ _ _ s hyps
  | ori _ _ _ _ => exact execOri_memOk _ _ _ _ s hyps
  | xori _ _ _ _ => exact execXori_memOk _ _ _ _ s hyps
  | shli _ _ _ _ _ => exact execShli_memOk _ _ _ _ _ s hyps
  | shri _ _ _ _ _ => exact execShri_memOk _ _ _ _ _ s hyps
  | srai _ _ _ _ _ => exact execSrai_memOk _ _ _ _ _ s hyps
  | cmpi _ _ _ _ _ => exact execCmpi_memOk _ _ _ _ _ s hyps
  | lhi _ _ => exact execLhi_memOk _ _ s hyps
  | fadd _ _ _ _ _ _ => exact execFadd_memOk _ _ _ _ _ _ s hyps
  | fsub _ _ _ _ _ _ => exact execFsub_memOk _ _ _ _ _ _ s hyps
  | fmul _ _ _ _ _ _ => exact execFmul_memOk _ _ _ _ _ _ s hyps
  | fdiv _ _ _ _ _ _ => exact execFdiv_memOk _ _ _ _ _ _ s hyps
  | fsqrt _ _ _ _ _ => exact execFsqrt_memOk _ _ _ _ _ s hyps
  | fma _ _ _ _ _ _ => exact execFma_memOk _ _ _ _ _ _ s hyps
  | fmin _ _ _ _ _ => exact execFmin_memOk _ _ _ _ _ s hyps
  | fmax _ _ _ _ _ => exact execFmax_memOk _ _ _ _ _ s hyps
  | fcmp _ _ _ _ _ _ => exact execFcmp_memOk _ _ _ _ _ _ s hyps
  | fcvt _ _ _ _ _ _ _ => exact execFcvt_memOk _ _ _ _ _ _ _ s hyps
  | br _ _ => exact execBr_memOk _ _ s hyps
  | call _ _ => exact execCall_memOk _ _ s hyps
  | jr _ _ _ => exact execJr_memOk _ _ _ s hyps
  | loop _ _ _ _ => exact execLoop_memOk _ _ _ _ s hyps
  | loopi _ _ _ => exact execLoopi_memOk _ _ _ s hyps
  | lbrk _ _ => exact execLbrk_memOk _ _ s hyps
  | csrr _ _ _ => exact execCsrr_memOk _ _ _ s hyps
  | csrw _ _ _ => exact execCsrw_memOk _ _ _ s hyps
  | csrx _ _ _ _ => exact execCsrx_memOk _ _ _ _ s hyps
  | dbgstLostRead => exact execDbgstLostRead_memOk s hyps
  | idle _ _ _ => exact execIdle_memOk _ _ _ s hyps
  | lds _ _ _ _ _ => exact execLds_memOk _ _ _ _ _ s hyps
  | sts _ _ _ _ _ => exact execSts_memOk _ _ _ _ _ s hyps
  | amo _ _ _ _ _ _ => exact execAmo_memOk _ _ _ _ _ _ s hyps
  | amocas _ _ _ _ _ => exact execAmocas_memOk _ _ _ _ _ s hyps
  | rld _ _ _ _ => exact execRld_memOk _ _ _ _ s hyps
  | rst _ _ _ _ _ => exact execRst_memOk _ _ _ _ _ s hyps
  | ramo _ _ _ _ _ _ => exact execRamo_memOk _ _ _ _ _ _ s hyps
  | ramocas _ _ _ _ _ => exact execRamocas_memOk _ _ _ _ _ s hyps
  | vadd _ _ _ _ _ _ _ => exact execVadd_memOk _ _ _ _ _ _ _ s hyps
  | vsub _ _ _ _ _ _ _ => exact execVsub_memOk _ _ _ _ _ _ _ s hyps
  | vmul _ _ _ _ _ _ _ => exact execVmul_memOk _ _ _ _ _ _ _ s hyps
  | vfma _ _ _ _ _ _ _ => exact execVfma_memOk _ _ _ _ _ _ _ s hyps
  | vmin _ _ _ _ _ _ _ => exact execVmin_memOk _ _ _ _ _ _ _ s hyps
  | vmax _ _ _ _ _ _ _ => exact execVmax_memOk _ _ _ _ _ _ _ s hyps
  | vabs _ _ _ _ _ => exact execVabs_memOk _ _ _ _ _ s hyps
  | vneg _ _ _ _ _ => exact execVneg_memOk _ _ _ _ _ s hyps
  | vand _ _ _ _ _ _ _ => exact execVand_memOk _ _ _ _ _ _ _ s hyps
  | vor _ _ _ _ _ _ _ => exact execVor_memOk _ _ _ _ _ _ _ s hyps
  | vxor _ _ _ _ _ _ _ => exact execVxor_memOk _ _ _ _ _ _ _ s hyps
  | vandn _ _ _ _ _ _ _ => exact execVandn_memOk _ _ _ _ _ _ _ s hyps
  | vshl _ _ _ _ _ _ _ => exact execVshl_memOk _ _ _ _ _ _ _ s hyps
  | vshr _ _ _ _ _ _ _ => exact execVshr_memOk _ _ _ _ _ _ _ s hyps
  | vsra _ _ _ _ _ _ _ => exact execVsra_memOk _ _ _ _ _ _ _ s hyps
  | vcmp _ _ _ _ _ _ _ _ => exact execVcmp_memOk _ _ _ _ _ _ _ _ s hyps
  | vsel _ _ _ _ _ _ _ => exact execVsel_memOk _ _ _ _ _ _ _ s hyps
  | vcvt _ _ _ _ _ _ => exact execVcvt_memOk _ _ _ _ _ _ s hyps
  | vrint _ _ _ _ _ => exact execVrint_memOk _ _ _ _ _ s hyps
  | vrcp _ _ _ _ _ => exact execVrcp_memOk _ _ _ _ _ s hyps
  | vrsq _ _ _ _ _ => exact execVrsq_memOk _ _ _ _ _ s hyps
  | vexp2 _ _ _ _ _ => exact execVexp2_memOk _ _ _ _ _ s hyps
  | vlog2 _ _ _ _ _ => exact execVlog2_memOk _ _ _ _ _ s hyps
  | vred _ _ _ _ _ _ => exact execVred_memOk _ _ _ _ _ _ s hyps
  | vscan _ _ _ _ _ _ => exact execVscan_memOk _ _ _ _ _ _ s hyps
  | vperm _ _ _ _ _ _ _ => exact execVperm_memOk _ _ _ _ _ _ _ s hyps
  | vrot _ _ _ _ _ _ => exact execVrot_memOk _ _ _ _ _ _ s hyps
  | vlane _ _ _ _ _ _ => exact execVlane_memOk _ _ _ _ _ _ s hyps
  | vpack _ _ _ _ _ _ _ => exact execVpack_memOk _ _ _ _ _ _ _ s hyps
  | vunpack _ _ _ _ _ _ => exact execVunpack_memOk _ _ _ _ _ _ s hyps
  | vmov _ _ _ _ _ => exact execVmov_memOk _ _ _ _ _ s hyps
  | vmovBroadcast _ _ _ _ _ => exact execVmovBroadcast_memOk _ _ _ _ _ s hyps
  | vmlog _ _ _ _ _ => exact execVmlog_memOk _ _ _ _ _ s hyps
  | vmpop _ _ _ _ _ => exact execVmpop_memOk _ _ _ _ _ s hyps
  | vdot2 _ _ _ _ _ _ _ => exact execVdot2_memOk _ _ _ _ _ _ _ s hyps
  | vld _ _ _ _ _ _ => exact execVld_memOk _ _ _ _ _ _ s hyps
  | vst _ _ _ _ _ _ => exact execVst_memOk _ _ _ _ _ _ s hyps
  | vgath _ _ _ _ _ _ => exact execVgath_memOk _ _ _ _ _ _ s hyps
  | vscat _ _ _ _ _ _ => exact execVscat_memOk _ _ _ _ _ _ s hyps
  | patchAndIssue _ _ _ _ => exact execPatchAndIssue_memOk _ _ _ _ s hyps
  | amend _ _ _ => exact execAmend_memOk _ _ _ s hyps
  | li _ _ _ _ => exact execLi_memOk _ _ _ _ s hyps
  | jmpf _ => exact execJmpf_memOk _ s hyps
  | callf _ _ => exact execCallf_memOk _ _ s hyps
  | tdef _ _ _ _ => exact execTdef_memOk _ _ _ _ s hyps
  | tread _ _ _ _ => exact execTread_memOk _ _ _ _ s hyps
  | qdef _ _ _ _ => exact execQdef_memOk _ _ _ _ s hyps
  | qread _ _ _ => exact execQread_memOk _ _ _ s hyps
  | rdef _ _ _ _ _ _ => exact execRdef_memOk _ _ _ _ _ _ s hyps
  | whlSlot _ _ _ _ _ _ _ _ => exact execWhlSlot_memOk _ _ _ _ _ _ _ _ s hyps
  | whlStride _ _ _ _ => exact execWhlStride_memOk _ _ _ _ s hyps
  | whlCount _ _ => exact execWhlCount_memOk _ _ s hyps
  | whlLen _ => exact execWhlLen_memOk _ s hyps
  | whlgo _ _ => exact execWhlgo_memOk _ _ s hyps
  | wheelPlacement  => exact execWheelPlacement_memOk  s hyps
  | launch _ _ => exact execLaunch_memOk _ _ s hyps
  | racq _ _ _ => exact execRacq_memOk _ _ _ s hyps
  | rrel _ _ _ => exact execRrel_memOk _ _ _ s hyps
  | rstat _ _ _ => exact execRstat_memOk _ _ _ s hyps
  | tokRd _ _ => exact execTokRd_memOk _ _ s hyps
  | tokPush _ => exact execTokPush_memOk _ s hyps
  | tokTry _ _ => exact execTokTry_memOk _ _ s hyps
  | tokVpop _ => exact execTokVpop_memOk _ s hyps
  | tokVpush _ => exact execTokVpush_memOk _ s hyps
  | qdrain _ => exact execQdrain_memOk _ s hyps
  | waita _ _ _ _ => exact execWaita_memOk _ _ _ _ s hyps
  | waitaFire  => exact execWaitaFire_memOk  s hyps
  | waitaExpiry  => exact execWaitaExpiry_memOk  s hyps
  | fsig _ _ _ => exact execFsig_memOk _ _ _ s hyps
  | fsigWrite  => exact execFsigWrite_memOk  s hyps
  | acq _ _ _ => exact execAcq_memOk _ _ _ s hyps
  | acqAnswer _ _ => exact execAcqAnswer_memOk _ _ s hyps
  | acqBusyResend  => exact execAcqBusyResend_memOk  s hyps
  | acqLimitExpiry  => exact execAcqLimitExpiry_memOk  s hyps
  | rel _ _ _ => exact execRel_memOk _ _ _ s hyps
  | bind _ _ => exact execBind_memOk _ _ s hyps
  | fence _ => exact execFence_memOk _ s hyps
  | lockAcquirePacket _ => exact execLockAcquirePacket_memOk _ s hyps
  | lockReleasePacket _ => exact execLockReleasePacket_memOk _ s hyps
  | lockCancelPacket _ => exact execLockCancelPacket_memOk _ s hyps
  | rtick _ => exact execRtick_memOk _ s hyps
  | rcyc _ => exact execRcyc_memOk _ s hyps
  | align _ _ _ => exact execAlign_memOk _ _ _ s hyps
  | alignRestart  => exact execAlignRestart_memOk  s hyps
  | bar _ => exact execBar_memOk _ s hyps
  | barw _ _ _ => exact execBarw_memOk _ _ _ s hyps
  | barwExpiry  => exact execBarwExpiry_memOk  s hyps
  | bart _ _ => exact execBart_memOk _ _ s hyps
  | barrierReport _ _ _ => exact execBarrierReport_memOk _ _ _ s hyps
  | barrierRelease _ _ _ => exact execBarrierRelease_memOk _ _ _ s hyps
  | barrierExcuse _ _ _ => exact execBarrierExcuse_memOk _ _ _ s hyps
  | cstat _ _ => exact execCstat_memOk _ _ s hyps
  | cstatSettle _ => exact execCstatSettle_memOk _ s hyps
  | cstatStart _ => exact execCstatStart_memOk _ s hyps
  | cstatFrec _ _ => exact execCstatFrec_memOk _ _ s hyps
  | cwait _ _ _ => exact execCwait_memOk _ _ _ s hyps
  | cwaitExpiry  => exact execCwaitExpiry_memOk  s hyps
  | cgopen _ _ _ => exact execCgopen_memOk _ _ _ s hyps
  | cgcommit _ _ => exact execCgcommit_memOk _ _ s hyps
  | cgabort _ _ => exact execCgabort_memOk _ _ s hyps
  | cgstat _ _ => exact execCgstat_memOk _ _ s hyps
  | commitHold _ => exact execCommitHold_memOk _ s hyps
  | commitAnswer _ => exact execCommitAnswer_memOk _ s hyps
  | publish _ => exact execPublish_memOk _ s hyps
  | discard _ => exact execDiscard_memOk _ s hyps
  | monset _ _ => exact execMonset_memOk _ _ s hyps
  | monref _ _ => exact execMonref_memOk _ _ s hyps
  | monrd _ _ _ => exact execMonrd_memOk _ _ _ s hyps
  | monchk _ _ _ => exact execMonchk_memOk _ _ _ s hyps
  | kend _ => exact execKend_memOk _ s hyps
  | trap _ _ => exact execTrap_memOk _ _ s hyps
  | rett  => exact execRett_memOk  s hyps
  | rqrd _ _ _ => exact execRqrd_memOk _ _ _ s hyps
  | rqwr _ _ _ => exact execRqwr_memOk _ _ _ s hyps
  | pbr _ _ => exact execPbr_memOk _ _ s hyps
  | pack _ => exact execPack_memOk _ s hyps
  | bkpt _ => exact execBkpt_memOk _ s hyps
  | wfiltClr  => exact execWfiltClr_memOk  s hyps
  | wfiltIns _ _ _ => exact execWfiltIns_memOk _ _ _ s hyps
  | wfiltTst _ _ _ => exact execWfiltTst_memOk _ _ _ s hyps
  | ldStrm  => exact execLdStrm_memOk  s hyps
  | ldVec  => exact execLdVec_memOk  s hyps
  | ldAcc  => exact execLdAcc_memOk  s hyps
  | stStrm  => exact execStStrm_memOk  s hyps
  | stVec  => exact execStVec_memOk  s hyps
  | stAcc  => exact execStAcc_memOk  s hyps
  | qTok  => exact execQTok_memOk  s hyps
  | mxMma  => exact execMxMma_memOk  s hyps
  | mxMmac  => exact execMxMmac_memOk  s hyps
  | mxMmi  => exact execMxMmi_memOk  s hyps
  | mxZero  => exact execMxZero_memOk  s hyps
  | mxLsf  => exact execMxLsf_memOk  s hyps
  | mxTov  => exact execMxTov_memOk  s hyps
  | mxFromv  => exact execMxFromv_memOk  s hyps
  | cpCopy  => exact execCpCopy_memOk  s hyps
  | cpCopym  => exact execCpCopym_memOk  s hyps
  | cpFill  => exact execCpFill_memOk  s hyps
  | cpGath  => exact execCpGath_memOk  s hyps
  | cpScat  => exact execCpScat_memOk  s hyps
  | cpCsend  => exact execCpCsend_memOk  s hyps
  | cpCbind  => exact execCpCbind_memOk  s hyps
  | cpPut  => exact execCpPut_memOk  s hyps
  | cpGet  => exact execCpGet_memOk  s hyps
  | cpGput  => exact execCpGput_memOk  s hyps
  | copyEnd _ => exact execCopyEnd_memOk _ s hyps
  | copyFault _ => exact execCopyFault_memOk _ s hyps
  | nmCas  => exact execNmCas_memOk  s hyps
  | nmSwap  => exact execNmSwap_memOk  s hyps
  | nmEnq  => exact execNmEnq_memOk  s hyps
  | nmDeq  => exact execNmDeq_memOk  s hyps
  | nmChase  => exact execNmChase_memOk  s hyps
  | nmRed  => exact execNmRed_memOk  s hyps
  | nmMlr  => exact execNmMlr_memOk  s hyps
  | nmuOperation _ => exact execNmuOperation_memOk _ s hyps
  | mlrArrival _ => exact execMlrArrival_memOk _ s hyps
  | mlrLimitExpiry _ => exact execMlrLimitExpiry_memOk _ s hyps
  | remoteOperation _ => exact execRemoteOperation_memOk _ s hyps
  | homeRequest _ => exact execHomeRequest_memOk _ s hyps
  | requestResponse _ => exact execRequestResponse_memOk _ s hyps
  | ackTimeout _ => exact execAckTimeout_memOk _ s hyps
  | translationWalk _ _ => exact execTranslationWalk_memOk _ _ s hyps
  | tlbInvalidate _ _ _ _ => exact execTlbInvalidate_memOk _ _ _ _ s hyps
  | route _ _ _ _ _ _ => exact execRoute_memOk _ _ _ _ _ _ s hyps
  | est _ => exact execEst_memOk _ s hyps
  | hold _ _ => exact execHold_memOk _ _ s hyps
  | tear _ => exact execTear_memOk _ s hyps
  | atstep _ _ => exact execAtstep_memOk _ _ s hyps
  | sig _ _ _ => exact execSig_memOk _ _ _ s hyps
  | rpt _ _ => exact execRpt_memOk _ _ s hyps
  | nop  => exact execNop_memOk  s hyps
  | fend  => exact execFend_memOk  s hyps
  | sliceStart  => exact execSliceStart_memOk  s hyps
  | circuitSettleEnd _ _ _ => exact execCircuitSettleEnd_memOk _ _ _ s hyps
  | holdEnd _ _ => exact execHoldEnd_memOk _ _ s hyps
  | circuitFault _ _ _ _ _ => exact execCircuitFault_memOk _ _ _ _ _ s hyps
  | circuitReestablish _ _ => exact execCircuitReestablish_memOk _ _ s hyps
  | circuitUnitLanding _ => exact execCircuitUnitLanding_memOk _ s hyps
  | flitReceive _ _ => exact execFlitReceive_memOk _ _ s hyps
  | slotForward _ _ _ => exact execSlotForward_memOk _ _ _ s hyps
  | laneShed _ => exact execLaneShed_memOk _ s hyps
  | heartbeatSend _ => exact execHeartbeatSend_memOk _ s hyps
  | linkSilenceTimeout _ => exact execLinkSilenceTimeout_memOk _ s hyps
  | moduleSilenceTimeout _ => exact execModuleSilenceTimeout_memOk _ s hyps
  | deathNotice _ _ => exact execDeathNotice_memOk _ _ s hyps
  | level5BarrierReport _ _ _ => exact execLevel5BarrierReport_memOk _ _ _ s hyps
  | level5Release _ _ _ => exact execLevel5Release_memOk _ _ _ s hyps
  | setForm _ _ _ => exact execSetForm_memOk _ _ _ s hyps
  | setLeave  => exact execSetLeave_memOk  s hyps
  | setFormLimit  => exact execSetFormLimit_memOk  s hyps
  | launchSubmit _ _ _ _ => exact execLaunchSubmit_memOk _ _ _ _ s hyps
  | launchAdmit _ => exact execLaunchAdmit_memOk _ s hyps
  | taskStart _ _ => exact execTaskStart_memOk _ _ s hyps
  | launchRequestAccept _ => exact execLaunchRequestAccept_memOk _ s hyps
  | saggerSwap _ => exact execSaggerSwap_memOk _ s hyps
  | fullPreemption _ => exact execFullPreemption_memOk _ s hyps
  | equivalenceStop _ => exact execEquivalenceStop_memOk _ s hyps
  | migrationResume _ _ _ => exact execMigrationResume_memOk _ _ _ s hyps
  | launchClose _ => exact execLaunchClose_memOk _ s hyps
  | graphKernelNode  => exact execGraphKernelNode_memOk  s hyps
  | graphCopyNode  => exact execGraphCopyNode_memOk  s hyps
  | graphBarrierNode  => exact execGraphBarrierNode_memOk  s hyps
  | graphCondNode  => exact execGraphCondNode_memOk  s hyps
  | graphLoopNode  => exact execGraphLoopNode_memOk  s hyps
  | graphEndNode  => exact execGraphEndNode_memOk  s hyps
  | graphNodeComplete _ _ => exact execGraphNodeComplete_memOk _ _ s hyps
  | budgetDebit _ _ => exact execBudgetDebit_memOk _ _ s hyps
  | machineCheck _ => exact execMachineCheck_memOk _ s hyps
  | coreRetire _ => exact execCoreRetire_memOk _ s hyps
  | debugStopreq _ => exact execDebugStopreq_memOk _ s hyps
  | debugResume _ => exact execDebugResume_memOk _ s hyps
  | debugStep _ => exact execDebugStep_memOk _ s hyps
  | bkcycStop  => exact execBkcycStop_memOk  s hyps
  | moduleHalt  => exact execModuleHalt_memOk  s hyps
  | prctlClr  => exact execPrctlClr_memOk  s hyps
  | droopDetect _ => exact execDroopDetect_memOk _ s hyps
  | frequencyChange _ _ => exact execFrequencyChange_memOk _ _ s hyps
  | powerEvaluation _ _ => exact execPowerEvaluation_memOk _ _ s hyps
  | demandEpisodeExpiry _ => exact execDemandEpisodeExpiry_memOk _ s hyps
  | fabricEnergyCheck _ _ => exact execFabricEnergyCheck_memOk _ _ s hyps
  | clusterClosing _ _ _ => exact execClusterClosing_memOk _ _ _ s hyps
  | clusterGate _ _ => exact execClusterGate_memOk _ _ s hyps
  | clusterGateProgress _ _ => exact execClusterGateProgress_memOk _ _ s hyps
  | clusterWake _ _ => exact execClusterWake_memOk _ _ s hyps
  | clusterWakeProgress _ _ => exact execClusterWakeProgress_memOk _ _ s hyps
  | marginReplan _ _ _ _ => exact execMarginReplan_memOk _ _ _ _ s hyps
  | scrub _ _ _ => exact execScrub_memOk _ _ _ s hyps
  | hostAccess _ _ _ => exact execHostAccess_memOk _ _ _ s hyps
  | semaAcquire _ _ _ => exact execSemaAcquire_memOk _ _ _ s hyps
  | semaRenew _ _ _ => exact execSemaRenew_memOk _ _ _ s hyps
  | semaRelease _ _ => exact execSemaRelease_memOk _ _ s hyps
  | leaseExpiry  => exact execLeaseExpiry_memOk  s hyps
  | subbaseWrite _ _ => exact execSubbaseWrite_memOk _ _ s hyps
  | submissionTake _ => exact execSubmissionTake_memOk _ s hyps
  | submitLaunchRecord _ => exact execSubmitLaunchRecord_memOk _ s hyps
  | submitGraph _ => exact execSubmitGraph_memOk _ s hyps
  | submitImageLoad _ _ => exact execSubmitImageLoad_memOk _ _ s hyps
  | serviceRegisterWrite _ _ _ => exact execServiceRegisterWrite_memOk _ _ _ s hyps
  | dbgdataWrite _ _ => exact execDbgdataWrite_memOk _ _ s hyps
  | moduleReset  => exact execModuleReset_memOk  s hyps
  | bootGo _ _ => exact execBootGo_memOk _ _ s hyps
  | bootDistribute _ => exact execBootDistribute_memOk _ s hyps
  | hbmTraining  => exact execHbmTraining_memOk  s hyps
  | opticalCalibration _ => exact execOpticalCalibration_memOk _ s hyps
  | attestQuote _ => exact execAttestQuote_memOk _ s hyps
  | recalibrate _ => exact execRecalibrate_memOk _ s hyps
  | droopDetectorClear _ => exact execDroopDetectorClear_memOk _ s hyps
  | sampleRecord  => exact execSampleRecord_memOk  s hyps

theorem State.occur_memOk (s : State) (i : Instr) (hyps : Memory.wf s.mem) :
    Memory.wf (State.occur s i).mem := by
  unfold State.occur
  repeat' (first | with_reducible assumption | with_reducible apply OutOk_next | with_reducible apply exec_memOk | with_reducible apply OutOk_get | refine OutOk_of ?_ (by assumption) | with_reducible apply memOk_ite | with_reducible apply OutOk_ite | dsimp only | split)

theorem State.judgeUnit_memOk (s : State) (u : Unit7) (hyps : Memory.wf s.mem) :
    OutOk (State.judgeUnit s u) := by
  unfold State.judgeUnit
  repeat' (first | with_reducible assumption | with_reducible apply OutOk_next | with_reducible apply State.ctx_memOk | with_reducible apply State.vxStep_memOk | with_reducible apply exec_memOk | with_reducible apply OutOk_get | refine OutOk_of ?_ (by assumption) | with_reducible apply memOk_ite | with_reducible apply OutOk_ite | dsimp only | split)

theorem State.judgeNext_memOk (s : State) (hyps : Memory.wf s.mem) :
    OutOk (State.judgeNext s) := by
  unfold State.judgeNext
  repeat' (first | with_reducible assumption | with_reducible apply OutOk_next | with_reducible apply State.occur_memOk | with_reducible apply State.ctx_memOk | with_reducible apply State.judgeUnit_memOk | with_reducible apply State.wheel_memOk | with_reducible apply memOk_ite | with_reducible apply OutOk_ite | dsimp only | split)

theorem State.entryCycle_memOk (s : State) (e : Entry) (j : BankJob) (frozen : Bool) (hyps : Memory.wf s.mem) :
    Memory.wf (State.entryCycle s e j frozen).mem := by
  unfold State.entryCycle
  repeat' (first | with_reducible assumption | with_reducible apply State.viewed_memOk | with_reducible apply State.unviewed_memOk | with_reducible apply State.portCycle_memOk | with_reducible apply State.vxServed_memOk | with_reducible apply State.nmCycle_memOk | with_reducible apply State.mxCycle_memOk | with_reducible apply State.chunkServed_memOk | with_reducible apply State.moverCycle_memOk | with_reducible apply memOk_ite | with_reducible apply OutOk_ite | dsimp only | split)

theorem State.entryAsk_memOk (frozen : Bool) (s : State) (uid : Nat) (hyps : Memory.wf s.mem) :
    Memory.wf (State.entryAsk frozen s uid).mem := by
  unfold State.entryAsk
  repeat' (first | with_reducible assumption | with_reducible apply State.ctx_memOk | with_reducible apply State.timedAsk_memOk | with_reducible apply State.entryCycle_memOk | with_reducible apply State.askFor_memOk | with_reducible apply memOk_ite | with_reducible apply OutOk_ite | dsimp only | split)

theorem State.entriesAsk_memOk (s : State) (hyps : Memory.wf s.mem) :
    Memory.wf (State.entriesAsk s).mem := by
  unfold State.entriesAsk
  repeat' (first | with_reducible assumption | with_reducible apply State.ctx_memOk | with_reducible apply State.entryAsk_memOk | with_reducible apply foldl_memOk)

theorem State.askMoved_memOk (s : State) (hyps : Memory.wf s.mem) :
    Memory.wf (State.askMoved s).mem := by
  unfold State.askMoved
  repeat' (first | with_reducible assumption | with_reducible apply State.ctx_memOk | with_reducible apply State.askFor_memOk | with_reducible apply foldl_memOk | with_reducible apply memOk_ite | with_reducible apply OutOk_ite | dsimp only | split | intro _)

theorem State.askWrites_memOk (s : State) (hyps : Memory.wf s.mem) :
    Memory.wf (State.askWrites s).mem := by
  unfold State.askWrites
  repeat' (first | with_reducible assumption | with_reducible apply State.ctx_memOk | with_reducible apply State.ask_memOk)

theorem State.askEvents_memOk (s : State) (hyps : Memory.wf s.mem) :
    Memory.wf (State.askEvents s).mem := by
  unfold State.askEvents
  repeat' (first | with_reducible assumption | with_reducible apply State.ctx_memOk | with_reducible apply State.occur_memOk | with_reducible apply State.windowEnd_memOk | with_reducible apply foldl_memOk | with_reducible apply memOk_ite | with_reducible apply OutOk_ite | dsimp only | split | intro _)

theorem State.bankAsk_memOk (s : State) (hyps : Memory.wf s.mem) :
    Memory.wf (State.bankAsk s).mem := by
  unfold State.bankAsk
  repeat' (first | with_reducible assumption | with_reducible apply State.askEvents_memOk | with_reducible apply State.askWrites_memOk | with_reducible apply State.askMoved_memOk | with_reducible apply State.entriesAsk_memOk | with_reducible apply State.ctx_memOk | with_reducible apply State.entryAsk_memOk | with_reducible apply foldl_memOk | with_reducible apply memOk_ite)

theorem State.wordServed_memOk (s : State) (j : BankJob) (hyps : Memory.wf s.mem) :
    Memory.wf (State.wordServed s j).mem := by
  unfold State.wordServed
  repeat' (first | with_reducible assumption | with_reducible apply State.ctx_memOk | with_reducible apply State.sq_memOk | with_reducible apply State.respond_memOk | with_reducible apply memOk_ite | with_reducible apply OutOk_ite | dsimp only | split)

theorem State.ownServed_memOk (s : State) (j : BankJob) (hyps : Memory.wf s.mem) :
    Memory.wf (State.ownServed s j).mem := by
  unfold State.ownServed
  repeat' (first | with_reducible assumption | with_reducible apply State.ctx_memOk | with_reducible apply State.entryCycle_memOk | with_reducible apply State.occur_memOk | with_reducible apply State.wordServed_memOk | with_reducible apply memOk_ite | with_reducible apply OutOk_ite | dsimp only | split)

theorem State.guestServed_memOk (s : State) (j : BankJob) (hyps : Memory.wf s.mem) :
    Memory.wf (State.guestServed s j).mem := by
  unfold State.guestServed
  repeat' (first | with_reducible assumption | with_reducible apply State.endRemote_memOk | with_reducible apply State.respond_memOk | with_reducible apply State.responded_memOk | with_reducible apply State.occur_memOk | with_reducible apply foldl_memOk | with_reducible apply memOk_ite | with_reducible apply OutOk_ite | dsimp only | split)

theorem State.afterService_memOk (served : List BankAcc) (s : State) (cid : Nat) (hyps : Memory.wf s.mem) :
    Memory.wf (State.afterService served s cid).mem := by
  unfold State.afterService
  repeat' (first | with_reducible assumption | with_reducible apply State.focus_memOk | with_reducible apply State.ctx_memOk | with_reducible apply State.guestServed_memOk | with_reducible apply State.ownServed_memOk | with_reducible apply foldl_memOk)

theorem State.perform_memOk (s : State) (p : Pend) (hyps : Memory.wf s.mem) :
    Memory.wf (State.perform s p).mem := by
  unfold State.perform
  repeat' (first | with_reducible assumption | with_reducible apply State.csrPerforms_memOk | with_reducible apply State.writePools_memOk | with_reducible apply State.arrival_memOk | with_reducible apply State.occur_memOk | with_reducible apply State.ctx_memOk | with_reducible apply memOk_ite | with_reducible apply OutOk_ite | dsimp only | split)

theorem State.settleNow_memOk (n : Nat) (s : State) (hyps : Memory.wf s.mem) : Memory.wf (State.settleNow n s).mem := by
  induction n generalizing s with
  | zero => exact hyps
  | succ n ih =>
    unfold State.settleNow
    repeat' (first | with_reducible assumption | with_reducible apply ih | with_reducible apply foldl_memOk | with_reducible apply State.perform_memOk | with_reducible apply State.ctx_memOk | dsimp only | split)

theorem State.settleCycle_memOk (s : State) (hyps : Memory.wf s.mem) :
    Memory.wf (State.settleCycle s).mem := by
  unfold State.settleCycle
  repeat' (first | with_reducible assumption | with_reducible apply State.ctx_memOk | with_reducible apply State.perform_memOk | with_reducible apply State.settleNow_memOk | with_reducible apply foldl_memOk)

theorem State.barTick_memOk (s : State) (n : Nat) (hyps : Memory.wf s.mem) :
    Memory.wf (State.barTick s n).mem := by
  unfold State.barTick
  repeat' (first | with_reducible assumption | with_reducible apply State.ctx_memOk | with_reducible apply State.occur_memOk | with_reducible apply memOk_ite)

theorem State.endWaits_memOk (s : State) (hyps : Memory.wf s.mem) :
    Memory.wf (State.endWaits s).mem := by
  unfold State.endWaits
  repeat' (first | with_reducible assumption | with_reducible apply State.occur_memOk)

theorem State.countCycle_memOk (s : State) (hyps : Memory.wf s.mem) :
    Memory.wf (State.countCycle s).mem := by
  unfold State.countCycle
  repeat' (first | with_reducible assumption | with_reducible apply State.ctx_memOk | with_reducible apply State.occur_memOk | with_reducible apply memOk_ite)

theorem State.clockEdge_memOk (s : State) (hyps : Memory.wf s.mem) :
    Memory.wf (State.clockEdge s).mem := by
  unfold State.clockEdge
  repeat' (first | with_reducible assumption | with_reducible apply State.onDie_memOk | with_reducible apply memOk_ite)

theorem State.stopDue_memOk (s : State) (hyps : Memory.wf s.mem) :
    Memory.wf (State.stopDue s).mem := by
  unfold State.stopDue
  repeat' (first | with_reducible assumption | with_reducible apply State.occur_memOk | with_reducible apply State.ctx_memOk | with_reducible apply State.finishStep_memOk | with_reducible apply memOk_ite)

theorem State.servedFault_memOk (t s : State) (hypt : Memory.wf t.mem) (hyps : Memory.wf s.mem) :
    Memory.wf (State.servedFault t s).mem := by
  unfold State.servedFault
  extract_lets judge u1 u
  clear_value u
  split
  · exact hypt
  · split
    · exact hypt
    · split
      · exact hypt
      · split
        · split
          · exact hypt
          · split
            · rename_i f hf
              exact OutOk_of (State.wordFault_memOk _ _ _ (State.ctx_memOk _ _ hyps)) hf
            · exact hypt
        · exact hypt

theorem State.afterWord_memOk (s t : State) (hyps : Memory.wf s.mem) (hypt : Memory.wf t.mem) :
    Memory.wf (State.afterWord s t).mem := by
  unfold State.afterWord
  repeat' (first | with_reducible assumption | with_reducible apply State.servedFault_memOk | with_reducible apply State.ctx_memOk | with_reducible apply State.occur_memOk | with_reducible apply State.sq_memOk | with_reducible apply foldl_memOk | with_reducible apply memOk_ite)

theorem State.holdEnds_memOk (s : State) (hyps : Memory.wf s.mem) :
    Memory.wf (State.holdEnds s).mem := by
  unfold State.holdEnds
  repeat' (first | with_reducible assumption | with_reducible apply OutOk_next | with_reducible apply State.ctx_memOk | with_reducible apply State.sq_memOk | with_reducible apply State.afterWord_memOk | with_reducible apply exec_memOk | with_reducible apply OutOk_get | refine OutOk_of ?_ (by assumption) | with_reducible apply memOk_ite | with_reducible apply OutOk_ite | dsimp only | split)

theorem State.finishCycle_memOk (s : State) (hyps : Memory.wf s.mem) :
    Memory.wf (State.finishCycle s).mem := by
  unfold State.finishCycle
  repeat' (first | with_reducible assumption | with_reducible apply State.ctx_memOk | with_reducible apply State.settleCycle_memOk | with_reducible apply State.barTick_memOk | with_reducible apply State.endWaits_memOk | with_reducible apply State.settleNow_memOk | with_reducible apply State.holdEnds_memOk | with_reducible apply State.clockEdge_memOk | with_reducible apply State.stopDue_memOk | with_reducible apply foldl_memOk)

theorem State.portsOnly_memOk (s : State) (hyps : Memory.wf s.mem) :
    Memory.wf (State.portsOnly s).mem := by
  unfold State.portsOnly
  repeat' (first | with_reducible assumption | with_reducible apply State.clockEdge_memOk)

theorem State.swapCycle_memOk (s : State) (hyps : Memory.wf s.mem) :
    Memory.wf (State.swapCycle s).mem := by
  unfold State.swapCycle
  repeat' (first | with_reducible assumption | with_reducible apply State.clockEdge_memOk | with_reducible apply State.endSwap_memOk | with_reducible apply State.occur_memOk | with_reducible apply memOk_ite)

theorem State.askPart_memOk (s : State) (cid : Nat) (hyps : Memory.wf s.mem) :
    Memory.wf (State.askPart s cid).mem := by
  unfold State.askPart
  repeat' (first | with_reducible assumption | with_reducible apply State.focus_memOk | with_reducible apply State.countCycle_memOk | with_reducible apply State.bankAsk_memOk | with_reducible apply memOk_ite)

theorem State.endPart_memOk (s : State) (cid : Nat) (hyps : Memory.wf s.mem) :
    Memory.wf (State.endPart s cid).mem := by
  unfold State.endPart
  repeat' (first | with_reducible assumption | with_reducible apply State.focus_memOk | with_reducible apply State.swapCycle_memOk | with_reducible apply State.portsOnly_memOk | with_reducible apply State.finishCycle_memOk | with_reducible apply memOk_ite)

theorem State.finishEdge_memOk (s : State) (hyps : Memory.wf s.mem) :
    Memory.wf (State.finishEdge s).mem := by
  unfold State.finishEdge
  repeat' (first | with_reducible assumption | with_reducible apply State.askPart_memOk | with_reducible apply State.afterService_memOk | with_reducible apply State.writePools_memOk | with_reducible apply State.endPart_memOk | with_reducible apply State.drainTrace_memOk | with_reducible apply foldl_memOk | with_reducible apply memOk_ite | with_reducible apply OutOk_ite | dsimp only | split | intro _)

theorem State.issueWord_memOk (s : State) (hyps : Memory.wf s.mem) :
    OutOk (State.issueWord s) := by
  unfold State.issueWord
  repeat' (first | with_reducible assumption | with_reducible apply OutOk_next | with_reducible apply State.ctx_memOk | with_reducible apply State.sq_memOk | with_reducible apply State.wordFault_memOk | with_reducible apply State.illegal_memOk | with_reducible apply State.afterWord_memOk | with_reducible apply exec_memOk | with_reducible apply OutOk_get | refine OutOk_of ?_ (by assumption) | with_reducible apply memOk_ite | with_reducible apply OutOk_ite | dsimp only | split)

theorem State.trapNow_memOk (s : State) {t : State} (heq : s.trapNow = some t) (hyps : Memory.wf s.mem) : Memory.wf t.mem := by
  unfold State.trapNow at heq
  dsimp only at heq
  repeat' (split at heq)
  all_goals first
    | (cases heq; done)
    | (cases heq; exact State.faultTrap_memOk _ hyps)
    | (cases heq; exact State.trapNext_memOk _ _ _ (State.ctx_memOk _ _ hyps))

theorem State.beforeIssue_memOk (s : State) (hyps : Memory.wf s.mem) :
    Memory.wf (State.beforeIssue s).mem := by
  unfold State.beforeIssue
  repeat' (first | with_reducible assumption | with_reducible apply State.occur_memOk | with_reducible apply memOk_ite)

theorem State.sqCycle_memOk (s : State) (hyps : Memory.wf s.mem) :
    OutOk (State.sqCycle s) := by
  unfold State.sqCycle
  repeat' (first | with_reducible assumption | with_reducible apply OutOk_next | with_reducible apply State.beforeIssue_memOk | with_reducible apply State.ctx_memOk | with_reducible apply State.sq_memOk | with_reducible apply State.issueWord_memOk | with_reducible apply memOk_ite | with_reducible apply OutOk_ite)

theorem State.endCycle_memOk (s : State) (hyps : Memory.wf s.mem) :
    Memory.wf (State.endCycle s).mem := by
  unfold State.endCycle
  repeat' (first | with_reducible assumption)

theorem State.beginCycle_memOk (s : State) (hyps : Memory.wf s.mem) :
    OutOk (State.beginCycle s) := by
  unfold State.beginCycle
  repeat' (first | with_reducible assumption | with_reducible apply OutOk_next | with_reducible apply State.endCycle_memOk | with_reducible apply State.stopHere_memOk | with_reducible apply State.occur_memOk | with_reducible apply State.sqCycle_memOk | refine State.trapNow_memOk _ (by assumption) ?_ | with_reducible apply OutOk_get | refine OutOk_of ?_ (by assumption) | with_reducible apply memOk_ite | with_reducible apply OutOk_ite | dsimp only | split)

theorem State.seqWord_memOk (s : State) (die lid : Nat) (hyps : Memory.wf s.mem) :
    OutOk (State.seqWord s die lid) := by
  unfold State.seqWord
  repeat' (first | with_reducible assumption | with_reducible apply OutOk_next | with_reducible apply State.seqStop_memOk | with_reducible apply exec_memOk | with_reducible apply OutOk_get | refine OutOk_of ?_ (by assumption) | with_reducible apply memOk_ite | with_reducible apply OutOk_ite | dsimp only | split)

theorem State.runCore_memOk (s : State) (k : Core) (hyps : Memory.wf s.mem) :
    OutOk (State.runCore s k) := by
  unfold State.runCore
  repeat' (first | with_reducible assumption | with_reducible apply OutOk_next | with_reducible apply State.toTick_memOk | with_reducible apply State.focus_memOk | with_reducible apply State.beginCycle_memOk | with_reducible apply memOk_ite | with_reducible apply OutOk_ite)

theorem State.passTime_memOk (s : State) (hyps : Memory.wf s.mem) :
    OutOk (State.passTime s) := by
  unfold State.passTime
  repeat' (first | with_reducible assumption | with_reducible apply OutOk_next | with_reducible apply State.toTick_memOk | with_reducible apply State.runCore_memOk | with_reducible apply memOk_ite | with_reducible apply OutOk_ite | dsimp only | split)

theorem State.timerDue_memOk (s : State) (ports : Bool) {o : Out} (heq : s.timerDue ports = some o) (hyps : Memory.wf s.mem) :
    OutOk o := by
  unfold State.timerDue at heq
  split at heq
  · split at heq
    · cases heq
      split
      · exact exec_memOk _ _ hyps
      · exact OutOk_next hyps
    · cases heq
  · cases heq

theorem boundary_afterSlices_memOk (s : State) (hyps : Memory.wf s.mem) : OutOk (State.boundary.afterSlices s) := by
  unfold State.boundary.afterSlices
  split
  · exact exec_memOk _ _ hyps
  · cases h : s.timerDue true with
    | none => exact State.passTime_memOk _ hyps
    | some o => exact State.timerDue_memOk s true h hyps

theorem boundary_afterTimers_memOk (s : State) (hyps : Memory.wf s.mem) : OutOk (State.boundary.afterTimers s) := by
  unfold State.boundary.afterTimers
  repeat' (first | with_reducible apply State.seqWord_memOk | with_reducible apply boundary_afterSlices_memOk | with_reducible assumption | split)

theorem State.boundary_memOk (s : State) (hyps : Memory.wf s.mem) : OutOk s.boundary := by
  unfold State.boundary
  repeat' (first | with_reducible apply OutOk_next | with_reducible apply State.runCore_memOk | with_reducible apply boundary_afterTimers_memOk | with_reducible assumption | exact State.timerDue_memOk s false (by assumption) hyps | split)

theorem State.advanceStep_memOk (s : State) (hyps : Memory.wf s.mem) :
    OutOk (State.advanceStep s) := by
  unfold State.advanceStep
  repeat' (first | with_reducible assumption | with_reducible apply OutOk_next | with_reducible apply State.boundary_memOk | with_reducible apply State.judgeNext_memOk | with_reducible apply State.wheel_memOk | with_reducible apply State.endCycle_memOk | with_reducible apply State.finishEdge_memOk | with_reducible apply memOk_ite | with_reducible apply OutOk_ite | dsimp only | split)

theorem State.putOff_memOk (s : State) (t : Nat) (hyps : Memory.wf s.mem) :
    Memory.wf (State.putOff s t).mem := by
  unfold State.putOff
  repeat' (first | with_reducible assumption)

theorem State.placeWord_memOk (s : State) (nbits w : Nat) (hyps : Memory.wf s.mem) :
    Memory.wf (State.placeWord s nbits w).mem := by
  unfold State.placeWord
  repeat' (first | with_reducible assumption | with_reducible apply State.ctx_memOk | with_reducible apply State.sq_memOk | with_reducible apply State.putOff_memOk | with_reducible apply State.onDie_memOk | with_reducible apply memOk_ite | with_reducible apply OutOk_ite | dsimp only | split)

end Sys2Proof.Machine
end

