-- ==== Sys2Proof/Laws/State.lean ====
section
/-! SUPPORT. What each update of the state leaves in each field: one lemma per field and update, by `rfl`. -/

namespace Sys2Proof.Machine

@[simp] theorem State.ctx_core (s : State) (f : Ctx → Ctx) : (s.ctx f).core = { s.core with ctx := f s.core.ctx } := rfl
@[simp] theorem State.ctx_others (s : State) (f : Ctx → Ctx) : (s.ctx f).others = s.others := rfl
@[simp] theorem State.ctx_phase (s : State) (f : Ctx → Ctx) : (s.ctx f).phase = s.phase := rfl
@[simp] theorem State.ctx_judged (s : State) (f : Ctx → Ctx) : (s.ctx f).judged = s.judged := rfl
@[simp] theorem State.ctx_unit (s : State) (f : Ctx → Ctx) : (s.ctx f).unit = s.unit := rfl
@[simp] theorem State.ctx_events (s : State) (f : Ctx → Ctx) : (s.ctx f).events = s.events := rfl
@[simp] theorem State.ctx_timers (s : State) (f : Ctx → Ctx) : (s.ctx f).timers = s.timers := rfl
@[simp] theorem State.ctx_seqDie (s : State) (f : Ctx → Ctx) : (s.ctx f).seqDie = s.seqDie := rfl
@[simp] theorem State.ctx_seqLid (s : State) (f : Ctx → Ctx) : (s.ctx f).seqLid = s.seqLid := rfl
@[simp] theorem State.ctx_nextId (s : State) (f : Ctx → Ctx) : (s.ctx f).nextId = s.nextId := rfl
@[simp] theorem State.ctx_tick (s : State) (f : Ctx → Ctx) : (s.ctx f).tick = s.tick := rfl
@[simp] theorem State.ctx_dies (s : State) (f : Ctx → Ctx) : (s.ctx f).dies = s.dies := rfl
@[simp] theorem State.ctx_sites (s : State) (f : Ctx → Ctx) : (s.ctx f).sites = s.sites := rfl
@[simp] theorem State.ctx_links (s : State) (f : Ctx → Ctx) : (s.ctx f).links = s.links := rfl
@[simp] theorem State.ctx_mem (s : State) (f : Ctx → Ctx) : (s.ctx f).mem = s.mem := rfl
@[simp] theorem State.ctx_reqs (s : State) (f : Ctx → Ctx) : (s.ctx f).reqs = s.reqs := rfl
@[simp] theorem State.ctx_units (s : State) (f : Ctx → Ctx) : (s.ctx f).units = s.units := rfl
@[simp] theorem State.ctx_regions (s : State) (f : Ctx → Ctx) : (s.ctx f).regions = s.regions := rfl
@[simp] theorem State.ctx_images (s : State) (f : Ctx → Ctx) : (s.ctx f).images = s.images := rfl
@[simp] theorem State.ctx_launches (s : State) (f : Ctx → Ctx) : (s.ctx f).launches = s.launches := rfl
@[simp] theorem State.ctx_saves (s : State) (f : Ctx → Ctx) : (s.ctx f).saves = s.saves := rfl
@[simp] theorem State.ctx_graphs (s : State) (f : Ctx → Ctx) : (s.ctx f).graphs = s.graphs := rfl
@[simp] theorem State.ctx_svc (s : State) (f : Ctx → Ctx) : (s.ctx f).svc = s.svc := rfl
@[simp] theorem State.ctx_conn (s : State) (f : Ctx → Ctx) : (s.ctx f).conn = s.conn := rfl
@[simp] theorem State.ctx_fuses (s : State) (f : Ctx → Ctx) : (s.ctx f).fuses = s.fuses := rfl
@[simp] theorem State.ctx_roots (s : State) (f : Ctx → Ctx) : (s.ctx f).roots = s.roots := rfl

@[simp] theorem State.sq_core (s : State) (f : Sq → Sq) : (s.sq f).core = { s.core with ctx := { s.core.ctx with sq := f s.core.ctx.sq } } := rfl
@[simp] theorem State.sq_others (s : State) (f : Sq → Sq) : (s.sq f).others = s.others := rfl
@[simp] theorem State.sq_phase (s : State) (f : Sq → Sq) : (s.sq f).phase = s.phase := rfl
@[simp] theorem State.sq_judged (s : State) (f : Sq → Sq) : (s.sq f).judged = s.judged := rfl
@[simp] theorem State.sq_unit (s : State) (f : Sq → Sq) : (s.sq f).unit = s.unit := rfl
@[simp] theorem State.sq_events (s : State) (f : Sq → Sq) : (s.sq f).events = s.events := rfl
@[simp] theorem State.sq_timers (s : State) (f : Sq → Sq) : (s.sq f).timers = s.timers := rfl
@[simp] theorem State.sq_seqDie (s : State) (f : Sq → Sq) : (s.sq f).seqDie = s.seqDie := rfl
@[simp] theorem State.sq_seqLid (s : State) (f : Sq → Sq) : (s.sq f).seqLid = s.seqLid := rfl
@[simp] theorem State.sq_nextId (s : State) (f : Sq → Sq) : (s.sq f).nextId = s.nextId := rfl
@[simp] theorem State.sq_tick (s : State) (f : Sq → Sq) : (s.sq f).tick = s.tick := rfl
@[simp] theorem State.sq_dies (s : State) (f : Sq → Sq) : (s.sq f).dies = s.dies := rfl
@[simp] theorem State.sq_sites (s : State) (f : Sq → Sq) : (s.sq f).sites = s.sites := rfl
@[simp] theorem State.sq_links (s : State) (f : Sq → Sq) : (s.sq f).links = s.links := rfl
@[simp] theorem State.sq_mem (s : State) (f : Sq → Sq) : (s.sq f).mem = s.mem := rfl
@[simp] theorem State.sq_reqs (s : State) (f : Sq → Sq) : (s.sq f).reqs = s.reqs := rfl
@[simp] theorem State.sq_units (s : State) (f : Sq → Sq) : (s.sq f).units = s.units := rfl
@[simp] theorem State.sq_regions (s : State) (f : Sq → Sq) : (s.sq f).regions = s.regions := rfl
@[simp] theorem State.sq_images (s : State) (f : Sq → Sq) : (s.sq f).images = s.images := rfl
@[simp] theorem State.sq_launches (s : State) (f : Sq → Sq) : (s.sq f).launches = s.launches := rfl
@[simp] theorem State.sq_saves (s : State) (f : Sq → Sq) : (s.sq f).saves = s.saves := rfl
@[simp] theorem State.sq_graphs (s : State) (f : Sq → Sq) : (s.sq f).graphs = s.graphs := rfl
@[simp] theorem State.sq_svc (s : State) (f : Sq → Sq) : (s.sq f).svc = s.svc := rfl
@[simp] theorem State.sq_conn (s : State) (f : Sq → Sq) : (s.sq f).conn = s.conn := rfl
@[simp] theorem State.sq_fuses (s : State) (f : Sq → Sq) : (s.sq f).fuses = s.fuses := rfl
@[simp] theorem State.sq_roots (s : State) (f : Sq → Sq) : (s.sq f).roots = s.roots := rfl

@[simp] theorem State.push_core (s : State) (n : Nat) (e : Eff) : (s.push n e).core = { s.core with ctx := { s.core.ctx with pend := s.core.ctx.pend ++ [⟨n, none, e⟩] } } := rfl
@[simp] theorem State.push_others (s : State) (n : Nat) (e : Eff) : (s.push n e).others = s.others := rfl
@[simp] theorem State.push_phase (s : State) (n : Nat) (e : Eff) : (s.push n e).phase = s.phase := rfl
@[simp] theorem State.push_judged (s : State) (n : Nat) (e : Eff) : (s.push n e).judged = s.judged := rfl
@[simp] theorem State.push_unit (s : State) (n : Nat) (e : Eff) : (s.push n e).unit = s.unit := rfl
@[simp] theorem State.push_events (s : State) (n : Nat) (e : Eff) : (s.push n e).events = s.events := rfl
@[simp] theorem State.push_timers (s : State) (n : Nat) (e : Eff) : (s.push n e).timers = s.timers := rfl
@[simp] theorem State.push_seqDie (s : State) (n : Nat) (e : Eff) : (s.push n e).seqDie = s.seqDie := rfl
@[simp] theorem State.push_seqLid (s : State) (n : Nat) (e : Eff) : (s.push n e).seqLid = s.seqLid := rfl
@[simp] theorem State.push_nextId (s : State) (n : Nat) (e : Eff) : (s.push n e).nextId = s.nextId := rfl
@[simp] theorem State.push_tick (s : State) (n : Nat) (e : Eff) : (s.push n e).tick = s.tick := rfl
@[simp] theorem State.push_dies (s : State) (n : Nat) (e : Eff) : (s.push n e).dies = s.dies := rfl
@[simp] theorem State.push_sites (s : State) (n : Nat) (e : Eff) : (s.push n e).sites = s.sites := rfl
@[simp] theorem State.push_links (s : State) (n : Nat) (e : Eff) : (s.push n e).links = s.links := rfl
@[simp] theorem State.push_mem (s : State) (n : Nat) (e : Eff) : (s.push n e).mem = s.mem := rfl
@[simp] theorem State.push_reqs (s : State) (n : Nat) (e : Eff) : (s.push n e).reqs = s.reqs := rfl
@[simp] theorem State.push_units (s : State) (n : Nat) (e : Eff) : (s.push n e).units = s.units := rfl
@[simp] theorem State.push_regions (s : State) (n : Nat) (e : Eff) : (s.push n e).regions = s.regions := rfl
@[simp] theorem State.push_images (s : State) (n : Nat) (e : Eff) : (s.push n e).images = s.images := rfl
@[simp] theorem State.push_launches (s : State) (n : Nat) (e : Eff) : (s.push n e).launches = s.launches := rfl
@[simp] theorem State.push_saves (s : State) (n : Nat) (e : Eff) : (s.push n e).saves = s.saves := rfl
@[simp] theorem State.push_graphs (s : State) (n : Nat) (e : Eff) : (s.push n e).graphs = s.graphs := rfl
@[simp] theorem State.push_svc (s : State) (n : Nat) (e : Eff) : (s.push n e).svc = s.svc := rfl
@[simp] theorem State.push_conn (s : State) (n : Nat) (e : Eff) : (s.push n e).conn = s.conn := rfl
@[simp] theorem State.push_fuses (s : State) (n : Nat) (e : Eff) : (s.push n e).fuses = s.fuses := rfl
@[simp] theorem State.push_roots (s : State) (n : Nat) (e : Eff) : (s.push n e).roots = s.roots := rfl

@[simp] theorem State.post_core (s : State) (i : Instr) : (s.post i).core = s.core := rfl
@[simp] theorem State.post_others (s : State) (i : Instr) : (s.post i).others = s.others := rfl
@[simp] theorem State.post_phase (s : State) (i : Instr) : (s.post i).phase = s.phase := rfl
@[simp] theorem State.post_judged (s : State) (i : Instr) : (s.post i).judged = s.judged := rfl
@[simp] theorem State.post_unit (s : State) (i : Instr) : (s.post i).unit = s.unit := rfl
@[simp] theorem State.post_events (s : State) (i : Instr) : (s.post i).events = s.events ++ [i] := rfl
@[simp] theorem State.post_timers (s : State) (i : Instr) : (s.post i).timers = s.timers := rfl
@[simp] theorem State.post_seqDie (s : State) (i : Instr) : (s.post i).seqDie = s.seqDie := rfl
@[simp] theorem State.post_seqLid (s : State) (i : Instr) : (s.post i).seqLid = s.seqLid := rfl
@[simp] theorem State.post_nextId (s : State) (i : Instr) : (s.post i).nextId = s.nextId := rfl
@[simp] theorem State.post_tick (s : State) (i : Instr) : (s.post i).tick = s.tick := rfl
@[simp] theorem State.post_dies (s : State) (i : Instr) : (s.post i).dies = s.dies := rfl
@[simp] theorem State.post_sites (s : State) (i : Instr) : (s.post i).sites = s.sites := rfl
@[simp] theorem State.post_links (s : State) (i : Instr) : (s.post i).links = s.links := rfl
@[simp] theorem State.post_mem (s : State) (i : Instr) : (s.post i).mem = s.mem := rfl
@[simp] theorem State.post_reqs (s : State) (i : Instr) : (s.post i).reqs = s.reqs := rfl
@[simp] theorem State.post_units (s : State) (i : Instr) : (s.post i).units = s.units := rfl
@[simp] theorem State.post_regions (s : State) (i : Instr) : (s.post i).regions = s.regions := rfl
@[simp] theorem State.post_images (s : State) (i : Instr) : (s.post i).images = s.images := rfl
@[simp] theorem State.post_launches (s : State) (i : Instr) : (s.post i).launches = s.launches := rfl
@[simp] theorem State.post_saves (s : State) (i : Instr) : (s.post i).saves = s.saves := rfl
@[simp] theorem State.post_graphs (s : State) (i : Instr) : (s.post i).graphs = s.graphs := rfl
@[simp] theorem State.post_svc (s : State) (i : Instr) : (s.post i).svc = s.svc := rfl
@[simp] theorem State.post_conn (s : State) (i : Instr) : (s.post i).conn = s.conn := rfl
@[simp] theorem State.post_fuses (s : State) (i : Instr) : (s.post i).fuses = s.fuses := rfl
@[simp] theorem State.post_roots (s : State) (i : Instr) : (s.post i).roots = s.roots := rfl

@[simp] theorem State.at_core (s : State) (t : Nat) (i : Instr) : (s.at t i).core = s.core := rfl
@[simp] theorem State.at_others (s : State) (t : Nat) (i : Instr) : (s.at t i).others = s.others := rfl
@[simp] theorem State.at_phase (s : State) (t : Nat) (i : Instr) : (s.at t i).phase = s.phase := rfl
@[simp] theorem State.at_judged (s : State) (t : Nat) (i : Instr) : (s.at t i).judged = s.judged := rfl
@[simp] theorem State.at_unit (s : State) (t : Nat) (i : Instr) : (s.at t i).unit = s.unit := rfl
@[simp] theorem State.at_events (s : State) (t : Nat) (i : Instr) : (s.at t i).events = s.events := rfl
@[simp] theorem State.at_timers (s : State) (t : Nat) (i : Instr) : (s.at t i).timers = s.timers ++ [(t, i)] := rfl
@[simp] theorem State.at_seqDie (s : State) (t : Nat) (i : Instr) : (s.at t i).seqDie = s.seqDie := rfl
@[simp] theorem State.at_seqLid (s : State) (t : Nat) (i : Instr) : (s.at t i).seqLid = s.seqLid := rfl
@[simp] theorem State.at_nextId (s : State) (t : Nat) (i : Instr) : (s.at t i).nextId = s.nextId := rfl
@[simp] theorem State.at_tick (s : State) (t : Nat) (i : Instr) : (s.at t i).tick = s.tick := rfl
@[simp] theorem State.at_dies (s : State) (t : Nat) (i : Instr) : (s.at t i).dies = s.dies := rfl
@[simp] theorem State.at_sites (s : State) (t : Nat) (i : Instr) : (s.at t i).sites = s.sites := rfl
@[simp] theorem State.at_links (s : State) (t : Nat) (i : Instr) : (s.at t i).links = s.links := rfl
@[simp] theorem State.at_mem (s : State) (t : Nat) (i : Instr) : (s.at t i).mem = s.mem := rfl
@[simp] theorem State.at_reqs (s : State) (t : Nat) (i : Instr) : (s.at t i).reqs = s.reqs := rfl
@[simp] theorem State.at_units (s : State) (t : Nat) (i : Instr) : (s.at t i).units = s.units := rfl
@[simp] theorem State.at_regions (s : State) (t : Nat) (i : Instr) : (s.at t i).regions = s.regions := rfl
@[simp] theorem State.at_images (s : State) (t : Nat) (i : Instr) : (s.at t i).images = s.images := rfl
@[simp] theorem State.at_launches (s : State) (t : Nat) (i : Instr) : (s.at t i).launches = s.launches := rfl
@[simp] theorem State.at_saves (s : State) (t : Nat) (i : Instr) : (s.at t i).saves = s.saves := rfl
@[simp] theorem State.at_graphs (s : State) (t : Nat) (i : Instr) : (s.at t i).graphs = s.graphs := rfl
@[simp] theorem State.at_svc (s : State) (t : Nat) (i : Instr) : (s.at t i).svc = s.svc := rfl
@[simp] theorem State.at_conn (s : State) (t : Nat) (i : Instr) : (s.at t i).conn = s.conn := rfl
@[simp] theorem State.at_fuses (s : State) (t : Nat) (i : Instr) : (s.at t i).fuses = s.fuses := rfl
@[simp] theorem State.at_roots (s : State) (t : Nat) (i : Instr) : (s.at t i).roots = s.roots := rfl

@[simp] theorem State.fresh_core (s : State)  : (s.fresh).core = s.core := rfl
@[simp] theorem State.fresh_others (s : State)  : (s.fresh).others = s.others := rfl
@[simp] theorem State.fresh_phase (s : State)  : (s.fresh).phase = s.phase := rfl
@[simp] theorem State.fresh_judged (s : State)  : (s.fresh).judged = s.judged := rfl
@[simp] theorem State.fresh_unit (s : State)  : (s.fresh).unit = s.unit := rfl
@[simp] theorem State.fresh_events (s : State)  : (s.fresh).events = s.events := rfl
@[simp] theorem State.fresh_timers (s : State)  : (s.fresh).timers = s.timers := rfl
@[simp] theorem State.fresh_seqDie (s : State)  : (s.fresh).seqDie = s.seqDie := rfl
@[simp] theorem State.fresh_seqLid (s : State)  : (s.fresh).seqLid = s.seqLid := rfl
@[simp] theorem State.fresh_nextId (s : State)  : (s.fresh).nextId = s.nextId + 1 := rfl
@[simp] theorem State.fresh_tick (s : State)  : (s.fresh).tick = s.tick := rfl
@[simp] theorem State.fresh_dies (s : State)  : (s.fresh).dies = s.dies := rfl
@[simp] theorem State.fresh_sites (s : State)  : (s.fresh).sites = s.sites := rfl
@[simp] theorem State.fresh_links (s : State)  : (s.fresh).links = s.links := rfl
@[simp] theorem State.fresh_mem (s : State)  : (s.fresh).mem = s.mem := rfl
@[simp] theorem State.fresh_reqs (s : State)  : (s.fresh).reqs = s.reqs := rfl
@[simp] theorem State.fresh_units (s : State)  : (s.fresh).units = s.units := rfl
@[simp] theorem State.fresh_regions (s : State)  : (s.fresh).regions = s.regions := rfl
@[simp] theorem State.fresh_images (s : State)  : (s.fresh).images = s.images := rfl
@[simp] theorem State.fresh_launches (s : State)  : (s.fresh).launches = s.launches := rfl
@[simp] theorem State.fresh_saves (s : State)  : (s.fresh).saves = s.saves := rfl
@[simp] theorem State.fresh_graphs (s : State)  : (s.fresh).graphs = s.graphs := rfl
@[simp] theorem State.fresh_svc (s : State)  : (s.fresh).svc = s.svc := rfl
@[simp] theorem State.fresh_conn (s : State)  : (s.fresh).conn = s.conn := rfl
@[simp] theorem State.fresh_fuses (s : State)  : (s.fresh).fuses = s.fuses := rfl
@[simp] theorem State.fresh_roots (s : State)  : (s.fresh).roots = s.roots := rfl

@[simp] theorem State.onDie_core (s : State) (d : Nat) (f : Die → Die) : (s.onDie d f).core = s.core := rfl
@[simp] theorem State.onDie_others (s : State) (d : Nat) (f : Die → Die) : (s.onDie d f).others = s.others := rfl
@[simp] theorem State.onDie_phase (s : State) (d : Nat) (f : Die → Die) : (s.onDie d f).phase = s.phase := rfl
@[simp] theorem State.onDie_judged (s : State) (d : Nat) (f : Die → Die) : (s.onDie d f).judged = s.judged := rfl
@[simp] theorem State.onDie_unit (s : State) (d : Nat) (f : Die → Die) : (s.onDie d f).unit = s.unit := rfl
@[simp] theorem State.onDie_events (s : State) (d : Nat) (f : Die → Die) : (s.onDie d f).events = s.events := rfl
@[simp] theorem State.onDie_timers (s : State) (d : Nat) (f : Die → Die) : (s.onDie d f).timers = s.timers := rfl
@[simp] theorem State.onDie_seqDie (s : State) (d : Nat) (f : Die → Die) : (s.onDie d f).seqDie = s.seqDie := rfl
@[simp] theorem State.onDie_seqLid (s : State) (d : Nat) (f : Die → Die) : (s.onDie d f).seqLid = s.seqLid := rfl
@[simp] theorem State.onDie_nextId (s : State) (d : Nat) (f : Die → Die) : (s.onDie d f).nextId = s.nextId := rfl
@[simp] theorem State.onDie_tick (s : State) (d : Nat) (f : Die → Die) : (s.onDie d f).tick = s.tick := rfl
@[simp] theorem State.onDie_dies (s : State) (d : Nat) (f : Die → Die) : (s.onDie d f).dies = putDie s.dies (f (s.die d)) := rfl
@[simp] theorem State.onDie_sites (s : State) (d : Nat) (f : Die → Die) : (s.onDie d f).sites = s.sites := rfl
@[simp] theorem State.onDie_links (s : State) (d : Nat) (f : Die → Die) : (s.onDie d f).links = s.links := rfl
@[simp] theorem State.onDie_mem (s : State) (d : Nat) (f : Die → Die) : (s.onDie d f).mem = s.mem := rfl
@[simp] theorem State.onDie_reqs (s : State) (d : Nat) (f : Die → Die) : (s.onDie d f).reqs = s.reqs := rfl
@[simp] theorem State.onDie_units (s : State) (d : Nat) (f : Die → Die) : (s.onDie d f).units = s.units := rfl
@[simp] theorem State.onDie_regions (s : State) (d : Nat) (f : Die → Die) : (s.onDie d f).regions = s.regions := rfl
@[simp] theorem State.onDie_images (s : State) (d : Nat) (f : Die → Die) : (s.onDie d f).images = s.images := rfl
@[simp] theorem State.onDie_launches (s : State) (d : Nat) (f : Die → Die) : (s.onDie d f).launches = s.launches := rfl
@[simp] theorem State.onDie_saves (s : State) (d : Nat) (f : Die → Die) : (s.onDie d f).saves = s.saves := rfl
@[simp] theorem State.onDie_graphs (s : State) (d : Nat) (f : Die → Die) : (s.onDie d f).graphs = s.graphs := rfl
@[simp] theorem State.onDie_svc (s : State) (d : Nat) (f : Die → Die) : (s.onDie d f).svc = s.svc := rfl
@[simp] theorem State.onDie_conn (s : State) (d : Nat) (f : Die → Die) : (s.onDie d f).conn = s.conn := rfl
@[simp] theorem State.onDie_fuses (s : State) (d : Nat) (f : Die → Die) : (s.onDie d f).fuses = s.fuses := rfl
@[simp] theorem State.onDie_roots (s : State) (d : Nat) (f : Die → Die) : (s.onDie d f).roots = s.roots := rfl

@[simp] theorem State.onSite_core (s : State) (n : Nat) (f : Site → Site) : (s.onSite n f).core = s.core := rfl
@[simp] theorem State.onSite_others (s : State) (n : Nat) (f : Site → Site) : (s.onSite n f).others = s.others := rfl
@[simp] theorem State.onSite_phase (s : State) (n : Nat) (f : Site → Site) : (s.onSite n f).phase = s.phase := rfl
@[simp] theorem State.onSite_judged (s : State) (n : Nat) (f : Site → Site) : (s.onSite n f).judged = s.judged := rfl
@[simp] theorem State.onSite_unit (s : State) (n : Nat) (f : Site → Site) : (s.onSite n f).unit = s.unit := rfl
@[simp] theorem State.onSite_events (s : State) (n : Nat) (f : Site → Site) : (s.onSite n f).events = s.events := rfl
@[simp] theorem State.onSite_timers (s : State) (n : Nat) (f : Site → Site) : (s.onSite n f).timers = s.timers := rfl
@[simp] theorem State.onSite_seqDie (s : State) (n : Nat) (f : Site → Site) : (s.onSite n f).seqDie = s.seqDie := rfl
@[simp] theorem State.onSite_seqLid (s : State) (n : Nat) (f : Site → Site) : (s.onSite n f).seqLid = s.seqLid := rfl
@[simp] theorem State.onSite_nextId (s : State) (n : Nat) (f : Site → Site) : (s.onSite n f).nextId = s.nextId := rfl
@[simp] theorem State.onSite_tick (s : State) (n : Nat) (f : Site → Site) : (s.onSite n f).tick = s.tick := rfl
@[simp] theorem State.onSite_dies (s : State) (n : Nat) (f : Site → Site) : (s.onSite n f).dies = s.dies := rfl
@[simp] theorem State.onSite_sites (s : State) (n : Nat) (f : Site → Site) : (s.onSite n f).sites = putSite s.sites (f (s.site n)) := rfl
@[simp] theorem State.onSite_links (s : State) (n : Nat) (f : Site → Site) : (s.onSite n f).links = s.links := rfl
@[simp] theorem State.onSite_mem (s : State) (n : Nat) (f : Site → Site) : (s.onSite n f).mem = s.mem := rfl
@[simp] theorem State.onSite_reqs (s : State) (n : Nat) (f : Site → Site) : (s.onSite n f).reqs = s.reqs := rfl
@[simp] theorem State.onSite_units (s : State) (n : Nat) (f : Site → Site) : (s.onSite n f).units = s.units := rfl
@[simp] theorem State.onSite_regions (s : State) (n : Nat) (f : Site → Site) : (s.onSite n f).regions = s.regions := rfl
@[simp] theorem State.onSite_images (s : State) (n : Nat) (f : Site → Site) : (s.onSite n f).images = s.images := rfl
@[simp] theorem State.onSite_launches (s : State) (n : Nat) (f : Site → Site) : (s.onSite n f).launches = s.launches := rfl
@[simp] theorem State.onSite_saves (s : State) (n : Nat) (f : Site → Site) : (s.onSite n f).saves = s.saves := rfl
@[simp] theorem State.onSite_graphs (s : State) (n : Nat) (f : Site → Site) : (s.onSite n f).graphs = s.graphs := rfl
@[simp] theorem State.onSite_svc (s : State) (n : Nat) (f : Site → Site) : (s.onSite n f).svc = s.svc := rfl
@[simp] theorem State.onSite_conn (s : State) (n : Nat) (f : Site → Site) : (s.onSite n f).conn = s.conn := rfl
@[simp] theorem State.onSite_fuses (s : State) (n : Nat) (f : Site → Site) : (s.onSite n f).fuses = s.fuses := rfl
@[simp] theorem State.onSite_roots (s : State) (n : Nat) (f : Site → Site) : (s.onSite n f).roots = s.roots := rfl

@[simp] theorem State.onLink_core (s : State) (n : Nat) (f : LinkEnd → LinkEnd) : (s.onLink n f).core = s.core := rfl
@[simp] theorem State.onLink_others (s : State) (n : Nat) (f : LinkEnd → LinkEnd) : (s.onLink n f).others = s.others := rfl
@[simp] theorem State.onLink_phase (s : State) (n : Nat) (f : LinkEnd → LinkEnd) : (s.onLink n f).phase = s.phase := rfl
@[simp] theorem State.onLink_judged (s : State) (n : Nat) (f : LinkEnd → LinkEnd) : (s.onLink n f).judged = s.judged := rfl
@[simp] theorem State.onLink_unit (s : State) (n : Nat) (f : LinkEnd → LinkEnd) : (s.onLink n f).unit = s.unit := rfl
@[simp] theorem State.onLink_events (s : State) (n : Nat) (f : LinkEnd → LinkEnd) : (s.onLink n f).events = s.events := rfl
@[simp] theorem State.onLink_timers (s : State) (n : Nat) (f : LinkEnd → LinkEnd) : (s.onLink n f).timers = s.timers := rfl
@[simp] theorem State.onLink_seqDie (s : State) (n : Nat) (f : LinkEnd → LinkEnd) : (s.onLink n f).seqDie = s.seqDie := rfl
@[simp] theorem State.onLink_seqLid (s : State) (n : Nat) (f : LinkEnd → LinkEnd) : (s.onLink n f).seqLid = s.seqLid := rfl
@[simp] theorem State.onLink_nextId (s : State) (n : Nat) (f : LinkEnd → LinkEnd) : (s.onLink n f).nextId = s.nextId := rfl
@[simp] theorem State.onLink_tick (s : State) (n : Nat) (f : LinkEnd → LinkEnd) : (s.onLink n f).tick = s.tick := rfl
@[simp] theorem State.onLink_dies (s : State) (n : Nat) (f : LinkEnd → LinkEnd) : (s.onLink n f).dies = s.dies := rfl
@[simp] theorem State.onLink_sites (s : State) (n : Nat) (f : LinkEnd → LinkEnd) : (s.onLink n f).sites = s.sites := rfl
@[simp] theorem State.onLink_links (s : State) (n : Nat) (f : LinkEnd → LinkEnd) : (s.onLink n f).links = putLink s.links (f (s.link n)) := rfl
@[simp] theorem State.onLink_mem (s : State) (n : Nat) (f : LinkEnd → LinkEnd) : (s.onLink n f).mem = s.mem := rfl
@[simp] theorem State.onLink_reqs (s : State) (n : Nat) (f : LinkEnd → LinkEnd) : (s.onLink n f).reqs = s.reqs := rfl
@[simp] theorem State.onLink_units (s : State) (n : Nat) (f : LinkEnd → LinkEnd) : (s.onLink n f).units = s.units := rfl
@[simp] theorem State.onLink_regions (s : State) (n : Nat) (f : LinkEnd → LinkEnd) : (s.onLink n f).regions = s.regions := rfl
@[simp] theorem State.onLink_images (s : State) (n : Nat) (f : LinkEnd → LinkEnd) : (s.onLink n f).images = s.images := rfl
@[simp] theorem State.onLink_launches (s : State) (n : Nat) (f : LinkEnd → LinkEnd) : (s.onLink n f).launches = s.launches := rfl
@[simp] theorem State.onLink_saves (s : State) (n : Nat) (f : LinkEnd → LinkEnd) : (s.onLink n f).saves = s.saves := rfl
@[simp] theorem State.onLink_graphs (s : State) (n : Nat) (f : LinkEnd → LinkEnd) : (s.onLink n f).graphs = s.graphs := rfl
@[simp] theorem State.onLink_svc (s : State) (n : Nat) (f : LinkEnd → LinkEnd) : (s.onLink n f).svc = s.svc := rfl
@[simp] theorem State.onLink_conn (s : State) (n : Nat) (f : LinkEnd → LinkEnd) : (s.onLink n f).conn = s.conn := rfl
@[simp] theorem State.onLink_fuses (s : State) (n : Nat) (f : LinkEnd → LinkEnd) : (s.onLink n f).fuses = s.fuses := rfl
@[simp] theorem State.onLink_roots (s : State) (n : Nat) (f : LinkEnd → LinkEnd) : (s.onLink n f).roots = s.roots := rfl

@[simp] theorem State.onLaunch_core (s : State) (n : Nat) (f : Launch → Launch) : (s.onLaunch n f).core = s.core := rfl
@[simp] theorem State.onLaunch_others (s : State) (n : Nat) (f : Launch → Launch) : (s.onLaunch n f).others = s.others := rfl
@[simp] theorem State.onLaunch_phase (s : State) (n : Nat) (f : Launch → Launch) : (s.onLaunch n f).phase = s.phase := rfl
@[simp] theorem State.onLaunch_judged (s : State) (n : Nat) (f : Launch → Launch) : (s.onLaunch n f).judged = s.judged := rfl
@[simp] theorem State.onLaunch_unit (s : State) (n : Nat) (f : Launch → Launch) : (s.onLaunch n f).unit = s.unit := rfl
@[simp] theorem State.onLaunch_events (s : State) (n : Nat) (f : Launch → Launch) : (s.onLaunch n f).events = s.events := rfl
@[simp] theorem State.onLaunch_timers (s : State) (n : Nat) (f : Launch → Launch) : (s.onLaunch n f).timers = s.timers := rfl
@[simp] theorem State.onLaunch_seqDie (s : State) (n : Nat) (f : Launch → Launch) : (s.onLaunch n f).seqDie = s.seqDie := rfl
@[simp] theorem State.onLaunch_seqLid (s : State) (n : Nat) (f : Launch → Launch) : (s.onLaunch n f).seqLid = s.seqLid := rfl
@[simp] theorem State.onLaunch_nextId (s : State) (n : Nat) (f : Launch → Launch) : (s.onLaunch n f).nextId = s.nextId := rfl
@[simp] theorem State.onLaunch_tick (s : State) (n : Nat) (f : Launch → Launch) : (s.onLaunch n f).tick = s.tick := rfl
@[simp] theorem State.onLaunch_dies (s : State) (n : Nat) (f : Launch → Launch) : (s.onLaunch n f).dies = s.dies := rfl
@[simp] theorem State.onLaunch_sites (s : State) (n : Nat) (f : Launch → Launch) : (s.onLaunch n f).sites = s.sites := rfl
@[simp] theorem State.onLaunch_links (s : State) (n : Nat) (f : Launch → Launch) : (s.onLaunch n f).links = s.links := rfl
@[simp] theorem State.onLaunch_mem (s : State) (n : Nat) (f : Launch → Launch) : (s.onLaunch n f).mem = s.mem := rfl
@[simp] theorem State.onLaunch_reqs (s : State) (n : Nat) (f : Launch → Launch) : (s.onLaunch n f).reqs = s.reqs := rfl
@[simp] theorem State.onLaunch_units (s : State) (n : Nat) (f : Launch → Launch) : (s.onLaunch n f).units = s.units := rfl
@[simp] theorem State.onLaunch_regions (s : State) (n : Nat) (f : Launch → Launch) : (s.onLaunch n f).regions = s.regions := rfl
@[simp] theorem State.onLaunch_images (s : State) (n : Nat) (f : Launch → Launch) : (s.onLaunch n f).images = s.images := rfl
@[simp] theorem State.onLaunch_launches (s : State) (n : Nat) (f : Launch → Launch) : (s.onLaunch n f).launches = s.launches.map fun l => if l.lid = n then f l else l := rfl
@[simp] theorem State.onLaunch_saves (s : State) (n : Nat) (f : Launch → Launch) : (s.onLaunch n f).saves = s.saves := rfl
@[simp] theorem State.onLaunch_graphs (s : State) (n : Nat) (f : Launch → Launch) : (s.onLaunch n f).graphs = s.graphs := rfl
@[simp] theorem State.onLaunch_svc (s : State) (n : Nat) (f : Launch → Launch) : (s.onLaunch n f).svc = s.svc := rfl
@[simp] theorem State.onLaunch_conn (s : State) (n : Nat) (f : Launch → Launch) : (s.onLaunch n f).conn = s.conn := rfl
@[simp] theorem State.onLaunch_fuses (s : State) (n : Nat) (f : Launch → Launch) : (s.onLaunch n f).fuses = s.fuses := rfl
@[simp] theorem State.onLaunch_roots (s : State) (n : Nat) (f : Launch → Launch) : (s.onLaunch n f).roots = s.roots := rfl

@[simp] theorem State.onReq_core (s : State) (n : Nat) (f : Req → Req) : (s.onReq n f).core = s.core := rfl
@[simp] theorem State.onReq_others (s : State) (n : Nat) (f : Req → Req) : (s.onReq n f).others = s.others := rfl
@[simp] theorem State.onReq_phase (s : State) (n : Nat) (f : Req → Req) : (s.onReq n f).phase = s.phase := rfl
@[simp] theorem State.onReq_judged (s : State) (n : Nat) (f : Req → Req) : (s.onReq n f).judged = s.judged := rfl
@[simp] theorem State.onReq_unit (s : State) (n : Nat) (f : Req → Req) : (s.onReq n f).unit = s.unit := rfl
@[simp] theorem State.onReq_events (s : State) (n : Nat) (f : Req → Req) : (s.onReq n f).events = s.events := rfl
@[simp] theorem State.onReq_timers (s : State) (n : Nat) (f : Req → Req) : (s.onReq n f).timers = s.timers := rfl
@[simp] theorem State.onReq_seqDie (s : State) (n : Nat) (f : Req → Req) : (s.onReq n f).seqDie = s.seqDie := rfl
@[simp] theorem State.onReq_seqLid (s : State) (n : Nat) (f : Req → Req) : (s.onReq n f).seqLid = s.seqLid := rfl
@[simp] theorem State.onReq_nextId (s : State) (n : Nat) (f : Req → Req) : (s.onReq n f).nextId = s.nextId := rfl
@[simp] theorem State.onReq_tick (s : State) (n : Nat) (f : Req → Req) : (s.onReq n f).tick = s.tick := rfl
@[simp] theorem State.onReq_dies (s : State) (n : Nat) (f : Req → Req) : (s.onReq n f).dies = s.dies := rfl
@[simp] theorem State.onReq_sites (s : State) (n : Nat) (f : Req → Req) : (s.onReq n f).sites = s.sites := rfl
@[simp] theorem State.onReq_links (s : State) (n : Nat) (f : Req → Req) : (s.onReq n f).links = s.links := rfl
@[simp] theorem State.onReq_mem (s : State) (n : Nat) (f : Req → Req) : (s.onReq n f).mem = s.mem := rfl
@[simp] theorem State.onReq_reqs (s : State) (n : Nat) (f : Req → Req) : (s.onReq n f).reqs = s.reqs.map fun r => if r.id = n then f r else r := rfl
@[simp] theorem State.onReq_units (s : State) (n : Nat) (f : Req → Req) : (s.onReq n f).units = s.units := rfl
@[simp] theorem State.onReq_regions (s : State) (n : Nat) (f : Req → Req) : (s.onReq n f).regions = s.regions := rfl
@[simp] theorem State.onReq_images (s : State) (n : Nat) (f : Req → Req) : (s.onReq n f).images = s.images := rfl
@[simp] theorem State.onReq_launches (s : State) (n : Nat) (f : Req → Req) : (s.onReq n f).launches = s.launches := rfl
@[simp] theorem State.onReq_saves (s : State) (n : Nat) (f : Req → Req) : (s.onReq n f).saves = s.saves := rfl
@[simp] theorem State.onReq_graphs (s : State) (n : Nat) (f : Req → Req) : (s.onReq n f).graphs = s.graphs := rfl
@[simp] theorem State.onReq_svc (s : State) (n : Nat) (f : Req → Req) : (s.onReq n f).svc = s.svc := rfl
@[simp] theorem State.onReq_conn (s : State) (n : Nat) (f : Req → Req) : (s.onReq n f).conn = s.conn := rfl
@[simp] theorem State.onReq_fuses (s : State) (n : Nat) (f : Req → Req) : (s.onReq n f).fuses = s.fuses := rfl
@[simp] theorem State.onReq_roots (s : State) (n : Nat) (f : Req → Req) : (s.onReq n f).roots = s.roots := rfl

@[simp] theorem State.dropReq_core (s : State) (n : Nat) : (s.dropReq n).core = s.core := rfl
@[simp] theorem State.dropReq_others (s : State) (n : Nat) : (s.dropReq n).others = s.others := rfl
@[simp] theorem State.dropReq_phase (s : State) (n : Nat) : (s.dropReq n).phase = s.phase := rfl
@[simp] theorem State.dropReq_judged (s : State) (n : Nat) : (s.dropReq n).judged = s.judged := rfl
@[simp] theorem State.dropReq_unit (s : State) (n : Nat) : (s.dropReq n).unit = s.unit := rfl
@[simp] theorem State.dropReq_events (s : State) (n : Nat) : (s.dropReq n).events = s.events := rfl
@[simp] theorem State.dropReq_timers (s : State) (n : Nat) : (s.dropReq n).timers = s.timers := rfl
@[simp] theorem State.dropReq_seqDie (s : State) (n : Nat) : (s.dropReq n).seqDie = s.seqDie := rfl
@[simp] theorem State.dropReq_seqLid (s : State) (n : Nat) : (s.dropReq n).seqLid = s.seqLid := rfl
@[simp] theorem State.dropReq_nextId (s : State) (n : Nat) : (s.dropReq n).nextId = s.nextId := rfl
@[simp] theorem State.dropReq_tick (s : State) (n : Nat) : (s.dropReq n).tick = s.tick := rfl
@[simp] theorem State.dropReq_dies (s : State) (n : Nat) : (s.dropReq n).dies = s.dies := rfl
@[simp] theorem State.dropReq_sites (s : State) (n : Nat) : (s.dropReq n).sites = s.sites := rfl
@[simp] theorem State.dropReq_links (s : State) (n : Nat) : (s.dropReq n).links = s.links := rfl
@[simp] theorem State.dropReq_mem (s : State) (n : Nat) : (s.dropReq n).mem = s.mem := rfl
@[simp] theorem State.dropReq_reqs (s : State) (n : Nat) : (s.dropReq n).reqs = s.reqs.filter (·.id ≠ n) := rfl
@[simp] theorem State.dropReq_units (s : State) (n : Nat) : (s.dropReq n).units = s.units := rfl
@[simp] theorem State.dropReq_regions (s : State) (n : Nat) : (s.dropReq n).regions = s.regions := rfl
@[simp] theorem State.dropReq_images (s : State) (n : Nat) : (s.dropReq n).images = s.images := rfl
@[simp] theorem State.dropReq_launches (s : State) (n : Nat) : (s.dropReq n).launches = s.launches := rfl
@[simp] theorem State.dropReq_saves (s : State) (n : Nat) : (s.dropReq n).saves = s.saves := rfl
@[simp] theorem State.dropReq_graphs (s : State) (n : Nat) : (s.dropReq n).graphs = s.graphs := rfl
@[simp] theorem State.dropReq_svc (s : State) (n : Nat) : (s.dropReq n).svc = s.svc := rfl
@[simp] theorem State.dropReq_conn (s : State) (n : Nat) : (s.dropReq n).conn = s.conn := rfl
@[simp] theorem State.dropReq_fuses (s : State) (n : Nat) : (s.dropReq n).fuses = s.fuses := rfl
@[simp] theorem State.dropReq_roots (s : State) (n : Nat) : (s.dropReq n).roots = s.roots := rfl

@[simp] theorem State.devWrite_core (s : State) (m : Nat) (ws : List (Nat × Byte)) : (s.devWrite m ws).core = s.core := rfl
@[simp] theorem State.devWrite_others (s : State) (m : Nat) (ws : List (Nat × Byte)) : (s.devWrite m ws).others = s.others := rfl
@[simp] theorem State.devWrite_phase (s : State) (m : Nat) (ws : List (Nat × Byte)) : (s.devWrite m ws).phase = s.phase := rfl
@[simp] theorem State.devWrite_judged (s : State) (m : Nat) (ws : List (Nat × Byte)) : (s.devWrite m ws).judged = s.judged := rfl
@[simp] theorem State.devWrite_unit (s : State) (m : Nat) (ws : List (Nat × Byte)) : (s.devWrite m ws).unit = s.unit := rfl
@[simp] theorem State.devWrite_events (s : State) (m : Nat) (ws : List (Nat × Byte)) : (s.devWrite m ws).events = s.events := rfl
@[simp] theorem State.devWrite_timers (s : State) (m : Nat) (ws : List (Nat × Byte)) : (s.devWrite m ws).timers = s.timers := rfl
@[simp] theorem State.devWrite_seqDie (s : State) (m : Nat) (ws : List (Nat × Byte)) : (s.devWrite m ws).seqDie = s.seqDie := rfl
@[simp] theorem State.devWrite_seqLid (s : State) (m : Nat) (ws : List (Nat × Byte)) : (s.devWrite m ws).seqLid = s.seqLid := rfl
@[simp] theorem State.devWrite_nextId (s : State) (m : Nat) (ws : List (Nat × Byte)) : (s.devWrite m ws).nextId = s.nextId := rfl
@[simp] theorem State.devWrite_tick (s : State) (m : Nat) (ws : List (Nat × Byte)) : (s.devWrite m ws).tick = s.tick := rfl
@[simp] theorem State.devWrite_dies (s : State) (m : Nat) (ws : List (Nat × Byte)) : (s.devWrite m ws).dies = s.dies := rfl
@[simp] theorem State.devWrite_sites (s : State) (m : Nat) (ws : List (Nat × Byte)) : (s.devWrite m ws).sites = s.sites := rfl
@[simp] theorem State.devWrite_links (s : State) (m : Nat) (ws : List (Nat × Byte)) : (s.devWrite m ws).links = s.links := rfl
@[simp] theorem State.devWrite_mem (s : State) (m : Nat) (ws : List (Nat × Byte)) : (s.devWrite m ws).mem = s.mem.writes emptyByte (ws.map fun w => (devKey m w.1, w.2)) := rfl
@[simp] theorem State.devWrite_reqs (s : State) (m : Nat) (ws : List (Nat × Byte)) : (s.devWrite m ws).reqs = s.reqs := rfl
@[simp] theorem State.devWrite_units (s : State) (m : Nat) (ws : List (Nat × Byte)) : (s.devWrite m ws).units = s.units := rfl
@[simp] theorem State.devWrite_regions (s : State) (m : Nat) (ws : List (Nat × Byte)) : (s.devWrite m ws).regions = s.regions := rfl
@[simp] theorem State.devWrite_images (s : State) (m : Nat) (ws : List (Nat × Byte)) : (s.devWrite m ws).images = s.images := rfl
@[simp] theorem State.devWrite_launches (s : State) (m : Nat) (ws : List (Nat × Byte)) : (s.devWrite m ws).launches = s.launches := rfl
@[simp] theorem State.devWrite_saves (s : State) (m : Nat) (ws : List (Nat × Byte)) : (s.devWrite m ws).saves = s.saves := rfl
@[simp] theorem State.devWrite_graphs (s : State) (m : Nat) (ws : List (Nat × Byte)) : (s.devWrite m ws).graphs = s.graphs := rfl
@[simp] theorem State.devWrite_svc (s : State) (m : Nat) (ws : List (Nat × Byte)) : (s.devWrite m ws).svc = s.svc := rfl
@[simp] theorem State.devWrite_conn (s : State) (m : Nat) (ws : List (Nat × Byte)) : (s.devWrite m ws).conn = s.conn := rfl
@[simp] theorem State.devWrite_fuses (s : State) (m : Nat) (ws : List (Nat × Byte)) : (s.devWrite m ws).fuses = s.fuses := rfl
@[simp] theorem State.devWrite_roots (s : State) (m : Nat) (ws : List (Nat × Byte)) : (s.devWrite m ws).roots = s.roots := rfl

@[simp] theorem State.retire_core (s : State)  : (s.retire).core = { s.core with ctx := s.core.ctx.advance s.core.ctx.sq.pc.toNat } := rfl
@[simp] theorem State.retire_others (s : State)  : (s.retire).others = s.others := rfl
@[simp] theorem State.retire_phase (s : State)  : (s.retire).phase = .engines := rfl
@[simp] theorem State.retire_judged (s : State)  : (s.retire).judged = s.judged := rfl
@[simp] theorem State.retire_unit (s : State)  : (s.retire).unit = s.unit := rfl
@[simp] theorem State.retire_events (s : State)  : (s.retire).events = s.events := rfl
@[simp] theorem State.retire_timers (s : State)  : (s.retire).timers = s.timers := rfl
@[simp] theorem State.retire_seqDie (s : State)  : (s.retire).seqDie = s.seqDie := rfl
@[simp] theorem State.retire_seqLid (s : State)  : (s.retire).seqLid = s.seqLid := rfl
@[simp] theorem State.retire_nextId (s : State)  : (s.retire).nextId = s.nextId := rfl
@[simp] theorem State.retire_tick (s : State)  : (s.retire).tick = s.tick := rfl
@[simp] theorem State.retire_dies (s : State)  : (s.retire).dies = s.dies := rfl
@[simp] theorem State.retire_sites (s : State)  : (s.retire).sites = s.sites := rfl
@[simp] theorem State.retire_links (s : State)  : (s.retire).links = s.links := rfl
@[simp] theorem State.retire_mem (s : State)  : (s.retire).mem = s.mem := rfl
@[simp] theorem State.retire_reqs (s : State)  : (s.retire).reqs = s.reqs := rfl
@[simp] theorem State.retire_units (s : State)  : (s.retire).units = s.units := rfl
@[simp] theorem State.retire_regions (s : State)  : (s.retire).regions = s.regions := rfl
@[simp] theorem State.retire_images (s : State)  : (s.retire).images = s.images := rfl
@[simp] theorem State.retire_launches (s : State)  : (s.retire).launches = s.launches := rfl
@[simp] theorem State.retire_saves (s : State)  : (s.retire).saves = s.saves := rfl
@[simp] theorem State.retire_graphs (s : State)  : (s.retire).graphs = s.graphs := rfl
@[simp] theorem State.retire_svc (s : State)  : (s.retire).svc = s.svc := rfl
@[simp] theorem State.retire_conn (s : State)  : (s.retire).conn = s.conn := rfl
@[simp] theorem State.retire_fuses (s : State)  : (s.retire).fuses = s.fuses := rfl
@[simp] theorem State.retire_roots (s : State)  : (s.retire).roots = s.roots := rfl

@[simp] theorem State.retireWide_core (s : State)  : (s.retireWide).core = { s.core with ctx := s.core.ctx.advance (s.core.ctx.sq.pc.toNat + 1) } := rfl
@[simp] theorem State.retireWide_others (s : State)  : (s.retireWide).others = s.others := rfl
@[simp] theorem State.retireWide_phase (s : State)  : (s.retireWide).phase = .engines := rfl
@[simp] theorem State.retireWide_judged (s : State)  : (s.retireWide).judged = s.judged := rfl
@[simp] theorem State.retireWide_unit (s : State)  : (s.retireWide).unit = s.unit := rfl
@[simp] theorem State.retireWide_events (s : State)  : (s.retireWide).events = s.events := rfl
@[simp] theorem State.retireWide_timers (s : State)  : (s.retireWide).timers = s.timers := rfl
@[simp] theorem State.retireWide_seqDie (s : State)  : (s.retireWide).seqDie = s.seqDie := rfl
@[simp] theorem State.retireWide_seqLid (s : State)  : (s.retireWide).seqLid = s.seqLid := rfl
@[simp] theorem State.retireWide_nextId (s : State)  : (s.retireWide).nextId = s.nextId := rfl
@[simp] theorem State.retireWide_tick (s : State)  : (s.retireWide).tick = s.tick := rfl
@[simp] theorem State.retireWide_dies (s : State)  : (s.retireWide).dies = s.dies := rfl
@[simp] theorem State.retireWide_sites (s : State)  : (s.retireWide).sites = s.sites := rfl
@[simp] theorem State.retireWide_links (s : State)  : (s.retireWide).links = s.links := rfl
@[simp] theorem State.retireWide_mem (s : State)  : (s.retireWide).mem = s.mem := rfl
@[simp] theorem State.retireWide_reqs (s : State)  : (s.retireWide).reqs = s.reqs := rfl
@[simp] theorem State.retireWide_units (s : State)  : (s.retireWide).units = s.units := rfl
@[simp] theorem State.retireWide_regions (s : State)  : (s.retireWide).regions = s.regions := rfl
@[simp] theorem State.retireWide_images (s : State)  : (s.retireWide).images = s.images := rfl
@[simp] theorem State.retireWide_launches (s : State)  : (s.retireWide).launches = s.launches := rfl
@[simp] theorem State.retireWide_saves (s : State)  : (s.retireWide).saves = s.saves := rfl
@[simp] theorem State.retireWide_graphs (s : State)  : (s.retireWide).graphs = s.graphs := rfl
@[simp] theorem State.retireWide_svc (s : State)  : (s.retireWide).svc = s.svc := rfl
@[simp] theorem State.retireWide_conn (s : State)  : (s.retireWide).conn = s.conn := rfl
@[simp] theorem State.retireWide_fuses (s : State)  : (s.retireWide).fuses = s.fuses := rfl
@[simp] theorem State.retireWide_roots (s : State)  : (s.retireWide).roots = s.roots := rfl

@[simp] theorem State.retireTo_core (s : State) (n : Nat) : (s.retireTo n).core = { s.core with ctx := { s.core.ctx with sq := s.core.ctx.sq.goto n } } := rfl
@[simp] theorem State.retireTo_others (s : State) (n : Nat) : (s.retireTo n).others = s.others := rfl
@[simp] theorem State.retireTo_phase (s : State) (n : Nat) : (s.retireTo n).phase = .engines := rfl
@[simp] theorem State.retireTo_judged (s : State) (n : Nat) : (s.retireTo n).judged = s.judged := rfl
@[simp] theorem State.retireTo_unit (s : State) (n : Nat) : (s.retireTo n).unit = s.unit := rfl
@[simp] theorem State.retireTo_events (s : State) (n : Nat) : (s.retireTo n).events = s.events := rfl
@[simp] theorem State.retireTo_timers (s : State) (n : Nat) : (s.retireTo n).timers = s.timers := rfl
@[simp] theorem State.retireTo_seqDie (s : State) (n : Nat) : (s.retireTo n).seqDie = s.seqDie := rfl
@[simp] theorem State.retireTo_seqLid (s : State) (n : Nat) : (s.retireTo n).seqLid = s.seqLid := rfl
@[simp] theorem State.retireTo_nextId (s : State) (n : Nat) : (s.retireTo n).nextId = s.nextId := rfl
@[simp] theorem State.retireTo_tick (s : State) (n : Nat) : (s.retireTo n).tick = s.tick := rfl
@[simp] theorem State.retireTo_dies (s : State) (n : Nat) : (s.retireTo n).dies = s.dies := rfl
@[simp] theorem State.retireTo_sites (s : State) (n : Nat) : (s.retireTo n).sites = s.sites := rfl
@[simp] theorem State.retireTo_links (s : State) (n : Nat) : (s.retireTo n).links = s.links := rfl
@[simp] theorem State.retireTo_mem (s : State) (n : Nat) : (s.retireTo n).mem = s.mem := rfl
@[simp] theorem State.retireTo_reqs (s : State) (n : Nat) : (s.retireTo n).reqs = s.reqs := rfl
@[simp] theorem State.retireTo_units (s : State) (n : Nat) : (s.retireTo n).units = s.units := rfl
@[simp] theorem State.retireTo_regions (s : State) (n : Nat) : (s.retireTo n).regions = s.regions := rfl
@[simp] theorem State.retireTo_images (s : State) (n : Nat) : (s.retireTo n).images = s.images := rfl
@[simp] theorem State.retireTo_launches (s : State) (n : Nat) : (s.retireTo n).launches = s.launches := rfl
@[simp] theorem State.retireTo_saves (s : State) (n : Nat) : (s.retireTo n).saves = s.saves := rfl
@[simp] theorem State.retireTo_graphs (s : State) (n : Nat) : (s.retireTo n).graphs = s.graphs := rfl
@[simp] theorem State.retireTo_svc (s : State) (n : Nat) : (s.retireTo n).svc = s.svc := rfl
@[simp] theorem State.retireTo_conn (s : State) (n : Nat) : (s.retireTo n).conn = s.conn := rfl
@[simp] theorem State.retireTo_fuses (s : State) (n : Nat) : (s.retireTo n).fuses = s.fuses := rfl
@[simp] theorem State.retireTo_roots (s : State) (n : Nat) : (s.retireTo n).roots = s.roots := rfl

@[simp] theorem State.holdOn_core (s : State) (w : Wait) : (s.holdOn w).core = { s.core with ctx := { s.core.ctx with sq := { s.core.ctx.sq with wait := some w } } } := rfl
@[simp] theorem State.holdOn_others (s : State) (w : Wait) : (s.holdOn w).others = s.others := rfl
@[simp] theorem State.holdOn_phase (s : State) (w : Wait) : (s.holdOn w).phase = .engines := rfl
@[simp] theorem State.holdOn_judged (s : State) (w : Wait) : (s.holdOn w).judged = s.judged := rfl
@[simp] theorem State.holdOn_unit (s : State) (w : Wait) : (s.holdOn w).unit = s.unit := rfl
@[simp] theorem State.holdOn_events (s : State) (w : Wait) : (s.holdOn w).events = s.events := rfl
@[simp] theorem State.holdOn_timers (s : State) (w : Wait) : (s.holdOn w).timers = s.timers := rfl
@[simp] theorem State.holdOn_seqDie (s : State) (w : Wait) : (s.holdOn w).seqDie = s.seqDie := rfl
@[simp] theorem State.holdOn_seqLid (s : State) (w : Wait) : (s.holdOn w).seqLid = s.seqLid := rfl
@[simp] theorem State.holdOn_nextId (s : State) (w : Wait) : (s.holdOn w).nextId = s.nextId := rfl
@[simp] theorem State.holdOn_tick (s : State) (w : Wait) : (s.holdOn w).tick = s.tick := rfl
@[simp] theorem State.holdOn_dies (s : State) (w : Wait) : (s.holdOn w).dies = s.dies := rfl
@[simp] theorem State.holdOn_sites (s : State) (w : Wait) : (s.holdOn w).sites = s.sites := rfl
@[simp] theorem State.holdOn_links (s : State) (w : Wait) : (s.holdOn w).links = s.links := rfl
@[simp] theorem State.holdOn_mem (s : State) (w : Wait) : (s.holdOn w).mem = s.mem := rfl
@[simp] theorem State.holdOn_reqs (s : State) (w : Wait) : (s.holdOn w).reqs = s.reqs := rfl
@[simp] theorem State.holdOn_units (s : State) (w : Wait) : (s.holdOn w).units = s.units := rfl
@[simp] theorem State.holdOn_regions (s : State) (w : Wait) : (s.holdOn w).regions = s.regions := rfl
@[simp] theorem State.holdOn_images (s : State) (w : Wait) : (s.holdOn w).images = s.images := rfl
@[simp] theorem State.holdOn_launches (s : State) (w : Wait) : (s.holdOn w).launches = s.launches := rfl
@[simp] theorem State.holdOn_saves (s : State) (w : Wait) : (s.holdOn w).saves = s.saves := rfl
@[simp] theorem State.holdOn_graphs (s : State) (w : Wait) : (s.holdOn w).graphs = s.graphs := rfl
@[simp] theorem State.holdOn_svc (s : State) (w : Wait) : (s.holdOn w).svc = s.svc := rfl
@[simp] theorem State.holdOn_conn (s : State) (w : Wait) : (s.holdOn w).conn = s.conn := rfl
@[simp] theorem State.holdOn_fuses (s : State) (w : Wait) : (s.holdOn w).fuses = s.fuses := rfl
@[simp] theorem State.holdOn_roots (s : State) (w : Wait) : (s.holdOn w).roots = s.roots := rfl

end Sys2Proof.Machine
end

