-- ==== Sys2Proof/Laws/Ops.lean ====
section
/-! SUPPORT. What the shared operations can do: one lemma for each answer an operation gives, and its frame. Provers cite these
instead of unfolding the operations. -/

namespace Sys2Proof.Machine

/-! Vectors read and written at a number -/

theorem vat_vput_same (v : Vector α n) (d x : α) {i : Nat} (h : i < n) : vat (vput v i x) d i = x := by
  simp [vat, vput, Vector.setIfInBounds, Array.getD, h]

theorem vat_vput_other (v : Vector α n) (d x : α) {i j : Nat} (h : j ≠ i) : vat (vput v i x) d j = vat v d j := by
  unfold vat vput Vector.setIfInBounds Array.getD
  simp only [Array.size_setIfInBounds]
  split
  · exact Array.getElem_setIfInBounds_ne (by assumption) (Ne.symm h)
  · rfl

theorem vat_vmod_same (v : Vector α n) (d : α) (f : α → α) {i : Nat} (h : i < n) : vat (vmod v d i f) d i = f (vat v d i) :=
  vat_vput_same v d _ h

theorem vat_vmod_other (v : Vector α n) (d : α) (f : α → α) {i j : Nat} (h : j ≠ i) : vat (vmod v d i f) d j = vat v d j :=
  vat_vput_other v d _ h

/-! Cores, dies, sites and links by number -/

theorem find_putCore_same (l : List Core) (c : Core) : (putCore l c).find? (·.cid = c.cid) = some c := by
  induction l with
  | nil => simp [putCore]
  | cons x r ih =>
    unfold putCore
    split
    · simp
    · split
      · simp
      · rename_i h _
        simp [h, ih]

theorem find_putCore_other (l : List Core) (c : Core) {k : Nat} (h : c.cid ≠ k) :
    (putCore l c).find? (·.cid = k) = l.find? (·.cid = k) := by
  induction l with
  | nil => simp [putCore, h]
  | cons x r ih =>
    unfold putCore
    split
    · rename_i hx
      simp [h, hx]
    · split
      · simp [h]
      · by_cases hk : x.cid = k <;> simp [hk, ih]

/-- A change that keeps the core's number is what the core then is. -/
theorem State.coreOf_onCore_same (s : State) (cid : Nat) (f : Core → Core) (h : (f (s.coreOf cid)).cid = cid) :
    (s.onCore cid f).coreOf cid = f (s.coreOf cid) := by
  by_cases hc : s.core.cid = cid
  · simp only [State.coreOf, hc] at h ⊢
    simp only [State.onCore, hc, if_true] at h ⊢
    simp [h]
  · have := find_putCore_same s.others (f (s.coreOf cid))
    rw [h] at this
    simp only [State.onCore, hc, if_false]
    rw [State.coreOf]
    simp [hc, this]

/-- A change of one core leaves the others. -/
theorem State.coreOf_onCore_other (s : State) {cid k : Nat} (f : Core → Core) (h : (f (s.coreOf cid)).cid = cid) (hk : k ≠ cid) :
    (s.onCore cid f).coreOf k = s.coreOf k := by
  by_cases hc : s.core.cid = cid
  · have hf : s.coreOf cid = s.core := by simp [State.coreOf, hc]
    rw [hf] at h
    have h1 : (f s.core).cid ≠ k := by rw [h]; exact Ne.symm hk
    have h2 : s.core.cid ≠ k := by rw [hc]; exact Ne.symm hk
    simp [State.onCore, State.coreOf, hc, h1, Ne.symm hk]
  · have hn : (f (s.coreOf cid)).cid ≠ k := by rw [h]; exact Ne.symm hk
    simp only [State.onCore, hc, if_false, State.coreOf] at hn ⊢
    rw [find_putCore_other _ _ hn]

theorem find_putDie_same (l : List Die) (c : Die) : (putDie l c).find? (·.num = c.num) = some c := by
  induction l with
  | nil => simp [putDie]
  | cons x r ih =>
    unfold putDie
    split
    · simp
    · split
      · simp
      · rename_i h _
        simp [h, ih]

theorem find_putDie_other (l : List Die) (c : Die) {k : Nat} (h : c.num ≠ k) :
    (putDie l c).find? (·.num = k) = l.find? (·.num = k) := by
  induction l with
  | nil => simp [putDie, h]
  | cons x r ih =>
    unfold putDie
    split
    · rename_i hx
      simp [h, hx]
    · split
      · simp [h]
      · by_cases hk : x.num = k <;> simp [hk, ih]

theorem State.die_onDie_same (s : State) (d : Nat) (f : Die → Die) (h : (f (s.die d)).num = d) : (s.onDie d f).die d = f (s.die d) := by
  have := find_putDie_same s.dies (f (s.die d))
  rw [h] at this
  rw [State.die, State.onDie_dies, this]; rfl

theorem State.die_onDie_other (s : State) {d k : Nat} (f : Die → Die) (h : (f (s.die d)).num = d) (hk : k ≠ d) :
    (s.onDie d f).die k = s.die k := by
  rw [State.die, State.onDie_dies, find_putDie_other _ _ (by rw [h]; exact Ne.symm hk)]; rfl

theorem find_putSite_same (l : List Site) (c : Site) : (putSite l c).find? (·.num = c.num) = some c := by
  induction l with
  | nil => simp [putSite]
  | cons x r ih =>
    unfold putSite
    split
    · simp
    · split
      · simp
      · rename_i h _
        simp [h, ih]

theorem find_putSite_other (l : List Site) (c : Site) {k : Nat} (h : c.num ≠ k) :
    (putSite l c).find? (·.num = k) = l.find? (·.num = k) := by
  induction l with
  | nil => simp [putSite, h]
  | cons x r ih =>
    unfold putSite
    split
    · rename_i hx
      simp [h, hx]
    · split
      · simp [h]
      · by_cases hk : x.num = k <;> simp [hk, ih]

theorem State.site_onSite_same (s : State) (d : Nat) (f : Site → Site) (h : (f (s.site d)).num = d) :
    (s.onSite d f).site d = f (s.site d) := by
  have := find_putSite_same s.sites (f (s.site d))
  rw [h] at this
  rw [State.site, State.onSite_sites, this]; rfl

theorem State.site_onSite_other (s : State) {d k : Nat} (f : Site → Site) (h : (f (s.site d)).num = d) (hk : k ≠ d) :
    (s.onSite d f).site k = s.site k := by
  rw [State.site, State.onSite_sites, find_putSite_other _ _ (by rw [h]; exact Ne.symm hk)]; rfl

theorem find_putLink_same (l : List LinkEnd) (c : LinkEnd) : (putLink l c).find? (·.num = c.num) = some c := by
  induction l with
  | nil => simp [putLink]
  | cons x r ih =>
    unfold putLink
    split
    · simp
    · split
      · simp
      · rename_i h _
        simp [h, ih]

theorem State.link_onLink_same (s : State) (d : Nat) (f : LinkEnd → LinkEnd) (h : (f (s.link d)).num = d) :
    (s.onLink d f).link d = f (s.link d) := by
  have := find_putLink_same s.links (f (s.link d))
  rw [h] at this
  rw [State.link, State.onLink_links, this]; rfl

/-! How a word ends its issue -/

/-- The end of a word moves the loop levels and SQ, and nothing else of its context. -/
theorem Ctx.advance_eq (c : Ctx) (k : Nat) : c.advance k = { c with loops := (c.advance k).loops, sq := (c.advance k).sq } := by
  unfold Ctx.advance
  split
  · rfl
  · dsimp only
    split <;> rfl

theorem Ctx.advance_regs (c : Ctx) (k : Nat) : (c.advance k).regs = c.regs := by rw [Ctx.advance_eq]
theorem Ctx.advance_trap (c : Ctx) (k : Nat) : (c.advance k).trap = c.trap := by rw [Ctx.advance_eq]
theorem Ctx.advance_pend (c : Ctx) (k : Nat) : (c.advance k).pend = c.pend := by rw [Ctx.advance_eq]
theorem Ctx.advance_queues (c : Ctx) (k : Nat) : (c.advance k).queues = c.queues := by rw [Ctx.advance_eq]
theorem Ctx.advance_misc (c : Ctx) (k : Nat) : (c.advance k).misc = c.misc := by rw [Ctx.advance_eq]

/-- With no level ending here and no branch pending the next index is selected. -/
theorem Ctx.advance_plain (c : Ctx) (k : Nat) (h : c.sq.target = none) (he : endingLevels c.loops k = []) :
    c.advance k = { c with sq := c.sq.goto (k + 1) } := by
  simp [Ctx.advance, h, he, loopEnd]

/-- A pending branch goes to its target. -/
theorem Ctx.advance_branch (c : Ctx) (k : Nat) (t : BitVec 13) (h : c.sq.target = some t) :
    c.advance k = { c with sq := c.sq.goto t.toNat } := by
  simp [Ctx.advance, h]

/-- The end-of-body check changes counts and active bits, and no body's bounds. -/
theorem loopEnd_bounds (held : List (Nat × BitVec 32)) (l : Loops) (levels : List Nat) :
    (loopEnd held l levels).1.lb = l.lb ∧ (loopEnd held l levels).1.le = l.le := by
  induction levels generalizing l with
  | nil => simp [loopEnd]
  | cons i r ih =>
    unfold loopEnd
    dsimp only
    split
    · simp
    · exact ih _

/-! Guards, positions, holds -/

theorem State.guarded_true {s : State} {g : BitVec 4} (h : s.guard g = true) (f : Unit → Out) : s.guarded g f = f () := by
  simp [State.guarded, h]

theorem State.guarded_false {s : State} {g : BitVec 4} (h : s.guard g = false) (f : Unit → Out) : s.guarded g f = .next s.retire := by
  simp [State.guarded, h]

theorem State.control_placed {s : State} (h : s.misplaced s.core.ctx.sq.pc.toNat = false) (f : Unit → Out) : s.control f = f () := by
  simp [State.control, h]

theorem State.control_misplaced {s : State} (h : s.misplaced s.core.ctx.sq.pc.toNat = true) (f : Unit → Out) :
    s.control f = s.illegal := by
  simp [State.control, h]

theorem State.wide_second {s : State} (h : s.core.ctx.sq.second = true) (f : Unit → Out) : s.wide f = f () := by
  simp [State.wide, h]

theorem State.wide_first {s : State} (h : s.core.ctx.sq.second = false) (hd : s.core.ctx.sq.delay = false)
    (hp : s.core.ctx.sq.pc ≠ 8191) (hl : endsLoop s.core.ctx.loops s.core.ctx.sq.pc.toNat = false) (f : Unit → Out) :
    s.wide f = .next { s.sq (fun q => { q with second := true }) with phase := .engines } := by
  have hp' : (s.core.ctx.sq.pc == 8191) = false := beq_eq_false_iff_ne.mpr hp
  unfold State.wide
  dsimp only
  rw [h, hd, hp', hl]
  rfl

/-- A first cycle where none may stand traps. -/
theorem State.wide_misplaced {s : State} (h : s.core.ctx.sq.second = false)
    (hm : s.core.ctx.sq.delay = true ∨ s.core.ctx.sq.pc = 8191 ∨ endsLoop s.core.ctx.loops s.core.ctx.sq.pc.toNat = true)
    (f : Unit → Out) : s.wide f = s.illegal := by
  rcases hm with hm | hm | hm <;> simp [State.wide, h, hm]

theorem State.waiting_idle {s : State} {k : WaitKind} (h : s.core.ctx.sq.wait = none) : s.waiting k = none := by
  simp [State.waiting, h]

theorem State.waiting_same {s : State} {w : Wait} {k : WaitKind} (h : s.core.ctx.sq.wait = some w) (hk : w.kind = k) :
    s.waiting k = some w := by
  simp [State.waiting, h, hk]

theorem State.waiting_other {s : State} {w : Wait} {k : WaitKind} (h : s.core.ctx.sq.wait = some w) (hk : w.kind ≠ k) :
    s.waiting k = none := by
  simp [State.waiting, h, hk]

theorem State.waiting_cases (s : State) (k : WaitKind) :
    s.waiting k = none ∨ ∃ w, s.core.ctx.sq.wait = some w ∧ w.kind = k ∧ s.waiting k = some w := by
  unfold State.waiting
  cases h : s.core.ctx.sq.wait with
  | none => exact .inl rfl
  | some w => by_cases hk : w.kind = k <;> simp [hk]

theorem State.barChecked_ok {s : State} {n : Nat} (h : n < partBars s.core.ctx.misc.part)
    (he : domEN (vat s.core.ctx.domain 0 n) = true) (f : Unit → Out) : s.barChecked n f = f () := by
  rw [State.barChecked, if_neg (Nat.not_le.mpr h), he]
  rfl

theorem State.barChecked_outside {s : State} {n : Nat} (h : partBars s.core.ctx.misc.part ≤ n) (f : Unit → Out) :
    s.barChecked n f = s.wordFault causePoolBound (BitVec.ofNat 64 n) := by
  simp [State.barChecked, h]

theorem State.barChecked_disabled {s : State} {n : Nat} (h : n < partBars s.core.ctx.misc.part)
    (he : domEN (vat s.core.ctx.domain 0 n) = false) (f : Unit → Out) :
    s.barChecked n f = s.wordFault causeFieldRange (BitVec.ofNat 64 n) := by
  rw [State.barChecked, if_neg (Nat.not_le.mpr h), he]
  rfl

/-! Heads -/

theorem State.judge_none {s : State} {u : Unit7} (h : s.core.ctx.head u = none) (op : Nat) (slots : Entry → Bool)
    (start : Entry → State) : s.judge u op slots start = .next s := by
  simp [State.judge, h]

theorem State.judge_other {s : State} {u : Unit7} {e : Entry} {op : Nat} (h : s.core.ctx.head u = some e) (ho : e.op8 ≠ op)
    (slots : Entry → Bool) (start : Entry → State) : s.judge u op slots start = .next s := by
  simp [State.judge, h, ho]

theorem State.judge_start {s : State} {u : Unit7} {e : Entry} {op : Nat} {slots : Entry → Bool} (h : s.core.ctx.head u = some e)
    (ho : e.op8 = op) (hv : s.core.ctx.verdict (slots e) e = .start) (start : Entry → State) :
    s.judge u op slots start = .next (start e) := by
  simp [State.judge, h, ho, hv]

theorem State.judge_wait {s : State} {u : Unit7} {e : Entry} {op : Nat} {slots : Entry → Bool} (h : s.core.ctx.head u = some e)
    (ho : e.op8 = op) (hv : s.core.ctx.verdict (slots e) e = .wait) (start : Entry → State) :
    s.judge u op slots start = .next s := by
  simp [State.judge, h, ho, hv]

theorem State.judge_timing {s : State} {u : Unit7} {e : Entry} {op : Nat} {slots : Entry → Bool} (h : s.core.ctx.head u = some e)
    (ho : e.op8 = op) (hv : s.core.ctx.verdict (slots e) e = .timing) (start : Entry → State) :
    s.judge u op slots start = .next (s.ctx (·.faultHead e causeTiming 0)) := by
  simp [State.judge, h, ho, hv]

/-! Faults of a word -/

/-- A trap leaves the machine ready to issue the next word. -/
theorem State.takeTrap_phase (s : State) (tc tv : Word) (pc : BitVec 13) (target : Option (BitVec 13)) (wait : Option Wait) :
    (s.takeTrap tc tv pc target wait).phase = .issue ∧ (s.takeTrap tc tv pc target wait).judged = [] := ⟨rfl, rfl⟩

/-- A fault of a word is never a fault of the machine: it takes the trap, and goes on. -/
theorem State.wordFault_next (s : State) (cause : BitVec 8) (tv : Word) : ∃ t, s.wordFault cause tv = .next t ∧ t.phase = .issue :=
  ⟨_, rfl, rfl⟩

end Sys2Proof.Machine
end

