-- ==== Sys2Proof/Tests/Slice0.lean ====
section
/-! SUPPORT. Tests: what WellFormed refuses, the decoder on words written out from the spec's encodings, one step on small states,
and for each statement with hypotheses states and operands that meet them (each clause; boundary values where there is a range).
Expected values are the spec's worked cases or computed by hand from its rules, as each comment says. -/

namespace Sys2Proof.Tests

open Sys2Proof Sys2Proof.Machine

set_option maxRecDepth 20000

/-! WellFormed refuses an ill-formed term of each check (R43, R48, R49, R54, R80, R84, R105 and the entries) -/

theorem test_wf_scalar :
    (Instr.mulh 1 2 3 0 3).wf = false ∧ (Instr.cmp 0 2 3 0 0 0).wf = false ∧ (Instr.cmp 1 2 3 0 0 6).wf = false ∧
    (Instr.plog 0 2 3 0 0).wf = false ∧ (Instr.plog 1 2 3 0 7).wf = false ∧ (Instr.shli 1 2 0 1 32).wf = false ∧
    (Instr.shri 1 2 0 1 32).wf = false ∧ (Instr.srai 1 2 0 1 63).wf = false ∧ (Instr.cmpi 0 0 2 0 0).wf = false ∧
    (Instr.shli 1 2 0 1 31).wf = true ∧ (Instr.shli 1 2 0 0 63).wf = true := by decide

theorem test_wf_float :
    (Instr.fadd 1 2 3 0 0 5).wf = false ∧ (Instr.fsub 1 2 3 0 0 6).wf = false ∧ (Instr.fmul 1 2 3 0 0 5).wf = false ∧
    (Instr.fdiv 1 2 3 0 0 6).wf = false ∧ (Instr.fsqrt 1 2 0 0 5).wf = false ∧ (Instr.fma 1 2 3 0 0 6).wf = false ∧
    (Instr.fcmp 0 2 3 0 0 0).wf = false ∧ (Instr.fcmp 1 2 3 0 0 6).wf = false ∧
    (Instr.fcvt 1 2 0 10 0 0 0).wf = false ∧ (Instr.fcvt 1 2 0 0 0 0 10).wf = false ∧ (Instr.fcvt 1 2 1 8 0 1 6).wf = false ∧
    (Instr.fcvt 1 2 1 6 0 0 4).wf = false ∧ (Instr.fadd 1 2 3 0 0 7).wf = true := by decide

theorem test_wf_memory_and_csr :
    (Instr.csrr 1 0 0x010).wf = false ∧ (Instr.csrw 1 0 0x0C2).wf = false ∧ (Instr.csrx 1 2 0 0x3FF).wf = false ∧
    (Instr.lds 1 2 0 7 0).wf = false ∧ (Instr.amo 1 2 3 0 0 9).wf = false ∧ (Instr.ramo 1 2 3 0 0 9).wf = false := by decide

theorem test_wf_vector :
    (Instr.vshl 1 2 3 0 0 0 0).wf = false ∧ (Instr.vshr 1 2 3 0 0 1 0).wf = false ∧ (Instr.vsra 1 2 3 0 0 0 0).wf = false ∧
    (Instr.vcmp 0 0 2 3 0 0 0 0).wf = false ∧ (Instr.vcvt 1 2 0x1C 0 0 0).wf = false ∧ (Instr.vcvt 1 2 0 1 0 0).wf = false ∧
    (Instr.vrint 1 2 0 2 0).wf = false ∧ (Instr.vrcp 1 2 0 3 0).wf = false ∧ (Instr.vrsq 1 2 0 2 0).wf = false ∧
    (Instr.vexp2 1 2 0 2 0).wf = false ∧ (Instr.vlog2 1 2 0 3 0).wf = false ∧ (Instr.vred 1 2 6 0 2 0).wf = false ∧
    (Instr.vscan 1 2 3 0 0 0).wf = false ∧ (Instr.vpack 1 2 3 0 0 1 0).wf = false ∧ (Instr.vpack 1 2 3 0 0 0 0).wf = false ∧
    (Instr.vunpack 1 2 0 0 1 0).wf = false ∧ (Instr.vunpack 1 2 1 0 0 0).wf = false ∧ (Instr.vmlog 0 1 2 0 0).wf = false ∧
    (Instr.vmpop 1 2 0 0 0).wf = false ∧ (Instr.vdot2 1 2 3 0 0 0 0).wf = false := by decide

theorem test_wf_issue :
    (Instr.patchAndIssue 6 0 31 0).wf = false ∧ (Instr.patchAndIssue 0 0 31 1).wf = false ∧ (Instr.amend 6 0 0).wf = false ∧
    (Instr.amend 0 31 0).wf = false ∧ (Instr.li 1 1 1 0).wf = false ∧ (Instr.tdef 6 0 0 0).wf = false ∧
    (Instr.tread 7 0 0 0).wf = false ∧ (Instr.qdef 0 7 0 0).wf = false ∧ (Instr.qread 1 0 7).wf = false ∧
    (Instr.rdef 0 7 1 0 0 0).wf = false ∧ (Instr.rdef 0 1 7 0 0 0).wf = false ∧ (Instr.rdef 0 2 2 0 0 0).wf = false ∧
    (Instr.whlSlot 0 6 0 0 0 0 31 31).wf = false ∧ (Instr.whlSlot 0 0 0 0 0 6 31 31).wf = false ∧
    (Instr.whlSlot 0 0 0 0 0 0 4 4).wf = false ∧ (Instr.whlStride 0 0 6 0).wf = false ∧ (Instr.whlCount 7 0).wf = false ∧
    (Instr.whlLen 33).wf = false ∧ (Instr.whlLen 32).wf = true ∧ (Instr.whlgo 1 6).wf = false ∧ (Instr.whlgo 0 1).wf = false := by decide

theorem test_wf_system :
    (Instr.tokVpop 0).wf = false ∧ (Instr.tokVpush 1).wf = false ∧ (Instr.waita 1 0 0 0).wf = false ∧
    (Instr.waita 1 3 0 0).wf = false ∧ (Instr.fsig 0 7 0).wf = false ∧ (Instr.rel 0 1 0).wf = false ∧
    (Instr.monref 0 0).wf = false ∧ (Instr.monref 5 0).wf = false ∧ (Instr.monrd 1 7 0).wf = false ∧
    (Instr.trap 0 0x3F).wf = false ∧ (Instr.trap 0 0).wf = false ∧ (Instr.pbr 0 1).wf = false ∧ (Instr.pbr 1 3).wf = false ∧
    (Instr.route 0 0 0 0 0 2).wf = false := by decide

/-! The decoder on words written out from the tables of 02 and the entries: each field at its place -/

theorem test_decode_integer :
    decode 0x00B9C2A3 = .ok (.add 23 7 1 5 3) ∧
    decode 0x01F39182 = .ok (.sub 30 14 8 12 2) ∧
    decode 0x022D5E61 = .ok (.mul 5 21 15 3 1) ∧
    decode 0x03672D40 = .ok (.mulh 12 28 22 10 0) ∧
    decode 0x0498FA21 = .ok (.div 19 3 29 1 1) ∧
    decode 0x05D28900 = .ok (.rem 26 10 4 8 0) ∧
    decode 0x060C57E0 = .ok (.and 1 17 11 15) ∧
    decode 0x074624C0 = .ok (.or 8 24 18 6) ∧
    decode 0x087FF3A0 = .ok (.xor 15 31 25 13) ∧
    decode 0x09B18080 = .ok (.shl 22 6 0 4 0) ∧
    decode 0x0AEB4F61 = .ok (.shr 29 13 7 11 1) ∧
    decode 0x0B251C40 = .ok (.sra 4 20 14 2 0) ∧
    decode 0x0C5EEB21 = .ok (.min 11 27 21 9 1) ∧
    decode 0x0D90B800 = .ok (.max 18 2 28 0 0) ∧
    decode 0x0ECA4061 = .ok (.clz 25 9 3 1) ∧
    decode 0x0F040140 = .ok (.popc 0 16 10 0) ∧
    decode 0x103DE2A3 = .ok (.sel 7 23 17 5 3) := by decide

theorem test_decode_predicates_and_immediates :
    decode 0x1137B182 = .ok (.cmp 6 30 24 12 0 2) ∧
    decode 0x12294E65 = .ok (.plog 5 5 7 3 5) ∧
    decode 0x13E31BAA = .ok (.addi 28 12 6 938) ∧
    decode 0x141CF7B1 = .ok (.andi 3 19 13 945) ∧
    decode 0x155693B8 = .ok (.ori 10 26 4 952) ∧
    decode 0x16886FBF = .ok (.xori 17 1 11 959) ∧
    decode 0x17C20814 = .ok (.shli 24 8 2 0 20) ∧
    decode 0x18FBE45B = .ok (.shri 31 15 9 1 27) ∧
    decode 0x19358022 = .ok (.srai 6 22 0 0 34) ∧
    decode 0x1A6DECE9 = .ok (.cmpi 1 5 23 11 233) ∧
    decode 0x1BA156A4 = .ok (.lhi 20 87716) := by decide

theorem test_decode_floats :
    decode 0x1CDACB37 = .ok (.fadd 27 11 5 9 1 7) ∧
    decode 0x1D149804 = .ok (.fsub 2 18 12 0 0 4) ∧
    decode 0x1E4E66F3 = .ok (.fmul 9 25 19 7 1 3) ∧
    decode 0x1F8035C4 = .ok (.fdiv 16 0 26 14 0 4) ∧
    decode 0x20B9C033 = .ok (.fsqrt 23 7 1 1 3) ∧
    decode 0x21F39182 = .ok (.fma 30 14 8 12 0 2) ∧
    decode 0x222D5E70 = .ok (.fmin 5 21 15 3 1) ∧
    decode 0x23672D40 = .ok (.fmax 12 28 22 10 0) ∧
    decode 0x2418FA34 = .ok (.fcmp 3 3 29 1 1 4) ∧
    decode 0x25D290C0 = .ok (.fcvt 26 10 0 8 6 0 0) := by decide

theorem test_decode_control :
    decode 0x261156F1 = .ok (.br 1 87793) ∧
    decode 0x278156F8 = .ok (.call 8 87800) ∧
    decode 0x287FC120 = .ok (.jr 15 31 9) ∧
    decode 0x29118044 = .ok (.loop 2 6 0 68) ∧
    decode 0x2A0C3787 = .ok (.loopi 1 269 903) ∧
    decode 0x2B000080 = .ok (.lbrk 0 4) ∧
    decode 0x2C582C22 = .ok (.csrr 11 11 34) ∧
    decode 0x2D048865 = .ok (.csrw 18 2 101) ∧
    decode 0x2ECA4C67 = .ok (.csrx 25 9 3 103) ∧
    decode 0x2F0003AA = .ok (.idle 0 0 938) := by decide

theorem test_decode_pool_and_remote :
    decode 0x303DC683 = .ok (.lds 7 23 1 5 3) ∧
    decode 0x3177A00A = .ok (.sts 14 30 8 0 10) ∧
    decode 0x32A97E77 = .ok (.amo 21 5 31 3 1 7) ∧
    decode 0x33E31940 = .ok (.amocas 28 12 6 10 0) ∧
    decode 0x341CC1A1 = .ok (.rld 3 19 13 1) ∧
    decode 0x3556A902 = .ok (.rst 10 26 20 8 2) ∧
    decode 0x368877F5 = .ok (.ramo 17 1 27 15 1 5) ∧
    decode 0x37C208C0 = .ok (.ramocas 24 8 2 6 0) := by decide

theorem test_decode_vector_arithmetic :
    decode 0x407DE9BD = .ok (.vadd 31 15 9 1 3 3 1) ∧
    decode 0x409AD028 = .ok (.vsub 6 22 16 0 2 2 0) ∧
    decode 0x4137B797 = .ok (.vmul 13 29 23 1 1 1 3) ∧
    decode 0x41D09E02 = .ok (.vfma 20 4 30 0 0 0 2) ∧
    decode 0x426D65FD = .ok (.vmin 27 11 5 1 7 3 1) ∧
    decode 0x428A4C68 = .ok (.vmax 2 18 12 0 6 2 0) ∧
    decode 0x4327203D = .ok (.vabs 9 25 3 3 1) ∧
    decode 0x43C00028 = .ok (.vneg 16 0 2 2 0) ∧
    decode 0x445CE1BD = .ok (.vand 23 7 1 1 3 3 1) ∧
    decode 0x44F9C828 = .ok (.vor 30 14 8 0 2 2 0) ∧
    decode 0x4516AF97 = .ok (.vxor 5 21 15 1 1 1 3) ∧
    decode 0x45B39602 = .ok (.vandn 12 28 22 0 0 0 2) ∧
    decode 0x464C7DFD = .ok (.vshl 19 3 29 1 7 3 1) ∧
    decode 0x46E94468 = .ok (.vshr 26 10 4 0 6 2 0) ∧
    decode 0x47062BDB = .ok (.vsra 1 17 11 1 5 2 3) := by decide

theorem test_decode_vector_others :
    decode 0x478E564A = .ok (.vcmp 0 3 18 22 0 4 2 2) ∧
    decode 0x483FF9BD = .ok (.vsel 15 31 25 1 3 3 1) ∧
    decode 0x48D8C022 = .ok (.vcvt 22 6 0 0 2 2) ∧
    decode 0x4975A075 = .ok (.vrint 29 13 7 1 1) ∧
    decode 0x49928060 = .ok (.vrcp 4 20 6 0 0) ∧
    decode 0x4A2F6057 = .ok (.vrsq 11 27 5 1 3) ∧
    decode 0x4AC84042 = .ok (.vexp2 18 2 4 0 2) ∧
    decode 0x4B652035 = .ok (.vlog2 25 9 3 1 1) ∧
    decode 0x4B820260 = .ok (.vred 0 16 2 6 0 0) ∧
    decode 0x4C1EE15F = .ok (.vscan 7 23 1 5 3 3) ∧
    decode 0x4CBBD828 = .ok (.vperm 14 30 24 0 2 2 0) ∧
    decode 0x4D54BFB5 = .ok (.vrot 21 5 31 3 1 1) ∧
    decode 0x4DF186A0 = .ok (.vlane 28 12 6 2 0 0) ∧
    decode 0x4E0E6DFD = .ok (.vpack 3 19 13 1 7 3 1) ∧
    decode 0x4EAB400A = .ok (.vunpack 10 26 0 0 2 2) ∧
    decode 0x4F44203D = .ok (.vmov 17 1 3 3 1) ∧
    decode 0x4F6008A8 = .ok (.vmovBroadcast 24 8 2 2 0) ∧
    decode 0x4F9CE107 = .ok (.vmlog 7 7 1 1 3) ∧
    decode 0x5018C00E = .ok (.vmpop 6 6 0 3 2) ∧
    decode 0x50B7B797 = .ok (.vdot2 13 29 23 1 1 1 3) ∧
    decode 0x70509E20 = .ok (.vld 20 4 30 2 0 0) ∧
    decode 0x70ED651F = .ok (.vst 27 11 5 1 3 3) ∧
    decode 0x710A4C0A = .ok (.vgath 2 18 12 0 2 2) ∧
    decode 0x71A73375 = .ok (.vscat 9 25 19 7 1 1) := by decide

theorem test_decode_issue :
    decode 0x801A59BE = .ok (.patchAndIssue 0 0 26 22974) ∧
    decode 0xCA075901 = .ok (.amend 5 7 22785) := by decide

theorem test_decode_rings_and_tokens :
    decode 0xE03C0000 = .ok (.racq 30 0 0) ∧
    decode 0xE040500F = .ok (.rrel 5 1 7) ∧
    decode 0xE0980006 = .ok (.rstat 12 0 6) ∧
    decode 0xE0E60003 = .ok (.tokRd 19 3) ∧
    decode 0xE0C00202 = .ok (.tokPush 2) ∧
    decode 0xE0C20401 = .ok (.tokTry 1 1) ∧
    decode 0xE0C00606 = .ok (.tokVpop 6) ∧
    decode 0xE0C00802 = .ok (.tokVpush 2) := by decide

theorem test_decode_waits_and_locks :
    decode 0xE1000096 = .ok (.qdrain 150) ∧
    decode 0xE23AC007 = .ok (.waita 29 12 1 3) ∧
    decode 0xE240480E = .ok (.fsig 4 4 14) ∧
    decode 0xE417B005 = .ok (.acq 11 27 5) ∧
    decode 0xE4400034 = .ok (.rel 1 2 4) ∧
    decode 0xE4819001 = .ok (.bind 25 1) ∧
    decode 0xE4C00000 = .ok (.fence 0) := by decide

theorem test_decode_time_and_barriers :
    decode 0xE60E0000 = .ok (.rtick 7) ∧
    decode 0xE65C0000 = .ok (.rcyc 14) ∧
    decode 0xE6AA5007 = .ok (.align 21 5 7) ∧
    decode 0xE6C00004 = .ok (.bar 4) ∧
    decode 0xE7073005 = .ok (.barw 3 19 5) ∧
    decode 0xE7540002 = .ok (.bart 10 2) := by decide

theorem test_decode_circuits_and_groups :
    decode 0xE8220001 = .ok (.cstat 17 1) ∧
    decode 0xE8300400 = .ok (.cstatSettle 24) ∧
    decode 0xE83E0800 = .ok (.cstatStart 31) ∧
    decode 0xE80C0C16 = .ok (.cstatFrec 6 22) ∧
    decode 0xE85BD017 = .ok (.cwait 13 29 23) ∧
    decode 0xEA014026 = .ok (.cgopen 20 4 6) ∧
    decode 0xEA760003 = .ok (.cgcommit 27 3) ∧
    decode 0xEA840002 = .ok (.cgabort 2 2) ∧
    decode 0xEAD20001 = .ok (.cgstat 9 1) := by decide

theorem test_decode_monitors_traps_power :
    decode 0xEC010000 = .ok (.monset 16 0) ∧
    decode 0xEC416003 = .ok (.monref 22 3) ∧
    decode 0xECBC0018 = .ok (.monrd 30 6 0) ∧
    decode 0xECCA0007 = .ok (.monchk 5 1 3) ∧
    decode 0xED00C000 = .ok (.kend 12) ∧
    decode 0xEE013013 = .ok (.trap 19 19) ∧
    decode 0xEE400000 = .ok .rett ∧
    decode 0xEE82088B = .ok (.rqrd 1 17 11) ∧
    decode 0xEEC08C12 = .ok (.rqwr 8 24 18) ∧
    decode 0xEF0C0001 = .ok (.pbr 6 1) ∧
    decode 0xEF6C0000 = .ok (.pack 22) ∧
    decode 0xEF80097D = .ok (.bkpt 2429) ∧
    decode 0xEFC00000 = .ok .wfiltClr ∧
    decode 0xEFC0BBB5 = .ok (.wfiltIns 11 187 1) ∧
    decode 0xEFE42002 = .ok (.wfiltTst 18 2 0) := by decide

theorem test_decode_sequencer :
    decodeSeq 0x0CF25FAA = .ok (.route 25 457 3 7 21 1) ∧
    decodeSeq 0x10000000 = .ok (.est 0) ∧
    decodeSeq 0x238159D7 = .ok (.hold 7 88535) ∧
    decodeSeq 0x37000000 = .ok (.tear 14) ∧
    decodeSeq 0x480159E5 = .ok (.atstep 1 88549) ∧
    decodeSeq 0x57965A66 = .ok (.sig 60 44 23142) ∧
    decodeSeq 0x6C3159F3 = .ok (.rpt 195 88563) ∧
    decodeSeq 0x70000000 = .ok .nop ∧
    decodeSeq 0x80000000 = .ok .fend := by decide

theorem test_decode_wide_words :
    decode 0x56789ABCD00C1234 = .ok (.li 6 0 0x1234 0x56789ABC) ∧
    decode 0x1ABCD0400000 = .ok (.jmpf 0x1ABC) ∧
    decode 0xABCD08E0000 = .ok (.callf 7 0xABC) ∧
    decode 0x7D4281700 = .ok (.tdef 5 0 23 7) ∧
    decode 0x1D4681700 = .ok (.tread 5 0 23 1) ∧
    decode 0x1000D4840000 = .ok (.qdef 1 0 0 0x1000) ∧
    decode 0xD4CD2C00 = .ok (.qread 6 9 3) ∧
    decode 0x00078800D5014200 = .ok (.rdef 0 1 2 1 15 0x800) ∧
    decode 0x4D5409000 = .ok (.whlSlot 1 1 0 0 0 0 0 4) ∧
    decode 0x5D5500000 = .ok (.whlStride 0 0 0 5) ∧
    decode 0x4D5600000 = .ok (.whlCount 0 4) ∧
    decode 0xD5708000 = .ok (.whlLen 2) ∧
    decode 0xD58AC000 = .ok (.whlgo 5 3) ∧
    decode 0x00000100D8004000 = .ok (.launch 4 0x100) := by decide

theorem test_decode_worked_words :
    decode 0x00294880 = .ok (.add 5 5 4 4 0) ∧
    decode 0x11190A02 = .ok (.cmp 3 4 5 0 0 2) ∧
    decode 0x263FFFFD = .ok (.br 3 0xFFFFD) ∧
    decode 0x30290182 = .ok (.lds 5 4 0 3 2) ∧
    decode 0x364A9610 = .ok (.ramo 9 10 11 0 1 0) ∧
    decode 0xE1000002 = .ok (.qdrain 2) ∧
    decode 0x41844336 = .ok (.vfma 1 2 3 0 3 1 2) ∧
    decode 0x9064001F = .ok (.patchAndIssue 2 3 4 31) ∧
    decode 0xE2409603 = .ok (.fsig 9 3 3) ∧
    decode 0xE40A9002 = .ok (.acq 5 9 2) ∧
    decode 0x1A494000 = .ok (.cmpi 1 1 5 0 0) ∧
    decodeSeq 0x40000064 = .ok (.atstep 0 100) ∧ decodeSeq 0x50018001 = .ok (.sig 0 3 1) ∧ decodeSeq 0x11800000 = .ok (.est 3) := by decide

/-- Words with a reserved code, a nonzero fixed field, p0 as destination, an engine code 6, an unassigned CSR are refused. -/
theorem test_decode_refuses :
    (decode 0xF0000000).toOption = none ∧ (decode 0x00000004).toOption = none ∧ (decode 0x11010A02).toOption = none ∧
    (decode 0xB0000000).toOption = none ∧ (decode 0x2C080010).toOption = none ∧ (decodeSeq 0xFFFFFFFF).toOption = none ∧
    (decodeSeq 0x80000001).toOption = none := by decide

/-! Small states: a core whose task runs, with 8 barriers, 32 vector registers and 4 accumulator banks (R128, R130) -/

/-- Its context. -/
def c0 : Ctx := { Ctx.zero with
  live := true, held := true, lid := 1, cyc := 10, misc := { MiscRegs.zero with part := 0x80120 }
  domain := Vector.replicate 8 (BitVec.ofNat 64 (2 ^ 63 + 2 ^ 60)) }

/-- The machine with its focus core's context changed. -/
def on (f : Ctx → Ctx) : State := { State.reset with events := [], core := { State.reset.core with ctx := f c0 } }

/-- Scalar registers s1, s2, … holding values. -/
def regs (vs : List Nat) (c : Ctx) : Ctx :=
  { c with regs := (vs.zipIdx.foldl (fun r v => r.put (BitVec.ofNat 5 (v.2 + 1)) (BitVec.ofNat 64 v.1)) c.regs) }

/-- SQ changed. -/
def inSq (f : Sq → Sq) (c : Ctx) : Ctx := { c with sq := f c.sq }

/-- SQ held. -/
def held (k : WaitKind) (d : Option Nat) (as : List Nat) (p v : Nat) (c : Ctx) : Ctx := inSq (fun q => { q with wait := some ⟨k, d, as, p, v⟩ }) c

/-- What a step leaves. -/
def leaves (o : Host.Outcome State Fault Refusal) (f : State → Bool) : Bool := match o with | .next t => f t | _ => false

/-! One step on small states. Expected values by hand from the rules named -/

/-- R109: `add.w` keeps 32 bits and extends the sign: 0x7FFFFFFF + 1. -/
theorem test_add_w : leaves (exec (.add 3 1 2 0 1) (on (regs [0x7FFFFFFF, 1])))
    (fun t => (t.core.ctx.pend == [⟨1, none, .sreg 3 0xFFFFFFFF80000000⟩]) && t.core.ctx.sq.pc == 1) = true := by decide

/-- R109: `add.sat` stops at the greatest signed number. -/
theorem test_add_sat : leaves (exec (.add 3 1 2 0 2) (on (regs [0x7FFFFFFFFFFFFFFF, 1])))
    (fun t => t.core.ctx.pend == [⟨1, none, .sreg 3 0x7FFFFFFFFFFFFFFF⟩]) = true := by decide

/-- R110: -7 over 2 is -3, remainder -1. -/
theorem test_div_rem : leaves (exec (.div 3 1 2 0 0) (on (regs [2 ^ 64 - 7, 2])))
      (fun t => t.core.ctx.pend == [⟨18, none, .sreg 3 0xFFFFFFFFFFFFFFFD⟩]) = true ∧
    leaves (exec (.rem 3 1 2 0 0) (on (regs [2 ^ 64 - 7, 2])))
      (fun t => t.core.ctx.pend == [⟨18, none, .sreg 3 0xFFFFFFFFFFFFFFFF⟩]) = true := by decide

/-- R112: -1 is below 1 signed, not unsigned. -/
theorem test_cmp_signs : leaves (exec (.cmp 3 1 2 0 0 2) (on (regs [2 ^ 64 - 1, 1]))) (fun t => t.core.ctx.pend == [⟨1, none, .pred 3 true⟩]) = true ∧
    leaves (exec (.cmp 3 1 2 0 0 4) (on (regs [2 ^ 64 - 1, 1]))) (fun t => t.core.ctx.pend == [⟨1, none, .pred 3 false⟩]) = true := by decide

/-- R116: `lhi` shifts by ten and extends. -/
theorem test_lhi : leaves (exec (.lhi 3 0x7FFFF) (on id)) (fun t => t.core.ctx.pend == [⟨1, none, .sreg 3 0xFFFFFFFFFFFFFC00⟩]) = true := by decide

/-- R118, R93: 1.0 + 2.0 in f32 is 3.0, exact, after four cycles. -/
theorem test_fadd : leaves (exec (.fadd 3 1 2 0 1 0) (on (regs [0x3F800000, 0x40000000])))
    (fun t => t.core.ctx.pend == [⟨4, none, .sreg 3 0x40400000⟩, ⟨4, none, .flags 0⟩]) = true := by decide

/-- R98: a branch back by 3 from word 10 leaves its delay word next and word 7 as its target. -/
theorem test_branch : leaves (exec (.br 0 0xFFFFD) (on (inSq fun q => { q with pc := 10 })))
    (fun t => t.core.ctx.sq.pc == 11 && t.core.ctx.sq.delay && t.core.ctx.sq.target == some 7) = true := by decide

/-- R98: the delay word's end goes to the target. -/
theorem test_delay_word : leaves (exec (.lhi 0 0) (on (inSq fun q => { q with pc := 11, delay := true, target := some 7 })))
    (fun t => t.core.ctx.sq.pc == 7 && !t.core.ctx.sq.delay) = true := by decide

/-- R137, R373: a word at 0x56001 is misaligned, cause 3, with the address in TVAL; no handler is enabled, so the task ends. -/
theorem test_lds_misaligned : leaves (exec (.lds 3 1 0 2 0) (on (regs [0x1001])))
    (fun t => t.core.ctx.trap.cause == 0x1F0803 && t.core.ctx.trap.val == 0x1001 && !t.core.ctx.live) = true := by decide

/-- R377: with TVEC.EN = 1 the handler's word issues after eight cycles, with INH = 1. -/
theorem test_trap_enters_handler : leaves (exec (.csrr 1 0 0x084) (on fun c => { c with trap := { c.trap with vec := 2 ^ 63 + 0x40 } }))
    (fun t => t.core.ctx.live && t.core.ctx.trap.inh && t.core.ctx.sq.pc == 0x40 && t.core.ctx.sq.pause == 8 && t.core.ctx.trap.cause == 0x1F0802) = true := by decide

/-- R154: `tok.try` takes one of two tokens and answers 1. -/
theorem test_tok_try : leaves (exec (.tokTry 3 5) (on fun c => { c with tokens := vput c.tokens 5 2 }))
    (fun t => vat t.core.ctx.tokens 0 5 == 1 && t.core.ctx.pend == [⟨1, none, .sreg 3 1⟩]) = true := by decide

/-- R14: FIPS 180-4's example "abc" under SHA-384 and, cut to 192 bits, SHA-256; twice the base point of P-384. -/
theorem test_crypto :
    fromBig (sha384 [0x61, 0x62, 0x63])
      = 0xCB00753F45A35E8BB5A03D699AC65007272C32AB0EDED1631A8B605A43FF5BED8086072BA1E7CC2358BAECA134C825A7 ∧
    fromBig (sha192 [0x61, 0x62, 0x63]) = 0xBA7816BF8F01CFEA414140DE5DAE2223B00361A396177A9C ∧
    addPoint (some g384) (some g384)
      = some (0x08D999057BA3D2D969260045C55B97F089025959A6F434D651D207D19FB96E9E4FE0E86EBE0E64F85B96A9C75295DF61,
        0x8E80F1FA5B1B3CEDB7BFE8DFFD6DBA74B275D875BC6CC43E904E505F256AB4255FFD43E94D39E22D61501E700A940E80) := by decide +kernel

/-- R112, R91: the first word after reset placed at the fetch point runs in one step: `lhi s3, 1`. -/
theorem test_step_runs_word : leaves (step (State.reset.withFetchWord 32 0x1B180001))
    (fun t => t.core.ctx.pend == [⟨1, none, .sreg 3 0x400⟩] && t.phase == .engines) = true := by decide

/-- R302: a sequencer word placed there runs in one step: `nop`. -/
theorem test_step_runs_sequencer_word : leaves (step (State.reset.withFetchWord 32 0x70000000)) (fun _ => true) = true := by decide

/-- R427: the first step after reset is the module reset, which leaves boot stage 1. -/
theorem test_reset_first_step : leaves (step State.reset) (fun t => t.svc.stage == 1 && t.events == []) = true := by decide


/-! Witnesses: for each statement with hypotheses, states and operands that meet them -/

/-- IntegerWordsWriteTheirResult, FloatWordsWriteResultAndConditions, FalseGuardOnlySelectsNextWord and SystemAndPredicateRegisters: guards
true and false, and the ends of the system registers' list. -/
theorem wit_guards : (0x84 ∈ ([0x84, 0x85, 0x86, 0x87, 0x8C, 0x8D, 0x8E, 0x8F, 0xA0, 0xA2] : List (BitVec 10))) ∧
    (0xA2 ∈ ([0x84, 0x85, 0x86, 0x87, 0x8C, 0x8D, 0x8E, 0x8F, 0xA0, 0xA2] : List (BitVec 10))) ∧
    (on id).core.ctx.sys = false ∧ (on fun c => { c with sys := true }).core.ctx.sys = true ∧ (on id).guard 0 = true ∧ (on id).guard 1 = false ∧ (on id).guard 9 = true ∧ (on id).core.ctx.regs.getP 0 = true ∧
    (on id).core.ctx.regs.getP 1 = false := by decide

/-- DivisionTruncatesTowardZero: a zero divisor, the signed overflow, an ordinary pair of each sign, and `u`. -/
theorem wit_DivisionTruncatesTowardZero :
    let z := on (regs [5, 0])
    let o := on (regs [2 ^ 63, 2 ^ 64 - 1])
    let n := on (regs [2 ^ 63, 1])
    z.guard 0 = true ∧ z.reg 2 = 0 ∧
    o.guard 0 = true ∧ o.reg 2 ≠ 0 ∧ (o.reg 1).toInt = -2 ^ 63 ∧ (o.reg 2).toInt = -1 ∧
    n.guard 0 = true ∧ n.reg 2 ≠ 0 ∧ ¬((n.reg 1).toInt = -2 ^ 63 ∧ (n.reg 2).toInt = -1) := by decide

/-- SelectTakesTheNamedPredicate: both values of the predicate, a false guard, and [4:3] zero and not. -/
theorem wit_SelectTakesTheNamedPredicate :
    ((on id).guard 0 = true ∧ (on id).core.ctx.regs.getP 0 = true) ∧
    ((on id).guard 0 = true ∧ (on id).core.ctx.regs.getP 7 = false) ∧ (on id).guard 1 = false ∧
    (0 : BitVec 2) = 0 ∧ (3 : BitVec 2) ≠ 0 := by decide

/-- PredicateAndConstantWords: a first cycle at the last word but one, and a second cycle. -/
theorem wit_PredicateAndConstantWords :
    let f := on (inSq fun q => { q with pc := 8190 })
    (on id).guard 0 = true ∧
    f.core.ctx.sq.second = false ∧ f.core.ctx.sq.delay = false ∧ f.core.ctx.sq.pc ≠ 8191 ∧
    endsLoop f.core.ctx.loops f.core.ctx.sq.pc.toNat = false ∧
    (on (inSq fun q => { q with second := true })).core.ctx.sq.second = true := by decide

/-- RegisterZeroAndPredicateZero: registers other than 0, words that decode, and a state whose next word does not. -/
theorem wit_RegisterZeroAndPredicateZero :
    (31 : BitVec 5) ≠ 0 ∧ (7 : BitVec 3) ≠ 0 ∧ decode 0x11190A02 = .ok (.cmp 3 4 5 0 0 2) ∧
    decode (0x24 * 2 ^ 24 + 3 * 2 ^ 19) = .ok (.fcmp 3 0 0 0 0 0) ∧
    decode (0x12 * 2 ^ 24 + 1 * 2 ^ 19) = .ok (.plog 1 0 0 0 0) ∧ decode 0x1A494000 = .ok (.cmpi 1 1 5 0 0) ∧
    (on id).core.ctx.sq.overrun = false ∧ (decode (on id).fetched).toOption = none := by decide

/-- BranchesSelectTheirTarget: targets 0 and 8,191, a false guard, and a second cycle. -/
theorem wit_BranchesSelectTheirTarget :
    let s := on (fun c => regs [8191] (inSq (fun q => { q with pc := 10 }) c))
    let w := on (inSq fun q => { q with second := true })
    s.misplaced s.core.ctx.sq.pc.toNat = false ∧ s.guard 0 = true ∧ s.guard 1 = false ∧ (s.reg 1).toNat ≤ 8191 ∧
    (0 ≤ (10 : Int) + (0xFFFF6 : BitVec 20).toInt ∧ (10 : Int) + (0xFFFF6 : BitVec 20).toInt ≤ 8191) ∧
    (0 ≤ (10 : Int) + (8181 : BitVec 20).toInt ∧ (10 : Int) + (8181 : BitVec 20).toInt ≤ 8191) ∧
    w.core.ctx.sq.second = true ∧ endsLoop w.core.ctx.loops (w.core.ctx.sq.pc.toNat + 1) = false := by decide

/-- ControlWordsTrapOutOfPlaceOrRange: a delay word, targets -1 and 8,192, and a body that passes 8,191 by one. -/
theorem wit_ControlWordsTrapOutOfPlaceOrRange :
    let d := on (inSq fun q => { q with delay := true })
    let s := on (fun c => regs [8192] (inSq (fun q => { q with pc := 10 }) c))
    let e := on (inSq fun q => { q with pc := 8191 })
    d.misplaced d.core.ctx.sq.pc.toNat = true ∧ s.misplaced 10 = false ∧ s.guard 0 = true ∧
    (10 : Int) + (0xFFFF5 : BitVec 20).toInt < 0 ∧ 8191 < (10 : Int) + (8182 : BitVec 20).toInt ∧
    8191 < (s.reg 1).toNat ∧ e.misplaced 8191 = false ∧ e.guard 0 = true ∧ 8191 < e.core.ctx.sq.pc.toNat + (0 : BitVec 10).toNat + 1 := by decide

/-- An active level 1 whose body ends at 8,190 with `n` passes left. -/
def looping (n : Nat) (c : Ctx) : Ctx := { c with loops := { c.loops with
  lb := vput c.loops.lb 1 3, le := vput c.loops.le 1 8190, lc := vput c.loops.lc 1 (BitVec.ofNat 32 n), act := vput c.loops.act 1 true } }

/-- LoopAndIdleWords: a body that ends at 8,191, an inactive and an active level, and each part of an `idle`. -/
theorem wit_LoopAndIdleWords :
    let s := on (fun c => regs [3] (inSq (fun q => { q with pc := 8190 }) c))
    let l := on (looping 2)
    let h := fun n => on (held .idle none [] 0 n)
    s.misplaced 8190 = false ∧ s.core.ctx.sq.pc.toNat + ((0 : BitVec 10).toNat + 1) ≤ 8191 ∧ s.guard 0 = true ∧ s.guard 1 = false ∧
    vat s.core.ctx.loops.act false 1 = false ∧
    l.misplaced l.core.ctx.sq.pc.toNat = false ∧ l.guard 0 = true ∧ vat l.core.ctx.loops.act false 1 = true ∧
    (vat l.core.ctx.loops.le 0 1).toNat < 8191 ∧
    s.core.ctx.sq.wait = none ∧ (s.reg 0).toNat % 2 ^ 32 + (0 : BitVec 10).toNat = 0 ∧
    (s.reg 1).toNat % 2 ^ 32 + (0 : BitVec 10).toNat ≠ 0 ∧
    (h 2).core.ctx.sq.wait = some ⟨.idle, none, [], 0, 0 + 2⟩ ∧ (h 1).core.ctx.sq.wait = some ⟨.idle, none, [], 0, 1⟩ := by decide

/-- EndOfBodyCheckLoopsBackOnce: counts 2 and 1. -/
theorem wit_EndOfBodyCheckLoopsBackOnce :
    [1, 0] = 1 :: [0] ∧ 1 < 4 ∧ 2 ≤ (vat (looping 2 c0).loops.lc 0 1).toNat ∧ (vat (looping 1 c0).loops.lc 0 1).toNat < 2 := by decide

/-- PoolWordsAskForTheirAccess: the last quantities below SBASE, SBASE's kind that reads, and an atomic. -/
theorem wit_PoolWordsAskForTheirAccess :
    let s := on (regs [0x5FFF8, 0x3F8])
    let p := s.core.ctx.misc.part
    s.guard 0 = true ∧ (s.reg 1).toNat % 8 = 0 ∧ admitsAll p .scalarRead (s.reg 1).toNat 8 = true ∧
    admitsAll p .scalarWrite (s.reg 1).toNat 8 = true ∧ admitsAll p .scalarRead (s.reg 2).toNat 8 = true ∧
    (s.core.ctx.watch false true true 0 0x5FFF8 8).2 = none ∧ (s.core.ctx.watch true true true 0 0x5FFF8 8).2 = none := by decide

/-- PoolWordsTrapOnBadAddresses: one byte off, the first address past the stack, and the read-only window's last bytes. -/
theorem wit_PoolWordsTrapOnBadAddresses :
    let s := on (regs [0x5FFF9, 0x60000, 0x3F8])
    let p := s.core.ctx.misc.part
    s.guard 0 = true ∧ (s.reg 1).toNat % 8 ≠ 0 ∧ (s.reg 2).toNat % 8 = 0 ∧ admitsAll p .scalarRead (s.reg 2).toNat 8 = false ∧
    admitsAll p .scalarWrite (s.reg 2).toNat 8 = false ∧ (s.reg 3).toNat % 4 = 0 ∧ admitsAll p .scalarWrite (s.reg 3).toNat 4 = false := by decide

/-- RemoteWordsSendOneRequest: the last core, its first location, and a line at the top of the engines' pool. -/
theorem wit_RemoteWordsSendOneRequest :
    let s := on (regs [(399 * 128 + 99) * 2 ^ 32, 0x55FF0])
    let loc := (s.reg 1).toNat
    s.core.ctx.sq.wait = none ∧ s.guard 0 = true ∧ loc / 2 ^ 19 % 2 ^ 13 = 0 ∧ loc / 2 ^ 48 = 0 ∧ cidOk (loc / 2 ^ 32) = true ∧
    loc % 2 ^ 19 % 8 = 0 ∧ (s.reg 2).toNat % 16 = 0 ∧ admitsAll s.core.ctx.misc.part .remote (s.reg 2).toNat 16 = true ∧
    (s.core.outstanding Ctx.remotes < 32 ∧ s.core.ctx.ackRoom = true) ∧
    ¬((on fun c => { c with remotes := 32 }).core.outstanding Ctx.remotes < 32) ∧ (s.core.ctx.watch true true true 0 (loc % 2 ^ 19) 8).2 = none ∧
    (s.core.ctx.watch false true true 0 (loc % 2 ^ 19) 8).2 = none := by decide

/-- CsrWordsReadAndWrite: the first and the last register a task may name, a system register in system mode, and DBGST read each way. -/
theorem wit_CsrWordsReadAndWrite :
    let s := on id
    let d := { s with svc := { s.svc with dbgsel := BitVec.ofNat 64 (0xA1 * 2 ^ 16) }, core := { s.core with dbg := { s.core.dbg with stopped := true } } }
    s.guard 0 = true ∧ s.mayName 0x000 = true ∧ s.mayName 0x0F2 = true ∧ (on fun c => { c with sys := true }).mayName 0x084 = true ∧
    (wbits d.svc.dbgsel 16 10 = 0xA1 ∧ (d.coreOf (wbits d.svc.dbgsel 0 16)).dbg.stopped = true) ∧ wbits s.svc.dbgsel 16 10 ≠ 0xA1 := by decide

/-- VectorWordsPlaceTheirEntry: the last register the partition has, and the last 256 bytes engines reach. -/
theorem wit_VectorWordsPlaceTheirEntry :
    let s := on (regs [0x55F00])
    s.core.ctx.full .vx = false ∧ (31 : BitVec 5).toNat < wbits s.core.ctx.misc.part 0 6 ∧ (s.reg 1).toNat % 16 = 0 ∧
    admitsAll s.core.ctx.misc.part .engineRead (s.reg 1).toNat 256 = true ∧
    admitsAll s.core.ctx.misc.part .engineWrite (s.reg 1).toNat 256 = true ∧
    (s.core.ctx.watch false true true 0 0x55F00 256).2 = none ∧ (s.core.ctx.watch true true true 0 0x55F00 256).2 = none := by decide

/-- A gated `q.tok` image. -/
def tokImage : BitVec 128 := BitVec.ofNat 128 (6 * 2 ^ 120 + 2 ^ 119)

/-- PatchAndIssuePlacesItsEntry: a defined template, an undefined one, three and four amendments. -/
theorem wit_PatchAndIssuePlacesItsEntry :
    let s := on (fun c => c.setTmpl 0 5 tokImage)
    let f := fun n => on (fun c => { c with amends := vput c.amends 0 (List.replicate n (0, 0)) })
    s.core.ctx.full (Unit7.ofCode 0) = false ∧ s.core.ctx.tmpl 0 5 ≠ emptyTmpl ∧
    workingCopy (s.core.ctx.tmpl 0 5) (vat s.core.ctx.amends [] 0 ++ []) = .ok tokImage ∧
    (match s.core.ctx.placement (Unit7.ofCode 0) tokImage s.nextId with | .ok e => e.img == tokImage | .error _ => false) = true ∧
    s.core.ctx.tmpl 0 6 = emptyTmpl ∧ (vat (f 3).core.ctx.amends [] 0).length < 4 ∧ 4 ≤ (vat (f 4).core.ctx.amends [] 0).length := by decide

/-- TemplateAndStreamWords: a second cycle, the last line SQ may read and write, and a served access that holds an op. -/
theorem wit_TemplateAndStreamWords :
    let s := on (fun c => regs [0x5FFF0] (inSq (fun q => { q with second := true }) c))
    let v := on (fun c => inSq (fun q => { q with second := true, wait := some ⟨.served, none, [], 1, tokImage.toNat⟩ }) c)
    s.core.ctx.sq.second = true ∧ s.core.ctx.sq.wait = none ∧ (s.reg 1).toNat % 16 = 0 ∧
    admitsAll s.core.ctx.misc.part .scalarRead (s.reg 1).toNat 16 = true ∧
    admitsAll s.core.ctx.misc.part .scalarWrite (s.reg 1).toNat 16 = true ∧
    v.core.ctx.sq.second = true ∧ v.core.ctx.sq.wait = some ⟨.served, none, [], 1, tokImage.toNat⟩ ∧
    opAccepted (Unit7.ofCode 0) (imgBits (BitVec.ofNat 128 tokImage.toNat) 120 8) = true := by decide

/-- A wheel that turns on LD's template 5 (which `t` defines or not). -/
def turning (t : Bool) (c : Ctx) : Ctx :=
  let c := if t then c.setTmpl 0 5 tokImage else c
  { c with wheel := { c.wheel with
      slots := vput c.wheel.slots 0 { WheelSlot.zero with tmpl := 5 }, len := 1, running := true, rem := Vector.replicate 6 1 } }

/-- WheelWordsAndPlacements: a stopped and a running wheel; a slot whose entry passes and one whose template is undefined. -/
theorem wit_WheelWordsAndPlacements :
    let w := on (inSq fun q => { q with second := true })
    let s := on (turning true)
    let x := on (turning false)
    let s' := s.wheel (·.seek seekFuel)
    let x' := x.wheel (·.seek seekFuel)
    w.core.ctx.sq.second = true ∧ w.core.ctx.wheel.running = false ∧
    s.core.ctx.wheel.running = true ∧ s.core.ctx.wheel.faulted = false ∧ s.core.ctx.wheel.start ≤ s.core.ctx.cyc ∧
    s'.core.ctx.wheel.running = true ∧ s'.core.ctx.wheel.at_ < s'.core.ctx.wheel.len ∧ s'.core.ctx.wheel.goes = true ∧
    s'.core.ctx.full (Unit7.ofCode (s'.core.ctx.wheel.slot s'.core.ctx.wheel.at_).eng) = false ∧
    (match s'.core.ctx.wheelEntry s'.nextId with | .ok _ => true | .error _ => false) = true ∧
    x'.core.ctx.wheel.goes = true ∧ (match x'.core.ctx.wheelEntry x'.nextId with | .ok _ => false | .error _ => true) = true := by decide

/-- Ring 2 with two stages, from LD to ST. -/
def ringed (c : Ctx) : Ctx := { c with rings := vput c.rings 2 (freshRing 0x8000 256 2 1 2 1) }

/-- RingWordsMoveStages: a ring that ends at the top of the scratchpad, a free stage, a side with none, a stage SQ holds, and no
ring. -/
theorem wit_RingWordsMoveStages :
    let s := on ringed
    let q := on (fun c => { c with rings := vput c.rings 2 { freshRing 0x8000 256 2 1 2 1 with owner := Vector.replicate 16 0 } })
    let g := s.core.ctx.ring 2
    scratchRange s.core.ctx.misc.part 0x55F00 0x100 = true ∧ g.defd = true ∧
    (vat g.full false (s.core.ctx.nextStage 2 true) != true && vat g.owner 0 (s.core.ctx.nextStage 2 true) == g.prod
      && !(s.core.ctx.taken 2 true).contains (s.core.ctx.nextStage 2 true)
      && !s.core.ctx.willClaim 2 (s.core.ctx.nextStage 2 true) true) = true ∧
    (vat g.full false (s.core.ctx.nextStage 2 false) != false) = false ∧
    (q.core.ctx.ring 2).stageAt 0x8100 = some 1 ∧ vat (q.core.ctx.ring 2).owner 0 1 = 0 ∧ ((on id).core.ctx.ring 2).defd = false := by decide

/-- TokenWordsCountTokens: none, seven and eight tokens. -/
theorem wit_TokenWordsCountTokens :
    let t := fun n => on (fun c => { c with tokens := vput c.tokens 5 n })
    vat (t 7).core.ctx.tokens 0 5 - (t 7).willPop 5 ≠ 8 ∧ vat (t 8).core.ctx.tokens 0 5 - (t 8).willPop 5 = 8 ∧
    0 < vat (t 1).core.ctx.tokens 0 5 ∧ vat (t 0).core.ctx.tokens 0 5 = 0 := by decide

/-- A gated head. -/
def headed (u : Unit7) (img : Nat) (c : Ctx) : Ctx :=
  c.onQueue u fun q => { q with wait := [{ Entry.blank 7 u with img := BitVec.ofNat 128 (img + 2 ^ 119) }] }

/-- WaitsAndSignals: queues drained and not, an armed wait that fires and one whose limit is over, and a signal to be sent. -/
theorem wit_WaitsAndSignals :
    let b := on (headed .ld (6 * 2 ^ 120))
    let w := on (held (.waita true) (some 0) [8] 0 3)
    let f : State := { on (held (.waita false) none [8] 0 3) with core := { (on (held (.waita false) none [8] 0 3)).core with wrote := [15] } }
    let g := on (fun c => { c with sigs := [(0, ⟨5, 3, false, [], false⟩)] })
    ((2 : BitVec 9).getLsbD 8 = false ∧ (on id).core.ctx.drainedMask 2 = true) ∧ b.core.ctx.drainedMask 1 = false ∧
    ((on id).core.ctx.sq.wait = none ∧ admitsAll (on id).core.ctx.misc.part .remote 0x1F8 8 = true) ∧
    (w.core.ctx.sq.wait = some ⟨.waita true, some 0, [8], 0, 3⟩ ∧ w.waitaFired true [8] = none ∧ 0 ≤ w.tickEnd) ∧
    (f.core.ctx.sq.wait = some ⟨.waita false, none, [8], 0, 3⟩ ∧ f.waitaFired false [8] = some 0) ∧
    (on id).core.ctx.freeSig = some 0 ∧ freedSig false g.core.ctx.sigs = some (0, ⟨5, 3, false, [], false⟩) := by decide

/-- A gated head of an engine, with the stream it takes as `strA` and as `strB` (both in the pool). -/
def head2 (u : Unit7) (img w1 w2 : Nat) (c : Ctx) : Ctx :=
  let q : Stream := ⟨vput (vput (Vector.replicate 7 0) 1 (BitVec.ofNat 64 (w1 + 2 ^ 10))) 2 (BitVec.ofNat 64 w2)⟩
  c.onQueue u fun x => { x with wait := [{ Entry.blank 7 u with img := BitVec.ofNat 128 (img + 2 ^ 119), strA := q, strB := q }] }

/-- The head of an engine's queue satisfies `f`. -/
def heads (c : Ctx) (u : Unit7) (f : Entry → Bool) : Bool := match c.head u with | some e => f e | none => false

/-- Ring 2 full, all its stages an engine's. -/
def fullRing (u : Unit7) (c : Ctx) : Ctx :=
  { c with rings := vput c.rings 2 { freshRing 0x8000 8192 2 1 u.owner 1 with full := Vector.replicate 16 true, owner := Vector.replicate 16 u.owner } }

/-- Accumulator 1 of 16 rows and 16 columns. -/
def acc16 (int : Bool) (c : Ctx) : Ctx := { c with accs := vput c.accs 1 ⟨true, int, 0, 0, 0⟩ }

/-- StartingAnEntryTakesItFromItsQueue: other engines, and the last FIFO. -/
theorem wit_StartingAnEntryTakesItFromItsQueue : Unit7.ld ≠ Unit7.vx ∧ 7 < 8 := by decide

/-- LoadStoreAndMatrixHeadsStart: a head of each operation that starts, and a timed one that waits or is late. -/
theorem wit_LoadStoreAndMatrixHeadsStart_ld :
    (let c := head2 .ld (2 * 2 ^ 79) 0 0 (ringed c0)
     heads c .ld (fun e => e.op8 == 0) && heads c .ld (c.verdict true · == .start)) = true ∧
    (let c := head2 .ld (2 ^ 120 + 31 * 2 ^ 79) 0 0 c0
     heads c .ld (fun e => e.op8 == 1 && c.vregOk (e.f 79 5) && c.verdict true e == .start)) = true ∧
    (let c := head2 .ld (2 * 2 ^ 120 + 2 ^ 79) 0x106 0x100010 (acc16 false c0)
     heads c .ld (fun e => e.op8 == 2 && accMatches (c.acc (e.f 79 5 % 8)) e.strA && e.strA.fmt == 6 && c.verdict true e == .start)) = true ∧
    (let c := head2 .ld (6 * 2 ^ 120) 0 0 c0
     heads c .ld (fun e => e.op8 == 6 && c.verdict true e == .start)) = true ∧
    (let c := head2 .ld (2 * 2 ^ 79) 0 0 { ringed c0 with cyc := 0 }
     heads c .ld (fun e => e.op8 == 0 && c.verdict true e == .wait)) = true ∧
    (let c := (ringed c0).onQueue .ld fun x => { x with wait := [Entry.blank 7 .ld] }
     heads c .ld (fun e => e.op8 == 0 && c.verdict true e == .timing)) = true := by decide

theorem wit_LoadStoreAndMatrixHeadsStart_st :
    (let c := head2 .st (3 * 2 ^ 120 + 2 * 2 ^ 79) 0 0 (fullRing .st c0)
     heads c .st (fun e => e.op8 == 3 && c.verdict true e == .start)) = true ∧
    (let c := head2 .st (4 * 2 ^ 120 + 31 * 2 ^ 79) 0 0 c0
     heads c .st (fun e => e.op8 == 4 && c.vregOk (e.f 79 5) && c.verdict true e == .start)) = true ∧
    (let c := head2 .st (5 * 2 ^ 120 + 2 ^ 79) 0x106 0x100010 (acc16 false c0)
     heads c .st (fun e => e.op8 == 5 && e.f 27 3 != 5 && accMatches (c.acc (e.f 79 5 % 8)) e.strA && c.verdict true e == .start)) = true := by decide

theorem wit_LoadStoreAndMatrixHeadsStart_mx :
    (let m := fun (op : Nat) => head2 .mx (op * 2 ^ 120 + 2 ^ 85 + 2 * 2 ^ 71 + 2 * 2 ^ 68) 0 0 (acc16 (op == 0x22) (fullRing .mx c0))
     [0x20, 0x21, 0x22].all fun op => heads (m op) .mx fun e =>
       e.op8 == op && (m op).verdict true e == .start && ((m op).acc (e.f 85 3)).defd && ((m op).acc (e.f 85 3)).n == e.f 77 6) = true ∧
    (let c := head2 .mx (0x23 * 2 ^ 120 + 31 * 2 ^ 67) 0 0 c0
     heads c .mx (fun e => e.op8 == 0x23 && c.verdict true e == .start
       && decide (1024 * e.zeroDesc.abase + 4 * e.zeroDesc.elems ≤ 0x2000 * wbits c.misc.part 6 6))) = true ∧
    (let c := head2 .mx (0x24 * 2 ^ 120 + 2 ^ 85 + 2 ^ 84 + 31 * 2 ^ 76) 0 0 (acc16 false c0)
     heads c .mx (fun e => e.op8 == 0x24 && c.verdict true e == .start && (c.acc (e.f 85 3)).defd && e.f 84 1 != 0
       && decide ((c.acc (e.f 85 3)).elems ≤ 2048) && c.vregOk (e.f 76 5))) = true ∧
    (let c := head2 .mx (0x24 * 2 ^ 120 + 2 ^ 85 + 2 * 2 ^ 81) 0 0 { acc16 false c0 with rings := vput c0.rings 2 (freshRing 0x8000 256 2 3 2 1) }
     heads c .mx (fun e => e.op8 == 0x24 && c.verdict true e == .start && e.f 84 1 == 0
       && decide ((c.acc (e.f 85 3)).elems / 8 ≤ (c.ring (e.f 81 3)).size))) = true ∧
    ([0x25, 0x26].all fun op =>
      let c := head2 .mx (op * 2 ^ 120 + 2 ^ 85) 0 0 (acc16 false c0)
      heads c .mx fun e => e.op8 == op && c.verdict true e == .start && (match c.mxMoveChecked e with | .ok _ => true | .error _ => false)) = true := by
  decide

/-- LoadStoreAndMatrixHeadsStart, the checks that fail: a register past the partition's, no accumulator of the shape, one of the other
type, stores whose format needs draws and does not, and storage past the accumulators'. -/
theorem wit_LoadStoreAndMatrixHeadsStart_checks :
    let few := fun (c : Ctx) => { c with misc := { c.misc with part := 0x80110 } }
    ([(.ld, 1), (.st, 4)].all fun x : Unit7 × Nat =>
      let c := head2 x.1 (x.2 * 2 ^ 120 + 16 * 2 ^ 79) 0 0 (few c0)
      heads c x.1 fun e => !c.vregOk (e.f 79 5) && c.verdict true e == .start) = true ∧
    ([(.ld, 2), (.st, 5)].all fun x : Unit7 × Nat =>
      let c := head2 x.1 (x.2 * 2 ^ 120 + 2 ^ 79) 0x106 0x100010 c0
      heads c x.1 fun e => !accMatches (c.acc (e.f 79 5 % 8)) e.strA && c.verdict true e == .start) = true ∧
    (let c := head2 .ld (2 * 2 ^ 120 + 2 ^ 79) 0x106 0x100010 (acc16 true c0)
     heads c .ld fun e => accMatches (c.acc (e.f 79 5 % 8)) e.strA && e.strA.fmt != 2) = true ∧
    (let c := fun (f : Nat) => head2 .st (5 * 2 ^ 120 + 2 ^ 79 + 5 * 2 ^ 27) (0x100 + f) 0x100010 (acc16 false c0)
     heads (c 5) .st (fun e => e.f 27 3 == 5 && accMatches ((c 5).acc (e.f 79 5 % 8)) e.strA && (c 5).verdict true e == .start && !fmtHolds e.strA.fmt 6)
       && heads (c 6) .st fun e => e.f 27 3 == 5 && accMatches ((c 6).acc (e.f 79 5 % 8)) e.strA && fmtHolds e.strA.fmt 6) = true ∧
    (let c := head2 .mx (0x23 * 2 ^ 120 + 31 * 2 ^ 67) 0 0 { c0 with misc := { c0.misc with part := 0x80020 } }
     heads c .mx fun e => c.verdict true e == .start && decide (0x2000 * wbits c.misc.part 6 6 < 1024 * e.zeroDesc.abase + 4 * e.zeroDesc.elems)) = true ∧
    ([0x20, 0x21, 0x22, 0x24].all fun op =>
      let c := head2 .mx (op * 2 ^ 120 + 2 ^ 85 + 2 ^ 84 + 2 * 2 ^ 71 + 2 * 2 ^ 68) 0 0 (fullRing .mx c0)
      heads c .mx fun e => e.op8 == op && c.verdict true e == .start && !(c.acc (e.f 85 3)).defd) = true ∧
    (let c := head2 .mx (0x24 * 2 ^ 120 + 2 ^ 85 + 2 ^ 84 + 16 * 2 ^ 76) 0 0 (few (acc16 false c0))
     heads c .mx fun e => (c.acc (e.f 85 3)).defd && decide ((c.acc (e.f 85 3)).elems ≤ 2048) && e.f 84 1 != 0 && !c.vregOk (e.f 76 5)) = true ∧
    ([0x25, 0x26].all fun op =>
      let c := head2 .mx (op * 2 ^ 120 + 2 ^ 85) 0 0 c0
      heads c .mx fun e => c.verdict true e == .start && (match c.mxMoveChecked e with | .ok _ => false | .error _ => true)) = true := by decide

/-- A core of die 0 other than the focus runs the same launch. -/
def peer : Core := { Core.zero 3 with ctx := c0 }

/-- CopyHeadsStartAndCopiesEnd: each copy that starts, in the pool and through the gate; a far core that runs the launch and one that
does not; late and early heads; copies that end in each way. -/
theorem wit_CopyHeadsStartAndCopiesEnd :
    (([0x40, 0x41, 0x42, 0x43, 0x44, 0x58, 0x59, 0x5A] : List Nat).all fun op =>
      let c := head2 .cp0 (op * 2 ^ 120) 0 0 c0
      heads c .cp0 fun e => e.op8 == op && c.verdict true e == .start) = true ∧
    (let c := head2 .cp0 (0x58 * 2 ^ 120) 0 0 c0
     heads c .cp0 (fun e => e.gatedMoves 0)) = true ∧
    (let s : State := { on (head2 .cp0 (0x40 * 2 ^ 120 + 2 ^ 2 + 3 * 2 ^ 4) 0 0) with others := [peer], unit := .cp0 }
     heads s.core.ctx s.unit (fun e => e.gatedMoves 0 == false && e.farCores 0 == [3] && s.farRefusal 3 == none)) = true ∧
    (let s : State := { on (head2 .cp0 (0x40 * 2 ^ 120 + 2 ^ 2 + 3 * 2 ^ 4) 0 0) with unit := .cp0 }
     heads s.core.ctx s.unit (fun e => (e.farCores 0).findSome? s.farRefusal == some causePoolBound)) = true ∧
    (let c := c0.onQueue .cp0 fun x => { x with wait := [{ Entry.blank 7 .cp0 with img := BitVec.ofNat 128 (0x40 * 2 ^ 120) }] }
     heads c .cp0 (c.verdict true · == .timing)) = true ∧
    (let c := { head2 .cp0 (0x40 * 2 ^ 120) 0 0 c0 with cyc := 0 }
     heads c .cp0 (c.verdict true · == .wait)) = true := by decide

/-- A started copy in the pool with extra image bits, behind `n` others, its end sequence come to `st`; MX's template 5 is a follow-on when `t`. -/
def copying (op img n st : Nat) (t : Bool) (c : Ctx) : Ctx :=
  let q : Stream := ⟨vput (Vector.replicate 7 0) 1 (BitVec.ofNat 64 (2 ^ 10))⟩
  let e := { Entry.blank 9 .cp0 with img := BitVec.ofNat 128 (op * 2 ^ 120 + img), stage := st, strA := q, strB := q }
  let c := if t then c.setTmpl 2 5 (BitVec.ofNat 128 (0x23 * 2 ^ 120 + 2 ^ 119)) else c
  { c with run := List.replicate n (Entry.blank 8 .cp0) ++ [e] }

/-- The entry that ends satisfies `f`. -/
def ending (c : Ctx) (f : Entry → Bool) : Bool := (c.run.find? (fun x => x.uid = 9)).any f

/-- CopyHeadsStartAndCopiesEnd, the ends: behind another and alone, with a follow-on placed, held and refused, `cp.copym` in its die and
beyond, each later stage, and completion words that are counted, with room and with none. -/
theorem wit_CopiesEnd :
    let foll := 2 ^ 58 + 5 * 2 ^ 52
    let c := fun (n st : Nat) => copying 0x40 0 n st false c0
    let f := fun (t : Bool) => copying 0x40 foll 0 2 t c0
    let m := fun (far acks : Nat) => copying 0x41 (far * 2 ^ 4 + 2 ^ 55) 0 2 false { c0 with ackc := vput c0.ackc 0 acks }
    let w := fun (acks : Nat) => copying 0x40 (1 + 128 * 2 ^ 4 + 2 ^ 2) 0 2 false { c0 with ackc := vput c0.ackc 0 acks }
    let full := (f true).onQueue .mx fun q => { q with wait := List.replicate 32 (Entry.blank 1 .mx) }
    ending (c 1 0) (fun e => decide (e.stage < 2) && (c 1 0).earlierCopy e) = true ∧
    ending (c 0 1) (fun e => decide (e.stage < 2) && !(c 0 1).earlierCopy e) = true ∧
    ending full (fun e => e.stage == 2 && e.follows && full.full .mx) = true ∧
    ending (f true) (fun e => e.follows && !(f true).full .mx && (match (f true).followOn e 1 with | .ok _ => true | .error _ => false)) = true ∧
    ending (f false) (fun e => e.follows && (match (f false).followOn e 1 with | .ok _ => false | .error _ => true)) = true ∧
    ending (m 1 0) (fun e => e.op8 == 0x41 && !e.follows && !e.gatedMoves 0) = true ∧
    ending (m 99 4094) (fun e => e.gatedMoves 0 && e.rectangle.length == 2 && (m 99 4094).ackRoomFor 2) = true ∧
    ending (m 99 4095) (fun e => e.gatedMoves 0 && !(m 99 4095).ackRoomFor e.rectangle.length) = true ∧
    ending (c 0 3) (fun e => e.stage == 3) = true ∧ ending (c 0 4) (fun e => decide (4 ≤ e.stage) && !e.cside) = true ∧
    ending (c 0 2) (fun e => !e.follows && e.op8 != 0x41) = true ∧
    ending (w 4095) (fun e => e.cside && e.gatedMoves 0 && (w 4095).ackRoom) = true ∧
    ending (w 4096) (fun e => e.cside && e.gatedMoves 0 && !(w 4096).ackRoom) = true := by decide

/-- An NM head with its target. -/
def nmHead (op img va : Nat) : Ctx :=
  c0.onQueue .nm fun x => { x with wait := [{ Entry.blank 7 .nm with img := BitVec.ofNat 128 (op * 2 ^ 120 + 2 ^ 119 + img), val1 := BitVec.ofNat 64 va }] }

/-- NearMemoryAtBothEnds: each operation's head; an operand block past the pool; a target off by 8, and one that crosses its line. -/
theorem wit_NearMemoryAtBothEnds :
    (([0x60, 0x61, 0x62, 0x63, 0x64, 0x65, 0x66] : List Nat).all fun op =>
      let c := nmHead op 0 0x1000
      heads c .nm fun e => e.op8 == op && c.verdict true e == .start && admitsAll c.misc.part .engineRead (16 * e.f 52 15) e.nmOperand
        && e.val1.toNat % e.nmTarget.1 == 0
        && e.val1.toNat / e.nmTarget.2.2 == (e.val1.toNat + e.nmTarget.2.1 - 1) / e.nmTarget.2.2
        && (c.watch (op != 0x63) false false e.uid e.val1.toNat e.nmTarget.2.1).2 == none) = true ∧
    (let c := nmHead 0x60 (0x5600 * 2 ^ 52) 0x1000
     heads c .nm fun e => c.verdict true e == .start && !admitsAll c.misc.part .engineRead (16 * e.f 52 15) e.nmOperand) = true ∧
    (let c := { nmHead 0x60 0 0x1000 with
       misc := { (nmHead 0x60 0 0x1000).misc with wctl := BitVec.allOnes 64 }, filter := BitVec.allOnes 4096 }
     heads c .nm fun e => c.verdict true e == .start && (c.watch true false false e.uid e.val1.toNat e.nmTarget.2.1).2.isSome) = true ∧
    (let c := nmHead 0x61 0 0x1008
     heads c .nm fun e => e.val1.toNat % e.nmTarget.1 != 0) = true ∧
    (let c := nmHead 0x64 (63 * 2 ^ 42) 0x1004
     heads c .nm fun e => e.val1.toNat % e.nmTarget.1 == 0
       && e.val1.toNat / e.nmTarget.2.2 != (e.val1.toNat + e.nmTarget.2.1 - 1) / e.nmTarget.2.2) = true := by decide

/-- A request in the fabric. -/
def asked (k : ReqKind) : Req := { c0.blankReq 0 k with id := 4, module := 0, pa := 0x1000 }

/-- The machine with requests in flight. -/
def fabric (rs : List Req) (f : State → State) : State := f { on id with reqs := rs }

/-- Words of device memory at addresses. -/
def words (ws : List (Nat × Nat)) (s : State) : State :=
  s.devWrite 0 (ws.flatMap fun w => (toBytes 8 w.2).zipIdx.map fun x => (w.1 + x.2, x.1))

/-- Address space 0 with its root registered and one leaf: 2^30 bytes from VA 0 at PA 0. -/
def mapped (ws : List (Nat × Nat)) : State :=
  words ([(0x100000, 2 ^ 63 + 0x200000), (0x200000, 2 ^ 63 + 2 ^ 62 + 7 * 2 ^ 59)] ++ ws) { on id with roots := [(0, 0x100000)] }

/-- A reduction group of members 0 and 1, of which those in `m` have arrived. -/
def grouped (m : Nat) : State := (fabric [asked (.nm 0 [] 0)] id).devWrite 0
  ((toBytes 8 (1 + 6 * 2 ^ 8 + 6 * 2 ^ 12 + 3 * 2 ^ 32) ++ toBytes 8 100 ++ toBytes 8 m).zipIdx.map fun x => (0x1000 + x.2, x.1))

/-- The MLR clauses: an arrival taken, one of a member that has arrived, and an epoch whose limit is over. -/
theorem wit_MlrAtHome :
    let a := grouped 0
    let b := grouped 1
    let c := a.onSite 0 fun t => { t with mlr := [⟨0x1000, 1, 4, 1, 0, 0, false, none, 0, 0⟩] }
    a.poisonedIn 0x1000 512 = false ∧ (a.mlrGroup 0x1000).ok a.conn.members = true ∧ (a.mlrGroup 0x1000).mask / 2 ^ 0 % 2 = 1 ∧
    (a.mlrGroup 0x1000).arrived / 2 ^ 0 % 2 = 0 ∧ a.mlrArrivals 0x1000 = [] ∧
    b.poisonedIn 0x1000 512 = false ∧ (b.mlrGroup 0x1000).arrived / 2 ^ 0 % 2 = 1 ∧
    (a.nmTouch 0x1000 512).mlrArrivals 0x1000 = [] ∧ (c.nmTouch 0x1000 512).mlrArrivals 0x1000 ≠ [] ∧
    (a.onSite 0 fun t => { t with poison := [0x1000 / 128] }).poisonedIn 0x1000 512 = true ∧
    c.mlrArrivals 0x1000 = [⟨0x1000, 1, 4, 1, 0, 0, false, none, 0, 0⟩] ∧ 0 ≤ c.tick := by decide

theorem wit_NmuAtHome :
    let s := fabric [asked (.nm (BitVec.ofNat 128 (0x60 * 2 ^ 120)) (toBytes 8 0 ++ toBytes 8 7) 0)] id
    let p := s.onSite 0 fun t => { t with poison := [0x1000 / 128] }
    s.req 4 = some (asked (.nm (BitVec.ofNat 128 (0x60 * 2 ^ 120)) (toBytes 8 0 ++ toBytes 8 7) 0)) ∧ s.conn.modnum = 0 ∧
    s.poisonedIn 0x1000 8 = false ∧ p.poisonedIn 0x1000 8 = true ∧ s.mem64 0x1000 = 0 ∧
    (List.range 8).map (fun i => s.devByte 0 (0x1000 + i)) = toBytes 8 0 ∧ (List.range 8).map (fun i => s.devByte 0 (0x1000 + i)) ≠ toBytes 8 1 := by
  decide

/-- NearMemoryAtBothEnds, lists and pointers at home: a request that is not lost; the last node of a list, an empty list and a node that is
misaligned; one to be put behind none and behind another; a chase that ends and one that stops at a bad pointer. -/
theorem wit_NmuAtHome_nodes :
    let r := { asked (.nm (BitVec.ofNat 128 (0x63 * 2 ^ 120)) [] 0) with va := 0x1000 }
    let s := { mapped [(0x1000, 0x2000)] with reqs := [r] }
    let e := mapped []
    let ok := fun (x : State × Except (BitVec 8) Nat) => match x.2 with | .ok _ => true | .error _ => false
    (s.req 4 = some r ∧ s.lost r = false ∧ r.atHome = false ∧ r.abroad = false ∧ r.bySite = false ∧ r.nmSpan = 0) ∧
    e.mem64 0x1000 = 0 ∧ (s.mem64 0x1000 = 0x2000 ∧ ok (s.nmNode r true 0x2000) = true ∧ s.mem64 0x2000 = 0) ∧ ok (s.nmNode r true 0x2004) = false ∧
    (e.mem64 0x1008 = 0 ∧ ok (e.nmNode r false 0x2000) = true) ∧ ok (e.nmNode r false 0x40000001) = false ∧
    (State.nmHops 0 0 0 2 0 0x1000 0 s).2 = .over 0 2 false 0 ∧ (State.nmHops 0 0 0 1 0 0x1004 0x1000 s).2 = .over 0x1000 0 false causeNmuReject ∧
    (State.nmHops 0 0 0 2 0 0x2000 0 s).2 = .over 0 1 true 0 := by decide

/-- Binding slot 2 holds something. -/
def bound (b : Binding) (c : Ctx) : Ctx := { c with binds := vput c.binds 2 b }

/-- A lock at VA 0x1000, its page known to the core's TLB. -/
def lockBinding (h : Bool) : Binding := ⟨true, h, false, false, false, 0x1000, false, 0, 0, 1⟩
/-- Barrier 3. -/
def barBinding (h : Bool) : Binding := ⟨true, h, false, false, true, 3, false, 0, 0, 1⟩
def page : TlbEntry := ⟨0, 0, 65536, 0, 0x40000, 0, 7, 0, 0⟩
def paged (s : State) : State := { s with core := { s.core with tlb := [page] } }

/-- Barrier 7 with counts. -/
def barred (arr obs rel : Nat) (c : Ctx) : Ctx := { c with bars := vput c.bars 7 ⟨arr, obs, rel, [], false, [], 5⟩ }

/-- BindAcquireReleaseAndFence: each way a binding word goes on, with the last descriptor SQ may read and barrier 7 of 8. -/
theorem wit_BindAcquireReleaseAndFence :
    let a := on (regs [0x5FFE0, 0x10])
    let v : Wait := ⟨.served, none, [0x5FFE0], 1, 2 ^ 192 * 1 + 2 ^ 128 * 7⟩
    let w := fun (i : Nat) => BitVec.ofNat 64 (v.value / 2 ^ (64 * i))
    let e := on (bound (lockBinding false))
    let h := paged (on (bound (lockBinding true)))
    let r := h.fencing .rel Entry.fencable
    let q := on (fun c => { bound (lockBinding true) c with ackc := vput c.ackc 1 1 })
    let b := on (bound (barBinding false))
    let f := (on id).fencing .fence Entry.fencable
    let g := (on (fun c => { c with ackc := vput c.ackc 1 1 })).fencing .fence Entry.fencable
    (a.core.ctx.sq.wait = none ∧ (a.reg 1).toNat % 32 = 0 ∧ admitsAll a.core.ctx.misc.part .scalarRead (a.reg 1).toNat 32 = true ∧
      (a.reg 2).toNat % 32 ≠ 0) ∧
    (descZeros (w 0) (w 1) (w 2) (w 3) = true ∧ (descBinding (w 0) (w 1) (w 2) (w 3)).barrier = true ∧
      (descBinding (w 0) (w 1) (w 2) (w 3)).object < partBars a.core.ctx.misc.part ∧ ((on id).core.ctx.binding 2).held = false) ∧
    descZeros 0 (BitVec.ofNat 64 (2 ^ 40)) 0 0 = false ∧
    (f.allSent && f.core.ctx.acked 1) = true ∧ (g.allSent && g.core.ctx.acked 1) = false ∧
    ((h.core.ctx.binding 2).valid = true ∧ (h.core.ctx.binding 2).held = true ∧ (r.allSent && r.core.ctx.acked 1) = true ∧
      (r.core.ctx.binding 2).barrier = false ∧ r.core.ctx.ackRoom = true ∧ (r.translate permRWA 0x1000 0).2 = .at 0 0x41000) ∧
    ((q.fencing .rel Entry.fencable).allSent && (q.fencing .rel Entry.fencable).core.ctx.acked 1) = false ∧
    ((b.core.ctx.binding 2).valid = true ∧ (b.core.ctx.binding 2).barrier = true ∧
      domEN (vat b.core.ctx.domain 0 3) = true ∧ (b.core.ctx.bar 3).out < 2 ∧ (b.core.ctx.binding 2).held = false ∧
      (b.core.ctx.bar 3).arr ≤ (b.core.ctx.bar 3).rel) ∧
    (e.core.ctx.sq.wait = none ∧ (e.core.ctx.binding 2).held = false ∧ ((paged e).translate permRWA 0x1000 0).2 = .at 0 0x41000) ∧
    (on (held .acqLock none [2] acqEnded 0)).core.ctx.sq.wait = some ⟨.acqLock, none, [2], acqEnded, 0⟩ ∧
    ((on id).core.ctx.binding 2).valid = false := by decide

/-- BindAcquireReleaseAndFence, the rest: descriptors that fail one check each, slots empty and held, a page not known yet, a barrier's phase
that is open, and an `acq` that waits. -/
theorem wit_BindAcquireReleaseAndFence_faults :
    let part := (on id).core.ctx.misc.part
    let w : Nat → Word := fun x => BitVec.ofNat 64 x
    let far := w (100 * 2 ^ 32)
    let b := on (fun c => barred 1 0 0 { bound ⟨true, false, false, false, true, 7, false, 0, 0, 1⟩ c with ackc := vput c.ackc 1 1 })
    let n := on (bound (lockBinding false))
    let v := on (held .acqLock none [2, 4, 0, 0x1000] acqSent 0)
    (descZeros 0 0 (w 7) (w 1) = true ∧ (descBinding 0 0 (w 7) (w 1)).barrier = true ∧ 7 < partBars part ∧ ¬(7 < partBars 0x70120)) ∧
    (descZeros 0 0 (w 4) 0 = true ∧ (descBinding 0 0 (w 4) 0).barrier = false ∧ (descBinding 0 0 (w 4) 0).object % 8 ≠ 0) ∧
    (descZeros far (w 1) (w 8) (w 2) = true ∧ (descBinding far (w 1) (w 8) (w 2)).farPool = true ∧ (descBinding far (w 1) (w 8) (w 2)).object % 8 = 0 ∧
      (descBinding far (w 1) (w 8) (w 2)).length ≠ 0 ∧ cidOk (wbits far 32 16) = false) ∧
    ((on (bound (lockBinding true))).core.ctx.binding 2).held = true ∧ ((on id).core.ctx.binding 2).valid = false ∧
    ((n.core.ctx.binding 2).valid = true ∧ (n.core.ctx.binding 2).held = false ∧ (n.core.ctx.binding 2).barrier = false ∧
      (n.translate permRWA 0x1000 0).2 = .wait ∧ n.reg 0 = 0) ∧
    ((b.core.ctx.binding 2).barrier = true ∧ (b.core.ctx.bar 7).rel < (b.core.ctx.bar 7).arr ∧ b.limitOf 0 = none ∧
      ((b.fencing .rel Entry.fencable).allSent && (b.fencing .rel Entry.fencable).core.ctx.acked 1) = false) ∧
    (v.core.ctx.sq.wait = some ⟨.acqLock, none, [2, 4, 0, 0x1000], acqSent, 0⟩ ∧ acqSent ≠ acqEnded ∧ acqSent ≠ acqUnsent) := by decide

/-- LocksAtBothEnds, the wait: each stage of a lock's wait, at its limit and without one. -/
theorem wit_LocksAtBothEnds_wait :
    let w := fun (d : Option Nat) (p : Nat) => on (held .acqLock d [2, 4, 0, 0x1000] p 0)
    let s := fabric [asked (.acquire true 2)] id
    let o := fun (p : Nat) => (⟨.acqLock, some 0, [2, 4, 0, 0x1000], p, 0⟩ : Wait)
    (s.req 4).isSome = true ∧ (asked (.acquire true 2)).abroad = false ∧ lockGrant ≠ lockPark ∧ (o acqSent).awaits 4 = true ∧
    ((w none acqWaits).core.ctx.sq.wait = some ⟨.acqLock, none, [2, 4, 0, 0x1000], acqWaits, 0⟩ ∧ 0 ≤ (w none acqWaits).core.tick) ∧
    ((w (some 0) acqWaits).core.ctx.sq.wait = some (o acqWaits) ∧ 0 ≤ (w (some 0) acqWaits).core.tick ∧ (o acqWaits).onHalted 0 = false) ∧
    (w (some 1) acqWaits).core.tick < 1 ∧ (o acqWaits).onHalted 1 = true ∧ (w (some 0) acqSent).core.ctx.sq.wait = some (o acqSent) ∧
    (w (some 0) acqParked).core.ctx.sq.wait = some (o acqParked) := by decide

/-- The lock word at 0x1000 holds `v`. -/
def lockWord (v : Nat) (k : ReqKind) : State := (fabric [asked k] id).devWrite 0 ((toBytes 8 v).zipIdx.map fun x => (0x1000 + x.2, x.1))

/-- LocksAtBothEnds, the home: a page that permits it; a free word, the requester's token, another's, the dead mark, poison, a page that
is not there, and a parked request. -/
theorem wit_LocksAtBothEnds_home :
    let a := asked (.acquire true 2)
    let s := lockWord 0 (.acquire true 2)
    let tok := s.token a
    let park : Park := ⟨0x1000, 6, 0, 0⟩
    tok ≠ 0 ∧ (s.site 0).locks.length < 1024 ∧ (s.homeNat 0x1000 8).2 = some 0 ∧
    ((lockWord tok (.release 2)).homeNat 0x1000 8).2 = some tok ∧ tok / 2 ^ 62 % 2 = 0 ∧ tok + 1 ≠ tok ∧ (tok + 1) / 2 ^ 62 % 2 = 0 ∧
    ((lockWord (tok + 1) (.acquire true 2)).homeNat 0x1000 8).2 = some (tok + 1) ∧ 2 ^ 62 / 2 ^ 62 % 2 = 1 ∧
    ((s.onSite 0 fun t => { t with poison := [0x1000 / 128] }).homeNat 0x1000 8).2 = none ∧
    ((s.onSite 0 fun t => { t with parks := [park] }).site 0).parks.find? (fun p => p.pa == 0x1000 && p.module == s.issuer a && p.cid == a.cid)
      = some park := by decide

/-- LocksAtBothEnds, the rest: a full lock table and a full park, a park with room, parked requests of this word and of none, and each wait's
stage at its limit. -/
theorem wit_LocksAtBothEnds_full :
    let a := asked (.acquire true 2)
    let s := lockWord 0 (.acquire true 2)
    let tok := s.token a
    let park : Park := ⟨0x1000, 6, 0, 0⟩
    let locks := s.onSite 0 fun t => { t with locks := List.replicate 1024 8 }
    let parks := (lockWord (tok + 1) (.acquire true 2)).onSite 0 fun t => { t with parks := List.replicate 64 park }
    let mine := (lockWord tok (.release 2)).onSite 0 fun t => { t with parks := [park] }
    let w := fun (p : Nat) (as : List Nat) => on (held .acqLock (some 0) as p 0)
    1024 ≤ (locks.site 0).locks.length ∧ 64 ≤ (parks.site 0).parks.length ∧ (s.site 0).parks.length < 64 ∧
    ((mine.homeNat 0x1000 8).2 = some tok ∧ (mine.site 0).parks.find? (·.pa = 0x1000) = some park) ∧
    (s.site 0).parks.find? (·.pa = 0x1000) = none ∧ s.lost a = false ∧ a.atHome = false ∧ a.abroad = false ∧
    ((w acqUnsent [2]).core.ctx.sq.wait = some ⟨.acqLock, some 0, [2], acqUnsent, 0⟩ ∧ [2].length ≤ 1) ∧
    ((w acqUnsent [2, 4]).core.ctx.sq.wait = some ⟨.acqLock, some 0, [2, 4], acqUnsent, 0⟩ ∧ 1 < [2, 4].length) ∧
    (w acqCancelling [2]).core.ctx.sq.wait = some ⟨.acqLock, some 0, [2], acqCancelling, 0⟩ ∧ acqSent ≠ acqWaits := by decide

theorem wit_LocksAtBothEnds_page :
    (({ lockWord 0 (.acquire true 2) with roots := [(0, 0x100000)] } : State).lockPage (asked (.acquire true 2))).2 = some causeXlateAbsent ∧
    ((mapped []).lockPage { asked (.acquire true 2) with va := 0x1000 }).2 = none := by decide

/-- BarrierTimeAndAlignWords: barrier 7 of 8 with none, one and two phases open, released and not; barrier 7 of 7; a disabled one; each
stage of `align`. -/
theorem wit_BarrierTimeAndAlignWords :
    let z := on id
    let o := on (barred 1 0 0)
    let r := on (barred 1 0 1)
    let t := on (barred 2 0 0)
    let u := on (barred 2 0 1)
    let x := on (fun c => { c with misc := { c.misc with part := 0x70120 } })
    let d := on (fun c => { c with domain := Vector.replicate 8 0 })
    let w := on (fun c => held .barw (some 0) [] 3 7 (barred 1 0 0 c))
    let al := fun (p : Nat) (dl : Option Nat) => on (fun c => held .align dl [9, 3] p 7 (barred 1 0 1 c))
    (7 < partBars z.core.ctx.misc.part ∧ domEN (vat z.core.ctx.domain 0 7) = true ∧ domLevel (vat z.core.ctx.domain 0 7) ≠ 0 ∧
      (z.core.ctx.bar 7).out < 2 ∧ (z.core.ctx.bar 7).out = 0 ∧ z.core.ctx.sq.wait = none ∧ z.core.ctx.drainedMask 0xFF = true) ∧
    (2 ≤ (u.core.ctx.bar 7).out ∧ (u.core.ctx.bar 7).released = true) ∧ (2 ≤ (t.core.ctx.bar 7).out ∧ (t.core.ctx.bar 7).released = false) ∧
    ((r.core.ctx.bar 7).out ≠ 0 ∧ (r.core.ctx.bar 7).released = true) ∧ ((o.core.ctx.bar 7).out ≠ 0 ∧ (o.core.ctx.bar 7).released = false) ∧
    (w.core.ctx.sq.wait = some ⟨.barw, some 0, [], 3, 7⟩ ∧ 0 ≤ w.tickEnd ∧ w.suspended5 7 = false) ∧
    partBars x.core.ctx.misc.part ≤ 7 ∧ domEN (vat d.core.ctx.domain 0 7) = false ∧
    ((on (headed .ld (6 * 2 ^ 120))).core.ctx.drainedMask 0xFF = false) ∧
    ((al 1 none).core.ctx.sq.wait = some ⟨.align, none, [9, 3], 1, 7⟩ ∧ ((al 1 none).core.ctx.bar 7).arr ≤ ((al 1 none).core.ctx.bar 7).rel) ∧
    ((al 2 none).alignDue.isSome || (al 2 (some 0)).alignDue.isSome) = true ∧ z.alignDue = none := by decide

/-- BarrierTimeAndAlignWords, the rest: a limit not over and one that does not run, and `align` of a barrier past the partition's, disabled
and of level 0. -/
theorem wit_BarrierTimeAndAlignWords_more :
    let w := fun (d : Nat) => on (fun c => held .barw (some d) [] 3 7 (barred 1 0 0 c))
    let five := fun (c : Ctx) => { c with domain := Vector.replicate 8 (BitVec.ofNat 64 (2 ^ 63 + 5 * 2 ^ 60)) }
    let h := { (on fun c => held .barw (some 0) [] 3 7 (five c)) with conn := { (on id).conn with halted := 1 } }
    let x := on (fun c => { c with misc := { c.misc with part := 0x70120 } })
    let d := fun (v : Nat) => on (fun c => { c with domain := Vector.replicate 8 (BitVec.ofNat 64 v) })
    ((w 5).core.ctx.sq.wait = some ⟨.barw, some 5, [], 3, 7⟩ ∧ (w 5).tickEnd < 5) ∧ h.suspended5 7 = true ∧
    (x.core.ctx.sq.wait = none ∧ partBars x.core.ctx.misc.part ≤ 7) ∧ domEN (vat (d 0).core.ctx.domain 0 7) = false ∧
    (domEN (vat (d (2 ^ 63)).core.ctx.domain 0 7) = true ∧ domLevel (vat (d (2 ^ 63)).core.ctx.domain 0 7) = 0) ∧
    (on (held .align none [9, 3] 3 7)).alignDue = some ⟨.align, none, [9, 3], 3, 7⟩ := by decide

/-- A die whose segment `i` is in use. -/
def segged (i : Nat) (g : Segment) : State := (on id).onDie 0 fun d => { d with segs := vput d.segs i g }

/-- BarrierEventsClimbAndRelease: a root's and a child's report, and a level 1 release whose time has come. -/
theorem wit_BarrierEventsClimbAndRelease :
    let g : Segment := { Segment.zero with used := true, lid := 1, bar := 3, level := 3, mask := 1 }
    let r := segged 63 g
    let c := segged 63 { g with parent := some 0 }
    let b := on (fun c => c.onBar 7 fun b => { b with due := [⟨0, false, []⟩] })
    (((r.die 0).seg 63).used = true ∧ ((r.die 0).seg 63).parent = none ∧ ((r.die 0).seg 63).dormant = false ∧ 2 < ((r.die 0).seg 63).level) ∧
    (((c.die 0).seg 63).parent = some 0 ∧ (c.die 0).segOf 1 3 = some 63 ∧ ((c.die 0).seg 63).dormant = false) ∧
    (64 ≤ 64 + 7 ∧ (b.core.ctx.bar (64 + 7 - 64)).due = [⟨0, false, []⟩] ∧ domLevel (vat b.core.ctx.domain 0 (64 + 7 - 64)) ≠ 0) := by decide

/-- BarrierEventsClimbAndRelease, the rest: a segment not in use, a level 5 root on the set's root and off it, a dormant root, a parent with
no segment, releases not due, due at level 0 and not, a tree's release, a core no segment serves, and a level 5 report that is the
last and one that is not. -/
theorem wit_BarrierEventsClimbAndRelease_more :
    let g : Segment := { Segment.zero with used := true, lid := 1, bar := 3, level := 5, mask := 1 }
    let r := segged 63 g
    let off := { r with conn := { r.conn with modnum := 1, members := 3 } }
    let n := segged 63 { g with parent := some 5 }
    let z := on (fun c => { c with domain := Vector.replicate 8 (BitVec.ofNat 64 (2 ^ 63)) })
    let due := fun (k : Nat) (s : State) => s.ctx fun c => c.onBar 7 fun b => { b with due := [⟨k, false, []⟩] }
    let q := due 0 (on (fun c => headed .ld (6 * 2 ^ 120) { c with domain := Vector.replicate 8 (BitVec.ofNat 64 (2 ^ 63 + 1)) }))
    (((r.die 0).seg 62).used = false ∧ (r.die 0).segOf 1 3 = some 63) ∧
    (((r.die 0).seg 63).parent = none ∧ ((r.die 0).seg 63).dormant = false ∧ ((r.die 0).seg 63).level = 5 ∧ r.setRoot = true) ∧ off.setRoot = false ∧
    (((segged 63 { g with mask := 0 }).die 0).seg 63).dormant = true ∧ (((n.die 0).seg 63).parent = some 5 ∧ (n.die 5).segOf 1 3 = none) ∧
    ((z.core.ctx.bar 7).due = [] ∧ 64 ≤ 71) ∧
    (((due 0 z).core.ctx.bar 7).due = [⟨0, false, []⟩] ∧ domLevel (vat z.core.ctx.domain 0 7) = 0 ∧
      z.core.ctx.drainedAll (domEMask (vat z.core.ctx.domain 0 7)) = true) ∧
    (((due 4 z).core.ctx.bar 7).due = [⟨4, false, []⟩] ∧ (4 : Nat) ≠ 0) ∧
    (domLevel (vat q.core.ctx.domain 0 7) = 0 ∧ q.core.ctx.drainedAll (domEMask (vat q.core.ctx.domain 0 7)) = false) ∧
    (63 < 64 ∧ 2 < ((r.die 0).seg 63).level) ∧
    ((on id).die 0).segs.toList.all (fun g => !(g.used && g.mask.getLsbD 7 && (none == (none : Option Nat) || none == some g.lid))) = true ∧
    (on id).setRoot = true ∧ ((List.range 32).filter fun m => (on id).conn.members.getLsbD m && !(on id).conn.dead.getLsbD m) = [0] := by decide

/-- Group 5 open on slot 2. -/
def opened (c : Ctx) : Ctx := { bound (lockBinding true) c with groups := vput c.groups 5 ⟨.opened, 1, 2, 1, 0, [], 0, [], 0⟩ }

/-- CommitGroupsHoldAndPublish: a group free, open, abandoned and ready to commit; a site with room and one that is full. -/
theorem wit_CommitGroupsHoldAndPublish :
    let i := on (fun c => regs [1] (bound (lockBinding true) c))
    let s := on opened
    let f := s.fencing .commit fun e => e.eng == .cp0 || e.eng == .cp1
    let q := on (fun c => (opened c).onQueue .cp0 fun q => { q with wait := [{ Entry.blank 7 .cp0 with img := BitVec.ofNat 128 (0x5A * 2 ^ 120) }] })
    let h := fabric [asked (.gput 5 1)] id
    ((i.groupOf 5).state ≠ .opened ∧ (i.core.ctx.binding 2).valid = true ∧ wbits (i.reg 1) 32 32 = 0 ∧ i.reg 1 ≠ 0 ∧
      ((i.reg 1).truncate 32 &&& ~~~i.conn.members) = 0) ∧
    ((s.groupOf 5).state = .opened ∧ s.core.ctx.sq.wait = none ∧ (s.core.ctx.binding (s.groupOf 5).slot).held = true ∧ f.allSent = true ∧
      (f.groupOf 5).out = 0 ∧ (f.groupOf 5).cause = 0 ∧ f.core.ctx.acked (f.core.ctx.binding (f.groupOf 5).slot).scope = true) ∧
    (q.fencing .commit fun e => e.eng == .cp0 || e.eng == .cp1).allSent = false ∧
    (h.req 4 = some (asked (.gput 5 1)) ∧ (asked (.gput 5 1)).module = h.conn.modnum ∧ (h.site 0).held.length < 32768) := by decide

/-- CommitGroupsHoldAndPublish, the rest: an empty slot and a mask that names no member; a commit refused, one not acknowledged, and each word
that waits for its sites, answered and not; a lock and a barrier to be released; a site that holds this group's store, and a full one. -/
theorem wit_CommitGroupsHoldAndPublish_more :
    let g : Group := ⟨.opened, 1, 2, 1, 0, [], 0, [], 0⟩
    let s := fun (g : Group) (b : Binding) (p : Nat) => paged (on (fun c => held .commit none [] p 0 (bound b { c with groups := vput c.groups 5 g })))
    let busy := { g with state := .committing, sites := [(0, 0)] }
    let done := { busy with answers := [(0, 0, 0)] }
    let drop := lockBinding false
    let bar := { barBinding false with object := 7 }
    let f := (on (fun c => { opened c with ackc := vput c.ackc 1 1 })).fencing .commit fun e => e.eng == .cp0 || e.eng == .cp1
    let put : Held := ⟨0, 0, 5, 1, 0, 0x1000, []⟩
    let h := (fabric [asked (.gput 5 1)] id).onSite 0 fun t => { t with held := [put] }
    (((on id).core.ctx.binding 2).valid = false ∧ ((on id).groupOf 5).state = .free) ∧
    (wbits (BitVec.ofNat 64 2) 32 32 = 0 ∧ (BitVec.ofNat 32 2 &&& ~~~(on id).conn.members) ≠ 0) ∧
    f.core.ctx.acked (f.core.ctx.binding 2).scope = false ∧ (s { g with cause := 0x38 } (lockBinding true) 0).groupOf 5 = { g with cause := 0x38 } ∧
    ((s busy (lockBinding true) 1).core.ctx.sq.wait = some ⟨.commit, none, [], 1, 0⟩ ∧ ((s busy (lockBinding true) 1).groupOf 5).answered = false) ∧
    (((s done (lockBinding true) 1).groupOf 5).answered = true ∧ ((s done (lockBinding true) 1).core.ctx.binding 2).barrier = false ∧
      (s done (lockBinding true) 1).core.ctx.ackRoom = true ∧ ((s done (lockBinding true) 1).translate permRWA 0x1000 0).2 = .at 0 0x41000) ∧
    (((s done drop 2).core.ctx.binding 2).held = false ∧ ((s done drop 2).core.ctx.binding 2).barrier = false ∧
      (s done drop 2).core.ctx.sq.wait = some ⟨.commit, none, [], 2, 0⟩) ∧
    (((s done bar 1).core.ctx.binding 2).barrier = true ∧ domEN (vat (s done bar 1).core.ctx.domain 0 7) = true ∧ ((s done bar 1).core.ctx.bar 7).out < 2) ∧
    (((h.site 0).held.filter fun k => !k.tagged (h.issuer (asked (.gput 5 1))) 0 5 || k.gen == 1) = [put]) ∧
    32768 ≤ (((fabric [] id).onSite 0 fun t => { t with held := List.replicate 32768 put }).site 0).held.length := by decide +kernel

/-- MonitorAndFilterWords: nominations and references the checks pass and refuse, and an insertion's first and last granule. -/
theorem wit_MonitorAndFilterWords :
    (on id).core.ctx.nomFault 0 = none ∧ ((on id).core.ctx.nomFault (BitVec.allOnes 64)).isSome = true ∧ refOk 0 = true ∧ boundOk 0 = true ∧
    refOk (BitVec.allOnes 64) = false ∧ (on id).core.ctx.sq.wait = none ∧
    (on (held .wfilt none [] 255 0)).core.ctx.sq.wait = some ⟨.wfilt, none, [], 255, 0⟩ := by decide

/-- TakingATrapSavesAndEnters: a handler enabled, and one that runs. -/
theorem wit_TakingATrapSavesAndEnters :
    let e := on (fun c => { c with trap := { c.trap with vec := BitVec.ofNat 64 (2 ^ 63 + 8191) } })
    let i := on (fun c => { c with trap := { c.trap with vec := BitVec.ofNat 64 (2 ^ 63), inh := true } })
    (wbits e.core.ctx.trap.vec 63 1 = 1 ∧ e.core.ctx.trap.inh = false) ∧ ¬(wbits i.core.ctx.trap.vec 63 1 = 1 ∧ i.core.ctx.trap.inh = false) := by decide

/-- TrapWordsRaiseReadAndReturn: codes at the table's ends; queue entries that are and are not; `rett` in and out of a handler, in its
first and its last cycle; `bkpt` both ways. -/
theorem wit_TrapWordsRaiseReadAndReturn :
    let q := on (fun c => { c with replay := [Entry.blank 7 .ld] })
    let h := on (fun c => { c with trap := { c.trap with inh := true } })
    let b := on (fun c => headed .ld (6 * 2 ^ 120) { c with trap := { c.trap with inh := true } })
    let w := fun n => on (held .rett none [] n 0)
    trapCodes.contains 1 = true ∧ trapCodes.contains 0x30 = true ∧ trapCodes.contains 0x3F = false ∧
    q.core.ctx.replay[0]? = some (Entry.blank 7 .ld) ∧ q.core.ctx.replay[31]? = none ∧
    ((on id).core.ctx.sq.wait = none ∧ (on id).core.ctx.trap.inh = false) ∧
    (h.core.ctx.trap.inh = true ∧ (h.core.ctx.drainedMask 0xFF && h.core.ctx.settledWords) = true) ∧
    (b.core.ctx.trap.inh = true ∧ (b.core.ctx.drainedMask 0xFF && b.core.ctx.settledWords) = false) ∧
    ((w 7).core.ctx.sq.wait = some ⟨.rett, none, [], 7, 0⟩ ∧ 0 < 7 ∧ 7 < 8) ∧ (w 8).core.ctx.sq.wait = some ⟨.rett, none, [], 8, 0⟩ ∧
    (on id).core.dbg.bkstop = false := by decide

/-- What a trap has set aside. -/
def setAside : Aside := ⟨0, c0.queues, c0.amends, .zero, [], none, [], [], [], 0, none⟩

/-- ResumingRestoresTheResumePoint: with and without a pending branch. -/
theorem wit_ResumingRestoresTheResumePoint :
    let s := fun (v : Nat) => on (fun c => { c with aside := some setAside, trap := { c.trap with pc := BitVec.ofNat 64 v, inh := true } })
    (s 0).core.ctx.replay = [] ∧ (s 0).core.ctx.aside = some setAside ∧ (s 0).core.ctx.faults = [] ∧
    wbits (s (2 ^ 31)).core.ctx.trap.pc 31 1 = 1 ∧ ¬wbits (s 0).core.ctx.trap.pc 31 1 = 1 := by decide

/-- A slice of die 0 that runs for launch 1, and handles 3 and 4 of dies 0 and 1 joined. -/
def hnd (st : HandleState) (far : Nat) : Handle :=
  { Handle.zero with state := st, owner := some 1, route := some ⟨far, 1, 1, if far = 1 then 4 else 3, false⟩, estAt := some 0 }
def circ (a b : HandleState) : State :=
  (((({ on id with seqDie := 0, seqLid := 1 } : State).onDie 0 fun d => { d with
    handles := vput d.handles 3 (hnd a 1), seqs := [{ Seq.zero with lid := 1, running := true }] }).onDie 1 fun d => { d with
    handles := vput d.handles 4 (hnd b 0) }))

/-- A slice in an `rpt` body. -/
def inBody : State := (circ .live .live).onSlice fun q => { q with body := some (1, 2, 3) }

/-- SequencerWordsAndHandles: `atstep` before and at its tick, `rpt` in a body and not, cores 99 and 100, and each state of a handle. -/
theorem wit_SequencerWordsAndHandles :
    let l := circ .live .live
    let d := circ .dark .dark
    let f := circ .faulted .live
    let n := { circ .dark .dark with svc := { (circ .dark .dark).svc with bisque := false } }
    let r := d.onHandle 0 3 fun x => { x with route := none }
    (l.tick < l.slice.t0 + (1 : BitVec 27).toNat + 0 ∧ l.slice.t0 + (0 : BitVec 27).toNat + 0 ≤ l.tick) ∧
    (l.slice.body = none ∧ inBody.slice.body.isSome = true) ∧
    (99 < (100 : BitVec 7).toNat ∧ (99 : BitVec 7).toNat ≤ 99) ∧
    ((l.coreOf 0).ctx.live = true ∧ (l.coreOf 0).ctx.lid = l.seqLid ∧ l.clusterShut 0 = false) ∧
    ((d.handle 0 3).heldBy d.seqLid = true ∧ (d.handle 0 3).state = .dark ∧ (399 : BitVec 9).toNat ≠ d.seqDie ∧ (399 : BitVec 9).toNat < 400) ∧
    ((l.handle 0 3).heldBy l.seqLid = true ∧ (l.handle 0 3).state = .live ∧ (l.handle 0 3).up = true ∧ l.peerOf 0 3 = some (1, 4) ∧
      ((l.darken 0 3).handle 1 4).up = true) ∧
    ((n.handle 0 3).route.isSome = true ∧ n.svc.bisque = false) ∧ d.svc.bisque = true ∧
    ((r.handle 0 3).heldBy 1 = true ∧ (r.handle 0 3).route = none) ∧ ((f.handle 0 3).state = .faulted ∧ (f.handle 0 3).up = false) ∧
    ¬((d.handle 0 5).heldBy d.seqLid = true) := by decide

/-- SequencerWordsAndHandles, the rest: ALT 1 and 2, a route to the own die and past the last, a lit handle, a far end that is not up, and none. -/
theorem wit_SequencerWordsAndHandles_more :
    let d := circ .dark .dark
    let far := fun (st : HandleState) => circ .live st
    let alone := (circ .live .live).onHandle 1 4 fun x => { x with route := none }
    let shut := (circ .live .live).ctx fun c => { c with live := false }
    ((1 : BitVec 2).toNat < 2 ∧ 2 ≤ (2 : BitVec 2).toNat) ∧ (0 : BitVec 9).toNat = d.seqDie ∧ 400 ≤ (400 : BitVec 9).toNat ∧
    ((circ .live .live).handle 0 3).state ≠ .dark ∧
    ((far .faulted).peerOf 0 3 = some (1, 4) ∧ (((far .faulted).darken 0 3).handle 1 4).up = false) ∧
    ((alone.handle 0 3).up = true ∧ alone.peerOf 0 3 = none) ∧ (shut.coreOf 0).ctx.live = false := by decide

/-- CircuitEventsMoveBothEnds: a settled pair, a pair up at the end of its hold, a live pair, a repairable pair, and units. -/
theorem wit_CircuitEventsMoveBothEnds :
    let late := fun (s : State) => { s with tick := 1024 }
    let s := late (circ .settling .settling)
    let h := (circ .live .live).onHandle 0 3 fun x => { x with holdEnd := some 0 }
    let l := circ .live .live
    let u : CircuitUnit := { CircuitUnit.blank 0 3 0 with id := 5 }
    let q := { l with units := [u] }
    (s.peerOf 0 3 = some (1, 4) ∧ (s.handle 0 3).state = .settling ∧ (s.handle 0 3).estAt.getD 0 + circSettle ≤ s.tick ∧
      (s.handle 1 4).state = .settling) ∧
    (h.peerOf 0 3 = some (1, 4) ∧ (h.handle 0 3).up = true ∧ (h.handle 0 3).holdEnd = some h.tick ∧ (h.handle 1 4).up = true) ∧
    (l.peerOf 0 3 = some (1, 4) ∧ (l.handle 0 3).state = .live ∧ 799 < 800 ∧ ((l.faultHandle 0 3 4 7 799).handle 1 4).state = .live) ∧
    (l.handle 0 3).state ≠ .settling ∧ q.units.find? (fun v => v.id = 5) = some u ∧ u.stage = 0 := by decide

/-- A repairable pair. -/
theorem wit_CircuitEventsMoveBothEnds_repair :
    let s0 := ((circ .live .live).faultHandle 0 3 4 7 799).faultHandle 1 4 4 7 799
    let s := { s0 with tick := 64, svc := { s0.svc with bisque := false } }
    s.peerOf 0 3 = some (1, 4) ∧ 0 < 1 ∧ (s.handle 0 3).repairable s.tick = true ∧ (s.handle 1 4).repairable s.tick = true ∧
    s.svc.bisque = false ∧ (((s.onHandle 0 3 Handle.repaired).onHandle 1 4 Handle.repaired).handle 0 3).route.isSome = true := by decide

/-- CircuitEventsMoveBothEnds, the rest: a settling end that no far end meets, one not due, groups in use and not, a switch region on the path
and off it, a hold that has no far end, a pair that may not settle again, and units of each stage. -/
theorem wit_CircuitEventsMoveBothEnds_more :
    let late := fun (s : State) => { s with tick := 1024 }
    let one := late (circ .settling .dark)
    let early := circ .settling .settling
    let l := circ .live .live
    let alone := (l.onHandle 1 4 fun x => { x with route := none }).onHandle 0 3 fun x => { x with holdEnd := some 0 }
    let u := fun (k : Nat) => ({ CircuitUnit.blank 0 3 k with id := 5 } : CircuitUnit)
    ((one.handle 0 3).state = .settling ∧ (one.handle 0 3).estAt.getD 0 + circSettle ≤ one.tick ∧ one.peerOf 0 3 = some (1, 4) ∧
      (one.handle 1 4).state ≠ .settling) ∧
    ((early.handle 0 3).state = .settling ∧ early.tick < (early.handle 0 3).estAt.getD 0 + circSettle ∧
      (early.handle 0 3).lgroup.getLsbD 4 = false ∧ (early.handle 0 3).lgroup.getLsbD 3 = true) ∧
    ((l.handle 0 3).lgroup.getLsbD 3 = true ∧ (l.handle 0 3).lgroup.getLsbD 4 = false ∧
      ((l.faultHandle 0 3 2 3 0x3FF).handle 1 4).state = .live) ∧
    (799 ∉ (l.handle 0 3).path 0 ++ (l.handle 1 4).path 1 ∧ ((l.handle 0 3).path 0 ++ (l.handle 1 4).path 1).head?.isSome = true) ∧
    ((alone.handle 0 3).up = true ∧ (alone.handle 0 3).holdEnd = some alone.tick ∧ alone.peerOf 0 3 = none) ∧
    ((l.handle 0 3).holdEnd ≠ some l.tick ∧ (l.handle 0 3).repairable l.tick = false) ∧
    ([1, 2, 3, 4, 5].all fun k => ({ l with units := [u k] } : State).units.find? (fun v => v.id = 5) == some (u k)) = true := by decide

/-- CircuitPortsAndReads: a send and a window on a held handle, a send on none, and each state `cwait` may find. -/
theorem wit_CircuitPortsAndReads :
    let at' := fun (s : State) (op h : Nat) => { s with unit := .cp0, core := { s.core with ctx := head2 .cp0 (op * 2 ^ 120 + h * 2 ^ 47) 0 0 s.core.ctx } }
    let s := at' (circ .live .live) 0x50 3
    let b := at' (circ .live .live) 0x51 3
    let n := at' (circ .live .live) 0x50 9
    let up := fun (st : HandleState) =>
      let s0 := (circ st .live).onHandle 0 3 (·.see 0 true)
      { s0 with svc := { s0.svc with bisque := false } }
    (heads s.core.ctx .cp0 (fun e => e.op8 == 0x50 && s.core.ctx.verdict true e == .start && s.holdsHandle e.handle
      && (s.handle 0 e.handle).state == .live)) = true ∧
    (heads b.core.ctx .cp0 (fun e => e.op8 == 0x51 && b.core.ctx.verdict true e == .start && b.holdsHandle e.handle
      && decide ((b.handle 0 e.handle).windows.length < 4) && (b.core.ctx.windowFault { e with total := e.cpBytes 0 }).isNone
      && wbits b.core.ctx.misc.wctl 63 1 == 0)) = true ∧
    (heads n.core.ctx .cp0 (fun e => e.op8 == 0x50 && !n.holdsHandle e.handle && n.core.ctx.verdict true e == .start)) = true ∧
    ((up .live).svc.bisque = false ∧ ((up .live).handleSeen 3).state = .live) ∧ (circ .live .live).svc.bisque = true ∧
    ((up .faulted).handleSeen 3).state = .faulted ∧ ((up .settling).handleSeen 3).state = .settling ∧
    ((up .dark).core.ctx.sq.wait = none ∧ ((up .dark).handleSeen 3).state = .dark) ∧
    ((on (held .cwait (some 0) [] 3 3)).core.ctx.sq.wait = some ⟨.cwait, some 0, [], 3, 3⟩ ∧ 0 ≤ (on id).tickEnd) := by decide

/-- CircuitPortsAndReads, the rest: a held handle that is DARK, a window on a handle not held, a limit not over and none, and the launch. -/
theorem wit_CircuitPortsAndReads_more :
    let at' := fun (s : State) (op h : Nat) => { s with unit := .cp0, core := { s.core with ctx := head2 .cp0 (op * 2 ^ 120 + h * 2 ^ 47) 0 0 s.core.ctx } }
    let d := at' (circ .dark .dark) 0x50 3
    let b := at' (circ .live .live) 0x51 9
    let w := fun (x : Option Nat) => on (held .cwait x [] 3 3)
    (heads d.core.ctx .cp0 fun e => e.op8 == 0x50 && d.core.ctx.verdict true e == .start && d.holdsHandle e.handle && (d.handle 0 e.handle).state != .live) = true ∧
    (heads b.core.ctx .cp0 fun e => e.op8 == 0x51 && b.core.ctx.verdict true e == .start && !b.holdsHandle e.handle) = true ∧
    ((w (some 9)).core.ctx.sq.wait = some ⟨.cwait, some 9, [], 3, 3⟩ ∧ (w (some 9)).tickEnd < 9) ∧
    (w none).core.ctx.sq.wait = some ⟨.cwait, none, [], 3, 3⟩ ∧ (on id).waiting .cwait = none := by decide

/-- RequestsArePerformedAtHome: a read and a write at home, over memory that is whole and poisoned; an operation for a pool; a queue's head
that is taken, refused for a retired core and for one shut; a request that is timed and one that is not. -/
theorem wit_RequestsArePerformedAtHome :
    let w := fabric [{ asked .write with pairs := [(0x1000, 0)], data := [7], timed := true }] id
    let wp := w.onSite 0 fun t => { t with poison := [0x1000 / 128] }
    let r := fabric [{ asked .read with pairs := [(0x1000, 0)], timed := false }] id
    let rp := r.onSite 0 fun t => { t with poison := [0x1000 / 128] }
    let p := fabric [asked (.pool 4 8 0 0 0 0)] id
    let op : RemoteOp := ⟨4, 1, none, 0x1000, false, false, false⟩
    let q := { p with core := { p.core with inbound := [op] } }
    let gone := { q with fuses := { q.fuses with cores := [0] } }
    (w.req 4).isSome = true ∧ w.fillFails 0x1000 1 = false ∧ wp.fillFails 0x1000 1 = true ∧
    ((r.sectorRead [0x1000]).2 = some [0]) ∧ (rp.sectorRead [0x1000]).2 = none ∧
    (asked (.pool 4 8 0 0 0 0)).target.isSome = true ∧ (asked .write).target = none ∧ (asked .write).module = w.conn.modnum ∧
    (q.coreOf 0).inbound.find? (fun op => !op.taken) = some op ∧ q.req 4 = some (asked (.pool 4 8 0 0 0 0)) ∧
    q.retired 0 = false ∧ gone.retired 0 = true ∧ ((q.coreOf 0).ctxOf 1).isSome = true ∧
    (match (q.coreOf 0).ctxOf 1 with | some x => (remoteEffect (q.coreOf 0) x (.pool 4 8 0 0 0 0) 0x1000 (asked (.pool 4 8 0 0 0 0))).1 == 0 | none => false) = true ∧
    (match (q.coreOf 0).ctxOf 1 with | some x => (remoteEffect (q.coreOf 0) x (.pool 4 8 0 0 0 0) 0x5FFF8 (asked (.pool 4 8 0 0 0 0))).1 != 0 | none => false) = true := by
  decide

/-- RequestsArePerformedAtHome, the rest: a full inbound queue and an operation the mesh holds; a request for another module and one that a
formation lost; operations shut out, late and for a launch that is spilled and gone; answers that access the pool and that do not, of a
context that is gone, and for another module; each kind that a time-out ends. -/
theorem wit_RequestsArePerformedAtHome_more :
    let r := asked (.pool 4 8 0 0 0 0)
    let op : RemoteOp := ⟨4, 1, none, 0x1000, false, false, false⟩
    let q := fun (op : RemoteOp) (f : Core → Core) => ({ fabric [r] id with core := f { (fabric [r] id).core with inbound := [op] } } : State)
    let away := { r with epoch := some 0 }
    let c := (on id).core.ctx
    (((q op fun k => { k with inbound := List.replicate 32 op }).coreOf 0).inbound.length = 32 ∧ ((q op fun k => { k with meshed := [9] }).coreOf 0).meshed ≠ []) ∧
    ((q op id).lost away = false ∧ away.atHome = false ∧ away.abroad = true) ∧ (q op id).lost { r with epoch := some 5 } = true ∧
    ((q { op with shut := true } id).coreOf 0).inbound.find? (fun o => !o.taken) = some { op with shut := true } ∧
    ((q { op with late := true } id).coreOf 0).inbound.find? (fun o => !o.taken) = some { op with late := true } ∧
    ((((q { op with lid := 2 } id).coreOf 0).ctxOf ((q { op with lid := 2 } id).opLaunch 0 { op with lid := 2 })) = none ∧
      (q { op with lid := 2 } id).saves.any (fun x => x.cid == 0 && x.ctx.lid == 2) = false ∧
      ({ q { op with lid := 2 } id with saves := [⟨0, { c0 with lid := 2 }, 0⟩] } : State).saves.any (fun x => x.cid == 0 && x.ctx.lid == 2) = true) ∧
    ((r.accesses c 0).isEmpty = false ∧ ((asked .write).accesses c 0).isEmpty = true ∧ r.foreign = none ∧ ((on id).coreOf 0).ctxOf 2 = none) ∧
    ([asked .read, asked .write, asked (.acquire true 2), asked .cancel, r].all fun x => { x with timed := true }.timed && !x.bySite) = true ∧
    ({ asked .read with cid := 0xC800 } : Req).bySite = true ∧ ({ asked .read with foreign := some ⟨1, 0, 5⟩ } : Req).foreign.isSome = true := by decide

/-- TranslationsFillAndInvalidate: a miss that the die's cache holds, one that it does not, and one whose walk runs. -/
theorem wit_TranslationsFillAndInvalidate :
    let s := { on id with core := { (on id).core with xmiss := [⟨0, 0, 0, 1, 1, 0, false⟩] } }
    let c := s.onDie 0 fun d => { d with xcache := [{ page with va := 65536 }] }
    let w := s.onDie 0 fun d => { d with walks := [⟨0, 0, 0, 1, 1, 0, false⟩] }
    (s.die 0).walks.find? (fun m => m.cid == 0 && m.page == 65536 / 65536) = none ∧
    ((s.coreOf 0).xmiss.filter fun m => m.page == 65536 / 65536 && !(s.die 0).missQueue.contains m) = [⟨0, 0, 0, 1, 1, 0, false⟩] ∧
    (w.die 0).walks.find? (fun m => m.cid == 0 && m.page == 65536 / 65536) = some ⟨0, 0, 0, 1, 1, 0, false⟩ ∧
    (c.die 0).xcache.find? (·.covers 0 65536) = some { page with va := 65536 } ∧ (s.die 0).xcache.find? (·.covers 0 65536) = none := by decide

/-- TranslationsFillAndInvalidate, the walks: one that ends at a leaf and one that faults; misses that joined and that did not. -/
theorem wit_TranslationsFillAndInvalidate_walks :
    let m : Miss := ⟨0, 0, 0, 1, 1, 0x100000, false⟩
    let c : Core := { (on id).core with xmiss := [m] }
    (match ((mapped []).walk m.root m.asid 65536 m.kind m.sys).2 with | .ok _ => true | .error _ => false) = true ∧
    (match ((mapped []).walk m.root m.asid (2 ^ 50) m.kind m.sys).2 with | .ok _ => false | .error _ => true) = true ∧
    (c.xmiss.filter fun x => x.asid == m.asid && x.page == m.page && !(([] : List Miss).contains x)) = [m] ∧
    (c.xmiss.filter fun x => x.asid == m.asid && x.page == m.page && !([m].contains x)) = [] := by decide

/-- Flits with good checks: format 0, sequence 0; and one of a message. -/
def flit0 (fmt : Nat) : BitVec 2048 := flitOf 0 0 fmt 0 (List.replicate 240 0)

/-- LinksAndSetsFollowTheirEvents, links: flits good and bad, the eighth retry and the one after, slots, lanes, silence at its limit. -/
theorem wit_LinksAndSetsFollowTheirEvents_links :
    let s := on id
    let r := fun n => s.onLink 5 fun e => { e with retries := n }
    let t := fun n => { s with tick := n }
    ((s.link 5).failed = false ∧ flitOk (flit0 0) = true ∧ flitField (flit0 0) 52 12 = (s.link 5).rxSeq.toNat ∧ flitField (flit0 0) 36 4 ≠ 3) ∧
    (flitOk (flit0 3) = true ∧ flitField (flit0 3) 36 4 = 3) ∧ flitOk (flit0 0 ^^^ 1#2048) = false ∧
    (((r 7).link 5).retries < 8 ∧ 8 ≤ ((r 8).link 5).retries) ∧
    (s.link 6).failed = false ∧ ((s.link 5).acked = (s.link 5).txSeq ∧ 33 ≤ (s.link 5).lanes) ∧
    ((s.link 5).heard + 10000 ≤ (t 10000).tick ∧ (t 9999).tick < (s.link 5).heard + 10000) := by decide +kernel

/-- A slot whose check is good. -/
def goodSlot : BitVec 480 := BitVec.ofNat 480 (crc16 (List.replicate 14 0) * 2 ^ 112)

/-- LinksAndSetsFollowTheirEvents, sets: a member known, alive and silent; forming and leaving, in time and at the limit. -/
theorem wit_LinksAndSetsFollowTheirEvents_sets :
    let s := { on id with conn := { (on id).conn with members := 0x80000001 } }
    let b := { s with tick := 1000000, conn := { s.conn with busy := true } }
    slotOk goodSlot = true ∧
    (31 < 32 ∧ 31 ≠ s.conn.modnum ∧ s.conn.dead.getLsbD 31 = false ∧ s.conn.members.getLsbD 31 = true ∧
      s.conn.halted.getLsbD 31 = false ∧ s.conn.heard.read 0 31 + 10000 ≤ b.tick ∧ s.conn.epoch = s.conn.epoch) ∧
    (b.conn.busy = true ∧ b.conn.reqAt + 1000000 ≤ b.tick) := by decide +kernel

/-- LinksAndSetsFollowTheirEvents, the rest: flits at a port whose module lives and is dead, out of sequence where a replay was asked for and
not; ends of one site; few lanes, none, and flits not acknowledged; a link failed; formations in agreement, disagreement and
incomplete; members unknown. -/
theorem wit_LinksAndSetsFollowTheirEvents_more :
    let s := on id
    let p := fun (d : BitVec 32) => { s.onLink 3080 fun e => { e with peer := some 1 } with conn := { s.conn with dead := d } }
    let r := s.onLink 5 fun e => { e with rxSeq := 5, resend := true }
    let lanes := fun (n : Nat) => s.onLink 5 fun e => { e with lanes := n }
    let f := s.onLink 5 fun e => { e with failed := true, txSeq := 3 }
    let c := fun (ms : BitVec 32) (cs : List SetClaim) => { s.conn with busy := true, reqMembers := ms, claims := cs }
    (2 * meshLinks ≤ 3080 ∧ ((p 0).link 3080).peer.any (fun m => (p 0).conn.dead.getLsbD m) = false ∧ ((p 2).link 3080).peer.any (fun m => (p 2).conn.dead.getLsbD m) = true ∧
      flitField (flit0 0) 36 4 ≠ 2 ∧ ((p 0).link 3080).rxSeq = 0 ∧ ((p 0).links.all (fun x => x.outgoing == [])) = true ∧ ((p 0).link 3080).waiting = []) ∧
    (flitField (flit0 0) 52 12 ≠ (r.link 5).rxSeq.toNat ∧ (r.link 5).resend = true ∧ (s.link 5).resend = false) ∧
    (headOk ((flit0 0).extractLsb' 0 64) = true ∧ slotOk goodSlot = true ∧ endPos 1 = endPos 2 ∧ s.usable 1 = true ∧ s.usable 2 = true) ∧ endPos 1 ≠ endPos 4 ∧
    (((lanes 32).link 5).lanes < 33 ∧ ((lanes 32).link 5).acked = ((lanes 32).link 5).txSeq ∧ ((lanes 32).link 5).lanes ≠ 0) ∧ ((lanes 0).link 5).lanes = 0 ∧
    ((f.link 5).failed = true ∧ (f.link 5).acked ≠ (f.link 5).txSeq ∧ f.usable 5 = false) ∧ s.conn.members.getLsbD 31 = false ∧
    ((c 1 []).disagrees = false ∧ (c 1 []).complete = true) ∧ (c 3 [⟨3080, 1, 7, 0, 0⟩]).disagrees = true ∧ ((c 3 []).disagrees = false ∧ (c 3 []).complete = false) ∧
    s.conn.busy = false ∧ s.tick < (c 1 []).reqAt + 1000000 := by decide +kernel

/-- A loaded image of one schedule for one core, and a launch of it at column and row 199, with its task. -/
def img1 : Image := ⟨0, 0x80000, 0x80120, 0, 0, [(1, 1, [0])], true, [], [], [(3, 0, [0])], [], []⟩
def launch1 (adm : Bool) (st : TaskState) : Launch :=
  ⟨1, 399, 0, 7, 0, 5, 5, 0, 0, 0x50000, 0x80000, 0, 199, 199, 1, 1, [], 0, adm, 0, [⟨51171, 0, st, none⟩], none, none, [], none⟩

/-- The machine with that launch, its task on the focus core. -/
def launched (l : Launch) (f : Ctx → Ctx) : State :=
  { mapped [] with images := [img1], launches := [l], core := { (on f).core with cid := 51171 } }

/-- A launch record at 0x40000 of that image, for one core. -/
def record : List (Nat × Nat) := [(0x40000, 0x80000), (0x40008, 2 ^ 48 + 2 ^ 32 + 199 * 2 ^ 16 + 199), (0x40028, 0x50000)]

/-- LaunchesAreSubmittedSeatedAndEnded. -/
theorem wit_LaunchesAreSubmittedSeatedAndEnded :
    let w := launched (launch1 false .notStarted) (fun _ => Ctx.zero)
    let a := launched (launch1 true .notStarted) (fun c => { c with live := false })
    let q := on (fun c => inSq (fun q => { q with second := true }) c)
    let b := on (headed .ld (6 * 2 ^ 120))
    let r : State := { launched (launch1 true .running) id with reqs := [asked (.launch 0x40000 0x100)] }
    let g := on (fun c => { c with groups := vput c.groups 5 ⟨.opened, 1, 2, 1, 0, [], 0, [], 0⟩ })
    ((w.vaNat 0 8 4).any (fun x => decide (x % 2 ^ 16 < 200) && decide (x / 2 ^ 16 < 200) && cidAt (x % 2 ^ 16) (x / 2 ^ 16) / 128 != 0)) = false ∧
    (w.launchOf 1 = some (launch1 false .notStarted) ∧ w.imageOf (launch1 false .notStarted) = some img1 ∧
      (img1.handles.all fun x => (w.handle x.1 x.2).owner == none) = true ∧ w.coresReady (launch1 false .notStarted) = true ∧
      w.segsFit (w.segmentPlan (launch1 false .notStarted) img1) = true ∧ w.noneAhead (launch1 false .notStarted) img1 = true) ∧
    (a.launchOf 1 = some (launch1 true .notStarted) ∧ (launch1 true .notStarted).t0 = 0 ∧ a.allResident (launch1 true .notStarted) = true ∧
      (a.coreOf 51171).ctx.held = true ∧ (a.coreOf 51171).ctx.lid = 1 ∧ (a.coreOf 51171).ctx.live = false ∧
      ((launch1 true .notStarted).tasks.any fun t => t.cid == 51171 && t.state == .notStarted) = true) ∧
    ((on id).core.ctx.sq.wait = none ∧ ((on id).core.ctx.drainedMask 0xFF && (on id).core.ctx.ackc.toList.all (· == 0)) = true) ∧
    (b.core.ctx.drainedMask 0xFF && b.core.ctx.ackc.toList.all (· == 0)) = false ∧
    (q.core.ctx.sq.second = true ∧ admitsAll q.core.ctx.misc.part .remote (16 * 0x1F) 16 = true ∧ q.core.ctx.launches < 8 ∧ q.core.ctx.ackRoom = true) ∧
    (r.req 4 = some (asked (.launch 0x40000 0x100)) ∧ (r.launchOf 1).any (·.graph == none) = true) ∧
    ((on id).ctx (·.abortOpen)).core.ctx.aborting = false ∧ (g.ctx (·.abortOpen)).core.ctx.aborting = true := by decide

/-- LaunchesAreSubmittedSeatedAndEnded, the rest: records elsewhere, unreadable, refused and accepted; a launch whose cores are taken, one not
resident and one that has started; a task at BKCYC; `launch` past the partition and with no room; requests answered both ways. -/
theorem wit_LaunchesAreSubmittedSeatedAndEnded_more :
    let s : State := { mapped record with images := [img1], core := Core.zero 0 }
    let bad : State := { s with images := [] }
    let taken := launched (launch1 false .notStarted) id
    let gone := launched (launch1 true .notStarted) (fun _ => Ctx.zero)
    let ran := launched { launch1 true .running with t0 := 9 } id
    let k : Core := { (on id).core with dbg := { (on id).core.dbg with bken := true, bkcyc := 10 } }
    let few := on (fun c => inSq (fun q => { q with second := true }) { c with launches := 8 })
    let fails := fun (x : Except Nat Nat) (n : Nat) => match x with | .ok _ => false | .error m => m == n
    ((s.vaNat 0 0x40008 4).any (fun w => decide (w % 2 ^ 16 < 200) && decide (w / 2 ^ 16 < 200) && cidAt (w % 2 ^ 16) (w / 2 ^ 16) / 128 != 0)) = true ∧
    (s.vaAccess 0 (2 ^ 50) 512).2 = none ∧ (s.vaAccess 0 0x40000 512).2.isSome = true ∧
    fails (bad.submit 0 0x40000 0 (some 7) none).2 7 = true ∧ (match (s.submit 0 0x40000 0 (some 7) none).2 with | .ok _ => true | .error _ => false) = true ∧
    (taken.launchOf 1 = some (launch1 false .notStarted) ∧ taken.coresReady (launch1 false .notStarted) = false) ∧
    gone.allResident (launch1 true .notStarted) = false ∧
    (ran.launchOf 1 = some { launch1 true .running with t0 := 9 } ∧ (ran.saves.filter fun x => x.ctx.lid == 1) = []) ∧ k.atBkcyc = true ∧
    admitsAll (on id).core.ctx.misc.part .remote (16 * 0x7FFF) 16 = false ∧
    (few.core.ctx.sq.second = true ∧ ¬(few.core.outstanding Ctx.launches < 8)) ∧ ((on id).reg 1 = 0 ∧ (on id).core.ctx.sq.wait = none) := by decide

/-- LaunchesArePreemptedDebitedAndClosed. -/
theorem wit_LaunchesArePreemptedDebitedAndClosed :
    let s := launched (launch1 true .running) id
    let b := { s with core := { s.core with bank := some { c0 with lid := 2 } } }
    let d := { b with core := { b.core with drain := true } }
    let e := launched { launch1 true .ended with remain := 1 } id
    let p := { s with saves := [⟨51171, { c0 with lid := 1 }, 0⟩] }
    (b.core.bank.isSome = true ∧ b.core.swap = 0 ∧ b.core.dbg.stopped = false) ∧
    ({ b with core := { b.core with swap := 1 } } : State).core.swap ≠ 0 ∧
    (d.core.drain = true ∧ d.quietVictim 51171 2 = true) ∧
    (s.core.drain = false ∧ (s.coreOf 51171).ctx.live = true ∧ (s.coreOf 51171).bank = none) ∧
    (s.launchOf (s.coreOf 51171).ctx.lid = some (launch1 true .running) ∧ (launch1 true .running).stoppable = true ∧ s.atPoint 51171 = some 3) ∧
    ({ s with images := [] } : State).atPoint 51171 = none ∧
    ((launch1 true .running).budget ≠ 0 ∧ (launch1 true .running).remain - 4 ≠ 0 ∧ (launch1 true .running).remain - 5 = 0) ∧
    (e.launchOf 1 = some { launch1 true .ended with remain := 1 } ∧ ({ launch1 true .ended with remain := 1 } : Launch).over = true ∧
      (({ launch1 true .ended with remain := 1 } : Launch).tasks.any fun x => ((e.coreOf x.cid).ctxOf 1).any (·.aborting)) = false) ∧
    (launch1 true .running).over = false ∧ ({ launch1 true .running with tasks := [] } : Launch).over = true ∧
    (s.imageOf (launch1 true .running) = some img1 ∧ s.saves = [] ∧ (launch1 true .running).tasks ≠ []) ∧
    (((launch1 true .running).tasks.all fun t => p.saves.any fun x => x.cid == t.cid && x.ctx.lid == 1) = true ∧
      ((launch1 true .running).tasks.all fun t => t.point == some 3) = false) := by decide

/-- LaunchesArePreemptedDebitedAndClosed, the rest: a spill that runs and one that waits, a victim with requests out, a free core, launches that
hold circuits and do not, the last class, aborting groups, a graph's launch, and tasks all out at one point of a shaped image. -/
theorem wit_LaunchesArePreemptedDebitedAndClosed_more :
    let s := launched (launch1 true .running) id
    let k := fun (f : Core → Core) => ({ s with core := f s.core } : State)
    let lit := s.onHandle 0 3 fun x => { x with owner := some 1, state := .live }
    let ab := launched (launch1 true .ended) fun c => { c with groups := vput c.groups 5 { state := .opened, mask := 1, slot := 2, gen := 1, out := 0, sites := [], cause := 0, answers := [], result := ctrlSent } }
    let out : Launch := { launch1 true .running with tasks := [⟨51171, 0, .preempted, some 3⟩] }
    let m : State := { s with launches := [out], saves := [⟨51171, { c0 with lid := 1 }, 0⟩] }
    let f := { (k fun c => { c with ctx := Ctx.zero }) with launches := [] }
    ((k fun c => { c with spill := some (none, 3) }).coreOf 51171).spill = some (none, 3) ∧
    ((k fun c => { c with dbg := { c.dbg with stopped := true } }).coreOf 51171).dbg.stopped = true ∧
    (({ k fun c => { c with drain := true, bank := some c0 } with reqs := [{ asked .read with cid := 51171 }] } : State).quietVictim 51171 1) = false ∧
    ((f.coreOf 51171).ctx.live = false ∧ (f.coreOf 51171).free = true ∧ (f.coreOf 51171).jobs = []) ∧
    (s.holdsNoCircuit 1 = true ∧ lit.holdsNoCircuit 1 = false) ∧ 3 ≤ ({ launch1 true .running with cls := 3 } : Launch).cls ∧
    ((ab.launchOf 1 = some (launch1 true .ended)) ∧ (launch1 true .ended).over = true ∧
      ((launch1 true .ended).tasks.any fun x => ((ab.coreOf x.cid).ctxOf 1).any (·.aborting)) = true) ∧
    (({ launch1 true .ended with graph := some (9, 0) } : Launch).over = true) ∧
    ((out.tasks.all fun t => m.saves.any fun x => x.cid == t.cid && x.ctx.lid == 1) = true ∧ (out.tasks.all fun t => t.point == some 3) = true ∧
      img1.shaped = true ∧ img1.shapes[0]? = some (1, 1, [0]) ∧ img1.pointAt 3 0 ≠ 0x1FFF ∧ 0 < 1 * 1 ∧ out.col0 + 1 ≤ 200 ∧ out.row0 + 1 ≤ 200) := by decide

/-- Graph 9 at VA 0x60000 with one node of a kind, ready or running; `ws` are its words after the first. -/
def graphed (kind : Nat) (running : Bool) (ws : List Nat) (mem : List (Nat × Nat)) : State :=
  { mapped ([(0x60040, kind)] ++ (ws.zipIdx.map fun w => (0x60048 + 8 * w.2, w.1)) ++ mem) with
    graphs := [⟨9, 0, 0x60000, 1, 0x70000, [⟨0, 0, !running, running, none⟩]⟩], images := [img1], core := Core.zero 0 }

/-- GraphNodesRun: a ready node of each kind; words 0, 1 and 2; a copy that ends and one that has more; a record that is refused. -/
theorem wit_GraphNodesRun_read :
    let has := fun (s : State) (k : Nat) (b : Bool) => (s.firstNode k b).any (fun x => x.1 == 9 && x.2.1 == 0)
    let cond := graphed 3 false [0, 0x78000] [(0x78000, 1)]
    let none3 := graphed 3 false [0, 2 ^ 56] []
    has (graphed 2 false [] []) 2 false = true ∧ has cond 3 false = true ∧ cond.vaNat 0 0x78000 8 = some 1 ∧
    has none3 3 false = true ∧ none3.vaNat 0 (2 ^ 56) 8 = none ∧
    has (graphed 4 false [0, 0x78000] [(0x78000, 2)]) 4 false = true ∧ (graphed 4 false [0, 0x78000] [(0x78000, 2)]).vaNat 0 0x78000 8 = some 2 ∧
    (graphed 4 false [0, 0x78000] []).vaNat 0 0x78000 8 = some 0 ∧ has (graphed 5 false [] []) 5 false = true ∧
    has (graphed 1 true [0, 0x78000, 0x79000, 128] []) 1 true = true ∧ ((graphed 5 true [] []).graphOf 9).isSome = true := by decide

theorem wit_GraphNodesRun_copy :
    let s := graphed 1 true [0, 0x78000, 0x79000, 128] []
    (s.vaAccess 0 0x78000 128).2.isSome = true ∧ (match (s.walk (s.tableRoot 0) 0 0x79000 permW true).2 with | .ok _ => true | .error _ => false) = true ∧
    0 + min (128 - 0) (min (128 - 0x78000 % 128) (128 - 0x79000 % 128)) = 128 ∧
    0 + min (129 - 0) (min (128 - 0x78000 % 128) (128 - 0x79000 % 128)) ≠ 129 := by decide

/-- GraphNodesRun, the rest: a loop whose word cannot be read, copies from and to what cannot be, nodes running and not, and no node of a kind. -/
theorem wit_GraphNodesRun_more :
    let loop := graphed 4 false [0, 2 ^ 56] []
    let src := graphed 1 true [0, 2 ^ 56, 0x79000, 128] []
    let dst := graphed 1 true [0, 0x78000, 2 ^ 56, 128] []
    let run := graphed 5 true [] []
    ((loop.firstNode 4 false).isSome = true ∧ loop.vaNat 0 (2 ^ 56) 8 = none) ∧
    ((src.firstNode 1 true).isSome = true ∧ (src.vaAccess 0 (2 ^ 56) 128).2 = none) ∧
    ((dst.firstNode 1 true).isSome = true ∧ (match (dst.walk (dst.tableRoot 0) 0 (2 ^ 56) permW true).2 with | .ok _ => false | .error _ => true) = true) ∧
    ((run.graphOf 9).any fun g => (g.node 0).running) = true ∧ ((graphed 5 false [] []).graphOf 9).any (fun g => !(g.node 0).running) = true ∧
    ([0, 1, 2, 3, 4, 5].all fun k => ((on id).firstNode k (k == 1)).isNone) = true := by decide

theorem wit_GraphNodesRun_kernel :
    let s := graphed 0 false [0, 0x40000] record
    let r := graphed 0 false [0, 0x40000] []
    (s.firstNode 0 false).any (fun x => x.2.2.getD 2 0 == 0x40000) = true ∧
    (match (s.submit 0 0x40000 0 none (some (9, 0))).2 with | .ok _ => true | .error _ => false) = true ∧
    (match (r.submit 0 0x40000 0 none (some (9, 0))).2 with | .ok _ => false | .error x => x == 1) = true := by decide

/-- PowerWordsAndEvents: levels seen; each way the evaluation may go, at the thresholds; a forced episode; a clock allowed and not; each
step of a cluster's closing and waking. -/
theorem wit_PowerWordsAndEvents :
    let s := on id
    let d := fun (f : Die → Die) => s.onDie 0 f
    let c := fun (f : Cluster → Cluster) => s.onCluster 0 3 f
    let l2 := d fun d => { d with level := 2, levelWas := 2 }
    ((7 : BitVec 3) ≠ 0 ∧ (2 : BitVec 2) ≠ 0 ∧ (2 : BitVec 2) ≠ 3) ∧
    (levelSeen l2.myDie l2.core.tick = 2 ∧ l2.myDie.acked = false) ∧ levelSeen s.myDie s.core.tick ≠ 2 ∧
    ((s.die 0).levelAfter 57600 = (s.die 0).level ∧ (s.die 0).levelAfter 57601 ≠ (s.die 0).level ∧ (s.die 0).levelAfter 57601 ≠ 2 ∧
      (s.die 0).level ≠ 2 ∧ (s.die 0).levelAfter 64001 = 2) ∧
    ((l2.die 0).levelAfter 64000 ≠ (l2.die 0).level ∧ (l2.die 0).levelAfter 64000 ≠ 2 ∧ (l2.die 0).level = 2) ∧
    ((d fun d => { d with episode := some 0 }).die 0).forceAt.isSome = true ∧
    (s.clockAllowed (s.die 0) 1200 = true ∧ s.clockAllowed (s.die 0) 1250 = false) ∧ 9600000 ≤ 9600000 ∧
    ((s.cluster 0 3).clkoff = false ∧ (s.cluster 0 3).gating = false ∧ (s.cluster 0 3).retained = false ∧ (s.cluster 0 3).closing = false ∧
      ((s.clusterCores 0 3).any fun x => x.ctx.held || x.bank.isSome) = false) ∧
    (((c fun k => { k with closing := true, drained := true }).cluster 0 3).drained = true) ∧
    (((c fun k => { k with gating := true }).cluster 0 3).gating = true) ∧
    (((c fun k => { k with waking := true, railoff := true }).cluster 0 3).railoff = true) ∧
    (800 ≤ 1150 ∧ 1150 ≤ 2000 ∧ 1150 < ((d fun d => { d with margin := BitVec.ofNat 64 (1150 * 2 ^ 52) }).die 0).fmhz) ∧
    ((d fun d => { d with margin := BitVec.ofNat 64 (1200 * 2 ^ 52) }).die 0).fmhz ≤ 1200 := by decide

/-- PowerWordsAndEvents, the rest: episodes forced in time and not, energy at and above each limit, a cluster that holds a task and each step of
its gating and waking, and plans below 800 MHz and within 10,000 ticks of a change. -/
theorem wit_PowerWordsAndEvents_more :
    let s := on id
    let d := fun (f : Die → Die) => s.onDie 0 f
    let c := fun (g r o l w : Bool) => (s.onCluster 0 3 fun k => { k with gating := g, retained := r, clkoff := o, railoff := l, waking := w }).cluster 0 3
    let m := fun (n : Nat) (x : Option Nat) => (d fun d => { d with margin := BitVec.ofNat 64 (n * 2 ^ 52), changedAt := x }).die 0
    ((m 0 none).forceAt = none ∧ ((d fun d => { d with level := 2, episode := some 0 }).die 0).forceAt.any (s.tick < ·) = true) ∧
    ({ d (fun d => { d with level := 2, episode := some 0 }) with tick := 40000 } : State).tick = 40000 ∧
    ((((d fun d => { d with level := 2, episode := some 0 }).die 0).forceAt.any (· ≤ 40000)) = true) ∧
    (48000000 ≤ 48000000 ∧ 48000000 < 48000001) ∧ s.clusterShut 0 = false ∧
    ((s.clusterCores 0 0).any fun x => x.ctx.held || x.bank.isSome) = true ∧
    ((c true false false false false).gating = true ∧ (c true true false false false).retained = true ∧ (c true true true false false).clkoff = true) ∧
    ((c false true true true true).waking = true ∧ (c false true true true true).railoff = true ∧ (c false true true false true).clkoff = true ∧
      (c false true false false true).clkoff = false ∧ (c false true true true false).waking = false ∧ (c true true true false false).railoff = false) ∧
    (799 < 800 ∧ 1150 < (m 1150 (some 0)).fmhz ∧ s.tick < 0 + 10000 ∧ (m 1150 (some 0)).changedAt = some 0) := by decide

/-- DebugEventsStopAndGoOn. -/
theorem wit_DebugEventsStopAndGoOn :
    let s := on id
    let b := { s with core := { s.core with dbg := { s.core.dbg with bken := true, bkcyc := 10 } } }
    (s.coreOf 0).dbg.zone = false ∧ b.core.atBkcyc = true ∧ s.core.atBkcyc = false ∧ s.conn.modnum < 32 ∧ s.retired 0 = false ∧
    ({ s with fuses := { s.fuses with cores := [0] } } : State).retired 0 = true := by decide

/-- DebugEventsStopAndGoOn, the rest: a core stopped and not, alone and in a zone, live and not; one that is retired with its launch and with none. -/
theorem wit_DebugEventsStopAndGoOn_more :
    let s := launched (launch1 true .running) id
    let z := { s with core := { s.core with dbg := { s.core.dbg with zone := true, stopped := true } } }
    let none' : State := { (on fun _ => Ctx.zero) with launches := [] }
    ((z.coreOf 51171).dbg.zone = true ∧ (z.coreOf 51171).dbg.stopped = true ∧ (s.coreOf 51171).dbg.zone = false ∧ (s.coreOf 51171).dbg.stopped = false) ∧
    (s.core.ctx.live = true ∧ none'.core.ctx.live = false) ∧ s.retired 51171 = false ∧
    ((s.checkEnd.launchOf s.checkEnd.core.ctx.lid).isSome = true ∧ s.checkEnd.core.ctx.held = true) ∧
    (none'.checkEnd.core.ctx.held = false ∧ none'.retired 0 = false) := by decide

/-- A service window that holds SEMA for port 1 and owner 6, ready, with entries waiting. -/
def served (ws : List (Nat × Nat)) (f : Service → Service) : State :=
  let s := mapped ws
  { s with svc := f { s.svc with ready := true, semaHeld := true, semaPort := 1, semaOwner := 6 } }

/-- HostAccessesAndSubmissions: accesses at a site's last bytes and past them; SEMA free, held and expired; a port that holds and one that does
not; a ring with entries good, bad and of each kind. -/
theorem wit_HostAccessesAndSubmissions :
    let s := served [] id
    let free := served [] fun v => { v with semaHeld := false }
    let ring := fun (k : Nat) => served ([(0x8000, 1), (0x8040, k), (0x8048, 0x40000)] ++ record) fun v =>
      { v with subbase := vput v.subbase 1 (BitVec.ofNat 64 (2 ^ 63 + 0x8000)) }
    (((List.range 8).all fun i => s.hostByteOk 1 (0xB2D050000 - 8 + i) true) = true ∧
      ((List.range 8).all fun i => s.hostByteOk 1 (0xB2D050000 - 7 + i) false) = false ∧
      ((List.range 8).all fun i => s.hostByteOk 1 (0xB2D050000 - 8 + i) false) = true ∧
      ((List.range 8).any fun i => (stagingByte (0xB2D050000 - 8 + i)).isNone && s.poisoned (0xB2D050000 - 8 + i)) = false) ∧
    (free.svc.semaHeld = false ∧ s.svc.semaHeld = true ∧ s.semaIs 1 6 = true ∧ s.svc.semaPort = 1 ∧ s.events = [] ∧ s.svc.semaExpiry ≤ s.tick) ∧
    (wbits (BitVec.ofNat 64 (2 ^ 63 + 2 ^ 23 - 1)) 63 1 = 1 ∧ wbits (BitVec.ofNat 64 (2 ^ 63 + 2 ^ 23 - 1)) 23 40 = 0) ∧
    ¬((s.svc.semaHeld && s.svc.semaPort == 0) = true) ∧ free.svc.ready = true ∧ (on id).svc.ready = false ∧
    (let base := vat (ring 1).svc.subbase 0 1
     wbits base 63 1 = 1 ∧ (ring 1).devRead 0 (wbits base 6 39 * 64) 8 % 2 ^ 32 ≠ vat (ring 1).svc.subhead 0 1 ∧
     (ring 1).entryOk 0x8040 = true ∧ (ring 1).entryWord 0x8040 0 % 16 = 1 ∧ (ring 2).entryOk 0x8040 = true ∧
     (ring 2).entryWord 0x8040 0 % 16 = 2 ∧ (ring 4).entryOk 0x8040 = false) := by decide

theorem wit_HostAccessesAndSubmissions_taken :
    let s : State := { served ([(0x8040, 1), (0x8048, 0x40000)] ++ record) (fun v => { v with entries := [0x8040] }) with
      images := [img1], core := Core.zero 0 }
    let g := served [(0x8040, 2), (0x8048, 0x60000), (0x60000, 1), (0x60040, 5)] fun v => { v with entries := [0x8040] }
    (s.svc.entries.contains 0x8040 = true ∧ s.recordAsid (s.entryWord 0x8040 1) = some 0 ∧
      (match (s.submit 0 (s.entryWord 0x8040 1) 0 none none).2 with | .ok _ => true | .error _ => false) = true) ∧
    (g.svc.entries.contains 0x8040 = true ∧ (g.startGraph 0 (g.entryWord 0x8040 1)).2 = none) := by decide

/-- An image of one schedule and no code at 0x90000. -/
def imageWords : List (Nat × Nat) :=
  [(0x90000, 0x4B34494D + 2 ^ 32 + 2 ^ 48), (0x90020, 64), (0x90040, 2 ^ 16 + 1)]

theorem wit_HostAccessesAndSubmissions_image :
    let s := served ([(0x8040, 3), (0x8048, 0x90000)] ++ imageWords) fun v => { v with entries := [0x8040] }
    (match s.loadImage 0 0x90000 ⟨0x98000, 0, [], [], [], [], 0x90000, true, 0⟩ with | .ok _ => true | .error _ => false) = true ∧
    s.core.cid = wbits s.svc.dbgsel 0 16 ∧
    ({ s with core := { s.core with dbg := { s.core.dbg with stopped := true } } } : State).core.dbg.stopped = true := by decide

/-- HostAccessesAndSubmissions, the rest: the staging buffer and a poisoned sector; a lease that runs and one of length 0; offsets that are none;
rings off and empty; records that cannot be read, are refused or name no graph; an image of another magic; a core that runs. -/
theorem wit_HostAccessesAndSubmissions_more :
    let s := served [] fun v => { v with semaExpiry := 1000 }
    let p := s.onSite 0 fun t => { t with poison := [0x1000 / 128] }
    let e := fun (v : Nat) => ({ served [(0x8040, 1), (0x8048, v)] (fun v => { v with entries := [0x8040] }) with core := Core.zero 0 } : State)
    let rec0 := { served ([(0x8040, 1), (0x8048, 0x40000)] ++ record) (fun v => { v with entries := [0x8040] }) with core := Core.zero 0 }
    ((s.hostByteOk 1 0x1000 true = true ∧ (p.poisoned 0x1000 = true) ∧ (stagingByte 0x1000).isNone = true)) ∧
    (s.svc.semaHeld = true ∧ s.tick < s.svc.semaExpiry ∧ s.semaIs 0 6 = false ∧ s.events = []) ∧
    (0x008 ∉ ([0x010, 0x018, 0x028, 0x040, 0x050, 0x058, 0x060, 0x100, 0x108] : List Nat)) ∧
    (wbits (vat s.svc.subbase 0 1) 63 1 = 0 ∧ s.svc.ready = true ∧ (on id).svc.ready = false) ∧
    ((e (2 ^ 60)).svc.entries.contains 0x8040 = true ∧ (e (2 ^ 60)).recordAsid ((e (2 ^ 60)).entryWord 0x8040 1) = none) ∧
    (rec0.recordAsid 0x40000 = some 0 ∧ (match (rec0.submit 0 0x40000 0 none none).2 with | .ok _ => false | .error n => n == 7) = true) ∧
    (((e (2 ^ 60)).startGraph 0 (2 ^ 50)).2.isSome = true) ∧
    (match (e 0x90000).loadImage 0 0x90000 ⟨0x98000, 0, [], [], [], [], 0x90000, true, 0⟩ with | .ok _ => false | .error _ => true) = true ∧
    (s.coreOf 0).dbg.stopped = false := by decide

/-- ResetAndBootStages: each stage; a bundle too short to be good; a calibration under way, allowed and not. -/
theorem wit_ResetAndBootStages :
    let at' := fun (n : Nat) => ({ on id with svc := { (on id).svc with stage := n } } : State)
    (at' 1).staging = true ∧ (at' 3).staging = true ∧ (at' 4).staging = false ∧ (at' 1).bundleCause 0 0 ≠ 0 ∧ (at' 4).svc.stage = 4 ∧
    (at' 5).svc.stage = 5 ∧ (at' 6).svc.stage = 6 ∧
    ({ on id with svc := { (on id).svc with calibrating := true } } : State).svc.calibrating = true ∧
    (at' 7).svc.calibrating = false ∧ ({ at' 7 with svc := { (at' 7).svc with ready := true } } : State).mayCalibrate = true ∧
    (at' 7).mayCalibrate = false := by decide

/-- EffectsPerformOnTheirOwnPiece: FIFOs and masks at the ends of their ranges. -/
theorem wit_EffectsPerformOnTheirOwnPiece : 7 < 8 ∧ 7 ≠ (5 : BitVec 3).toNat ∧ (0 : BitVec 3) = 0 ∧ (7 : BitVec 3) ≠ 0 ∧ 127 < 128 := by decide

/-- StoresChangeOnlyTheirBytes: canonical memories; a byte written and one that is not. -/
theorem wit_StoresChangeOnlyTheirBytes :
    Memory.wf ((on id).coreOf 0).pool ∧ Memory.wf (mapped []).mem ∧ (0, 8, 1) ∈ [((0 : Nat), (8 : Nat), (1 : Byte))] ∧
    (0x100000, 1) ∈ [((0x100000 : Nat), (1 : Byte))] ∧ ∀ b : Byte, (9, b) ∉ [((8 : Nat), (1 : Byte))] := by decide

/-- IssuedWordsOnlyAskAndPutInFlight: a word that goes on. -/
theorem wit_IssuedWordsOnlyAskAndPutInFlight :
    (Instr.addi 3 1 0 5).isWord = true ∧ (on id).phase = .issue ∧
    leaves (exec (.addi 3 1 0 5) (on id)) (fun t => t.phase == .engines) = true := by decide

/-- StepRunsTheDecodedInstruction: the first word after reset, at the fetch point. -/
theorem wit_StepRunsTheDecodedInstruction :
    let s := State.reset.withFetchWord 32 0x1B180001
    let s' : State := { s with tick := max s.tick s.core.tick }
    s.phase = .issue ∧ (∀ k ∈ s.core :: s.others, k.ended = false) ∧ s.timerDue false = none ∧ s.timerDue true = none ∧ s.events = [] ∧
    s.nextSlice = none ∧ s.nextCore = some s.core ∧ (s.nextDue = some 1 ∧ s.core.tick < 1) ∧
    s.core.swap = 0 ∧ s.core.clocked = true ∧ s.core.dbg.stopReq = none ∧ s.core.dbg.stepping = false ∧ s.core.ctx.sq.idle = 0 ∧
    s.core.ctx.sq.pause = 0 ∧ s.core.ctx.sq.overrun = false ∧ s'.alignDue = none ∧ s'.trapNow = none ∧ s'.beforeIssue = s' ∧
    decode s'.fetched = .ok (.lhi 3 1) ∧
    leaves (exec (.lhi 3 1) s') (fun t => t.phase == .engines && (t.waiting .served).isNone && !t.core.dbg.stepping) = true := by decide +kernel

/-- DecodingInvertsEncoding and EachWordHasOneMeaning: well-formed words of both kinds, and words that decode. -/
theorem wit_DecodingInvertsEncoding :
    ((Instr.li 31 0 0xFFFF 0xFFFFFFFF).wf = true ∧ (Instr.li 31 0 0xFFFF 0xFFFFFFFF).isWord = true) ∧
    ((Instr.hold 31 0x7FFFFF).wf = true ∧ (Instr.hold 31 0x7FFFFF).isSeqWord = true) ∧
    decode (encode (.add 31 31 31 15 3)) = .ok (.add 31 31 31 15 3) ∧ decodeSeq 0x40000064 = .ok (.atstep 0 100) := by decide

/-- StepsKeepDeviceMemoryCanonical: a state that has the form and steps on, with bytes listed. -/
theorem wit_StepsKeepDeviceMemoryCanonical :
    Memory.wf (mapped []).mem ∧ (mapped []).mem ≠ [] ∧ leaves (step (mapped [])) (fun t => Memory.wf t.mem) = true := by decide

end Sys2Proof.Tests
end

section
/-! PROOFS. What an effect changes when it performs: one read-after-write rule for each piece of the context, and O52. -/

namespace Sys2Proof.Machine

/-! Registers and predicates (R96) -/

/-- R96: s0 discards what is written and reads zero; every other register reads what was written last. -/
@[simp] theorem Regs.get_put (r : Regs) (d i : BitVec 5) (v : Word) :
    (r.put d v).get i = if i = d ∧ d ≠ 0 then v else r.get i := by
  unfold Regs.put Regs.get
  by_cases hd : d = 0
  · rw [if_pos hd, if_neg fun h : i = d ∧ d ≠ 0 => h.2 hd]
  · by_cases hi : i = d
    · subst hi
      rw [if_neg hd, if_neg hd, if_pos ⟨rfl, hd⟩]
      exact vat_vput_same r.s 0 v i.isLt
    · rw [if_neg hd, if_neg fun h : i = d ∧ d ≠ 0 => hi h.1, vat_vput_other r.s 0 v fun h => hi (BitVec.eq_of_toNat_eq h)]

/-- R96: p0 discards what is written and reads true. -/
@[simp] theorem Regs.getP_putP (r : Regs) (d i : BitVec 3) (v : Bool) :
    (r.putP d v).getP i = if i = d ∧ d ≠ 0 then v else r.getP i := by
  unfold Regs.putP Regs.getP
  by_cases hd : d = 0
  · rw [if_pos hd, if_neg fun h : i = d ∧ d ≠ 0 => h.2 hd]
  · by_cases hi : i = d
    · subst hi
      rw [if_neg hd, if_neg hd, if_pos ⟨rfl, hd⟩]
      exact vat_vput_same r.p false v i.isLt
    · rw [if_neg hd, if_neg fun h : i = d ∧ d ≠ 0 => hi h.1, vat_vput_other r.p false v fun h => hi (BitVec.eq_of_toNat_eq h)]

/-- A scalar write leaves predicates and floating control. -/
theorem Regs.put_frame (r : Regs) (d : BitVec 5) (v : Word) : r.put d v = { r with s := (r.put d v).s } := by
  unfold Regs.put
  split <;> rfl

/-- A predicate write leaves the scalar registers and floating control. -/
theorem Regs.putP_frame (r : Regs) (d : BitVec 3) (v : Bool) : r.putP d v = { r with p := (r.putP d v).p } := by
  unfold Regs.putP
  split <;> rfl

@[simp] theorem Regs.put_getP (r : Regs) (d : BitVec 5) (v : Word) (q : BitVec 3) : (r.put d v).getP q = r.getP q := by
  rw [Regs.put_frame]; rfl
@[simp] theorem Regs.put_flags (r : Regs) (d : BitVec 5) (v : Word) : (r.put d v).flags = r.flags := by rw [Regs.put_frame]
@[simp] theorem Regs.put_frm (r : Regs) (d : BitVec 5) (v : Word) : (r.put d v).frm = r.frm := by rw [Regs.put_frame]
@[simp] theorem Regs.put_seed (r : Regs) (d : BitVec 5) (v : Word) : (r.put d v).seed = r.seed := by rw [Regs.put_frame]

@[simp] theorem Regs.putP_get (r : Regs) (d : BitVec 3) (v : Bool) (i : BitVec 5) : (r.putP d v).get i = r.get i := by
  rw [Regs.putP_frame]; rfl
@[simp] theorem Regs.putP_flags (r : Regs) (d : BitVec 3) (v : Bool) : (r.putP d v).flags = r.flags := by rw [Regs.putP_frame]

/-! Masks, loop levels and tokens as the effects write them -/

/-- The bits selected are replaced, the others stay. -/
theorem getLsbD_merge {w : Nat} (old bits sel : BitVec w) {j : Nat} (hj : j < w) :
    ((old &&& ~~~sel) ||| (bits &&& sel)).getLsbD j = if sel.getLsbD j then bits.getLsbD j else old.getLsbD j := by
  rw [BitVec.getLsbD_or, BitVec.getLsbD_and, BitVec.getLsbD_and, BitVec.getLsbD_not]
  cases sel.getLsbD j <;> simp [hj]

/-- One element of a vector written, as a single rule. -/
theorem vat_vput (v : Vector α n) (d x : α) {i j : Nat} (hj : j < n) : vat (vput v i x) d j = if j = i then x else vat v d j := by
  by_cases h : j = i
  · subst h; rw [vat_vput_same v d x hj, if_pos rfl]
  · rw [vat_vput_other v d x h, if_neg h]

/-- R174: a mask effect writes the masks alone. -/
theorem Ctx.perform_mask_frame (c : Ctx) (uid : Option Nat) (m : BitVec 3) (bits sel : BitVec 128) :
    c.perform uid (.mask m bits sel) = { c with masks := (c.perform uid (.mask m bits sel)).masks } := by
  simp only [Ctx.perform]
  split <;> rfl

/-- R174: m0 discards. -/
theorem Ctx.perform_mask_zero (c : Ctx) (uid : Option Nat) (bits sel : BitVec 128) : c.perform uid (.mask 0 bits sel) = c := rfl

/-- R174: any other mask takes the selected bits. -/
theorem Ctx.perform_mask_masks (c : Ctx) (uid : Option Nat) {m : BitVec 3} (bits sel : BitVec 128) (hm : m ≠ 0) :
    (c.perform uid (.mask m bits sel)).masks = vmod c.masks 0 m.toNat fun v => (v &&& ~~~sel) ||| (bits &&& sel) := by
  simp only [Ctx.perform, if_neg hm]

/-- R174: the other masks stay. -/
theorem Ctx.perform_mask_other (c : Ctx) (uid : Option Nat) (m : BitVec 3) (bits sel : BitVec 128) {i : Nat} (hi : i ≠ m.toNat) :
    vat (c.perform uid (.mask m bits sel)).masks 0 i = vat c.masks 0 i := by
  by_cases hm : m = 0
  · subst hm; rw [Ctx.perform_mask_zero]
  · rw [Ctx.perform_mask_masks c uid bits sel hm, vat_vmod_other c.masks 0 _ hi]

/-- R174: bit by bit, the mask written. -/
theorem Ctx.perform_mask_bit (c : Ctx) (uid : Option Nat) {m : BitVec 3} (bits sel : BitVec 128) (hm : m ≠ 0) {j : Nat} (hj : j < 128) :
    (vat (c.perform uid (.mask m bits sel)).masks 0 m.toNat).getLsbD j
      = if sel.getLsbD j then bits.getLsbD j else (vat c.masks 0 m.toNat).getLsbD j := by
  rw [Ctx.perform_mask_masks c uid bits sel hm, vat_vmod_same c.masks 0 _ m.isLt, getLsbD_merge _ _ _ hj]

/-- R154: the FIFO changed reads what the change makes of its count. -/
theorem Ctx.tok_onTok_same (c : Ctx) (g : Nat → Nat) {f : Nat} (hf : f < 8) : (c.onTok f g).tok f = g (c.tok f) :=
  vat_vmod_same c.tokens 0 g hf

/-- The other FIFOs stay. -/
theorem Ctx.tok_onTok_other (c : Ctx) (g : Nat → Nat) {f n : Nat} (hn : n ≠ f) : (c.onTok f g).tok n = c.tok n :=
  vat_vmod_other c.tokens 0 g hn

/-- Settles O52: each kind of effect by the rule of the piece it writes. -/
theorem effectsPerformOnTheirOwnPiece : Obligations.EffectsPerformOnTheirOwnPiece := by
  intro c uid d r p q v b f m bits sel n
  refine ⟨?scalar, ?predicate, ?flags, ?loop, ?mask, ?token⟩
  case scalar => exact ⟨Regs.get_put .., Regs.put_getP .., Regs.put_flags .., Regs.put_frm .., Regs.put_seed .., rfl⟩
  case predicate => exact ⟨Regs.getP_putP .., Regs.putP_get .., Regs.putP_flags .., rfl⟩
  case flags => exact ⟨rfl, rfl, rfl, rfl⟩
  case loop => exact fun l lb le lc act => ⟨rfl, fun i hi => ⟨vat_vput c.loops.lc 0 lc hi, vat_vput c.loops.act false act hi⟩⟩
  case mask =>
    exact ⟨Ctx.perform_mask_frame c uid m bits sel, fun i _ hi => Ctx.perform_mask_other c uid m bits sel hi,
      fun hm => by subst hm; rw [Ctx.perform_mask_zero], fun hm j hj => Ctx.perform_mask_bit c uid bits sel hm hj⟩
  case token => exact ⟨rfl, Ctx.tok_onTok_same c _ p.isLt, fun _ hn => Ctx.tok_onTok_other c _ hn⟩

end Sys2Proof.Machine
end

section
/-! PROOFS. Stores (R134, R237, R239): what a write of several bytes reads as, a pool and a sector written, and O53. -/

namespace Sys2Proof.Machine

/-! Several bytes written -/

/-- A key that every write of it gives one value reads as that value. -/
theorem Cells.read_writes_agree [DecidableEq α] (d : α) (ws : List (Nat × α)) (m : Cells α) {a : Nat} {x : α}
    (hx : (a, x) ∈ ws) (hone : ∀ y, (a, y) ∈ ws → y = x) (hm : Cells.wf d m = true) :
    Cells.read d (Cells.writes d m ws) a = x := by
  induction ws generalizing m with
  | nil => cases hx
  | cons w r ih =>
    have hrest : ∀ y, (a, y) ∈ r → y = x := fun y hy => hone y (List.mem_cons_of_mem w hy)
    have hw : Cells.wf d (Cells.write d m w.1 w.2) = true := Cells.write_wf d m w.1 w.2 hm
    show Cells.read d (Cells.writes d (Cells.write d m w.1 w.2) r) a = x
    by_cases hr : (a, x) ∈ r
    · exact ih _ hr hrest hw
    · obtain rfl : (a, x) = w := (List.mem_cons.mp hx).resolve_right hr
      have hno : ∀ y ∈ r, y.1 ≠ a := fun y hy he => hr (by
        subst he
        rwa [← hrest y.2 hy])
      rw [Cells.read_writes_other d r _ a hno hw]
      exact Cells.read_write_same d m 0 a x hm

/-! Pools -/

/-- A core by number bears the number. -/
@[simp] theorem State.coreOf_cid (s : State) (cid : Nat) : (s.coreOf cid).cid = cid := by
  unfold State.coreOf
  split
  · assumption
  · cases h : s.others.find? (·.cid = cid) with
    | none => rfl
    | some c => simpa using List.find?_some h

theorem mem_firsts [DecidableEq α] (l : List α) (a : α) : a ∈ firsts l ↔ a ∈ l := by
  suffices h : ∀ acc : List α, a ∈ l.foldl (fun acc x => if x ∈ acc then acc else acc ++ [x]) acc ↔ a ∈ acc ∨ a ∈ l by
    exact (h []).trans (by simp)
  induction l with
  | nil => simp
  | cons x r ih =>
    intro acc
    rw [List.foldl_cons, ih, List.mem_cons]
    split
    · next hx => exact ⟨fun h => h.imp_right .inr, fun h => h.elim .inl fun h => h.elim (fun e => .inl (e ▸ hx)) .inr⟩
    · simp [or_assoc]

/-- The bytes of `ws` that lie in the pool of core `cid`, by location. -/
def poolWrites (ws : List (Nat × Nat × Byte)) (cid : Nat) : List (Nat × Byte) := (ws.filter (·.1 == cid)).map (·.2)

theorem mem_poolWrites (ws : List (Nat × Nat × Byte)) (cid : Nat) (w : Nat × Byte) : w ∈ poolWrites ws cid ↔ (cid, w) ∈ ws := by
  simp only [poolWrites, List.mem_map, List.mem_filter, beq_iff_eq]
  constructor
  · rintro ⟨x, ⟨hx, rfl⟩, rfl⟩
    exact hx
  · exact fun h => ⟨(cid, w), ⟨h, rfl⟩, rfl⟩

/-- The part of `State.writePools` that one core takes. -/
def Core.writePool (k : Core) (mine : List (Nat × Byte)) : Core :=
  { k with pool := k.pool.writes emptyByte mine, wrote := k.wrote ++ mine.map (·.1) }

theorem State.coreOf_writePool_same (s : State) (cid : Nat) (mine : List (Nat × Byte)) :
    (s.onCore cid (·.writePool mine)).coreOf cid = (s.coreOf cid).writePool mine :=
  s.coreOf_onCore_same cid (·.writePool mine) (s.coreOf_cid cid)

theorem State.coreOf_writePool_other (s : State) {cid k : Nat} (mine : List (Nat × Byte)) (h : k ≠ cid) :
    (s.onCore cid (·.writePool mine)).coreOf k = s.coreOf k :=
  s.coreOf_onCore_other (·.writePool mine) (s.coreOf_cid cid) h

theorem State.onCore_mem (s : State) (cid : Nat) (f : Core → Core) : (s.onCore cid f).mem = s.mem := by
  unfold State.onCore
  split <;> rfl

/-- What writing the pools of the cores `cids` in turn leaves of core `cid`: its context, and its pool where no byte is written; a
byte written alike by all reads as written once the turn of `cid` has come, and from then on. -/
theorem State.foldl_writePool (ws : List (Nat × Nat × Byte)) (cids : List Nat) (cid a : Nat) (s : State)
    (hm : Memory.wf (s.coreOf cid).pool) :
    let t := cids.foldl (fun s cid => s.onCore cid (·.writePool (poolWrites ws cid))) s
    (t.coreOf cid).ctx = (s.coreOf cid).ctx ∧ t.mem = s.mem ∧
    ((∀ b, (cid, a, b) ∉ ws) → (t.coreOf cid).pool.read emptyByte a = (s.coreOf cid).pool.read emptyByte a) ∧
    (∀ b, (cid, a, b) ∈ ws → (∀ b', (cid, a, b') ∈ ws → b' = b) →
      cid ∈ cids ∨ (s.coreOf cid).pool.read emptyByte a = b → (t.coreOf cid).pool.read emptyByte a = b) := by
  induction cids generalizing s with
  | nil => exact ⟨rfl, rfl, fun _ => rfl, fun b _ _ h => h.resolve_left List.not_mem_nil⟩
  | cons c r ih =>
    have hstep : ((s.onCore c (·.writePool (poolWrites ws c))).coreOf cid)
        = if cid = c then (s.coreOf cid).writePool (poolWrites ws cid) else s.coreOf cid := by
      split
      · next h => subst h; exact s.coreOf_writePool_same cid _
      · next h => exact s.coreOf_writePool_other _ h
    have hwf : Memory.wf ((s.onCore c (·.writePool (poolWrites ws c))).coreOf cid).pool := by
      rw [hstep]
      split
      · exact Cells.writes_wf emptyByte _ _ hm
      · exact hm
    obtain ⟨hctx, hmem, hkeep, hput⟩ := ih _ hwf
    rw [hstep] at hctx hkeep hput
    refine ⟨hctx.trans (by split <;> rfl), hmem.trans (s.onCore_mem c _), fun hno => (hkeep hno).trans ?_, fun b hb hone hin => ?_⟩
    · split
      · exact Cells.read_writes_other emptyByte _ _ a
          (fun w hw he => hno w.2 (he ▸ (mem_poolWrites ws cid w).mp hw)) hm
      · rfl
    · apply hput b hb hone
      split
      · refine .inr (Cells.read_writes_agree emptyByte _ _ ((mem_poolWrites ws cid (a, b)).mpr hb) (fun y hy => ?_) hm)
        exact hone y ((mem_poolWrites ws cid (a, y)).mp hy)
      · next hc => exact hin.imp_left fun h => (List.mem_cons.mp h).resolve_left hc

/-! A sector of device memory -/

theorem State.pruneLocks_core (s : State) (n : Nat) : (s.pruneLocks n).core = s.core := by
  unfold State.pruneLocks
  split <;> rfl

theorem State.pruneLocks_others (s : State) (n : Nat) : (s.pruneLocks n).others = s.others := by
  unfold State.pruneLocks
  split <;> rfl

theorem State.pruneLocks_mem (s : State) (n : Nat) : (s.pruneLocks n).mem = s.mem := by
  unfold State.pruneLocks
  split <;> rfl

/-- Where its first address holds no memory a sector's write does nothing (log 24, DEDUCED). -/
theorem State.sectorWrite_outside (s : State) {ws : List (Nat × Byte)} (h : ∀ x ∈ ws, s.inMemory x.1 = false) :
    s.sectorWrite ws = s := by
  cases ws with
  | nil => rfl
  | cons x r => simp [State.sectorWrite, h x List.mem_cons_self]

/-- Elsewhere the bytes of the sector are written at this module. -/
theorem State.sectorWrite_mem (s : State) {ws : List (Nat × Byte)} (h : ∀ x ∈ ws, s.inMemory x.1 = true) :
    (s.sectorWrite ws).mem = (s.devWrite s.conn.modnum ws).mem := by
  cases ws with
  | nil => rfl
  | cons x r => simp [State.sectorWrite, h x List.mem_cons_self, State.pruneLocks_mem]

/-- A sector's write either does nothing to memory or writes its bytes. -/
theorem State.sectorWrite_mem_cases (s : State) (ws : List (Nat × Byte)) :
    (s.sectorWrite ws).mem = s.mem ∨ (s.sectorWrite ws).mem = (s.devWrite s.conn.modnum ws).mem := by
  cases ws with
  | nil => exact .inl rfl
  | cons x r => by_cases h : s.inMemory x.1 <;> simp [State.sectorWrite, h, State.pruneLocks_mem]

theorem State.sectorWrite_core (s : State) (ws : List (Nat × Byte)) : (s.sectorWrite ws).core = s.core := by
  cases ws with
  | nil => rfl
  | cons x r => by_cases h : s.inMemory x.1 <;> simp [State.sectorWrite, h, State.pruneLocks_core]

theorem State.sectorWrite_others (s : State) (ws : List (Nat × Byte)) : (s.sectorWrite ws).others = s.others := by
  cases ws with
  | nil => rfl
  | cons x r => by_cases h : s.inMemory x.1 <;> simp [State.sectorWrite, h, State.pruneLocks_others]

/-- R247: the bytes of one module lie at different keys. -/
theorem mem_devKeys (m : Nat) (ws : List (Nat × Byte)) (a : Nat) (b : Byte) :
    (devKey m a, b) ∈ ws.map (fun w => (devKey m w.1, w.2)) ↔ (a, b) ∈ ws := by
  simp [devKey, Prod.ext_iff]

theorem State.devByte_devWrite_other (s : State) (m : Nat) (ws : List (Nat × Byte)) (a : Nat) (h : ∀ b, (a, b) ∉ ws)
    (hm : Memory.wf s.mem) : (s.devWrite m ws).devByte m a = s.devByte m a := by
  refine Cells.read_writes_other emptyByte _ _ _ (fun w hw he => h w.2 ?_) hm
  rw [← mem_devKeys m, ← he]
  exact hw

theorem State.devByte_devWrite_agree (s : State) (m : Nat) (ws : List (Nat × Byte)) {a : Nat} {b : Byte} (hb : (a, b) ∈ ws)
    (hone : ∀ b', (a, b') ∈ ws → b' = b) (hm : Memory.wf s.mem) : (s.devWrite m ws).devByte m a = b :=
  Cells.read_writes_agree emptyByte _ _ ((mem_devKeys m ws a b).mpr hb) (fun y hy => hone y ((mem_devKeys m ws a y).mp hy)) hm

/-- What a byte of device memory reads as depends on memory alone. -/
theorem State.devByte_congr {s t : State} (h : t.mem = s.mem) (m a : Nat) : t.devByte m a = s.devByte m a := by
  unfold State.devByte
  rw [h]

/-- Settles O53: the pools by induction on the cores written, device memory by the rules of one sector's write. -/
theorem storesChangeOnlyTheirBytes : Obligations.StoresChangeOnlyTheirBytes := by
  refine ⟨fun s ws cid a hm => ?pools, fun s ws a hm => ?sector⟩
  case pools =>
    obtain ⟨hctx, hmem, hkeep, hput⟩ := State.foldl_writePool ws (firsts (ws.map (·.1))) cid a s hm
    refine ⟨hctx, hmem, hkeep, fun b hb hone => hput b hb hone (.inl ?_)⟩
    exact (mem_firsts _ _).mpr (List.mem_map.mpr ⟨_, hb, rfl⟩)
  case sector =>
    refine ⟨s.sectorWrite_core ws, s.sectorWrite_others ws, fun hno => ?_, fun hin b hb hone => ?_, s.sectorWrite_outside⟩
    · rcases s.sectorWrite_mem_cases ws with h | h
      · exact State.devByte_congr h _ a
      · exact (State.devByte_congr h _ a).trans (s.devByte_devWrite_other _ ws a hno hm)
    · exact (State.devByte_congr (s.sectorWrite_mem hin) _ a).trans (s.devByte_devWrite_agree _ ws hb hone hm)

end Sys2Proof.Machine
end

section
/-! PROOFS. Module reset and boot (R8, R426 to R433): O51 and O55. -/

namespace Sys2Proof.Machine

/-! The stages of boot (R426 to R430) -/

/-- R427: a bundle that fails a check leaves the module in stage 3 with its cause. -/
theorem execBootGo_bad (s : State) (port len : Nat) (hs : s.staging = true) (hc : s.bundleCause port len ≠ 0) :
    execBootGo port len s = .next { s with svc := { s.svc with
      tries := s.svc.tries + 1, bootCause := s.bundleCause port len, stage := 3 } } := by
  simp [execBootGo, hs, hc]

/-- R428, R429: a good bundle passes to stage 4. -/
theorem execBootGo_good (s : State) (port len : Nat) (hs : s.staging = true) (hc : s.bundleCause port len = 0) :
    let buf := (s.site (portSite port)).staging
    let svn := (buf.read 0 8).toNat + 256 * (buf.read 0 9).toNat
    let t : State := { s with svc := { s.svc with
      tries := s.svc.tries + 1, bootCause := 0, stage := 4, minSvn := svn, fwsvn := svn } }
    let u := (t.onSite 0 fun t => { t with staging := [] }).onSite 399 fun t => { t with staging := [] }
    execBootGo port len s = .next ((List.range (2 * meshLinks)).foldl (fun s l =>
      if s.fuses.links.contains (l / 2) then s else s.startLink l) u) := by
  simp [execBootGo, hs, hc]

/-- Outside the stages that reach the staging buffers GO does nothing. -/
theorem execBootGo_idle (s : State) (port len : Nat) (hs : s.staging = false) : execBootGo port len s = .next s := by
  simp [execBootGo, hs]

/-- R433: a recalibration under way ends with its outcome. -/
theorem execRecalibrate_end (s : State) (okd : Bool) (h : s.svc.calibrating = true) :
    let ended : State := { s with svc := { s.svc with calibrating := false, bisque := !okd, calfail := !okd } }
    execRecalibrate okd s = .next (if okd then ended.lightPorts else ended) := by
  simp [execRecalibrate, h]

/-- R433: one begins when nothing stands in its way. -/
theorem execRecalibrate_begin (s : State) (okd : Bool) (h : s.svc.calibrating = false) (hm : s.mayCalibrate = true) :
    execRecalibrate okd s
      = .next (s.beginCalibration.fresh.at (s.tick + 1 + Config.homeDelay s.nextId) (.recalibrate okd)) := by
  simp [execRecalibrate, h, hm]

/-- R433: one that may not begin is counted as denied. -/
theorem execRecalibrate_denied (s : State) (okd : Bool) (h : s.svc.calibrating = false) (hm : s.mayCalibrate = false) :
    execRecalibrate okd s = .next { s with svc := { s.svc with denied := (s.svc.denied + 1) % 256 } } := by
  simp [execRecalibrate, h, hm]

/-- Settles O51, stage by stage: the stage tests decide each step, and the rest is what the step's meaning says. -/
theorem resetAndBootStages : Obligations.ResetAndBootStages := by
  refine ⟨fun s port len => ?boot, fun s digests okd => ?stages, fun _ _ => rfl, fun _ _ _ _ => rfl⟩
  case boot =>
    exact ⟨rfl, execBootGo_bad s port len, execBootGo_good s port len, execBootGo_idle s port len⟩
  case stages =>
    exact ⟨fun h => if_neg (not_not.mpr h), fun h => if_pos h, fun h => if_neg (not_not.mpr h), fun h => if_pos h,
      fun h => if_neg (not_not.mpr h), fun h => if_pos h, execRecalibrate_end s okd, execRecalibrate_begin s okd,
      execRecalibrate_denied s okd⟩

/-! What module reset leaves (R8, R427) -/

/-- A vector of one value reads it at every number, beyond its end too. -/
@[simp] theorem vat_replicate (n : Nat) (d : α) (i : Nat) : vat (Vector.replicate n d) d i = d := by
  simp [vat, Array.getD]

/-- No core has left its reset state. -/
@[simp] theorem State.reset_coreOf (cid : Nat) : State.reset.coreOf cid = Core.zero cid := by
  unfold State.coreOf
  split
  · next h => subst h; rfl
  · rfl

/-- R306: every handle stands at its Reset column. -/
@[simp] theorem State.reset_handle (die h : Nat) : State.reset.handle die h = Handle.zero := vat_replicate 32 Handle.zero h

/-- Settles O55: cores, dies and handles by what an unlisted one reads as, the rest from the reset state's own values. -/
theorem resetHasTheStatedValues : Obligations.ResetHasTheStatedValues := by
  have hcore : ∀ cid, (State.reset.coreOf cid).ctx.live = false ∧ (State.reset.coreOf cid).ctx.held = false := fun cid => by
    rw [State.reset_coreOf]
    exact ⟨rfl, rfl⟩
  have hhandle : ∀ die h, (State.reset.handle die h).state = .dark ∧ (State.reset.handle die h).frec = 0x00FFC700 ∧
      (State.reset.handle die h).owner = none := fun die h => by
    rw [State.reset_handle]
    exact ⟨rfl, rfl, rfl⟩
  have hring : ∀ p, p < 2 → vat State.reset.svc.subbase 0 p = 0 ∧ vat State.reset.svc.subhead 0 p = 0 :=
    fun p _ => ⟨vat_replicate 2 0 p, vat_replicate 2 0 p⟩
  exact ⟨rfl, rfl, hcore, rfl, rfl, rfl, hhandle, fun _ => ⟨rfl, rfl, rfl, rfl, rfl, rfl⟩,
    rfl, rfl, rfl, rfl, rfl, rfl, rfl, rfl, rfl, rfl, rfl, hring, rfl, rfl, rfl, rfl, rfl, rfl, rfl, rfl, rfl, reset_memOk⟩

end Sys2Proof.Machine
end

section
/-! PROOFS. What the issue of a word leaves alone (R9, R91, R93): the part of the machine that O54 speaks of, and the operations that
leave it as it is. -/

namespace Sys2Proof.Machine

/-- What a word's issue leaves alone of its context: registers but for the generator, trap registers, masks, accumulators, rings. -/
structure CtxKept where
  regs : Vector Word 32
  preds : Vector Bool 8
  frm : BitVec 3
  flags : BitVec 5
  trap : TrapRegs
  masks : Vector (BitVec 128) 8
  accs : Vector AccDesc 8
  planes : Vector (BitVec 65536) 8
  rings : Vector Ring 8

/-- What a word's issue leaves alone of the machine: that part of the focus core's context, its pool, the other cores and memory. -/
structure Kept where
  ctx : CtxKept
  pool : Cells Byte
  cid : Nat
  others : List Core
  mem : Cells Byte

def Ctx.kept (c : Ctx) : CtxKept :=
  ⟨c.regs.s, c.regs.p, c.regs.frm, c.regs.flags, c.trap, c.masks, c.accs, c.planes, c.rings⟩

def State.kept (s : State) : Kept := ⟨s.core.ctx.kept, s.core.pool, s.core.cid, s.others, s.mem⟩

theorem State.cid_of_kept {s t : State} (h : t.kept = s.kept) : t.core.cid = s.core.cid := congrArg Kept.cid h

/-! Updates of the state -/

theorem State.ctx_kept (s : State) {f : Ctx → Ctx} (h : (f s.core.ctx).kept = s.core.ctx.kept) : (s.ctx f).kept = s.kept := by
  simp only [State.kept, State.ctx_core, State.ctx_others, State.ctx_mem, h]

@[simp] theorem State.wheel_kept (s : State) (f : Wheel → Wheel) : (s.wheel f).kept = s.kept := rfl
@[simp] theorem State.push_kept (s : State) (n : Nat) (e : Eff) : (s.push n e).kept = s.kept := rfl
@[simp] theorem State.at_kept (s : State) (t : Nat) (i : Instr) : (s.at t i).kept = s.kept := rfl
@[simp] theorem State.onDie_kept (s : State) (d : Nat) (f : Die → Die) : (s.onDie d f).kept = s.kept := rfl
@[simp] theorem State.retireTo_kept (s : State) (n : Nat) : (s.retireTo n).kept = s.kept := rfl
@[simp] theorem State.retireBranch_kept (s : State) (t : Option Nat) : (s.retireBranch t).kept = s.kept := rfl
@[simp] theorem State.askSq_kept (s : State) (b : BankEnd) (w : Bool) (a n : Nat) : (s.askSq b w a n).kept = s.kept := rfl
@[simp] theorem State.askWrite_kept (s : State) (a : Nat) (bs : List Byte) : (s.askWrite a bs).kept = s.kept := rfl
@[simp] theorem State.arrive_kept (s : State) (n : Nat) : (s.arrive n).kept = s.kept := rfl
@[simp] theorem State.observe_kept (s : State) (n : Nat) : (s.observe n).kept = s.kept := rfl

@[simp] theorem Ctx.advance_kept (c : Ctx) (k : Nat) : (c.advance k).kept = c.kept := by rw [Ctx.advance_eq]; rfl
@[simp] theorem State.retire_kept (s : State) : s.retire.kept = s.kept :=
  s.ctx_kept (f := fun c => c.advance c.sq.pc.toNat) (Ctx.advance_kept _ _)
@[simp] theorem State.retireWide_kept (s : State) : s.retireWide.kept = s.kept :=
  s.ctx_kept (f := fun c => c.advance (c.sq.pc.toNat + 1)) (Ctx.advance_kept _ _)
@[simp] theorem State.endHold_kept (s : State) (sd : BitVec 5) (v : Word) : (s.endHold sd v).kept = s.kept :=
  ((s.push 1 (.sreg sd v)).retire_kept).trans (s.push_kept _ _)

/-- A fold of updates each of which leaves the part kept, given that it has stood so far. -/
theorem foldl_kept {β : Type} {k : Kept} (f : State → β → State) (hf : ∀ t b, t.kept = k → (f t b).kept = k) (l : List β) (s : State)
    (hs : s.kept = k) : (l.foldl f s).kept = k := by
  induction l generalizing s with
  | nil => exact hs
  | cons b r ih => exact ih _ (hf s b hs)

theorem ite_kept {k : Kept} {c : Prop} [Decidable c] {s t : State} (hs : s.kept = k) (ht : t.kept = k) :
    (if c then s else t).kept = k := by
  split
  · exact hs
  · exact ht

@[simp] theorem State.observeAll_kept (s : State) (n : Nat) : (s.observeAll n).kept = s.kept :=
  foldl_kept _ (fun t _ h => (t.observe_kept n).trans h) _ s rfl

/-! Contexts -/

@[simp] theorem Ctx.bumpStreams_kept (c : Ctx) (e : Entry) : (c.bumpStreams e).kept = c.kept := by
  unfold Ctx.bumpStreams
  dsimp only
  repeat' split
  all_goals rfl

@[simp] theorem Ctx.enqueue_kept (c : Ctx) (e : Entry) : (c.enqueue e).kept = c.kept := Ctx.bumpStreams_kept (c.onQueue e.eng _) e

@[simp] theorem State.enqueue_kept (s : State) (e : Entry) : (s.enqueue e).kept = s.kept :=
  s.fresh.ctx_kept (f := fun c => c.enqueue e) (Ctx.enqueue_kept _ _)

theorem Ctx.watchGranules_kept (c : Ctx) (pool word : Bool) (idx a : Nat) (gs : List Nat) :
    (c.watchGranules pool word idx a gs).1.kept = c.kept := by
  induction gs with
  | nil => rfl
  | cons g r ih =>
    unfold Ctx.watchGranules
    dsimp only
    split
    · exact ih
    · split
      · cases word
        · exact ih
        · exact ih
      · rfl

@[simp] theorem Ctx.watch_kept (c : Ctx) (write pool word : Bool) (idx a n : Nat) : (c.watch write pool word idx a n).1.kept = c.kept := by
  unfold Ctx.watch
  split
  · exact c.watchGranules_kept pool word idx a _
  · rfl

/-! The focus core by its number -/

theorem Core.onCtx_ctx_kept (k : Core) (lid : Nat) {f : Ctx → Ctx} (h : ∀ c, (f c).kept = c.kept) :
    (k.onCtx lid f).ctx.kept = k.ctx.kept := by
  unfold Core.onCtx
  split
  · exact h _
  · split
    · split <;> rfl
    · rfl

theorem Core.onCtx_pool (k : Core) (lid : Nat) (f : Ctx → Ctx) : (k.onCtx lid f).pool = k.pool := by
  unfold Core.onCtx
  split
  · rfl
  · split
    · split <;> rfl
    · rfl

theorem Core.onCtx_cid (k : Core) (lid : Nat) (f : Ctx → Ctx) : (k.onCtx lid f).cid = k.cid := by
  unfold Core.onCtx
  split
  · rfl
  · split
    · split <;> rfl
    · rfl

/-- A context of the focus core changed, running or resident. -/
theorem State.onCore_onCtx_kept (s : State) {cid : Nat} (lid : Nat) {f : Ctx → Ctx} (hc : s.core.cid = cid)
    (h : ∀ c, (f c).kept = c.kept) : (s.onCore cid fun k => k.onCtx lid f).kept = s.kept := by
  simp only [State.onCore, if_pos hc, State.kept, Core.onCtx_ctx_kept _ _ h, Core.onCtx_pool, Core.onCtx_cid]

/-! Requests (R263 to R267, R319) -/

@[simp] theorem State.carry_kept (s : State) (link : Nat) : (s.carry link).kept = s.kept := by
  unfold State.carry
  dsimp only
  split
  · rfl
  · exact foldl_kept _ (fun t f h => (t.at_kept _ _).trans h) _ _ rfl

@[simp] theorem State.sendFlit_kept (s : State) (link : Nat) (mgmt : Bool) (fmt : Nat) (body : List Byte) :
    (s.sendFlit link mgmt fmt body).kept = s.kept := by
  unfold State.sendFlit
  split
  · rfl
  · exact State.carry_kept _ _

@[simp] theorem State.leaves_kept (s : State) (r : Req) : (s.leaves r).kept = s.kept := by
  unfold State.leaves
  split
  · exact State.sendFlit_kept _ _ _ _ _
  · rfl

/-- A request of the focus core's own. -/
theorem State.sendReq_kept (s : State) (r : Req) (hr : r.cid = s.core.cid) : (s.sendReq r).kept = s.kept := by
  unfold State.sendReq
  extract_lets r' s0 sent routed left timed
  have hrouted : routed.kept = s.kept := ite_kept rfl rfl
  have hleft : left.kept = s.kept := ite_kept hrouted ((routed.leaves_kept r').trans hrouted)
  have htimed : timed.kept = s.kept := ite_kept hleft hleft
  split
  · rfl
  · split
    · refine Eq.trans (timed.onCore_onCtx_kept _ ((State.cid_of_kept htimed).trans hr.symm) ?_) htimed
      exact fun _ => rfl
    · exact htimed

theorem State.dispatch_kept (s : State) (r : Req) (hr : r.cid = s.core.cid) : (s.dispatch r).kept = s.kept :=
  s.sendReq_kept _ hr

/-! Translation (R249, R251) -/

@[simp] theorem State.dieMiss_kept (s : State) (m : Miss) : (s.dieMiss m).kept = s.kept := by
  unfold State.dieMiss
  dsimp only
  repeat' split
  all_goals rfl

@[simp] theorem State.startWalk_kept (s : State) (asid va kind : Nat) : (s.startWalk asid va kind).kept = s.kept := by
  unfold State.startWalk
  dsimp only
  split
  · rfl
  · exact State.dieMiss_kept _ _

@[simp] theorem State.translate_kept (s : State) (kind va landed : Nat) : (s.translate kind va landed).1.kept = s.kept := by
  unfold State.translate
  dsimp only
  split
  · rfl
  · split
    · split <;> rfl
    · split
      · rfl
      · split
        · rfl
        · exact State.startWalk_kept _ _ _ _

/-! Fences, commit groups and the launch controller's aborts -/

@[simp] theorem State.fencing_kept (s : State) (k : WaitKind) (on : Entry → Bool) : (s.fencing k on).kept = s.kept := by
  unfold State.fencing
  split <;> rfl

@[simp] theorem State.sendPackets_kept (s : State) (g : Nat) (publish : Bool) : (s.sendPackets g publish).kept = s.kept :=
  foldl_kept _ (fun t _ h => (t.sendReq_kept _ rfl).trans h) _ _ rfl

theorem State.ctrlAborts_kept (s : State) (lid : Nat) : (s.ctrlAborts s.core.cid lid).kept = s.kept := by
  unfold State.ctrlAborts
  split
  · rfl
  · next c _ =>
    refine foldl_kept _ (fun t x ht => ?_) _ s rfl
    have hsent := foldl_kept (fun u st => u.sendReq (c.groupPacket s.core.cid x.2 false st))
      (fun u st hu => (u.sendReq_kept _ (State.cid_of_kept hu).symm).trans hu) x.1.sites t ht
    refine Eq.trans (State.onCore_onCtx_kept _ lid (State.cid_of_kept hsent) ?_) hsent
    exact fun _ => rfl

@[simp] theorem State.csrReadEffect_kept (s : State) (sel : BitVec 10) : (s.csrReadEffect sel).kept = s.kept := by
  unfold State.csrReadEffect
  split <;> rfl

end Sys2Proof.Machine
end

section
/-! PROOFS. The phase of a core's cycle is left alone by what a task's end and a handler's return do: after `kend` and `rett` the next
word is still to issue. -/

namespace Sys2Proof.Machine

theorem foldl_phase {β : Type} (f : State → β → State) (hf : ∀ t b, (f t b).phase = t.phase) (l : List β) (s : State) :
    (l.foldl f s).phase = s.phase := by
  induction l generalizing s with
  | nil => rfl
  | cons b r ih => exact (ih _).trans (hf s b)

@[simp] theorem State.onCore_phase (s : State) (cid : Nat) (f : Core → Core) : (s.onCore cid f).phase = s.phase := by
  unfold State.onCore
  split <;> rfl

/-! Circuit copies put back or dropped (R381, R385) -/

@[simp] theorem State.onHandle_phase (s : State) (die h : Nat) (f : Handle → Handle) : (s.onHandle die h f).phase = s.phase := rfl
@[simp] theorem State.onEntry_phase (s : State) (cid uid : Nat) (f : Entry → Entry) : (s.onEntry cid uid f).phase = s.phase :=
  s.onCore_phase cid _

@[simp] theorem State.sendUnits_phase (s : State) (die : Nat) (r : Route) (e : Entry) (cid ts : Nat) :
    (s.sendUnits die r e cid ts).phase = s.phase := by
  refine foldl_phase _ ?_ _ s
  exact fun _ _ => rfl

@[simp] theorem State.assignSends_phase (s : State) (die h : Nat) (l : List (Nat × Nat)) : (s.assignSends die h l).phase = s.phase := by
  induction l generalizing s with
  | nil => rfl
  | cons x r ih =>
    unfold State.assignSends
    split
    · exact ih s
    · dsimp only
      split
      · rfl
      · split
        · rfl
        · rw [ih]
          simp

@[simp] theorem State.dropSender_phase (s : State) (die h cid uid : Nat) : (s.dropSender die h cid uid).phase = s.phase :=
  State.assignSends_phase _ die h _

@[simp] theorem State.startFeed_phase (s : State) (die h t : Nat) : (s.startFeed die h t).phase = s.phase := by
  unfold State.startFeed
  dsimp only
  split <;> rfl

@[simp] theorem State.openWindow_phase (s : State) (e : Entry) : (s.openWindow e).phase = s.phase := by
  unfold State.openWindow
  dsimp only
  split
  · rfl
  · exact State.startFeed_phase _ _ _ _

@[simp] theorem State.restartPort_phase (s : State) (e : Entry) : (s.restartPort e).phase = s.phase := by
  unfold State.restartPort
  dsimp only
  split
  · split <;> rfl
  · exact State.openWindow_phase _ _

@[simp] theorem State.resumeEntry_phase (s : State) (e : Entry) : (s.resumeEntry e).phase = s.phase := by
  unfold State.resumeEntry
  dsimp only
  split
  · exact State.restartPort_phase _ _
  · rfl

@[simp] theorem State.dropEntry_phase (s : State) (e : Entry) : (s.dropEntry e).phase = s.phase := by
  unfold State.dropEntry
  dsimp only
  split
  · split <;> rfl
  · split
    · refine (State.dropSender_phase _ _ _ _ _).trans ?_
      split <;> rfl
    · rfl

@[simp] theorem State.putBack_phase (s : State) (reported : Option Nat) (x : Entry × Nat) : (s.putBack reported x).phase = s.phase := by
  unfold State.putBack
  dsimp only
  split
  · exact State.dropEntry_phase _ _
  · split
    · rfl
    · split
      · rfl
      · split
        · rfl
        · split
          · rfl
          · exact State.resumeEntry_phase _ _

/-! The return from a handler (R385) -/

theorem State.faultTrap_phase {s : State} (h : s.phase = .issue) : s.faultTrap.phase = .issue := by
  unfold State.faultTrap
  dsimp only
  split
  · rfl
  · split
    · rfl
    · exact h

theorem State.resume_phase {s : State} (h : s.phase = .issue) : s.resume.phase = .issue := by
  unfold State.resume State.reinject
  refine State.faultTrap_phase ((foldl_phase _ (fun t x => t.putBack_phase _ x) _ _).trans ?_)
  dsimp only
  split <;> exact h

/-! Firmware's accesses (R243 to R247, R371, R424) -/

@[simp] theorem State.pruneLocks_phase (s : State) (n : Nat) : (s.pruneLocks n).phase = s.phase := by
  unfold State.pruneLocks
  split <;> rfl

@[simp] theorem State.sectorWrite_phase (s : State) (ws : List (Nat × Byte)) : (s.sectorWrite ws).phase = s.phase := by
  unfold State.sectorWrite
  split
  · rfl
  · split
    · rfl
    · exact State.pruneLocks_phase _ _

@[simp] theorem State.sectorRead_phase (s : State) (pas : List Nat) : (s.sectorRead pas).1.phase = s.phase := by
  unfold State.sectorRead
  split
  · rfl
  · split
    · rfl
    · dsimp only
      split <;> rfl

@[simp] theorem State.homeNat_phase (s : State) (pa n : Nat) : (s.homeNat pa n).1.phase = s.phase := s.sectorRead_phase _

theorem State.walkFrom_phase (asid va kind : Nat) (sys : Bool) (l : List (Nat × Nat × Nat × Nat)) (s : State) (t : Nat) :
    (State.walkFrom asid va kind sys l s t).1.phase = s.phase := by
  induction l generalizing s t with
  | nil => rfl
  | cons x r ih =>
    obtain ⟨lvl, lo, n, page⟩ := x
    unfold State.walkFrom
    dsimp only
    have hread := s.homeNat_phase (t + 8 * (va / 2 ^ lo % 2 ^ n)) 8
    split
    · rfl
    · split
      · next h => rwa [h] at hread
      · next h =>
        rw [h] at hread
        split
        · exact hread
        · exact (ih _ _).trans hread
        · exact hread

@[simp] theorem State.walk_phase (s : State) (root asid va kind : Nat) (sys : Bool) : (s.walk root asid va kind sys).1.phase = s.phase := by
  unfold State.walk
  split
  · rfl
  · exact State.walkFrom_phase _ _ _ _ _ _ _

@[simp] theorem State.vaWrite_phase (s : State) (asid va : Nat) (bs : List Byte) : (s.vaWrite asid va bs).phase = s.phase := by
  refine foldl_phase _ (fun t p => ?_) _ s
  have hwalk := t.walk_phase (t.tableRoot asid) asid (va + p.1) permW true
  split
  · next h =>
    rw [h] at hwalk
    split
    · exact hwalk
    · exact (State.sectorWrite_phase _ _).trans hwalk
  · next h => rwa [h] at hwalk

@[simp] theorem State.recordWrite_phase (s : State) (l : Launch) (off : Nat) (bs : List Byte) : (s.recordWrite l off bs).phase = s.phase :=
  s.vaWrite_phase _ _ _

@[simp] theorem State.mapWrite_phase (s : State) (cid state : Nat) (l : Launch) : (s.mapWrite cid state l).phase = s.phase :=
  s.sectorWrite_phase _

/-! The end of a task (R362, R364, R370) -/

@[simp] theorem State.onTask_phase (s : State) (lid cid : Nat) (f : Task → Task) : (s.onTask lid cid f).phase = s.phase := rfl

@[simp] theorem State.poke_phase (s : State) : s.poke.phase = s.phase := by
  refine foldl_phase _ ?_ _ s
  exact fun _ _ => rfl

@[simp] theorem State.syncClock_phase (s : State) (cid : Nat) (later : Bool) : (s.syncClock cid later).phase = s.phase :=
  s.onCore_phase cid _

@[simp] theorem State.entryPreempted_phase (s : State) (cid : Nat) (c : Ctx) : (s.entryPreempted cid c).phase = s.phase := by
  unfold State.entryPreempted
  split
  · exact State.recordWrite_phase _ _ _ _
  · rfl

theorem ite_phase {p : Phase} {c : Prop} [Decidable c] {s t : State} (hs : s.phase = p) (ht : t.phase = p) :
    (if c then s else t).phase = p := by
  split
  · exact hs
  · exact ht

@[simp] theorem State.beginSwap_phase (s : State) (cid : Nat) (next : Ctx) : (s.beginSwap cid next).phase = s.phase := by
  unfold State.beginSwap
  extract_lets k synced out swapped written
  have hsynced : synced.phase = s.phase := ite_phase rfl (s.syncClock_phase cid false)
  have hswapped : swapped.phase = s.phase := (synced.onCore_phase cid _).trans hsynced
  have hwritten : written.phase = s.phase := ite_phase ((swapped.entryPreempted_phase cid out).trans hswapped) hswapped
  split
  · exact (written.mapWrite_phase _ _ _).trans hwritten
  · exact hwritten

@[simp] theorem State.vacate_phase (s : State) (cid : Nat) : (s.vacate cid).phase = s.phase := by
  unfold State.vacate
  split
  · dsimp only
    split <;> simp
  · dsimp only
    split <;> simp

theorem State.endTask_phase (s : State) (exit : Word) : (s.endTask exit).phase = .issue :=
  State.vacate_phase _ _

end Sys2Proof.Machine
end

section
/-! PROOFS. The issue of a word (R9, R91, R93): one rule for each way a word goes on, one lemma for each word with a shape of
its own. -/

namespace Sys2Proof.Machine

/-- An answer that, where the rest of the cycle follows, leaves the part kept as `k` has it. -/
def Issues (k : Kept) (o : Out) : Prop := ∀ t, o = .next t → t.phase = .engines → t.kept = k

namespace Issues

variable {k : Kept} {s t : State} {o p : Out} {f : Unit → Out}

/-! Outcomes -/

theorem next (h : t.kept = k) : Issues k (.next t) := fun _ e _ => Host.Outcome.next.inj e ▸ h

/-- An answer after which the next word is to issue. -/
theorem ended (h : t.phase = .issue) : Issues k (.next t) := fun _ e ht => by
  obtain rfl := Host.Outcome.next.inj e
  exact absurd (h.symm.trans ht) (by decide)

theorem fault (cause : BitVec 8) (tv : Word) : Issues k (s.wordFault cause tv) := ended rfl

theorem illegal : Issues k s.illegal := fault _ _

theorem ite {c : Prop} [Decidable c] (ho : Issues k o) (hp : Issues k p) : Issues k (if c then o else p) := by
  split
  · exact ho
  · exact hp

theorem retire (h : s.kept = k) : Issues k (.next s.retire) := next (s.retire_kept.trans h)
theorem retireWide (h : s.kept = k) : Issues k (.next s.retireWide) := next (s.retireWide_kept.trans h)
theorem holdOn (h : s.kept = k) (w : Wait) : Issues k (.next (s.holdOn w)) := next h
theorem endHold (h : s.kept = k) (sd : BitVec 5) (v : Word) : Issues k (.next (s.endHold sd v)) := next ((s.endHold_kept sd v).trans h)
theorem scalar (h : s.kept = k) (lat : Nat) (sd : BitVec 5) (v : Word) : Issues k (s.scalar lat sd v) := retire h
theorem predicate (h : s.kept = k) (pd : BitVec 3) (v : Bool) : Issues k (s.predicate pd v) := retire h
theorem floatResult (h : s.kept = k) (lat : Nat) (sd : BitVec 5) (r : Nat × Cond) : Issues k (s.floatResult lat sd r) := retire h

/-! Guards and places -/

theorem guarded (h : s.kept = k) {g : BitVec 4} (ho : Issues k o) : Issues k (s.guarded g fun _ => o) := ite ho (retire h)

theorem control (ho : Issues k o) : Issues k (s.control fun _ => o) := ite illegal ho

theorem wide (h : s.kept = k) (ho : Issues k o) : Issues k (s.wide fun _ => o) := ite ho (ite illegal (next h))

theorem farJump (h : s.kept = k) (ho : Issues k o) : Issues k (s.farJump fun _ => o) := wide h (ite illegal ho)

theorem branchTo {target : Int} {f : Nat → Out} (hf : ∀ n, Issues k (f n)) : Issues k (s.branchTo target f) := ite (fault _ _) (hf _)

theorem barChecked {n : Nat} (ho : Issues k o) : Issues k (s.barChecked n fun _ => o) := ite (fault _ _) (ite (fault _ _) ho)

theorem whlStopped (h : s.kept = k) (ht : t.kept = k) : Issues k (s.whlStopped fun _ => t) := wide h (ite (fault _ _) (retireWide ht))

theorem startLoop (h : s.kept = k) (l : BitVec 2) (count : BitVec 32) (b : Nat) : Issues k (s.startLoop l count b) :=
  ite (fault _ _) (next h)

/-! Accesses -/

theorem watchWord {write pool : Bool} {a n : Nat} {f : State → Out} (h : s.kept = k) (hf : ∀ t, t.kept = k → Issues k (f t)) :
    Issues k (s.watchWord write pool a n f) := by
  have hc := s.core.ctx.watch_kept write pool true s.core.ctx.sq.pc.toNat a n
  unfold State.watchWord
  dsimp only
  split
  · exact fault _ _
  · exact hf _ (((s.ctx_kept (f := fun _ => (s.core.ctx.watch write pool true s.core.ctx.sq.pc.toNat a n).1) hc)).trans h)

theorem poolAccess {write : Bool} {a : Word} {n : Nat} {f : State → Out} (h : s.kept = k) (hf : ∀ t, t.kept = k → Issues k (f t)) :
    Issues k (s.poolAccess write a n f) := ite (fault _ _) (ite (fault _ _) (watchWord h hf))

theorem servedHold {note : List Nat} {served : Wait → Out} (h : s.kept = k) (hstart : ∀ t, f () = .next t → t.kept = k)
    (hserved : ∀ w, Issues k (served w)) : Issues k (s.servedHold note f served) := by
  unfold State.servedHold
  split
  · exact ite (holdOn h _) (hserved _)
  · split
    · next ht => exact holdOn (hstart _ ht) _
    · next hn => exact fun t ht => absurd ht (hn t)

theorem remoteWord {g : BitVec 4} {ops : List Nat} {n : Nat} {write : Bool} {kind : Word → Word → Nat → ReqKind} (h : s.kept = k) :
    Issues k (s.remoteWord g ops n write kind) := by
  refine ite (retire h) (ite (fault _ _) (ite (fault _ _) (ite (fault _ _) (ite (fault _ _) (ite (holdOn h _) ?_)))))
  refine watchWord h fun t ht => retire ((State.dispatch_kept _ _ rfl).trans ((t.ctx_kept ?_).trans ht))
  cases write <;> rfl

theorem rld (h : s.kept = k) (sd sa : BitVec 5) (g : BitVec 4) (sz : BitVec 2) : Issues k (execRld sd sa g sz s) := by
  unfold execRld
  exact remoteWord h

theorem rst (h : s.kept = k) (sd sa sb : BitVec 5) (g : BitVec 4) (sz : BitVec 2) : Issues k (execRst sd sa sb g sz s) := by
  unfold execRst
  exact remoteWord h

theorem ramo (h : s.kept = k) (sd sa sb : BitVec 5) (g : BitVec 4) (w : BitVec 1) (op : BitVec 4) :
    Issues k (execRamo sd sa sb g w op s) := by
  unfold execRamo
  exact remoteWord h

theorem ramocas (h : s.kept = k) (sd sa : BitVec 5) (sbh g : BitVec 4) (w : BitVec 1) : Issues k (execRamocas sd sa sbh g w s) := by
  unfold execRamocas
  exact remoteWord h

/-! Entries placed by a word -/

theorem placeVx (h : s.kept = k) (w : Nat) (v : Word) : Issues k (s.placeVx w v) :=
  ite (holdOn h _) (retire ((s.enqueue_kept _).trans h))

theorem placeVector (h : s.kept = k) (i : Instr) (regs : List (BitVec 5)) (v : Word) : Issues k (s.placeVector i regs v) := by
  refine ite (holdOn h _) ?_
  split
  · exact fault _ _
  · exact placeVx h _ _

theorem vmlog (h : s.kept = k) (md ma mb : BitVec 3) (op idle : BitVec 2) : Issues k (execVmlog md ma mb op idle s) := by
  unfold execVmlog
  exact placeVector h _ _ _

theorem placeVmem (h : s.kept = k) (i : Instr) (v sa c : BitVec 5) (write : Bool) : Issues k (s.placeVmem i v sa c write) :=
  ite (holdOn h _) (ite (fault _ _) (ite (fault _ _) (ite (fault _ _) (watchWord h fun _ ht => placeVx ht _ _))))

theorem patchAndIssue (h : s.kept = k) (eng : BitVec 3) (t : BitVec 6) (fld : BitVec 5) (val : BitVec 16) :
    Issues k (execPatchAndIssue eng t fld val s) := by
  refine ite (holdOn h _) (ite (fault _ _) ?_)
  dsimp only
  split
  · exact fault _ _
  · next e _ =>
    refine retire (((s.enqueue e).ctx_kept ?_).trans ((s.enqueue_kept e).trans h))
    rfl

/-! Conversions: only the generator changes (R85) -/

theorem fcvt (h : s.kept = k) (sd sa : BitVec 5) (sto : BitVec 1) (dst g : BitVec 4) (rtz : BitVec 1) (src : BitVec 4) :
    Issues k (execFcvt sd sa sto dst g rtz src s) := by
  unfold execFcvt
  refine guarded h (retire ((State.push_kept _ _ _).trans ((State.push_kept _ _ _).trans ((s.ctx_kept ?_).trans h))))
  rfl

/-! Control -/

theorem br (h : s.kept = k) (g : BitVec 4) (off : BitVec 20) : Issues k (execBr g off s) :=
  control (ite (branchTo fun _ => next h) (next h))

theorem call (h : s.kept = k) (g : BitVec 4) (off : BitVec 20) : Issues k (execCall g off s) :=
  control (ite (branchTo fun _ => next h) (next h))

theorem jr (h : s.kept = k) (sd sa : BitVec 5) (g : BitVec 4) : Issues k (execJr sd sa g s) :=
  control (ite (branchTo fun _ => next h) (next h))

theorem lbrk (h : s.kept = k) (l : BitVec 2) (g : BitVec 4) : Issues k (execLbrk l g s) := by
  unfold execLbrk
  refine control ?_
  dsimp only
  refine ite (branchTo fun n => next ((State.retireBranch_kept _ _).trans ?_)) (next ((s.retireBranch_kept none).trans h))
  exact foldl_kept _ (fun t m ht => (t.push_kept _ _).trans ht) _ s h

theorem idle (h : s.kept = k) (sa : BitVec 5) (g : BitVec 4) (n : BitVec 10) : Issues k (execIdle sa g n s) := by
  unfold execIdle
  exact ite (retire h) (ite (retire h) (holdOn h _))

/-! Templates, rings and tokens -/

theorem tdef (h : s.kept = k) (eng : BitVec 3) (t : BitVec 6) (sa : BitVec 5) (off : BitVec 19) : Issues k (execTdef eng t sa off s) := by
  unfold execTdef
  refine wide h (ite (fault _ _) (ite (fault _ _) (servedHold h (fun u e => ?_) fun w => ite (retireWide ?_) (fault _ _))))
  · obtain rfl := Host.Outcome.next.inj e
    exact h
  · exact (s.ctx_kept rfl).trans h

theorem tread (h : s.kept = k) (eng : BitVec 3) (t : BitVec 6) (sa : BitVec 5) (off : BitVec 19) : Issues k (execTread eng t sa off s) := by
  unfold execTread
  refine wide h (ite (fault _ _) (ite (fault _ _) (servedHold h (fun u e => ?_) fun _ => retireWide h)))
  obtain rfl := Host.Outcome.next.inj e
  exact h

theorem racq (h : s.kept = k) (sd : BitVec 5) (side : BitVec 1) (ring : BitVec 3) : Issues k (execRacq sd side ring s) := by
  unfold execRacq
  refine ite (fault _ _) (ite (retire ?_) (retire ?_))
  all_goals simpa using h

theorem rrel (h : s.kept = k) (sa : BitVec 5) (full : BitVec 1) (ring : BitVec 3) : Issues k (execRrel sa full ring s) := by
  refine ite (fault _ _) ?_
  split
  · exact ite (retire h) (fault _ _)
  · exact fault _ _

theorem tokPush (h : s.kept = k) (fifo : BitVec 3) : Issues k (execTokPush fifo s) := by
  unfold execTokPush
  exact ite (fault _ _) (retire ((s.push_kept _ _).trans h))

theorem tokTry (h : s.kept = k) (sd : BitVec 5) (fifo : BitVec 3) : Issues k (execTokTry sd fifo s) := by
  unfold execTokTry
  exact ite (scalar ((s.ctx_kept rfl).trans h) _ _ _) (scalar h _ _ _)

theorem qdrain (h : s.kept = k) (mask : BitVec 9) : Issues k (execQdrain mask s) := by
  unfold execQdrain
  extract_lets u
  have hu : u.kept = k := ite_kept h h
  exact ite (retire hu) (holdOn hu _)

/-! Waits and signals -/

theorem waita (h : s.kept = k) (sd sa : BitVec 5) (nz : BitVec 1) (n : BitVec 2) : Issues k (execWaita sd sa nz n s) := by
  unfold execWaita
  split
  · exact holdOn h _
  · dsimp only
    split
    · exact fault _ _
    · exact next h

theorem fsig (h : s.kept = k) (sa : BitVec 5) (eng : BitVec 3) (flag : BitVec 6) : Issues k (execFsig sa eng flag s) := by
  unfold execFsig
  dsimp only
  split
  · exact holdOn h _
  · exact retire (ite_kept h h)

theorem wfiltIns (h : s.kept = k) (sa : BitVec 5) (n : BitVec 8) (space : BitVec 1) : Issues k (execWfiltIns sa n space s) := by
  refine ite (retire ((s.push_kept _ _).trans h)) (holdOn ?_ _)
  exact (s.push_kept _ _).trans h

/-! Barriers -/

theorem arriveWhenFree {n : Nat} {w : Wait} {f : State → Out} (h : s.kept = k) (hf : ∀ t, t.kept = k → Issues k (f t)) :
    Issues k (s.arriveWhenFree n w f) :=
  ite (hf _ ((s.arrive_kept n).trans h)) (ite (hf _ ((s.observe n).arrive_kept n |>.trans ((s.observe_kept n).trans h))) (holdOn h _))

theorem barw (h : s.kept = k) (sd sa : BitVec 5) (n : BitVec 3) : Issues k (execBarw sd sa n s) :=
  barChecked (ite (endHold h _ _) (ite (endHold ((s.observe_kept _).trans h) _ _) (holdOn h _)))

theorem bart (h : s.kept = k) (sd : BitVec 5) (n : BitVec 3) : Issues k (execBart sd n s) :=
  barChecked (ite (scalar h _ _ _) (ite (scalar ((s.observe_kept _).trans h) _ _ _) (scalar h _ _ _)))

theorem alignOn (h : s.kept = k) (w : Wait) : Issues k (s.alignOn w) :=
  ite (ite (arriveWhenFree h fun _ ht => holdOn ht _) (holdOn h _)) (ite (holdOn ((s.observeAll_kept _).trans h) _) (holdOn h _))

theorem align (h : s.kept = k) (sd sa : BitVec 5) (n : BitVec 3) : Issues k (execAlign sd sa n s) := by
  unfold execAlign
  split
  · exact alignOn h _
  · exact barChecked (ite (fault _ _) (alignOn h _))

/-! Bindings, locks and fences -/

theorem bind (h : s.kept = k) (sa : BitVec 5) (c : BitVec 3) : Issues k (execBind sa c s) := by
  unfold execBind
  refine ite (fault _ _) (ite (fault _ _) (servedHold h (fun u e => ?_) fun w =>
    ite (fault _ _) (ite (fault _ _) (ite (fault _ _) (ite (fault _ _) (ite (fault _ _) (retire h)))))))
  obtain rfl := Host.Outcome.next.inj e
  exact h

theorem lockHome {n : Nat} {wait : State → Out} {f : State → Nat → Nat → Out} (h : s.kept = k) (hw : ∀ t, t.kept = k → Issues k (wait t))
    (hf : ∀ t m pa, t.kept = k → Issues k (f t m pa)) : Issues k (s.lockHome n wait f) := by
  have ht := (s.translate_kept permRWA (s.core.ctx.binding n).object 0).trans h
  unfold State.lockHome
  dsimp only
  split
  · next e => exact hw _ (by rwa [e] at ht)
  · exact fault _ _
  · next e => exact hf _ _ _ (by rwa [e] at ht)

theorem acqLockOn (h : s.kept = k) (sd : BitVec 5) (w : Wait) : Issues k (s.acqLockOn sd w) := by
  refine ite (endHold h _ _) (ite ?_ (holdOn h _))
  exact lockHome h (fun _ ht => holdOn ht _) fun t _ _ ht => holdOn ((t.dispatch_kept _ rfl).trans ht) _

theorem acqBarrierOn (h : s.kept = k) (sd : BitVec 5) (n : Nat) (w : Wait) : Issues k (s.acqBarrierOn sd n w) := by
  unfold State.acqBarrierOn
  refine ite (endHold ((State.ctx_kept _ rfl).trans ((s.observeAll_kept _).trans h)) _ _) ?_
  split
  · exact ite (endHold h _ _) (holdOn h _)
  · exact holdOn h _

theorem acq (h : s.kept = k) (sd sa : BitVec 5) (c : BitVec 3) : Issues k (execAcq sd sa c s) := by
  unfold execAcq
  split
  · exact acqLockOn h _ _
  · exact acqBarrierOn h _ _ _
  · exact ite (fault _ _) (ite (acqBarrierOn h _ _ _) (acqLockOn h _ _))

theorem releaseObject {n : Nat} {w : Wait} {f : State → Out} (h : s.kept = k) (hf : ∀ t, t.kept = k → Issues k (f t)) :
    Issues k (s.releaseObject n w f) :=
  ite (barChecked (arriveWhenFree h fun _ ht => hf _ ht))
    (ite (holdOn h _) (lockHome h (fun _ ht => holdOn ht _) fun _ _ _ ht => hf _ ((State.dispatch_kept _ _ rfl).trans ht)))

theorem rel (h : s.kept = k) (ovr : BitVec 1) (scope : BitVec 2) (c : BitVec 3) : Issues k (execRel ovr scope c s) := by
  have hs := (s.fencing_kept .rel Entry.fencable).trans h
  exact ite (fault _ _) (ite (releaseObject hs fun _ ht => retire ht) (holdOn hs _))

theorem fence (h : s.kept = k) (scope : BitVec 2) : Issues k (execFence scope s) := by
  have hs := (s.fencing_kept .fence Entry.fencable).trans h
  exact ite (retire hs) (holdOn hs _)

/-! Commit groups -/

theorem cgopen (h : s.kept = k) (sa : BitVec 5) (c cg : BitVec 3) : Issues k (execCgopen sa c cg s) :=
  ite (fault _ _) (ite (fault _ _) (ite (fault _ _) (retire h)))

theorem groupRelease (h : s.kept = k) (sd : BitVec 5) (g : Nat) (w : Wait) : Issues k (s.groupRelease sd g w) :=
  releaseObject h fun _ ht => endHold ht _ _

theorem groupAnswers (h : s.kept = k) (sd : BitVec 5) (g : Nat) (publish : Bool) (w : Wait) : Issues k (s.groupAnswers sd g publish w) := by
  refine ite (holdOn h _) (ite (groupRelease ?_ _ _ _) (endHold ?_ _ _))
  all_goals exact (s.ctx_kept rfl).trans h

theorem groupPublish (h : s.kept = k) (sd : BitVec 5) (g : Nat) (w : Wait) : Issues k (s.groupPublish sd g w) :=
  ite (groupAnswers ((s.sendPackets_kept g true).trans h) _ _ _ _) (holdOn h _)

theorem groupOn (h : s.kept = k) (sd : BitVec 5) (g : Nat) (commit : Bool) (w : Wait) : Issues k (s.groupOn sd g commit w) :=
  ite (groupRelease h _ _ _) (ite (groupAnswers h _ _ _ _) (ite (groupAnswers h _ _ _ _) (ite (groupPublish h _ _ _) (ite (holdOn h _)
    (ite (groupPublish h _ _ _) (groupAnswers ((s.sendPackets_kept g false).trans h) _ _ _ _))))))

theorem groupWord (h : s.kept = k) (sd : BitVec 5) (g : Nat) (commit : Bool) : Issues k (s.groupWord sd g commit) := by
  unfold State.groupWord
  split
  · exact groupOn h _ _ _ _
  · exact ite (fault _ _) (ite (fault _ _) (groupOn ((s.fencing_kept _ _).trans h) _ _ _ _))

/-! Monitors, circuits, power, launches -/

theorem monset (h : s.kept = k) (sa : BitVec 5) (c : BitVec 2) : Issues k (execMonset sa c s) := by
  unfold execMonset
  split
  · exact fault _ _
  · exact retire h

theorem monref (h : s.kept = k) (sa : BitVec 5) (c : BitVec 2) : Issues k (execMonref sa c s) :=
  ite (fault _ _) (ite (fault _ _) (retire h))

theorem cwait (h : s.kept = k) (sd sa n : BitVec 5) : Issues k (execCwait sd sa n s) :=
  ite (endHold h _ _) (ite (endHold h _ _) (holdOn h _))

theorem launch (h : s.kept = k) (sa : BitVec 5) (addr : BitVec 15) : Issues k (execLaunch sa addr s) :=
  wide h (ite (fault _ _) (ite (holdOn h _) (retireWide ((State.sendReq_kept _ _ rfl).trans h))))

/-! The end of a task and the return from a handler -/

theorem kend (h : s.kept = k) (sa : BitVec 5) : Issues k (execKend sa s) := by
  have haborts := ((s.ctx (·.abortOpen)).ctrlAborts_kept s.core.ctx.lid).trans h
  refine ite (ite (ite ?_ (ended (State.endTask_phase _ _))) (holdOn h _)) (ite (holdOn h _) (ended (State.endTask_phase _ _)))
  exact holdOn haborts _

theorem rett (h : s.kept = k) (hp : s.phase = .issue) : Issues k (execRett s) := by
  unfold execRett
  dsimp only
  split
  · exact ite (ended (State.resume_phase hp)) (ite (holdOn h _) (ite (holdOn h _) (holdOn h _)))
  · refine ite (fault _ _) (ite (holdOn ?_ _) (holdOn ?_ _))
    all_goals exact (s.ctx_kept rfl).trans h

end Issues

end Sys2Proof.Machine
end

section
/-! PROOFS. The words of the issue stream, each by the rule of its shape, and O54 (R9, R91, R93). -/

namespace Sys2Proof.Machine

/-! Writes of CSRs: the flags are all they can change at issue (R82, R126) -/

def Kept.withFlags (k : Kept) (f : BitVec 5) : Kept := { k with ctx := { k.ctx with flags := f } }

theorem Ctx.csrWriteNow_kept (c : Ctx) (sel : BitVec 10) (w : Word) :
    (c.csrWriteNow sel w).kept = { c.kept with flags := (c.csrWriteNow sel w).regs.flags } := by
  unfold Ctx.csrWriteNow
  split_ifs <;> rfl

theorem Ctx.csrWriteNow_flags (c : Ctx) {sel : BitVec 10} (w : Word) (h : sel ≠ 0) : (c.csrWriteNow sel w).regs.flags = c.regs.flags := by
  unfold Ctx.csrWriteNow
  rw [if_neg h]
  split_ifs <;> rfl

theorem State.csrWrite_kept (s : State) (sel : BitVec 10) (w : Word) :
    (s.csrWrite sel w).kept = s.kept.withFlags (s.core.ctx.csrWriteNow sel w).regs.flags := by
  refine (State.push_kept _ _ _).trans ?_
  simp only [State.kept, State.ctx_core, State.ctx_others, State.ctx_mem, Ctx.csrWriteNow_kept, Kept.withFlags]

namespace Issues

/-- A CSR write under its guard, after what else the word does. -/
theorem csrWrite {s u : State} (hu : u.kept = s.kept) (g : BitVec 4) (csr : BitVec 10) (v : Word) :
    ∃ f, Issues (s.kept.withFlags f)
        (s.guarded g fun _ => if !s.mayName csr then s.wordFault causePrivilege 0 else .next (u.csrWrite csr v).retire) ∧
      (csr ≠ 0 → f = s.core.ctx.regs.flags) := by
  by_cases hg : s.guard g = true
  · refine ⟨(u.core.ctx.csrWriteNow csr v).regs.flags, ?_, fun hc => ?_⟩
    · unfold State.guarded
      rw [if_pos hg]
      exact ite (fault _ _) (retire ((u.csrWrite_kept csr v).trans (by rw [hu])))
    · exact (u.core.ctx.csrWriteNow_flags v hc).trans (congrArg (fun k : Kept => k.ctx.flags) hu)
  · refine ⟨s.core.ctx.regs.flags, ?_, fun _ => rfl⟩
    unfold State.guarded
    rw [if_neg hg]
    exact retire rfl

/-- A word of the issue stream but for a write of a CSR. -/
theorem word {k : Kept} {s : State} (h : s.kept = k) (hp : s.phase = .issue) (i : Instr) (hw : i.isWord = true)
    (hcw : ∀ sa g c, i ≠ .csrw sa g c) (hcx : ∀ sd sa g c, i ≠ .csrx sd sa g c) : Issues k (exec i s) := by
  cases i with
  -- scalar words with a guard
  | add | sub | mul | mulh | div | rem | and | or | xor | shl | shr | sra | min | max | clz | popc | sel
  | addi | andi | ori | xori | shli | shri | srai => exact guarded h (scalar h _ _ _)
  | cmp | plog | cmpi => exact guarded h (predicate h _ _)
  | fadd | fsub | fmul | fdiv | fsqrt | fma | fmin | fmax => exact guarded h (floatResult h _ _ _)
  | fcmp => exact guarded h (retire ((State.push_kept _ _ _).trans ((s.push_kept _ _).trans h)))
  | fcvt => exact fcvt h _ _ _ _ _ _ _
  | csrr => exact guarded h (ite (fault _ _) (retire (((s.push 1 _).csrReadEffect_kept _).trans h)))
  -- reads that need no guard
  | lhi | rstat | tokRd | rtick | rcyc | cstat | cstatSettle | cstatStart | cstatFrec | cgstat | rqrd | wfiltTst => exact scalar h _ _ _
  | monrd | monchk => exact retire ((s.push_kept _ _).trans h)
  | pbr => exact ite illegal (predicate h _ _)
  | pack => exact ite (scalar (((State.at_kept _ _ _).trans (s.onDie_kept _ _)).trans h) _ _ _) (scalar h _ _ _)
  -- control and loops
  | br => exact br h _ _
  | call => exact call h _ _
  | jr => exact jr h _ _ _
  | loop => exact control (guarded h (startLoop h _ _ _))
  | loopi => exact control (startLoop h _ _ _)
  | lbrk => exact lbrk h _ _
  | idle => exact idle h _ _ _
  | jmpf => exact farJump h (next ((s.retireTo_kept _).trans h))
  | callf => exact farJump h (next ((State.retireTo_kept _ _).trans ((s.push_kept _ _).trans h)))
  -- the pool, and another core's
  | lds | amo | amocas => exact guarded h (poolAccess h fun t ht => retire ((t.askSq_kept _ _ _ _).trans ht))
  | sts => exact guarded h (poolAccess h fun t ht => retire ((t.askWrite_kept _ _).trans ht))
  | rld => exact rld h _ _ _ _
  | rst => exact rst h _ _ _ _ _
  | ramo => exact ramo h _ _ _ _ _ _
  | ramocas => exact ramocas h _ _ _ _ _
  -- entries placed
  | vadd | vsub | vmul | vfma | vmin | vmax | vabs | vneg | vand | vor | vxor | vandn | vshl | vshr | vsra | vcmp | vsel | vcvt | vrint
  | vrcp | vrsq | vexp2 | vlog2 | vred | vscan | vperm | vrot | vlane | vpack | vunpack | vmov | vmovBroadcast | vmpop | vdot2
  | vgath | vscat => exact placeVector h _ _ _
  | vmlog => exact vmlog h _ _ _ _ _
  | vld | vst => exact placeVmem h _ _ _ _ _
  | tokVpop | tokVpush => exact placeVx h _ _
  | patchAndIssue => exact patchAndIssue h _ _ _ _
  | amend => exact ite (fault _ _) (retire ((s.ctx_kept rfl).trans h))
  -- wide words
  | li | qdef | qread => exact wide h (retireWide ((s.push_kept _ _).trans h))
  | whlCount => exact wide h (retireWide ((State.push_kept _ _ _).trans ((s.wheel_kept _).trans h)))
  | rdef => exact wide h (ite (retireWide ((s.push_kept _ _).trans h)) (fault _ _))
  | tdef => exact tdef h _ _ _ _
  | tread => exact tread h _ _ _ _
  | whlSlot | whlStride | whlLen => exact whlStopped h ((s.wheel_kept _).trans h)
  | whlgo => exact wide h (ite (holdOn h _) (retireWide ((s.wheel_kept _).trans h)))
  | launch => exact launch h _ _
  -- rings, tokens, engines
  | racq => exact racq h _ _ _
  | rrel => exact rrel h _ _ _
  | tokPush => exact tokPush h _
  | tokTry => exact tokTry h _ _
  | qdrain => exact qdrain h _
  | waita => exact waita h _ _ _ _
  | fsig => exact fsig h _ _ _
  -- barriers, locks, groups, monitors
  | bar => exact barChecked (arriveWhenFree h fun _ ht => retire ht)
  | barw => exact barw h _ _ _
  | bart => exact bart h _ _
  | align => exact align h _ _ _
  | bind => exact bind h _ _
  | acq => exact acq h _ _ _
  | rel => exact rel h _ _ _
  | fence => exact fence h _
  | cgopen => exact cgopen h _ _ _
  | cgcommit | cgabort => exact groupWord h _ _ _
  | monset => exact monset h _ _
  | monref => exact monref h _ _
  | cwait => exact cwait h _ _ _
  -- tasks, traps, the write filter
  | kend => exact kend h _
  | trap => exact ite illegal (retire ((s.ctx_kept rfl).trans h))
  | rett => exact rett h hp
  | rqwr => exact retire ((s.ctx_kept rfl).trans h)
  | bkpt => exact ite (retire h) (fault _ _)
  | wfiltClr => exact retire ((s.push_kept _ _).trans h)
  | wfiltIns => exact wfiltIns h _ _ _
  | csrw => exact absurd rfl (hcw _ _ _)
  | csrx => exact absurd rfl (hcx _ _ _ _)
  -- no words of the issue stream
  | _ => exact absurd hw Bool.false_ne_true

end Issues

/-- Every word of the issue stream: the flags stay but for a write of FCSR. -/
theorem exec_issues {s : State} (hp : s.phase = .issue) (i : Instr) (hw : i.isWord = true) :
    ∃ f, Issues (s.kept.withFlags f) (exec i s) ∧
      ((∀ sa g, i ≠ .csrw sa g 0) → (∀ sd sa g, i ≠ .csrx sd sa g 0) → f = s.core.ctx.regs.flags) := by
  by_cases hcw : ∃ sa g c, i = .csrw sa g c
  · obtain ⟨sa, g, c, rfl⟩ := hcw
    obtain ⟨f, hf, hc⟩ := Issues.csrWrite rfl g c (s.reg sa)
    exact ⟨f, hf, fun hi _ => hc fun e => hi sa g (by rw [e])⟩
  by_cases hcx : ∃ sd sa g c, i = .csrx sd sa g c
  · obtain ⟨sd, sa, g, c, rfl⟩ := hcx
    obtain ⟨f, hf, hc⟩ := Issues.csrWrite (((s.push 1 (.sreg sd (s.csrValue c))).csrReadEffect_kept c).trans (s.push_kept _ _)) g c (s.reg sa)
    exact ⟨f, hf, fun _ hi => hc fun e => hi sd sa g (by rw [e])⟩
  · exact ⟨s.core.ctx.regs.flags, Issues.word rfl hp i hw (fun sa g c e => hcw ⟨sa, g, c, e⟩) fun sd sa g c e => hcx ⟨sd, sa, g, c, e⟩,
      fun _ _ => rfl⟩

/-- What states that agree on the part kept, but for the flags, agree on. -/
theorem State.eq_of_kept {s t : State} {f : BitVec 5} (h : t.kept = s.kept.withFlags f) :
    (∀ r, t.reg r = s.reg r) ∧ (∀ p, t.core.ctx.regs.getP p = s.core.ctx.regs.getP p) ∧ t.core.ctx.regs.flags = f ∧
    t.core.ctx.regs.frm = s.core.ctx.regs.frm ∧ t.core.pool = s.core.pool ∧ t.core.cid = s.core.cid ∧ t.others = s.others ∧
    t.mem = s.mem ∧ t.core.ctx.trap = s.core.ctx.trap ∧ t.core.ctx.masks = s.core.ctx.masks ∧
    t.core.ctx.accs = s.core.ctx.accs ∧ t.core.ctx.planes = s.core.ctx.planes ∧ t.core.ctx.rings = s.core.ctx.rings := by
  simp only [State.kept, Ctx.kept, Kept.withFlags, Kept.mk.injEq, CtxKept.mk.injEq] at h
  obtain ⟨⟨hs, hpr, hfrm, hfl, htrap, hmasks, haccs, hplanes, hrings⟩, hpool, hcid, hothers, hmem⟩ := h
  refine ⟨fun r => ?_, fun p => ?_, hfl, hfrm, hpool, hcid, hothers, hmem, htrap, hmasks, haccs, hplanes, hrings⟩
  · simp only [State.reg, Regs.get, hs]
  · simp only [Regs.getP, hpr]

/-- Settles O54, by the shapes of the issue stream's words: each asks, places, pushes or retires, and those leave the part kept. -/
theorem issuedWordsOnlyAskAndPutInFlight : Obligations.IssuedWordsOnlyAskAndPutInFlight := by
  intro i s t hw hp he ht
  obtain ⟨f, hf, hflags⟩ := exec_issues hp i hw
  obtain ⟨hreg, hpred, hfl, hrest⟩ := State.eq_of_kept (hf t he ht)
  exact ⟨hreg, hpred, fun hcw hcx => hfl.trans (hflags hcw hcx), hrest⟩

end Sys2Proof.Machine
end

section
/-! PROOFS. The fields of a word (R42 to R55): what is read of a word is the part of it under a mask, what is put at places that do not
overlap is read back. -/

namespace Sys2Proof

/-! Bits of a field that is read and of a field that is put -/

theorem toNat_bf (n w lo : Nat) : (bf n w lo).toNat = w / 2 ^ lo % 2 ^ n := BitVec.toNat_ofNat ..

theorem fz_eq_bf (w lo n v : Nat) : fz w lo n v = ((bf n w lo).toNat == v) := by rw [toNat_bf, fz]

theorem getLsbD_bf (n w lo j : Nat) : (bf n w lo).getLsbD j = (decide (j < n) && w.testBit (j + lo)) := by
  rw [BitVec.getLsbD, toNat_bf, Nat.testBit_mod_two_pow, Nat.testBit_div_two_pow]

theorem testBit_put (v : BitVec n) (lo j : Nat) : (put v lo).testBit j = (decide (lo ≤ j) && v.getLsbD (j - lo)) :=
  Nat.testBit_mul_two_pow ..

theorem bf_eq_iff {n w lo : Nat} {v : BitVec n} : bf n w lo = v ↔ ∀ j < n, w.testBit (j + lo) = v.getLsbD j := by
  refine ⟨fun h j hj => ?_, fun h => BitVec.eq_of_getLsbD_eq fun j hj => ?_⟩
  · rw [← h, getLsbD_bf, decide_eq_true hj, Bool.true_and]
  · rw [getLsbD_bf, decide_eq_true hj, Bool.true_and, h j hj]

/-! Encoding: fields put at places of their own do not disturb each other -/

/-- Numbers with no bit in common add up to their union. -/
theorem add_eq_or_of_and_eq_zero {x y : Nat} (h : x &&& y = 0) : x + y = x ||| y := by
  have hadd : x + y < 2 ^ (x + y) := Nat.lt_two_pow_self
  have hor : x ||| y < 2 ^ (x + y) := Nat.or_lt_two_pow (by omega) (by omega)
  have hbv := BitVec.add_eq_or_of_and_eq_zero (BitVec.ofNat (x + y) x) (BitVec.ofNat (x + y) y) (by rw [← BitVec.ofNat_and, h])
  rw [← BitVec.ofNat_add, ← BitVec.ofNat_or] at hbv
  simpa only [BitVec.toNat_ofNat, Nat.mod_eq_of_lt hadd, Nat.mod_eq_of_lt hor] using congrArg BitVec.toNat hbv

/-- A field added where the word is still clear joins it. -/
theorem add_put {x k : Nat} (v : BitVec m) (h : bf m x k = 0#m) : x + put v k = x ||| put v k := by
  refine add_eq_or_of_and_eq_zero (Nat.eq_of_testBit_eq fun j => ?_)
  rw [Nat.testBit_and, testBit_put, Nat.zero_testBit]
  by_cases hj : k ≤ j ∧ j - k < m
  · have hx := bf_eq_iff.mp h (j - k) hj.2
    rw [Nat.sub_add_cancel hj.1, BitVec.getLsbD_zero] at hx
    rw [hx, Bool.false_and]
  · by_cases hk : k ≤ j
    · rw [BitVec.getLsbD_of_ge v (j - k) (by omega), Bool.and_false, Bool.and_false]
    · simp [hk]

/-- A field is read back from its place. -/
theorem bf_or_put {x lo : Nat} (v : BitVec n) (h : bf n x lo = 0#n) : bf n (x ||| put v lo) lo = v := by
  refine bf_eq_iff.mpr fun j hj => ?_
  rw [Nat.testBit_or, testBit_put, bf_eq_iff.mp h j hj]
  simp

/-- A field elsewhere does not change what is read. -/
theorem bf_or_put_of_disjoint {x n lo k : Nat} (v : BitVec m) (h : lo + n ≤ k ∨ k + m ≤ lo) :
    bf n (x ||| put v k) lo = bf n x lo := by
  refine bf_eq_iff.mpr fun j hj => ?_
  rw [Nat.testBit_or, testBit_put, getLsbD_bf, decide_eq_true hj, Bool.true_and]
  rcases h with h | h
  · rw [decide_eq_false (by omega), Bool.false_and, Bool.or_false]
  · rw [BitVec.getLsbD_of_ge v _ (by omega), Bool.and_false, Bool.or_false]

/-! Decoding: the fields of a word are parts of it under masks that do not overlap -/

theorem testBit_mask (n lo j : Nat) : ((2 ^ n - 1) * 2 ^ lo).testBit j = (decide (lo ≤ j) && decide (j - lo < n)) := by
  rw [Nat.testBit_mul_two_pow, Nat.testBit_two_pow_sub_one]

/-- A field put back where it was read is the word under the field's mask. -/
theorem put_bf (n w lo : Nat) : put (bf n w lo) lo = w &&& (2 ^ n - 1) * 2 ^ lo := by
  refine Nat.eq_of_testBit_eq fun j => ?_
  rw [testBit_put, Nat.testBit_and, testBit_mask, getLsbD_bf]
  by_cases hj : lo ≤ j
  · rw [Nat.sub_add_cancel hj, decide_eq_true hj, Bool.true_and, Bool.true_and, Bool.and_comm]
  · simp [hj]

theorem fz_eq_and (w lo n v : Nat) : fz w lo n v = (w &&& (2 ^ n - 1) * 2 ^ lo == v * 2 ^ lo) := by
  rw [fz_eq_bf, ← put_bf, put, Bool.eq_iff_iff, beq_iff_eq, beq_iff_eq, Nat.mul_left_inj (Nat.two_pow_pos lo).ne']

theorem and_add_and {w a b : Nat} (h : a &&& b = 0) : (w &&& a) + (w &&& b) = w &&& (a ||| b) := by
  have hdisj : w &&& a &&& (w &&& b) = 0 := by rw [Nat.and_comm w b, Nat.and_assoc, ← Nat.and_assoc a b w, h, Nat.zero_and, Nat.and_zero]
  rw [add_eq_or_of_and_eq_zero hdisj, ← Nat.and_or_distrib_left]

theorem add_and_add_and {w a b x : Nat} (h : a &&& b = 0) : x + (w &&& a) + (w &&& b) = x + (w &&& (a ||| b)) := by
  rw [add_assoc, and_add_and h]

/-- Two parts of a word with fixed values are one part with a fixed value. -/
theorem and_eq_and_and_eq_iff {w a b c d : Nat} (h : a &&& b = 0) (hc : c &&& a = c) (hd : d &&& b = d) :
    (w &&& a = c ∧ w &&& b = d) ↔ w &&& (a ||| b) = c ||| d := by
  refine ⟨fun ⟨ha, hb⟩ => by rw [Nat.and_or_distrib_left, ha, hb], fun hw => ?_⟩
  have hca : c &&& b = 0 := by rw [← hc, Nat.and_assoc, h, Nat.and_zero]
  have hda : d &&& a = 0 := by rw [← hd, Nat.and_assoc, Nat.and_comm b, h, Nat.and_zero]
  have ha := congrArg (· &&& a) hw
  have hb := congrArg (· &&& b) hw
  simp only [Nat.and_or_distrib_right, Nat.and_or_distrib_left, Nat.and_assoc, Nat.and_self, Nat.and_comm b a, h, hc, hd, hca, hda,
    Nat.and_zero, Nat.or_zero, Nat.zero_or] at ha hb
  exact ⟨ha, hb⟩

/-- The fixed part of a word and its fields together are the word. -/
theorem fixed_add_fields {w a c m N : Nat} (hfix : w &&& a = c) (hdisj : a &&& m = 0) (hfull : a ||| m = 2 ^ N - 1) :
    c + (w &&& m) = w % 2 ^ N := by
  rw [← hfix, and_add_and hdisj, hfull, Nat.and_two_pow_sub_one_eq_mod]

end Sys2Proof
end

section
/-! PROOFS. What decodes encodes to the word itself (R43, R54, R302): in each arm of a decoder the bits that led there, the bits it
requires and the fields it reads are together all bits of the word. O59. -/

namespace Sys2Proof

/-- R54: the bits of one word or of two. -/
def wordBits (wide : Bool) : Nat := if wide then 64 else 32

/-- What a decoder answers of `w` takes one word or two, as `wide` says, and encodes to just those. -/
def Reads (wide : Bool) (w : Nat) (r : Except Reject Instr) : Prop :=
  ∀ i, r = .ok i → i.isWide = wide ∧ encode i = w % 2 ^ wordBits wide

namespace Reads

variable {wide : Bool} {w : Nat} {F : Prop} {c : Bool} {i : Instr} {r : Except Reject Instr}

theorem error (e : Reject) : Reads wide w (.error e) := by
  rintro _ ⟨⟩

/-- An instruction is answered where the bits `c` hold, besides those `F` that led to it. Its encoding is a sum over its fields; for one
that has none, `w &&& 0` is that sum. -/
theorem ite (hF : F) (hi : i.isWide = wide) (h : F ∧ c = true → encode i + (w &&& 0) = w % 2 ^ wordBits wide) (hr : Reads wide w r) :
    Reads wide w (if c then .ok i else r) := by
  split
  next hc =>
    rintro _ ⟨⟩
    exact ⟨hi, by rw [← h ⟨hF, hc⟩, Nat.and_zero, Nat.add_zero]⟩
  next => exact hr

/-- R43: the check of the values answers no other instruction. -/
theorem checked (h : Reads wide w r) : Reads wide w (Sys2Proof.checked r) := by
  unfold Sys2Proof.checked
  split
  · split
    · exact h
    · exact error _
  · exact error _

end Reads

theorem fz_of_eq {w lo v : Nat} (n : Nat) (h : w / 2 ^ lo % 2 ^ n = v) : fz w lo n v = true := beq_iff_eq.mpr h

theorem decodeScalar_reads {w : Nat} (hclass : fz w 30 2 0 = true) : Reads false w (decodeScalar w) := by
  unfold decodeScalar
  split
  case h_57 => exact .error _
  all_goals
    rename_i hop
    refine .ite (And.intro hclass (fz_of_eq 6 hop)) rfl (fun h => ?_) (.error _)
    simp +decide only [Bool.and_eq_true, fz_eq_and, beq_iff_eq, and_eq_and_and_eq_iff, and_true] at h
    simp +decide only [encode.eq_def, put_bf, add_and_add_and]
    exact fixed_add_fields h rfl rfl

theorem decodeVector_reads {w : Nat} (hclass : fz w 30 2 1 = true) : Reads false w (decodeVector w) := by
  unfold decodeVector
  split
  case h_39 => exact .error _
  all_goals
    rename_i hop
    -- one condition, or two where a move and its broadcast share an op
    repeat' first | exact Reads.error _ | refine Reads.ite (And.intro hclass (fz_of_eq 7 hop)) rfl (fun h => ?_) ?_
  all_goals
    simp +decide only [Bool.and_eq_true, fz_eq_and, beq_iff_eq, and_eq_and_and_eq_iff, and_true] at h
    simp +decide only [encode.eq_def, put_bf, add_and_add_and]
    exact fixed_add_fields h rfl rfl

theorem decodeWhl_reads {w : Nat} (hop : (fz w 30 2 3 = true ∧ fz w 28 2 1 = true) ∧ fz w 22 6 21 = true) :
    Reads true w (decodeWhl w) := by
  unfold decodeWhl
  split
  case h_5 => exact .error _
  all_goals
    rename_i hkind
    refine .ite (And.intro hop (fz_of_eq 2 hkind)) rfl (fun h => ?_) (.error _)
    simp +decide only [Bool.and_eq_true, fz_eq_and, beq_iff_eq, and_eq_and_and_eq_iff] at h
    simp +decide only [encode.eq_def, put_bf, add_and_add_and]
    exact fixed_add_fields h rfl rfl

theorem decodeWide_reads {w : Nat} (hclass : fz w 30 2 3 = true ∧ fz w 28 2 1 = true) : Reads true w (decodeWide w) := by
  unfold decodeWide
  split
  case h_9 hop => exact decodeWhl_reads ⟨hclass, fz_of_eq 6 hop⟩
  case h_12 => exact .error _
  all_goals
    rename_i hop
    refine .ite (And.intro hclass (fz_of_eq 6 hop)) rfl (fun h => ?_) (.error _)
    simp +decide only [Bool.and_eq_true, fz_eq_and, beq_iff_eq, and_eq_and_and_eq_iff, and_true] at h
    simp +decide only [encode.eq_def, put_bf, add_and_add_and]
    exact fixed_add_fields h rfl rfl

theorem decodeSys_reads {w : Nat} (hclass : fz w 30 2 3 = true ∧ fz w 28 2 2 = true) : Reads false w (decodeSys w) := by
  unfold decodeSys
  split
  case h_37 => exact .error _
  all_goals
    rename_i hop
    -- one condition, or one for each of the forms that share an op
    repeat' first | exact Reads.error _ | refine Reads.ite (And.intro hclass (fz_of_eq 6 hop)) rfl (fun h => ?_) ?_
  all_goals
    simp +decide only [Bool.and_eq_true, fz_eq_and, beq_iff_eq, and_eq_and_and_eq_iff] at h
    simp +decide only [encode.eq_def, put_bf, add_and_add_and]
    exact fixed_add_fields h rfl rfl

theorem patchAndIssue_reads {w : Nat} (hclass : fz w 30 2 2 = true) :
    Reads false w (.ok (.patchAndIssue (bf 3 w 27) (bf 6 w 21) (bf 5 w 16) (bf 16 w 0))) := by
  refine .ite (c := true) hclass rfl (fun h => ?_) (.error .reservedOp)
  simp +decide only [fz_eq_and, beq_iff_eq, and_true] at h
  simp +decide only [encode.eq_def, put_bf, add_and_add_and]
  exact fixed_add_fields h rfl rfl

theorem amend_reads {w : Nat} (hclass : fz w 30 2 3 = true ∧ fz w 28 2 0 = true) :
    Reads false w (need (fz w 21 4 0) (.amend (bf 3 w 25) (bf 5 w 16) (bf 16 w 0))) := by
  refine .ite hclass rfl (fun h => ?_) (.error _)
  simp +decide only [fz_eq_and, beq_iff_eq, and_eq_and_and_eq_iff] at h
  simp +decide only [encode.eq_def, put_bf, add_and_add_and]
  exact fixed_add_fields h rfl rfl

theorem decodeSeqRaw_reads (w : Nat) : Reads false w (decodeSeqRaw w) := by
  unfold decodeSeqRaw
  split
  case h_10 => exact .error _
  all_goals
    rename_i hop
    refine .ite (fz_of_eq 4 hop) rfl (fun h => ?_) (.error _)
    simp +decide only [fz_eq_and, beq_iff_eq, and_eq_and_and_eq_iff, and_true] at h
    simp +decide only [encode.eq_def, put_bf, add_and_add_and]
    exact fixed_add_fields h rfl rfl

/-- R42: the classes, and the sub-classes of class 11. -/
theorem decodeRaw_reads (w : Nat) : ∃ wide, Reads wide w (decodeRaw w) := by
  unfold decodeRaw
  split
  next h00 => exact ⟨false, decodeScalar_reads (fz_of_eq 2 h00)⟩
  next h01 => exact ⟨false, decodeVector_reads (fz_of_eq 2 h01)⟩
  next h10 => exact ⟨false, patchAndIssue_reads (fz_of_eq 2 h10)⟩
  next n00 n01 n10 =>
    have h11 : w / 2 ^ 30 % 4 = 3 := by
      change ¬ _ at n00 n01 n10
      omega
    split
    next hsub => exact ⟨false, amend_reads ⟨fz_of_eq 2 h11, fz_of_eq 2 hsub⟩⟩
    next hsub => exact ⟨true, decodeWide_reads ⟨fz_of_eq 2 h11, fz_of_eq 2 hsub⟩⟩
    next hsub => exact ⟨false, decodeSys_reads ⟨fz_of_eq 2 h11, fz_of_eq 2 hsub⟩⟩
    next => exact ⟨false, .error _⟩

/-- Settles O59, by the arms of the decoders: each reads or fixes every bit of its word. -/
theorem eachWordHasOneMeaning : Obligations.EachWordHasOneMeaning := by
  refine ⟨fun w i h => ?_, fun w i h => ?_⟩
  · obtain ⟨wide, hr⟩ := decodeRaw_reads w
    obtain ⟨rfl, he⟩ := hr.checked i h
    exact he
  · exact ((decodeSeqRaw_reads w).checked i h).2

end Sys2Proof
end

section
/-! PROOFS. What encodes decodes to the instruction itself (R42 to R55, R302): the encoding is the union of its fields, so the decoder finds
the class, the op and each operand at their places. O58; and O57, single words. -/

namespace Sys2Proof

theorem div_mod_of_bf {w lo n k : Nat} (h : (bf n w lo).toNat = k) : w / 2 ^ lo % 2 ^ n = k := by rw [← toNat_bf, h]

/-! R42: the decoder by class, and in class 11 by sub-class -/

theorem decodeRaw_scalar {w : Nat} (h : bf 2 w 30 = 0) : decodeRaw w = decodeScalar w := by
  rw [decodeRaw, show w / 2 ^ 30 % 4 = 0 from div_mod_of_bf (congrArg BitVec.toNat h)]
  rfl

theorem decodeRaw_vector {w : Nat} (h : bf 2 w 30 = 1) : decodeRaw w = decodeVector w := by
  rw [decodeRaw, show w / 2 ^ 30 % 4 = 1 from div_mod_of_bf (congrArg BitVec.toNat h)]
  rfl

theorem decodeRaw_patchAndIssue {w : Nat} (h : bf 2 w 30 = 2) :
    decodeRaw w = .ok (.patchAndIssue (bf 3 w 27) (bf 6 w 21) (bf 5 w 16) (bf 16 w 0)) := by
  rw [decodeRaw, show w / 2 ^ 30 % 4 = 2 from div_mod_of_bf (congrArg BitVec.toNat h)]
  rfl

theorem class11_of_bf {w : Nat} {k : BitVec 4} (h : bf 4 w 28 = k) (hk : 12 ≤ k.toNat) :
    w / 2 ^ 30 % 4 = 3 ∧ w / 2 ^ 28 % 4 = k.toNat - 12 := by
  have hw : w / 2 ^ 28 % 2 ^ 4 = k.toNat := div_mod_of_bf (congrArg BitVec.toNat h)
  omega

theorem decodeRaw_amend {w : Nat} (h : bf 4 w 28 = 12) :
    decodeRaw w = need (fz w 21 4 0) (.amend (bf 3 w 25) (bf 5 w 16) (bf 16 w 0)) := by
  obtain ⟨h11, hsub⟩ := class11_of_bf h (by decide)
  rw [decodeRaw, h11, hsub]
  rfl

theorem decodeRaw_wide {w : Nat} (h : bf 4 w 28 = 13) : decodeRaw w = decodeWide w := by
  obtain ⟨h11, hsub⟩ := class11_of_bf h (by decide)
  rw [decodeRaw, h11, hsub]
  rfl

theorem decodeRaw_sys {w : Nat} (h : bf 4 w 28 = 14) : decodeRaw w = decodeSys w := by
  obtain ⟨h11, hsub⟩ := class11_of_bf h (by decide)
  rw [decodeRaw, h11, hsub]
  rfl

/-! Each decoder's op field -/

theorem scalarOp {w k : Nat} (h : (bf 6 w 24).toNat = k) : w / 2 ^ 24 % 64 = k := div_mod_of_bf h

theorem vectorOp {w k : Nat} (h : (bf 7 w 23).toNat = k) : w / 2 ^ 23 % 128 = k := div_mod_of_bf h

theorem class11Op {w k : Nat} (h : (bf 6 w 22).toNat = k) : w / 2 ^ 22 % 64 = k := div_mod_of_bf h

theorem whlKind {w k : Nat} (h : (bf 2 w 20).toNat = k) : w / 2 ^ 20 % 4 = k := div_mod_of_bf h

theorem seqOp {w k : Nat} (h : (bf 4 w 28).toNat = k) : w / 2 ^ 28 % 16 = k := div_mod_of_bf h

/-- A span of the word is not zero where a part of it is not. -/
theorem fz_zero_eq_false {w lo n : Nat} (k m : Nat) (hlo : lo ≤ k) (hhi : k + m ≤ lo + n) (h : bf m w k ≠ 0) : fz w lo n 0 = false := by
  refine Bool.eq_false_iff.mpr fun hz => h (bf_eq_iff.mpr fun j hj => ?_)
  have hbf : bf n w lo = 0#n := BitVec.eq_of_toNat_eq (by simpa [fz_eq_bf] using hz)
  have hbit := bf_eq_iff.mp hbf (j + k - lo) (by omega)
  rw [Nat.sub_add_cancel (by omega), BitVec.getLsbD_zero] at hbit
  exact hbit.trans BitVec.getLsbD_zero.symm

/-- By class, the case split of the decoders. The encoding stands as a variable `w` with its union of fields in `hw`: each step below reads
one place of it. -/
theorem decodeRaw_encode (i : Instr) (hi : i.isWord = true) : decodeRaw (encode i) = .ok i := by
  obtain ⟨w, hw⟩ : ∃ w, encode i = w := ⟨_, rfl⟩
  rw [hw]
  rw [encode.eq_def] at hw
  cases i with
  | add | sub | mul | mulh | div | rem | and | or | xor | shl | shr | sra | min | max | clz | popc | sel | cmp | plog
  | addi | andi | ori | xori | shli | shri | srai | cmpi | lhi | fadd | fsub | fmul | fdiv | fsqrt | fma | fmin | fmax | fcmp | fcvt
  | br | call | jr | loop | loopi | lbrk | csrr | csrw | csrx | idle | lds | sts | amo | amocas | rld | rst | ramo | ramocas =>
    simp +decide only [add_put, bf_or_put_of_disjoint] at hw
    rw [decodeRaw_scalar (by simp +decide only [← hw, bf_or_put_of_disjoint]),
      decodeScalar, scalarOp (by simp +decide only [← hw, bf_or_put_of_disjoint]; rfl)]
    show ite _ _ _ = _
    simp +decide only [← hw, bf_or_put_of_disjoint, bf_or_put, fz_eq_bf, if_true]
  | vadd | vsub | vmul | vfma | vmin | vmax | vabs | vneg | vand | vor | vxor | vandn | vshl | vshr | vsra | vcmp | vsel | vcvt | vrint
  | vrcp | vrsq | vexp2 | vlog2 | vred | vscan | vperm | vrot | vlane | vpack | vunpack | vmov | vmlog | vmpop | vdot2 | vld | vst
  | vgath | vscat =>
    simp +decide only [add_put, bf_or_put_of_disjoint] at hw
    rw [decodeRaw_vector (by simp +decide only [← hw, bf_or_put_of_disjoint]),
      decodeVector, vectorOp (by simp +decide only [← hw, bf_or_put_of_disjoint]; rfl)]
    show ite _ _ _ = _
    simp +decide only [← hw, bf_or_put_of_disjoint, bf_or_put, fz_eq_bf, if_true]
  | vmovBroadcast =>
    simp +decide only [add_put, bf_or_put_of_disjoint] at hw
    rw [decodeRaw_vector (by simp +decide only [← hw, bf_or_put_of_disjoint]),
      decodeVector, vectorOp (by simp +decide only [← hw, bf_or_put_of_disjoint]; rfl)]
    show ite _ _ _ = _
    -- the form without a broadcast asks for zeros in a span that holds this one's bit 7
    rw [(fz_zero_eq_false 7 1 (by decide) (by decide) (by simp +decide only [← hw, bf_or_put_of_disjoint]) : fz w 7 6 0 = false)]
    simp +decide only [← hw, bf_or_put_of_disjoint, bf_or_put, fz_eq_bf, if_true, if_false]
  | patchAndIssue =>
    simp +decide only [add_put, bf_or_put_of_disjoint] at hw
    rw [decodeRaw_patchAndIssue (by simp +decide only [← hw, bf_or_put_of_disjoint])]
    simp +decide only [← hw, bf_or_put_of_disjoint, bf_or_put]
  | amend =>
    simp +decide only [add_put, bf_or_put_of_disjoint] at hw
    rw [decodeRaw_amend (by simp +decide only [← hw, bf_or_put_of_disjoint])]
    show ite _ _ _ = _
    simp +decide only [← hw, bf_or_put_of_disjoint, bf_or_put, fz_eq_bf, if_true]
  | li | jmpf | callf | tdef | tread | qdef | qread | rdef | whlgo | launch =>
    simp +decide only [add_put, bf_or_put_of_disjoint] at hw
    rw [decodeRaw_wide (by simp +decide only [← hw, bf_or_put_of_disjoint]),
      decodeWide, class11Op (by simp +decide only [← hw, bf_or_put_of_disjoint]; rfl)]
    show ite _ _ _ = _
    simp +decide only [← hw, bf_or_put_of_disjoint, bf_or_put, fz_eq_bf, if_true]
  | whlSlot | whlStride | whlCount | whlLen =>
    simp +decide only [add_put, bf_or_put_of_disjoint] at hw
    rw [decodeRaw_wide (by simp +decide only [← hw, bf_or_put_of_disjoint]),
      decodeWide, class11Op (by simp +decide only [← hw, bf_or_put_of_disjoint]; rfl)]
    show decodeWhl w = _
    rw [decodeWhl, whlKind (by simp +decide only [← hw, bf_or_put_of_disjoint]; rfl)]
    show ite _ _ _ = _
    simp +decide only [← hw, bf_or_put_of_disjoint, bf_or_put, fz_eq_bf, if_true]
  | racq | rrel | rstat | tokRd | tokPush | tokTry | tokVpop | tokVpush | qdrain | waita | fsig | acq | rel | bind | fence | rtick | rcyc
  | align | bar | barw | bart | cstat | cstatSettle | cstatStart | cstatFrec | cwait | cgopen | cgcommit | cgabort | cgstat | monset
  | monref | monrd | monchk | kend | trap | rett | rqrd | rqwr | pbr | pack | bkpt | wfiltClr =>
    simp +decide only [add_put, bf_or_put_of_disjoint] at hw
    rw [decodeRaw_sys (by simp +decide only [← hw, bf_or_put_of_disjoint]),
      decodeSys, class11Op (by simp +decide only [← hw, bf_or_put_of_disjoint]; rfl)]
    show ite _ _ _ = _
    simp +decide only [← hw, bf_or_put_of_disjoint, bf_or_put, fz_eq_bf, if_true, if_false, Bool.and_eq_true, beq_iff_eq, and_false, false_and]
  | wfiltIns | wfiltTst =>
    simp +decide only [add_put, bf_or_put_of_disjoint] at hw
    rw [decodeRaw_sys (by simp +decide only [← hw, bf_or_put_of_disjoint]),
      decodeSys, class11Op (by simp +decide only [← hw, bf_or_put_of_disjoint]; rfl)]
    show ite _ _ _ = _
    -- `wfilt.clr` asks for zeros in a span that holds these forms' code
    rw [(fz_zero_eq_false 0 2 (by decide) (by decide) (by simp +decide only [← hw, bf_or_put_of_disjoint]) : fz w 0 12 0 = false)]
    simp +decide only [← hw, bf_or_put_of_disjoint, bf_or_put, fz_eq_bf, if_true, if_false, Bool.and_eq_true, beq_iff_eq, and_false]
  | _ => exact absurd hi Bool.false_ne_true

/-- The same for the fabric sequencer's words (R302). -/
theorem decodeSeqRaw_encode (i : Instr) (hi : i.isSeqWord = true) : decodeSeqRaw (encode i) = .ok i := by
  obtain ⟨w, hw⟩ : ∃ w, encode i = w := ⟨_, rfl⟩
  rw [hw]
  rw [encode.eq_def] at hw
  cases i with
  | route | est | hold | tear | atstep | sig | rpt | nop | fend =>
    simp +decide only [add_put, bf_or_put_of_disjoint] at hw
    rw [decodeSeqRaw, seqOp (by simp +decide only [← hw, bf_or_put_of_disjoint]; rfl)]
    show ite _ _ _ = _
    simp +decide only [← hw, bf_or_put_of_disjoint, bf_or_put, fz_eq_bf, if_true]
  | _ => exact absurd hi Bool.false_ne_true

theorem checked_ok {i : Instr} (h : i.wf = true) : checked (.ok i) = .ok i := if_pos h

/-- Settles O58: the decoders invert the encoder on every word, and a well-formed one passes the check of the values. -/
theorem decodingInvertsEncoding : Obligations.DecodingInvertsEncoding := by
  refine ⟨fun i hwf hi => ?_, fun i hwf hi => ?_⟩
  · rw [decode, decodeRaw_encode i hi, checked_ok hwf]
  · rw [decodeSeq, decodeSeqRaw_encode i hi, checked_ok hwf]

/-- Settles O57, by running the decoders. -/
theorem decodingReadsTheWrittenWords : Obligations.DecodingReadsTheWrittenWords := by
  refine ⟨?_, ?_, ?_, ?_, ?_, ?_, ?_, ?_, ?_, ?_, ?_, ?_, ?_, ?_, ?_, ?_, ?_, ⟨.nonzeroField, ?_⟩, ⟨.reservedOp, ?_⟩⟩ <;> decide

end Sys2Proof
end

section
/-! PROOFS. A word with a false guard (R45) and the words that patch and amend (R52, R53, R148): O8 and O19. -/

namespace Sys2Proof.Machine

/-- Settles O8: each of these words acts only under its guard. -/
theorem falseGuardOnlySelectsNextWord : Obligations.FalseGuardOnlySelectsNextWord := by
  intro s sd sa sb g hg skip
  have skips : ∀ o : Out, (s.guarded g fun _ => o) = skip := fun _ => State.guarded_false hg _
  refine ⟨fun _ => ?_, fun _ => ?_, skips _, skips _, skips _, fun _ _ _ => skips _, fun _ _ _ _ => skips _, fun _ => ?_, fun _ _ => ?_,
    fun _ _ => ?_, fun _ _ _ => skips _, fun _ _ _ _ => skips _, fun _ => ?_, fun _ _ => skips _, fun _ _ => skips _, fun _ _ => skips _,
    fun _ _ => skips _⟩
  · exact ⟨skips _, skips _, skips _⟩
  · exact ⟨skips _, skips _, skips _, skips _, skips _, skips _, skips _, skips _, skips _, skips _⟩
  · exact ⟨skips _, skips _, skips _, skips _, fun _ _ => skips _⟩
  · exact ⟨skips _, skips _, skips _⟩
  · exact ⟨skips _, skips _, skips _, skips _, skips _, skips _, skips _, skips _⟩
  · exact ⟨skips _, skips _, skips _⟩

/-- Settles O19, by the order of a patch-and-issue word's checks: room, template, working copy, placement; AMEND's is its list's length. -/
theorem patchAndIssuePlacesItsEntry : Obligations.PatchAndIssuePlacesItsEntry := by
  intro s eng t fld val
  dsimp only
  have room (h : s.core.ctx.full (Unit7.ofCode eng) = false) : ¬ s.core.ctx.full (Unit7.ofCode eng) = true := Bool.eq_false_iff.mp h
  refine ⟨fun img e hroom hdef hcopy hplace => ?_, fun hroom hundef => ?_, fun hfew => ?_, fun hmany => ?_⟩
  · refine (if_neg (room hroom)).trans ((if_neg hdef).trans ?_)
    simp only [hcopy, Except.bind, hplace]
  · exact (if_neg (room hroom)).trans (if_pos hundef)
  · exact if_neg (Nat.not_le.mpr hfew)
  · exact if_pos hmany

end Sys2Proof.Machine
end

section
/-! PROOFS. A word past its checks: what it answers is the outcome that stands behind them. -/

namespace Sys2Proof.Machine

theorem State.guarded_issues {s : State} {g : BitVec 4} (h : s.guard g = true) (o : Out) : (s.guarded g fun _ => o) = o :=
  State.guarded_true h _

theorem State.control_issues {s : State} (h : s.misplaced s.core.ctx.sq.pc.toNat = false) (o : Out) : (s.control fun _ => o) = o :=
  State.control_placed h _

end Sys2Proof.Machine
end

section
/-! PROOFS. The values of the integer words and of atomics (R109, R110, R112, R115, R138): O2 and O3. -/

namespace Sys2Proof.Machine

/-! Saturated sums and high products (R109) -/

/-- An exact result that 64 signed bits hold is written as it is. -/
theorem toInt_ofInt_of_fits {x : Int} (hlo : -2 ^ 63 ≤ x) (hhi : x < 2 ^ 63) : (BitVec.ofInt 64 x).toInt = x :=
  BitVec.toInt_ofInt_eq_self (by decide) hlo hhi

theorem toInt_satS (x : Int) : (satS x).toInt = max (-2 ^ 63) (min (2 ^ 63 - 1) x) := by
  rw [satS, clampInt, min_comm x]
  exact toInt_ofInt_of_fits (by omega) (by omega)

theorem toNat_satU_add (a b : Nat) : (satU ((a : Int) + b)).toNat = min (2 ^ 64 - 1) (a + b) := by
  rw [satU, BitVec.toNat_ofInt]
  omega

theorem toNat_satU_sub {a : Nat} (b : Nat) (ha : a < 2 ^ 64) : (satU ((a : Int) - b)).toNat = a - b := by
  rw [satU, BitVec.toNat_ofInt]
  omega

/-- A product is no larger than the product of the bounds of its factors. -/
theorem mul_bounds {x y X Y : Int} (hx : |x| ≤ X) (hy : |y| ≤ Y) : -(X * Y) ≤ x * y ∧ x * y ≤ X * Y :=
  abs_le.mp ((abs_mul x y).trans_le (mul_le_mul hx hy (abs_nonneg y) ((abs_nonneg x).trans hx)))

theorem abs_toInt_le (a : Word) : |a.toInt| ≤ 2 ^ 63 := abs_le.mpr ⟨a.le_toInt, a.toInt_lt.le⟩

/-- Bits 127 to 64 of the signed product. -/
theorem toInt_mulhBy_signed (a b : Word) : (mulhBy 0 a b).toInt = a.toInt * b.toInt / 2 ^ 64 := by
  obtain ⟨hlo, hhi⟩ := mul_bounds (abs_toInt_le a) (abs_toInt_le b)
  exact toInt_ofInt_of_fits (x := a.toInt * b.toInt / 2 ^ 64) (by omega) (by omega)

/-- The same of the unsigned product. -/
theorem toNat_mulhBy_unsigned (a b : Word) : (mulhBy 1 a b).toNat = a.toNat * b.toNat / 2 ^ 64 := by
  have hlt : a.toNat * b.toNat / 2 ^ 64 < 2 ^ 64 := Nat.div_lt_of_lt_mul (Nat.mul_lt_mul'' a.isLt b.isLt)
  change (BitVec.ofInt 64 ((a.toNat : Int) * (b.toNat : Int) / 2 ^ 64)).toNat = _
  rw [BitVec.toNat_ofInt]
  omega

/-- The same of the product of `a` signed and `b` unsigned. -/
theorem toInt_mulhBy_mixed (a b : Word) : (mulhBy 2 a b).toInt = a.toInt * b.toNat / 2 ^ 64 := by
  have hb : |(b.toNat : Int)| ≤ 2 ^ 64 - 1 := by rw [Nat.abs_cast]; omega
  obtain ⟨hlo, hhi⟩ := mul_bounds (abs_toInt_le a) hb
  exact toInt_ofInt_of_fits (x := a.toInt * b.toNat / 2 ^ 64) (by omega) (by omega)

/-! Comparisons (R112, R115) and atomics (R138) -/

/-- The model's two's complement reading of a pattern is the library's. -/
theorem toInt_toNat (v : BitVec w) : toInt w v.toNat = v.toInt := by
  rw [toInt, Nat.mod_eq_of_lt v.isLt, BitVec.toInt_eq_toNat_cond]
  cases w with
  | zero => simp [BitVec.of_length_zero]
  | succ n =>
    have hsign : 2 * v.toNat < 2 ^ (n + 1) ↔ v.toNat < 2 ^ n := by rw [pow_succ]; omega
    simp [hsign]

/-- R112: the relations compare the part of the operands that the suffix names. -/
theorem cmpBy_iff {n : Nat} {w : BitVec 1} {a b : Word} {x y : BitVec n} (hw : widthBy w = n) (hx : a.toNat % 2 ^ n = x.toNat)
    (hy : b.toNat % 2 ^ n = y.toNat) :
    (cmpBy 0 w a b = true ↔ x = y) ∧ (cmpBy 1 w a b = true ↔ x ≠ y) ∧
    (cmpBy 2 w a b = true ↔ x.toInt < y.toInt) ∧ (cmpBy 3 w a b = true ↔ y.toInt ≤ x.toInt) ∧
    (cmpBy 4 w a b = true ↔ x.toNat < y.toNat) ∧ (cmpBy 5 w a b = true ↔ y.toNat ≤ x.toNat) := by
  subst hw
  simp [cmpBy, hx, hy, toInt_toNat, BitVec.toNat_eq]

/-- R115: the relations of `cmpi` compare all 64 bits. -/
theorem cmpiBy_iff (a b : Word) :
    (cmpiBy 0 a b = true ↔ a = b) ∧ (cmpiBy 1 a b = true ↔ a ≠ b) ∧
    (cmpiBy 2 a b = true ↔ a.toInt < b.toInt) ∧ (cmpiBy 3 a b = true ↔ a.toNat < b.toNat) := by
  simp [cmpiBy]

/-- R138: the nine operations on `n` bytes, where `x` is the part of the operand that they take. -/
theorem amoValue_eq (n : Nat) (m x : BitVec (8 * n)) {v : Nat} (hv : v % 2 ^ (8 * n) = x.toNat) :
    amoValue 0 n m.toNat v = (m + x).toNat ∧ amoValue 1 n m.toNat v = (m &&& x).toNat ∧
    amoValue 2 n m.toNat v = (m ||| x).toNat ∧ amoValue 3 n m.toNat v = (m ^^^ x).toNat ∧
    amoValue 4 n m.toNat v = (if x.slt m then x else m).toNat ∧ amoValue 5 n m.toNat v = (if m.slt x then x else m).toNat ∧
    amoValue 6 n m.toNat v = (if x.ult m then x else m).toNat ∧ amoValue 7 n m.toNat v = (if m.ult x then x else m).toNat ∧
    amoValue 8 n m.toNat v = x.toNat := by
  simp only [amoValue, hv, toInt_toNat, BitVec.slt, BitVec.ult, decide_eq_true_eq]
  refine ⟨(BitVec.toNat_add ..).symm, (BitVec.toNat_and ..).symm, (BitVec.toNat_or ..).symm, (BitVec.toNat_xor ..).symm, ?_, ?_, ?_, ?_, trivial⟩
  -- the four that choose between m and the operand
  all_goals split <;> omega

/-- Settles O2, by the value of each saturated sum and high product, the relations at either width, and the atomics at either size. -/
theorem integerAndAtomicValues : Obligations.IntegerAndAtomicValues := by
  refine ⟨⟨fun a b => ?sums, ?relations⟩, fun m v => ?atomics8, fun m v => ?atomics4⟩
  case sums =>
    exact ⟨rfl, rfl, toInt_satS _, toNat_satU_add _ _, rfl, rfl, toInt_satS _, toNat_satU_sub _ a.isLt, toInt_mulhBy_signed a b,
      toNat_mulhBy_unsigned a b, toInt_mulhBy_mixed a b⟩
  case relations =>
    intro a b la lb
    obtain ⟨heq, hne, hlt, hge, hltu, hgeu⟩ :=
      cmpBy_iff (w := 0) (x := a) (y := b) rfl (Nat.mod_eq_of_lt a.isLt) (Nat.mod_eq_of_lt b.isLt)
    obtain ⟨heqw, hnew, hltw, hgew, hltuw, hgeuw⟩ :=
      cmpBy_iff (w := 1) (x := la) (y := lb) rfl (BitVec.toNat_setWidth 32 a).symm (BitVec.toNat_setWidth 32 b).symm
    exact ⟨heq, hne, hlt, hge, hltu, hgeu, heqw, hnew, hltw, hgew, hltuw, hgeuw, cmpiBy_iff a b⟩
  case atomics8 => exact amoValue_eq 8 m v (Nat.mod_eq_of_lt v.isLt)
  case atomics4 => exact amoValue_eq 4 m (v.truncate 32) (BitVec.toNat_setWidth 32 v).symm

/-! Division (R110) -/

theorem divRem_zero (u : BitVec 1) (a : Word) : divRem u a 0 = (BitVec.allOnes 64, a) := if_pos rfl

theorem divRem_unsigned (a : Word) {b : Word} (hb : b ≠ 0) : divRem 1 a b = (a / b, a % b) :=
  (if_neg hb).trans ((if_pos rfl).trans (Prod.ext BitVec.udiv_def.symm BitVec.umod_def.symm))

/-- The signed quotient and remainder are the library's, the overflow case among them. -/
theorem divRem_signed (a : Word) {b : Word} (hb : b ≠ 0) : divRem 0 a b = (a.sdiv b, a.srem b) := by
  refine (if_neg hb).trans ((if_neg (by decide)).trans (Prod.ext ?_ ?_))
  · exact BitVec.eq_of_toInt_eq (by rw [BitVec.toInt_ofInt, BitVec.toInt_sdiv])
  · rw [← BitVec.toInt_srem, BitVec.ofInt_toInt]

/-- With no overflow the signed quotient truncates toward zero, and the remainder has the dividend's sign. -/
theorem toInt_sdiv_and_srem {a b : Word} (h : ¬(a.toInt = -2 ^ 63 ∧ b.toInt = -1)) :
    (a.sdiv b).toInt = a.toInt.tdiv b.toInt ∧ (a.srem b).toInt = a.toInt - (a.sdiv b).toInt * b.toInt ∧
      ((a.srem b).toInt < 0 → a.toInt < 0) ∧ (0 < (a.srem b).toInt → 0 < a.toInt) := by
  have hq : (a.sdiv b).toInt = a.toInt.tdiv b.toInt := by
    refine BitVec.toInt_sdiv_of_ne_or_ne a b (or_iff_not_and_not.mpr fun ⟨ha, hb⟩ => h ?_)
    rw [not_not.mp ha, not_not.mp hb]
    decide
  have hm := Int.tdiv_mul_add_tmod a.toInt b.toInt
  rw [hq, BitVec.toInt_srem]
  refine ⟨rfl, by omega, fun hneg => ?_, fun hpos => ?_⟩
  · exact not_le.mp fun ha => absurd (Int.tmod_nonneg b.toInt ha) (not_le.mpr hneg)
  · refine not_le.mp fun ha => ?_
    have hn := Int.tmod_nonneg b.toInt (Int.neg_nonneg_of_nonpos ha)
    rw [Int.neg_tmod] at hn
    omega

/-- Settles O3, by the branches of the division: a zero divisor, the signed overflow, the other signed ones, the unsigned ones. -/
theorem divisionTruncatesTowardZero : Obligations.DivisionTruncatesTowardZero := by
  intro s sd sa sb g u hg
  have issues := State.guarded_issues hg
  refine ⟨(divRem u (s.reg sa) (s.reg sb)).1, (divRem u (s.reg sa) (s.reg sb)).2, issues _, issues _, ?_⟩
  generalize s.reg sa = a, s.reg sb = b
  refine ⟨fun hb => ?zero, fun hb hu ha hb1 => ?overflow, fun hb hu hov => ?signed, fun hb hu => ?unsigned⟩
  case zero =>
    rw [hb, divRem_zero]
    exact ⟨rfl, BitVec.toInt_allOnes, rfl⟩
  case overflow =>
    rw [hu, divRem_signed a hb, show a = BitVec.intMin 64 from BitVec.eq_of_toInt_eq ha, show b = -1 from BitVec.eq_of_toInt_eq hb1]
    decide
  case signed =>
    rw [hu, divRem_signed a hb]
    exact toInt_sdiv_and_srem hov
  case unsigned =>
    rw [hu, divRem_unsigned a hb]
    exact ⟨BitVec.toNat_udiv, by rw [BitVec.toNat_umod, BitVec.toNat_udiv, Nat.mod_eq_sub_div_mul]⟩

end Sys2Proof.Machine
end

section
/-! PROOFS. The words of `sel` and of a destination predicate (R43, R48, R96, R111): which words they are, and what they decode to. -/

namespace Sys2Proof

/-- R43: what an arm of a decoder answers after the check of the values is the arm's own instruction, a well-formed one. -/
theorem checked_need_eq_ok {c : Bool} {j i : Instr} (h : checked (need c j) = .ok i) : j.wf = true ∧ i = j := by
  cases c with
  | false => cases h
  | true =>
    change (if j.wf = true then Except.ok j else .error Reject.unassignedValue) = .ok i at h
    split at h
    next hwf => exact ⟨hwf, (Except.ok.inj h).symm⟩
    next => cases h

/-- The word an instruction encodes to decodes to nothing else, and only if the instruction is well-formed. -/
theorem decode_encode_eq_ok {i j : Instr} (hj : j.isWord = true) (h : decode (encode j) = .ok i) : j.wf = true ∧ i = j :=
  checked_need_eq_ok (c := true) (by rwa [decode, decodeRaw_encode j hj] at h)

/-- R48, R111: the word of `sel`; it is none unless bits [4:3] are zero. -/
theorem decodeRaw_selWord (sd sa sb : BitVec 5) (g : BitVec 4) (z : BitVec 2) (n : BitVec 3) :
    decodeRaw (0x10000000 + put sd 19 + put sa 14 + put sb 9 + put g 5 + put z 3 + put n 0) = need (z.toNat == 0) (.sel sd sa sb g n) := by
  obtain ⟨w, hw⟩ : ∃ w, 0x10000000 + put sd 19 + put sa 14 + put sb 9 + put g 5 + put z 3 + put n 0 = w := ⟨_, rfl⟩
  rw [hw]
  simp +decide only [add_put, bf_or_put_of_disjoint] at hw
  rw [decodeRaw_scalar (by simp +decide only [← hw, bf_or_put_of_disjoint]),
    decodeScalar, scalarOp (by simp +decide only [← hw, bf_or_put_of_disjoint]; rfl)]
  show need _ _ = _
  simp +decide only [← hw, bf_or_put_of_disjoint, bf_or_put, fz_eq_bf]

/-- R46, R96: the fields of a class 00 word that names a destination predicate in the low three bits of its sd field. -/
theorem predicateWord_fields (op : BitVec 6) (pd : BitVec 3) (sa sb : BitVec 5) (g : BitVec 4) (lo : BitVec 5) {w : Nat}
    (hw : 0 + put op 24 + put pd 19 + put sa 14 + put sb 9 + put g 5 + put lo 0 = w) :
    bf 2 w 30 = 0 ∧ bf 6 w 24 = op ∧ bf 3 w 19 = pd ∧ bf 5 w 14 = sa ∧ bf 5 w 9 = sb ∧ bf 4 w 5 = g := by
  simp +decide only [add_put, bf_or_put_of_disjoint] at hw
  simp +decide only [← hw, bf_or_put_of_disjoint, bf_or_put, and_self]

/-- R112: op6 0x11 is `cmp`, and its predicate is not p0. -/
theorem decode_cmp {w : Nat} {i : Instr} (hclass : bf 2 w 30 = 0) (hop : bf 6 w 24 = 0x11) (h : decode w = .ok i) :
    bf 3 w 19 ≠ 0 ∧ ∃ u c, i = .cmp (bf 3 w 19) (bf 5 w 14) (bf 5 w 9) (bf 4 w 5) u c := by
  rw [decode, decodeRaw_scalar hclass, decodeScalar, scalarOp (congrArg BitVec.toNat hop)] at h
  obtain ⟨hwf, rfl⟩ := checked_need_eq_ok h
  exact ⟨bne_iff_ne.mp (of_decide_eq_true hwf).1, _, _, rfl⟩

/-- R119: op6 0x24 is `fcmp`, likewise. -/
theorem decode_fcmp {w : Nat} {i : Instr} (hclass : bf 2 w 30 = 0) (hop : bf 6 w 24 = 0x24) (h : decode w = .ok i) :
    bf 3 w 19 ≠ 0 ∧ ∃ p c, i = .fcmp (bf 3 w 19) (bf 5 w 14) (bf 5 w 9) (bf 4 w 5) p c := by
  rw [decode, decodeRaw_scalar hclass, decodeScalar, scalarOp (congrArg BitVec.toNat hop)] at h
  obtain ⟨hwf, rfl⟩ := checked_need_eq_ok h
  exact ⟨bne_iff_ne.mp (of_decide_eq_true hwf).1, _, _, rfl⟩

end Sys2Proof
end

section
/-! PROOFS. The integer, predicate, constant and floating words (04 R109 to R120), and a step that issues its word (R91, R92): O1, O4, O5,
O6, O7 and O56. -/

namespace Sys2Proof.Machine

/-- Settles O1: under its guard each of these words is its result's push. -/
theorem integerWordsWriteTheirResult : Obligations.IntegerWordsWriteTheirResult := by
  intro s sd sa sb g hg a b out
  have issues := State.guarded_issues hg
  exact ⟨fun _ => issues _, fun _ => issues _, fun _ => issues _, fun _ => issues _, fun _ => issues _, fun _ => issues _, issues _, issues _, issues _,
    fun _ => issues _, fun _ => issues _, fun _ => issues _, fun _ => issues _, fun _ => issues _, fun _ => issues _, fun _ => issues _,
    fun _ => issues _, fun _ => issues _, fun _ => issues _, fun _ => issues _, fun _ => issues _, fun _ _ => issues _, fun _ _ => issues _,
    fun _ _ => issues _⟩

/-- Settles O6: the same of the floating words. -/
theorem floatWordsWriteResultAndConditions : Obligations.FloatWordsWriteResultAndConditions := by
  intro s sd sa sb g p rm hg x y out
  have issues := State.guarded_issues hg
  exact ⟨issues _, issues _, issues _, issues _, issues _, issues _, issues _, issues _, fun _ _ => issues _, fun _ _ _ _ => issues _⟩

/-- R116: ten zeros below the immediate are a shift by ten. -/
theorem simm_append_zero (imm : BitVec 19) : simm (imm ++ (0 : BitVec 10)) = imm.signExtend 64 <<< 10 := by
  have hmsb : (imm ++ (0 : BitVec 10)).msb = imm.msb := by rw [BitVec.msb_append]; rfl
  refine BitVec.eq_of_getLsbD_eq fun i hi => ?_
  rw [simm, BitVec.getLsbD_signExtend, BitVec.getLsbD_shiftLeft, BitVec.getLsbD_signExtend, BitVec.getLsbD_append, hmsb]
  by_cases h : i < 10
  · simp [h, show i < 29 by omega]
  · simp [h, hi, show i - 10 < 64 by omega, show i - 10 < 19 ↔ i < 29 by omega]

/-- Settles O5: predicates under their guard, the immediate of `lhi`, and the two cycles of `li`. -/
theorem predicateAndConstantWords : Obligations.PredicateAndConstantWords := by
  refine ⟨fun s pd sa sb g hg => ?_, fun s sd => ⟨fun imm => ?_, fun h hi lo hs hd hp hl => ?_, fun hi lo hs => ?_⟩⟩
  · have issues := State.guarded_issues hg
    exact ⟨fun _ _ => issues _, fun _ _ _ => issues _, fun _ _ => issues _⟩
  · rw [← simm_append_zero]; rfl
  · exact State.wide_first hs hd hp hl fun _ => .next (s.push 1 (.sreg sd (liValue (s.reg sd) h hi lo))).retireWide
  · have issues : ∀ o : Out, (s.wide fun _ => o) = o := fun _ => State.wide_second hs _
    exact ⟨issues _, issues _⟩

/-- Settles O4: the guard's two cases, the predicate's two values, and the decoder's arm. -/
theorem selectTakesTheNamedPredicate : Obligations.SelectTakesTheNamedPredicate := by
  refine ⟨fun s sd sa sb g n => ⟨fun hg hp => ?_, fun hg hp => ?_, fun hg => ?_⟩, ?word⟩
  · refine (State.guarded_true hg fun _ => s.scalar 1 sd _).trans ?_
    rw [if_pos hp]; rfl
  · refine (State.guarded_true hg fun _ => s.scalar 1 sd _).trans ?_
    rw [if_neg (Bool.eq_false_iff.mp hp)]; rfl
  · exact State.guarded_false hg fun _ => s.scalar 1 sd _
  case word =>
    intro sd sa sb g n z w
    have hw : decode w = checked (Sys2Proof.need (z.toNat == 0) (.sel sd sa sb g n)) := by
      rw [decode, ← decodeRaw_selWord]
      simp only [w, put, pow_zero, mul_one]
    rw [hw]
    refine ⟨fun hz => ?_, fun hz => ⟨.nonzeroField, ?_⟩⟩
    · subst hz; rfl
    · rw [show (z.toNat == 0) = false from beq_eq_false_iff_ne.mpr fun h => hz (BitVec.eq_of_toNat_eq h)]; rfl

/-! The word at PC issues (R91, R92) -/

theorem State.issueWord_ok {s t : State} {i : Instr} (ho : s.core.ctx.sq.overrun = false) (hd : decode s.fetched = .ok i)
    (ht : exec i s = .next t) : s.issueWord = .next (s.afterWord t) := by
  simp [State.issueWord, ho, hd, ht]

/-- R43: a word that decodes to nothing is illegal. -/
theorem State.issueWord_error {s t : State} {e : Reject} (ho : s.core.ctx.sq.overrun = false) (hd : decode s.fetched = .error e)
    (ht : s.illegal = .next t) : s.issueWord = .next (s.afterWord t) := by
  simp [State.issueWord, ho, hd, ht]

/-- Settles O7: a register read after a write, the words that name a predicate by their fields, and a refused word. -/
theorem registerZeroAndPredicateZero : Obligations.RegisterZeroAndPredicateZero := by
  refine ⟨fun r v b => ⟨rfl, rfl, rfl, rfl, fun i j hi => ?scalar, fun i j hi => ?predicate⟩, ?words, fun s e ho he => ?refused⟩
  case scalar => exact ⟨by rw [Regs.get_put, if_pos ⟨rfl, hi⟩], fun hj => by rw [Regs.get_put, if_neg fun h => hj h.1]⟩
  case predicate => exact ⟨by rw [Regs.getP_putP, if_pos ⟨rfl, hi⟩], fun hj => by rw [Regs.getP_putP, if_neg fun h => hj h.1]⟩
  case words =>
    intro pd sa sb g lo pa pb cond imm i mid
    refine ⟨?compares, fun h => ?plog, fun h => ?cmpi⟩
    case compares =>
      rintro op (rfl | rfl) h
      · obtain ⟨hclass, hop, hpd, hsa, hsb, hgd⟩ := predicateWord_fields 0x11 pd sa sb g lo
          (w := 0x11 * 2 ^ 24 + pd.toNat * 2 ^ 19 + mid) (by simp only [mid, put, BitVec.reduceToNat]; omega)
        have hi := decode_cmp hclass hop h
        rw [hpd, hsa, hsb, hgd] at hi
        exact hi.imp_right .inl
      · obtain ⟨hclass, hop, hpd, hsa, hsb, hgd⟩ := predicateWord_fields 0x24 pd sa sb g lo
          (w := 0x24 * 2 ^ 24 + pd.toNat * 2 ^ 19 + mid) (by simp only [mid, put, BitVec.reduceToNat]; omega)
        have hi := decode_fcmp hclass hop h
        rw [hpd, hsa, hsb, hgd] at hi
        exact hi.imp_right .inr
    case plog =>
      rw [show 0x12 * 2 ^ 24 + pd.toNat * 2 ^ 19 + pa.toNat * 2 ^ 14 + pb.toNat * 2 ^ 9 + g.toNat * 2 ^ 5 + lo.toNat
        = encode (.plog pd pa pb g lo) by simp only [encode.eq_def, put]; omega] at h
      obtain ⟨hwf, hi⟩ := decode_encode_eq_ok rfl h
      exact ⟨bne_iff_ne.mp (of_decide_eq_true hwf).1, hi⟩
    case cmpi =>
      rw [show 0x1A * 2 ^ 24 + cond.toNat * 2 ^ 22 + pd.toNat * 2 ^ 19 + sa.toNat * 2 ^ 14 + g.toNat * 2 ^ 10 + imm.toNat
        = encode (.cmpi cond pd sa g imm) by simp only [encode.eq_def, put]; omega] at h
      obtain ⟨hwf, hi⟩ := decode_encode_eq_ok rfl h
      exact ⟨bne_iff_ne.mp hwf, hi⟩
  case refused =>
    obtain ⟨t, ht, -⟩ := s.wordFault_next causeIllegal (BitVec.ofNat 64 (s.fetched % 2 ^ 32))
    exact ⟨t, ht, State.issueWord_error ho he ht⟩

/-! From a step to its word: each part of a step when nothing before it is due -/

/-- With no timer, sequencer word or event due, time passes. -/
theorem State.boundary_passes {s : State} (hended : ∀ k ∈ s.core :: s.others, k.ended = false) (ht : s.timerDue false = none)
    (hp : s.timerDue true = none) (he : s.events = []) (hs : ∀ t die lid, s.nextSlice = some (t, die, lid) → s.tick < t) :
    s.boundary = s.passTime := by
  have hany : (s.core :: s.others).any (·.ended) = false := List.any_eq_false.mpr fun k hk => by simp [hended k hk]
  have hslices : State.boundary.afterSlices s = s.passTime := by simp [State.boundary.afterSlices, he, hp]
  rw [State.boundary, hany, ht]
  simp only [Bool.false_eq_true, if_false, State.boundary.afterTimers]
  cases hn : s.nextSlice with
  | none => exact hslices
  | some x =>
    obtain ⟨t, die, lid⟩ := x
    exact (if_neg (Nat.not_le.mpr (hs t die lid hn))).trans hslices

/-- A core whose cycle comes before what is due next runs. -/
theorem State.passTime_core {s : State} {k : Core} (hk : s.nextCore = some k) (hd : ∀ d, s.nextDue = some d → k.tick < d) :
    s.passTime = s.runCore k := by
  rw [State.passTime, hk]
  cases h : s.nextDue with
  | none => rfl
  | some d => exact if_neg (by simp [Nat.not_le.mpr (hd d h)])

theorem State.toTick_cid (s : State) (t : Nat) : (s.toTick t).core.cid = s.core.cid := by
  unfold State.toTick
  dsimp only
  split <;> rfl

/-- The focus core is in focus already. -/
theorem State.runCore_focus {s : State} (h : s.core.ended = false) :
    s.runCore s.core = (s.toTick (max s.tick s.core.tick)).beginCycle := by
  rw [State.runCore, State.focus, if_pos (s.toTick_cid _), h]
  rfl

/-- A cycle with no stop, trap, restart or hold before its word issues it. -/
theorem State.beginCycle_issues {s : State} (hswap : s.core.swap = 0) (hclk : s.core.clocked = true) (hstop : s.core.dbg.stopReq = none)
    (halign : s.alignDue = none) (htrap : s.trapNow = none) (hbefore : s.beforeIssue = s) (hidle : s.core.ctx.sq.idle = 0)
    (hpause : s.core.ctx.sq.pause = 0) (hstep : s.core.dbg.stepping = false) : s.beginCycle = s.issueWord := by
  simp [State.beginCycle, State.sqCycle, hswap, hclk, hstop, halign, htrap, hbefore, hidle, hpause, hstep]

/-- After a word that neither traps, nor holds to be served, nor is stepped, nothing follows. -/
theorem State.afterWord_plain {s t : State} (hp : t.phase = .engines) (hw : t.waiting .served = none) (hd : t.core.dbg.stepping = false) :
    s.afterWord t = t := by
  simp [State.afterWord, hp, hw, hd]

/-- Settles O56, part by part of the step. -/
theorem stepRunsTheDecodedInstruction : Obligations.StepRunsTheDecodedInstruction := by
  intro s t i s' k hphase hended htf htp hev hslice hcore hdue hswap hclk hstop hstepping hidle hpause hover halign htrap hbefore hdec hexec
  have hstep : step s = .next (s'.afterWord t) :=
    calc step s = s.boundary := by rw [step, State.advanceStep, hphase]
      _ = s.passTime := State.boundary_passes hended htf htp hev hslice
      _ = s.runCore s.core := State.passTime_core hcore hdue
      _ = s'.beginCycle := State.runCore_focus (hended _ List.mem_cons_self)
      _ = s'.issueWord := State.beginCycle_issues hswap hclk hstop halign htrap hbefore hidle hpause hstepping
      _ = .next (s'.afterWord t) := State.issueWord_ok hover hdec hexec
  exact ⟨hstep, fun hp hw hd => hstep.trans (congrArg _ (State.afterWord_plain hp hw hd))⟩

end Sys2Proof.Machine
end

section
/-! PROOFS. Branches, loops and idle (04 R98 to R101, R121 to R127): O9, O10 and O11. -/

namespace Sys2Proof.Machine

/-! Where a branch and a loop may go -/

theorem State.branchTo_inside (s : State) {target : Int} (h0 : 0 ≤ target) (h : target ≤ 8191) (f : Nat → Out) :
    s.branchTo target f = f target.toNat := if_neg (by omega)

theorem State.branchTo_outside (s : State) {target : Int} (h : target < 0 ∨ 8191 < target) (f : Nat → Out) :
    s.branchTo target f = s.wordFault causeFieldRange (BitVec.ofInt 64 target) := if_pos h

/-- A target that is never negative, as `jr` and `lbrk` have it. -/
theorem State.branchTo_natCast_inside (s : State) {target : Nat} (h : target ≤ 8191) (f : Nat → Out) :
    s.branchTo target f = f target := by
  rw [s.branchTo_inside (by omega) (by omega), Int.toNat_natCast]

theorem State.startLoop_fits {s : State} {b : Nat} (h : s.core.ctx.sq.pc.toNat + b ≤ 8191) (l : BitVec 2) (count : BitVec 32) :
    s.startLoop l count b
      = .next ((s.push 1 (.loop l (BitVec.ofNat 13 (s.core.ctx.sq.pc.toNat + 1)) (BitVec.ofNat 13 (s.core.ctx.sq.pc.toNat + b)) count
          (count != 0))).retireTo (if count = 0 then s.core.ctx.sq.pc.toNat + b + 1 else s.core.ctx.sq.pc.toNat + 1)) :=
  if_neg (Nat.not_lt.mpr h)

theorem State.startLoop_outside {s : State} {b : Nat} (h : 8191 < s.core.ctx.sq.pc.toNat + b) (l : BitVec 2) (count : BitVec 32) :
    s.startLoop l count b = s.wordFault causeFieldRange (BitVec.ofNat 64 (s.core.ctx.sq.pc.toNat + b)) := if_pos h

theorem State.farJump_second {s : State} (hs : s.core.ctx.sq.second = true)
    (he : endsLoop s.core.ctx.loops (s.core.ctx.sq.pc.toNat + 1) = false) (f : Unit → Out) : s.farJump f = f () := by
  rw [State.farJump, State.wide_second hs, he]
  rfl

/-- Settles O9: placed, and then by the guard and the target. -/
theorem branchesSelectTheirTarget : Obligations.BranchesSelectTheirTarget := by
  intro s sd sa g off tgt pc t link
  refine ⟨fun hm hg h0 h1 => ?taken, fun hm hg h1 => ?register, fun hm hg => ?untaken, fun hs he => ?far⟩
  case taken =>
    have taken : ∀ (f : Nat → Out) (o : Out), (s.control fun _ => if s.guard g then s.branchTo (sbTarget s off) f else o) = f t.toNat :=
      fun f _ => (State.control_issues hm _).trans ((if_pos hg).trans (s.branchTo_inside h0 h1 f))
    exact ⟨taken _ _, taken _ _⟩
  case register =>
    exact (State.control_issues hm _).trans ((if_pos hg).trans
      (s.branchTo_natCast_inside h1 fun t => .next ((s.push 1 (.sreg sd link)).retireBranch (some t))))
  case untaken =>
    have skips : ∀ a o : Out, (s.control fun _ => if s.guard g then a else o) = o :=
      fun _ _ => (State.control_issues hm _).trans (if_neg (Bool.eq_false_iff.mp hg))
    exact ⟨skips _ _, skips _ _, skips _ _⟩
  case far =>
    have goes : ∀ o : Out, (s.farJump fun _ => o) = o := fun _ => State.farJump_second hs he _
    exact ⟨goes _, goes _⟩

/-- Settles O10: the check of the place comes before the guard, that of the target after it. -/
theorem controlWordsTrapOutOfPlaceOrRange : Obligations.ControlWordsTrapOutOfPlaceOrRange := by
  intro s sd sa g off l b c pc t
  refine ⟨fun hm => ?misplaced, fun hm hg ht => ?branch, fun hm hg ht => ?register, fun hm hg ht => ?loop⟩
  case misplaced =>
    have traps : ∀ o : Out, (s.control fun _ => o) = s.illegal := fun _ => State.control_misplaced hm _
    exact ⟨traps _, traps _, traps _, traps _, traps _, traps _⟩
  case branch =>
    have traps : ∀ (f : Nat → Out) (o : Out), (s.control fun _ => if s.guard g then s.branchTo (sbTarget s off) f else o)
        = s.wordFault causeFieldRange (BitVec.ofInt 64 t) :=
      fun f _ => (State.control_issues hm _).trans ((if_pos hg).trans (s.branchTo_outside ht f))
    exact ⟨traps _ _, traps _ _⟩
  case register =>
    refine (State.control_issues hm _).trans ((if_pos hg).trans ((s.branchTo_outside (.inr (Int.ofNat_lt.mpr ht)) fun _ => _).trans ?_))
    rw [BitVec.ofInt_natCast, BitVec.ofNat_toNat, BitVec.setWidth_eq]
  case loop =>
    have traps : ∀ count : BitVec 32, s.startLoop l count (b.toNat + 1)
        = s.wordFault causeFieldRange (BitVec.ofNat 64 (pc + (b.toNat + 1))) := fun count => State.startLoop_outside ht l count
    have issues := State.guarded_issues hg
    exact ⟨(State.control_issues hm _).trans ((issues _).trans (traps _)), (State.control_issues hm _).trans (traps _)⟩

/-! `idle` (R127) -/

theorem State.idleRest_start {s : State} (h : s.core.ctx.sq.wait = none) (sa : BitVec 5) (n : BitVec 10) :
    s.idleRest sa n = (s.reg sa).toNat % 2 ^ 32 + n.toNat := by
  rw [State.idleRest, State.waiting_idle h]

theorem State.idleRest_held {s : State} {w : Wait} (h : s.core.ctx.sq.wait = some w) (hk : w.kind = .idle) (sa : BitVec 5) (n : BitVec 10) :
    s.idleRest sa n = w.value - 1 := by
  rw [State.idleRest, State.waiting_same h hk]

/-- With a false guard, met for the first time, it takes its cycle. -/
theorem execIdle_skip {s : State} (h : s.core.ctx.sq.wait = none) {g : BitVec 4} (hg : s.guard g = false) (sa : BitVec 5) (n : BitVec 10) :
    execIdle sa g n s = .next s.retire := by
  simp [execIdle, State.waiting_idle h, hg]

/-- Under its guard, or holding already, it holds for what is left. -/
theorem execIdle_rest {s : State} {g : BitVec 4} (h : s.guard g = true ∨ ∃ w, s.core.ctx.sq.wait = some w ∧ w.kind = .idle) (sa : BitVec 5)
    (n : BitVec 10) :
    execIdle sa g n s
      = if s.idleRest sa n = 0 then .next s.retire else .next (s.holdOn ⟨.idle, none, [], 0, s.idleRest sa n⟩) := by
  refine if_neg ?_
  rcases h with hg | ⟨w, hw, hk⟩
  · simp [hg]
  · simp [State.waiting_same hw hk]

/-- Settles O11: loops by their place, guard and level, `idle` by its guard and what is left of its hold. -/
theorem loopAndIdleWords : Obligations.LoopAndIdleWords := by
  refine ⟨?loops, ?idle⟩
  case loops =>
    intro s l sa g b c pc n start hm
    have placed := State.control_issues hm
    refine ⟨fun hfit => ?_, fun hfit hg => ?_, fun hg => ⟨?_, ?_⟩, fun hact => ?_, fun hg hact hle => ?_⟩
    · exact (placed _).trans (State.startLoop_fits hfit l _)
    · have issues := State.guarded_issues hg
      exact (placed _).trans ((issues _).trans (State.startLoop_fits hfit l _))
    · have skips : ∀ o : Out, (s.guarded g fun _ => o) = .next s.retire := fun _ => State.guarded_false hg _
      exact (placed _).trans (skips _)
    · exact (placed _).trans (if_neg (by simp [hg]))
    · exact (placed _).trans (if_neg (by simp [hact]))
    · exact (placed _).trans ((if_pos (by simp [hg, hact])).trans (s.branchTo_natCast_inside (by omega) _))
  case idle =>
    intro s sa g n total
    refine ⟨fun hw hg => ?_, fun hw hg hz => ?_, fun hw hg hz => ?_, fun k hw => ?_, fun hw => ?_⟩
    · exact execIdle_skip hw hg sa n
    · exact (execIdle_rest (.inl hg) sa n).trans (if_pos ((State.idleRest_start hw sa n).trans hz))
    · refine (execIdle_rest (.inl hg) sa n).trans ?_
      rw [State.idleRest_start hw]
      exact if_neg hz
    · refine (execIdle_rest (.inr ⟨_, hw, rfl⟩) sa n).trans ?_
      rw [State.idleRest_held hw rfl]
      exact if_neg (Nat.succ_ne_zero k)
    · exact (execIdle_rest (.inr ⟨_, hw, rfl⟩) sa n).trans (if_pos (State.idleRest_held hw rfl sa n))

end Sys2Proof.Machine
end

section
/-! PROOFS. The CSR words, the system registers and PREDS (04 R105 to R107, R126): O16 and O17. -/

namespace Sys2Proof.Machine

/-! CSR words: their one check is of the register they name (R105, R126) -/

theorem execCsrr_named {s : State} {g : BitVec 4} {csr : BitVec 10} (hg : s.guard g = true) (hn : s.mayName csr = true) (sd : BitVec 5) :
    execCsrr sd g csr s = .next ((s.push 1 (.sreg sd (s.csrValue csr))).csrReadEffect csr).retire :=
  (State.guarded_true hg _).trans (if_neg (by simp [hn]))

theorem execCsrw_named {s : State} {g : BitVec 4} {csr : BitVec 10} (hg : s.guard g = true) (hn : s.mayName csr = true) (sa : BitVec 5) :
    execCsrw sa g csr s = .next (s.csrWrite csr (s.reg sa)).retire :=
  (State.guarded_true hg _).trans (if_neg (by simp [hn]))

theorem execCsrx_named {s : State} {g : BitVec 4} {csr : BitVec 10} (hg : s.guard g = true) (hn : s.mayName csr = true) (sd sa : BitVec 5) :
    execCsrx sd sa g csr s = .next (((s.push 1 (.sreg sd (s.csrValue csr))).csrReadEffect csr).csrWrite csr (s.reg sa)).retire :=
  (State.guarded_true hg _).trans (if_neg (by simp [hn]))

/-- A register that may not be named is neither read nor written. -/
theorem csrWords_privileged {s : State} {g : BitVec 4} {csr : BitVec 10} (hg : s.guard g = true) (hn : s.mayName csr = false) (sd sa : BitVec 5) :
    execCsrr sd g csr s = s.wordFault causePrivilege 0 ∧ execCsrw sa g csr s = s.wordFault causePrivilege 0 ∧
      execCsrx sd sa g csr s = s.wordFault causePrivilege 0 := by
  have traps : ∀ o : Out, (s.guarded g fun _ => if !s.mayName csr then s.wordFault causePrivilege 0 else o) = s.wordFault causePrivilege 0 :=
    fun _ => (State.guarded_true hg _).trans (if_pos (by simp [hn]))
  exact ⟨traps _, traps _, traps _⟩

/-- Settles O16: the words that may name their register, and the two cases of a read of DBGST. -/
theorem csrWordsReadAndWrite : Obligations.CsrWordsReadAndWrite := by
  refine ⟨fun s sd sa g csr hg hn => ⟨execCsrr_named hg hn sd, execCsrw_named hg hn sa, execCsrx_named hg hn sd sa⟩,
    fun s => ⟨fun hsel hstop => if_pos ⟨hsel, hstop⟩, fun h => if_neg fun ⟨hsel, hstop⟩ => ?_⟩⟩
  rcases h with hother | hruns
  · exact hother hsel
  · exact Bool.false_ne_true (hruns.symm.trans hstop)

/-! PREDS (R107) -/

/-- Bits lowest first: bit `i` of the number is the `i`th of the list. -/
theorem testBit_ofBits (l : List Bool) (i : Nat) : (ofBits l).testBit i = l.getD i false := by
  induction l generalizing i with
  | nil => simp [ofBits]
  | cons b r ih =>
    cases i with
    | zero => cases b <;> simp [ofBits]
    | succ i =>
      have hdiv : (b.toNat + 2 * ofBits r) / 2 = ofBits r := by have := Bool.toNat_le b; omega
      rw [ofBits, Nat.testBit_succ, hdiv, ih, List.getD_cons_succ]

theorem ofBits_lt (l : List Bool) : ofBits l < 2 ^ l.length := by
  induction l with
  | nil => simp [ofBits]
  | cons b r ih => rw [ofBits, List.length_cons, pow_succ]; have := Bool.toNat_le b; omega

theorem vat_eachIdx (v : Vector α n) (f : Nat → α → β) (d : α) (d' : β) {i : Nat} (h : i < n) : vat (v.eachIdx f) d' i = f i (vat v d i) := by
  simp [vat, Vector.eachIdx, Array.getD, h]

theorem State.csrRead_preds (s : State) :
    s.csrRead 0x002 = BitVec.ofNat 64 (ofBits ((List.range 8).map fun i => s.core.ctx.regs.getP (BitVec.ofNat 3 i))) := rfl

theorem State.getLsbD_csrRead_preds (s : State) (n : BitVec 3) : (s.csrRead 0x002).getLsbD n.toNat = s.core.ctx.regs.getP n := by
  rw [State.csrRead_preds, BitVec.getLsbD_ofNat, testBit_ofBits, List.getD_eq_getElem _ _ (by simpa using n.isLt)]
  have hn : n.toNat < 64 := by omega
  simp [hn]

theorem State.csrRead_preds_lt (s : State) : (s.csrRead 0x002).toNat < 256 := by
  have h := ofBits_lt ((List.range 8).map fun i => s.core.ctx.regs.getP (BitVec.ofNat 3 i))
  rw [List.length_map, List.length_range] at h
  rw [State.csrRead_preds, BitVec.toNat_ofNat]
  omega

/-- A write of PREDS sets every predicate but p0. -/
theorem Core.getP_csrPerform_preds (k : Core) (w : Word) (n : BitVec 3) :
    (k.csrPerform 0x002 w).ctx.regs.getP n = if n = 0 then true else w.getLsbD n.toNat := by
  change Regs.getP { k.ctx.regs with p := k.ctx.regs.p.eachIdx fun i x => if i = 0 then x else w.getLsbD i } n = _
  unfold Regs.getP
  by_cases h : n = 0
  · rw [if_pos h, if_pos h]
  · rw [if_neg h, if_neg h, vat_eachIdx _ _ false _ n.isLt, if_neg (show ¬ n.toNat = 0 from fun h0 => h (BitVec.eq_of_toNat_eq h0))]

/-! System registers (R105) -/

/-- None of the ten is a register whose read or write does more than read or write. -/
theorem csrSystem_of_mem {csr : BitVec 10} (h : csr ∈ ([0x84, 0x85, 0x86, 0x87, 0x8C, 0x8D, 0x8E, 0x8F, 0xA0, 0xA2] : List (BitVec 10))) :
    csrSystem csr = true ∧ csr ≠ 0xA1 ∧ csr ≠ 0x000 ∧ csr ≠ 0x001 ∧ csr ≠ 0x048 ∧ csr ≠ 0x0C0 ∧ csr ≠ 0x0E1 := by
  simp only [List.mem_cons, List.not_mem_nil, or_false] at h
  rcases h with rfl | rfl | rfl | rfl | rfl | rfl | rfl | rfl | rfl | rfl <;> decide

/-- R126: outside the W1C bits and SEED a write is all in flight. -/
theorem State.csrWrite_eq_push (s : State) {sel : BitVec 10} (w : Word) (h0 : sel ≠ 0x000) (h1 : sel ≠ 0x001) (h48 : sel ≠ 0x048)
    (hC0 : sel ≠ 0x0C0) (hE1 : sel ≠ 0x0E1) : s.csrWrite sel w = s.push 1 (.csr sel w) := by
  simp only [State.csrWrite, Ctx.csrWriteNow, if_neg h0, if_neg h1, if_neg h48, if_neg hC0, if_neg hE1]
  rfl

/-- Settles O17: the system registers by the mode, PREDS bit by bit. -/
theorem systemAndPredicateRegisters : Obligations.SystemAndPredicateRegisters := by
  refine ⟨fun s sd sa g csr hg hcsr => ?system, fun s w n => ?preds⟩
  case system =>
    obtain ⟨hsystem, hlost, h0, h1, h48, hC0, hE1⟩ := csrSystem_of_mem hcsr
    refine ⟨fun htask => csrWords_privileged hg (by simp [State.mayName, State.sys, hsystem, htask]) sd sa, fun hsys => ?_⟩
    have hn : s.mayName csr = true := by simp [State.mayName, State.sys, hsys]
    have hvalue : s.csrValue csr = s.sysRead csr := if_pos hsys
    have hread (t : State) : t.csrReadEffect csr = t := if_neg hlost
    have hwrite (t : State) : t.csrWrite csr (s.reg sa) = t.push 1 (.csr csr (s.reg sa)) := t.csrWrite_eq_push _ h0 h1 h48 hC0 hE1
    refine ⟨(execCsrr_named hg hn sd).trans ?_, (execCsrw_named hg hn sa).trans ?_, (execCsrx_named hg hn sd sa).trans ?_⟩
    · rw [hread, hvalue]
    · rw [hwrite]
    · rw [hread, hvalue, hwrite]
  case preds =>
    exact ⟨s.getLsbD_csrRead_preds n, s.getLsbD_csrRead_preds 0, s.csrRead_preds_lt,
      s.csrWrite_eq_push w (by decide) (by decide) (by decide) (by decide) (by decide), s.core.getP_csrPerform_preds w n, rfl⟩

end Sys2Proof.Machine
end

section
/-! PROOFS. Scalar and remote pool words (05 R137 to R142): O13, O14 and O15. -/

namespace Sys2Proof.Machine

/-! R411: the check of a word's access, which leaves the registers alone -/

/-- The state once the access of a pool word has passed its watchpoint check. -/
def State.watched (s : State) (write : Bool) (a n : Nat) : State :=
  { s with core := { s.core with ctx := (s.core.ctx.watch write true true s.core.ctx.sq.pc.toNat a n).1 } }

theorem State.watched_kept (s : State) (write : Bool) (a n : Nat) : (s.watched write a n).kept = s.kept := by
  simp only [State.watched, State.kept, Ctx.watch_kept]

theorem State.reg_of_kept {s t : State} (h : t.kept = s.kept) (i : BitVec 5) : t.reg i = s.reg i := by
  have hregs : t.core.ctx.regs.s = s.core.ctx.regs.s := congrArg (CtxKept.regs ∘ Kept.ctx) h
  rw [State.reg, State.reg, Regs.get, Regs.get, hregs]

@[simp] theorem State.watched_reg (s : State) (write : Bool) (a n : Nat) (i : BitVec 5) : (s.watched write a n).reg i = s.reg i :=
  State.reg_of_kept (s.watched_kept write a n) i

theorem State.watchWord_clear {s : State} {write : Bool} {a n : Nat}
    (h : (s.core.ctx.watch write true true s.core.ctx.sq.pc.toNat a n).2 = none) (f : State → Out) :
    s.watchWord write true a n f = f (s.watched write a n) := by
  simp only [State.watchWord, h, State.watched]

/-! R137: the checks of a scalar access in their order, its guard first -/

/-- R132: how a scalar word reaches the pool. -/
abbrev scalarAccess (write : Bool) : Access := if write then .scalarWrite else .scalarRead

section
variable {s : State} {g : BitVec 4} {a : Word} {n : Nat} (hg : s.guard g = true)
include hg

theorem State.guarded_poolAccess_misaligned {write : Bool} (h : a.toNat % n ≠ 0) (f : State → Out) :
    (s.guarded g fun _ => s.poolAccess write a n f) = s.wordFault causeMisalign a :=
  (State.guarded_true hg _).trans (if_pos h)

theorem State.guarded_poolAccess_refused (write : Bool) (halign : a.toNat % n = 0)
    (h : admitsAll s.core.ctx.misc.part (scalarAccess write) a.toNat n = false) (f : State → Out) :
    (s.guarded g fun _ => s.poolAccess write a n f) = s.wordFault causePoolBound a :=
  (State.guarded_true hg _).trans ((if_neg (not_not.mpr halign)).trans (if_pos (by simp [h])))

theorem State.guarded_poolAccess_clear (write : Bool) (halign : a.toNat % n = 0)
    (h : admitsAll s.core.ctx.misc.part (scalarAccess write) a.toNat n = true)
    (hclear : (s.core.ctx.watch write true true s.core.ctx.sq.pc.toNat a.toNat n).2 = none) (f : State → Out) :
    (s.guarded g fun _ => s.poolAccess write a n f) = f (s.watched write a.toNat n) :=
  (State.guarded_true hg _).trans
    ((if_neg (not_not.mpr halign)).trans ((if_neg (by simp [h])).trans (State.watchWord_clear hclear f)))

end

/-- Settles O13: each word is its access, which its checks let pass; the registers it reads after them are those it read before. -/
theorem poolWordsAskForTheirAccess : Obligations.PoolWordsAskForTheirAccess := by
  intro s sd sa sb g hg
  refine ⟨fun sz off halign hadm hclear => ?lds, fun sz off halign hadm hclear => ?sts,
    fun w op sbh halign hadm hclear => ⟨?amo, ?amocas⟩⟩
  case lds => exact State.guarded_poolAccess_clear hg false halign hadm hclear _
  all_goals
    refine (State.guarded_poolAccess_clear hg true halign hadm hclear _).trans ?_
    simp only [State.watched_reg]
    rfl

/-- Settles O14: each word is its access, and the first check that fails answers. -/
theorem poolWordsTrapOnBadAddresses : Obligations.PoolWordsTrapOnBadAddresses := by
  intro s sd sa sb g hg
  have misaligned {write : Bool} {a : Word} {n : Nat} := State.guarded_poolAccess_misaligned (write := write) (a := a) (n := n) hg
  have refused {a : Word} {n : Nat} := State.guarded_poolAccess_refused (a := a) (n := n) hg
  exact ⟨fun sz off => ⟨fun h => misaligned h _, fun halign h => refused false halign h _⟩,
    fun sz off => ⟨fun h => misaligned h _, fun halign h => refused true halign h _⟩,
    fun w op sbh => ⟨fun h => ⟨misaligned h _, misaligned h _⟩, fun halign h => ⟨refused true halign h _, refused true halign h _⟩⟩⟩

/-! Remote words (R141, R142, R267) -/

/-- R141: the locator names a core and an aligned quantity of `n` bytes there, and `l` a line for the answer. -/
def RemoteFits (part : Word) (loc n l : Nat) : Prop :=
  loc / 2 ^ 19 % 2 ^ 13 = 0 ∧ loc / 2 ^ 48 = 0 ∧ cidOk (loc / 2 ^ 32) = true ∧ loc % 2 ^ 19 % n = 0 ∧
    l % 16 = 0 ∧ admitsAll part .remote l 16 = true

/-- R142, R267: one more remote operation may be sent. -/
def State.remoteRoom (s : State) : Prop := s.core.outstanding Ctx.remotes < 32 ∧ s.core.ctx.ackRoom = true

/-- R141, R142: a remote operation past its watchpoint check is sent and counted. -/
def State.remoteSend (s : State) (write : Bool) (loc n : Nat) (kind : ReqKind) : Out :=
  let s := s.ctx fun c => { (if write then c.unheld true loc n else c) with remotes := c.remotes + 1 }
  .next (s.dispatch { s.core.ctx.blankReq s.core.cid kind with va := loc, pa := loc % 2 ^ 19, module := s.conn.modnum }).retire

theorem State.remoteRoom_iff (s : State) :
    s.remoteRoom ↔ ¬(32 ≤ s.core.outstanding Ctx.remotes ∨ (!s.core.ctx.ackRoom) = true) := by
  simp [State.remoteRoom]

theorem State.remoteOperands_start {s : State} (h : s.core.ctx.sq.wait = none) (sl sa sb sc : BitVec 5) :
    s.remoteOperands sl sa sb sc = [(s.reg sa).toNat, (s.reg sl).toNat, (s.reg sb).toNat, (s.reg sc).toNat] := by
  rw [State.remoteOperands, State.waiting_idle h]

section
variable {s : State} {g : BitVec 4}

/-- Where its checks pass, a remote word holds at a limit and otherwise sends. -/
theorem State.remoteWord_fits {loc l : Word} {n : Nat} (hg : s.guard g = true)
    (hfits : RemoteFits s.core.ctx.misc.part loc.toNat n l.toNat) (v cmp : Word) (write : Bool) (kind : Word → Word → Nat → ReqKind) :
    s.remoteWord g [loc.toNat, l.toNat, v.toNat, cmp.toNat] n write kind
      = if 32 ≤ s.core.outstanding Ctx.remotes ∨ !s.core.ctx.ackRoom then
          .next (s.holdOn ⟨.full, none, [loc.toNat, l.toNat, v.toNat, cmp.toNat], 0, 0⟩)
        else s.watchWord write true (loc.toNat % 2 ^ 19) n fun t => t.remoteSend write loc.toNat n (kind v cmp l.toNat) := by
  obtain ⟨hlow, hhigh, hcore, haligned, hline, hadmitted⟩ := hfits
  have ha : wbits loc 0 19 = loc.toNat % 2 ^ 19 := by rw [wbits, pow_zero, Nat.div_one]
  have hcid : wbits loc 32 16 = loc.toNat / 2 ^ 32 := by rw [wbits]; omega
  have hfields : ¬(wbits loc 19 13 ≠ 0 ∨ wbits loc 48 16 ≠ 0 ∨ !cidOk (wbits loc 32 16)) := by
    rw [hcid, hcore, wbits, hlow, wbits, hhigh]
    decide
  simp only [State.remoteWord, List.getD_cons_zero, List.getD_cons_succ, BitVec.ofNat_toNat, BitVec.setWidth_eq, ha]
  rw [if_neg (by simp [hg]), if_neg hfields, if_neg (not_not.mpr haligned), if_neg (not_not.mpr hline), if_neg (by simp [hadmitted])]
  rfl

variable {sl sa sb sc : BitVec 5} {n : Nat} (hwait : s.core.ctx.sq.wait = none) (hg : s.guard g = true)
  (hfits : RemoteFits s.core.ctx.misc.part (s.reg sa).toNat n (s.reg sl).toNat)
include hwait hg hfits

theorem State.remoteWord_holds (hfull : ¬s.remoteRoom) (write : Bool) (kind : Word → Word → Nat → ReqKind) :
    s.remoteWord g (s.remoteOperands sl sa sb sc) n write kind
      = .next (s.holdOn ⟨.full, none, [(s.reg sa).toNat, (s.reg sl).toNat, (s.reg sb).toNat, (s.reg sc).toNat], 0, 0⟩) := by
  rw [State.remoteOperands_start hwait, State.remoteWord_fits hg hfits, if_pos (not_not.mp fun h => hfull (s.remoteRoom_iff.mpr h))]

theorem State.remoteWord_sends (hroom : s.remoteRoom) {write : Bool}
    (hclear : (s.core.ctx.watch write true true s.core.ctx.sq.pc.toNat ((s.reg sa).toNat % 2 ^ 19) n).2 = none)
    (kind : Word → Word → Nat → ReqKind) :
    s.remoteWord g (s.remoteOperands sl sa sb sc) n write kind
      = (s.watched write ((s.reg sa).toNat % 2 ^ 19) n).remoteSend write (s.reg sa).toNat n
          (kind (s.reg sb) (s.reg sc) (s.reg sl).toNat) := by
  rw [State.remoteOperands_start hwait, State.remoteWord_fits hg hfits, if_neg (s.remoteRoom_iff.mp hroom), State.watchWord_clear hclear]

end

/-- Settles O15: each remote word is one request of its kind, which goes or holds as the limits say. -/
theorem remoteWordsSendOneRequest : Obligations.RemoteWordsSendOneRequest := by
  intro s sd sa sb g sbh op sz w c loc a seen sent fits room ok hwait hg
  refine ⟨fun ⟨hfits, hroom⟩ hclear => ?rld, fun ⟨hfits, hroom⟩ hclear => ?rst, fun ⟨hfits, hroom⟩ hclear => ⟨?ramo, ?ramocas⟩,
    fun hfull => ⟨fun hfits => ⟨?rldHolds, ?rstHolds⟩, fun hfits => ⟨?ramoHolds, ?ramocasHolds⟩⟩⟩
  all_goals
    unfold exec
    simp only [execRld, execRst, execRamo, execRamocas]
  case rld | rst | ramo | ramocas => exact State.remoteWord_sends hwait hg hfits hroom hclear _
  case rldHolds | rstHolds | ramoHolds | ramocasHolds => exact State.remoteWord_holds hwait hg hfits hfull _ _

end Sys2Proof.Machine
end

section
/-! PROOFS. The start of an entry (06 R150, R151): what it takes from its queue and its FIFOs, and O25. -/

namespace Sys2Proof.Machine

/-! Queues by engine -/

theorem Unit7.num_lt (u : Unit7) : u.num < 7 := by cases u <;> decide

/-- R51: an engine is named by its code, which for all of them is the queue's number. -/
theorem Unit7.num_injective : Function.Injective Unit7.num :=
  Function.LeftInverse.injective (g := fun n => Unit7.ofCode (BitVec.ofNat 3 n)) fun u => by cases u <;> rfl

theorem Ctx.queue_onQueue_same (c : Ctx) (u : Unit7) (f : Queue → Queue) : (c.onQueue u f).queue u = f (c.queue u) :=
  vat_vmod_same c.queues .empty f u.num_lt

theorem Ctx.queue_onQueue_other (c : Ctx) {u v : Unit7} (h : v ≠ u) (f : Queue → Queue) : (c.onQueue u f).queue v = c.queue v :=
  vat_vmod_other c.queues .empty f (Unit7.num_injective.ne h)

/-! Tokens taken in turn (R151) -/

/-- One token less in each FIFO of a list. -/
def takeTokens (t : Vector Nat 8) (fs : List Nat) : Vector Nat 8 := fs.foldl (fun t f => vmod t 0 f (· - 1)) t

theorem Ctx.foldl_onTok (c : Ctx) (fs : List Nat) :
    fs.foldl (fun c f => c.onTok f (· - 1)) c = { c with tokens := takeTokens c.tokens fs } := by
  induction fs generalizing c with
  | nil => rfl
  | cons f fs ih => exact ih (c.onTok f (· - 1))

theorem vat_takeTokens (t : Vector Nat 8) (fs : List Nat) {f : Nat} (hf : f < 8) :
    vat (takeTokens t fs) 0 f = vat t 0 f - fs.count f := by
  induction fs generalizing t with
  | nil => rfl
  | cons g fs ih =>
    rw [show takeTokens t (g :: fs) = takeTokens (vmod t 0 g (· - 1)) fs from rfl, ih]
    by_cases h : f = g
    · subst h
      rw [vat_vmod_same t 0 _ hf, List.count_cons_self]
      omega
    · rw [vat_vmod_other t 0 _ h, List.count_cons_of_ne (Ne.symm h)]

/-! The start -/

/-- R150: what a start leaves of the queue it took the head from. -/
def Queue.afterStart (uid cyc occupancy : Nat) (q : Queue) : Queue :=
  { q with lastS := some cyc, freeAt := cyc + occupancy, gone := q.gone.filter fun x => decide (uid < x.1) }

/-- R150, R151: a start changes its engine's queue, the tokens and the started entries. -/
theorem Ctx.begin_eq (c : Ctx) (e : Entry) (n : Nat) :
    c.begin e n = { (c.popHead e.eng).onQueue e.eng (Queue.afterStart e.uid c.cyc n) with
      tokens := takeTokens c.tokens e.pops
      run := c.run ++ [{ e with started := true, startCyc := c.cyc, age := 0, claims := c.claimsOf e }] } := by
  rw [Ctx.begin, Ctx.foldl_onTok]
  rfl

theorem Ctx.queue_begin_same (c : Ctx) (e : Entry) (n : Nat) :
    (c.begin e n).queue e.eng = Queue.afterStart e.uid c.cyc n { c.queue e.eng with wait := (c.queue e.eng).wait.tail } := by
  rw [Ctx.begin_eq, ← Ctx.queue_onQueue_same c e.eng fun q => { q with wait := q.wait.tail }]
  exact Ctx.queue_onQueue_same (c.popHead e.eng) _ _

theorem Ctx.queue_begin_other (c : Ctx) (e : Entry) (n : Nat) {u : Unit7} (h : u ≠ e.eng) : (c.begin e n).queue u = c.queue u := by
  rw [Ctx.begin_eq]
  exact (Ctx.queue_onQueue_other (c.popHead e.eng) h _).trans (Ctx.queue_onQueue_other c h _)

/-- Settles O25, by the pieces of the context a start changes: its queue, the tokens, the started entries. -/
theorem startingAnEntryTakesItFromItsQueue : Obligations.StartingAnEntryTakesItFromItsQueue := by
  intro c e n
  refine ⟨?queue, ?run, ?others, ?frame, ?tokens⟩
  case queue => exact c.queue_begin_same e n
  case run => exact congrArg Ctx.run (c.begin_eq e n)
  case others => exact fun u hu => c.queue_begin_other e n hu
  case frame =>
    rw [Ctx.begin_eq]
    rfl
  case tokens =>
    intro f hf
    rw [Ctx.begin_eq]
    exact vat_takeTokens c.tokens e.pops hf

end Sys2Proof.Machine
end

section
/-! PROOFS. Words that hold SQ until an access is served, and the words of the stream and template stores (06 R149, R159): O20. -/

namespace Sys2Proof.Machine

theorem State.wide_issues {s : State} (h : s.core.ctx.sq.second = true) (o : Out) : (s.wide fun _ => o) = o := State.wide_second h _

/-! R149: a word that asks for an access, first met and once it has been served -/

section
variable {s : State} {misaligned refused : Bool} (x y : Out) (note : List Nat)

/-- First met, it makes its checks; where they pass it asks, and holds. -/
theorem State.checkedHold_first (h : s.core.ctx.sq.wait = none) (ha : misaligned = false) (hr : refused = false)
    (t : State) (served : Wait → Out) :
    (if (s.waiting .served).isNone && misaligned then x else if (s.waiting .served).isNone && refused then y
      else s.servedHold note (fun _ => .next t) served) = .next (t.holdOn ⟨.served, none, note, 0, 0⟩) := by
  simp only [ha, hr, Bool.and_false, Bool.false_eq_true, if_false, State.servedHold, State.waiting_idle h]

/-- Once its access has been served it goes on, without a further check. -/
theorem State.checkedHold_served {w : Wait} (h : s.core.ctx.sq.wait = some w) (hk : w.kind = .served) (hp : w.progress ≠ 0)
    (start : Unit → Out) (served : Wait → Out) :
    (if (s.waiting .served).isNone && misaligned then x else if (s.waiting .served).isNone && refused then y
      else s.servedHold note start served) = served w := by
  simp only [State.waiting_same h hk, Option.isNone_some, Bool.false_and, Bool.false_eq_true, if_false, State.servedHold, if_neg hp]

end

/-- Settles O20: in its second cycle each is its outcome, and `tdef` and `tread` by whether their access has been served. -/
theorem templateAndStreamWords : Obligations.TemplateAndStreamWords := by
  intro s eng t sd sa off q w imm c a held hs
  have second : ∀ o : Out, (s.wide fun _ => o) = o := State.wide_issues hs
  refine ⟨second _, second _, fun hw ha hadm => ?tdefAsks, fun hw ha hadm => ?treadAsks, fun v hw => ?served⟩
  case tdefAsks | treadAsks =>
    have aligned : decide (a.toNat % 16 ≠ 0) = false := decide_eq_false (not_not.mpr ha)
    exact (second _).trans (State.checkedHold_first _ _ _ hw aligned (congrArg not hadm) _ _)
  case served =>
    have hp : (1 : Nat) ≠ 0 := by decide
    exact ⟨(second _).trans (State.checkedHold_served _ _ _ hw rfl hp _ _),
      fun hop => (second _).trans ((State.checkedHold_served _ _ _ hw rfl hp _ _).trans (if_pos hop))⟩

end Sys2Proof.Machine
end

section
/-! PROOFS. The wheel (06 R168 to R171): O21. -/

namespace Sys2Proof.Machine

section
variable {s : State} (hs : s.core.ctx.sq.second = true)
include hs

theorem State.whlStopped_idle (h : s.core.ctx.wheel.running = false) (t : State) : (s.whlStopped fun _ => t) = .next t.retireWide :=
  (State.wide_issues hs _).trans (if_neg (Bool.eq_false_iff.mp h))

theorem State.whlStopped_running (h : s.core.ctx.wheel.running = true) (t : State) :
    (s.whlStopped fun _ => t) = s.wordFault causeFieldRange (BitVec.ofNat 64 (s.fetched % 2 ^ 32)) :=
  (State.wide_issues hs _).trans (if_pos h)

end

/-- R170: the wheel's turn has come. -/
theorem State.wheelDue {s : State} (hrun : s.core.ctx.wheel.running = true) (hok : s.core.ctx.wheel.faulted = false)
    (hstart : s.core.ctx.wheel.start ≤ s.core.ctx.cyc) :
    ¬ (!s.core.ctx.wheel.running || s.core.ctx.wheel.faulted || decide (s.core.ctx.cyc < s.core.ctx.wheel.start)) = true := by
  simp [hrun, hok, hstart]

/-- R170: the slot the run has come to is one it places. -/
theorem Wheel.slotDue {w : Wheel} (hrun : w.running = true) (hat : w.at_ < w.len) (hgo : w.goes = true) :
    ¬ (!w.running || decide (w.len ≤ w.at_) || !w.goes) = true := by
  simp [hrun, hat, hgo]

/-- Settles O21: the words by whether the wheel runs, its placement by the entry its slot makes. -/
theorem wheelWordsAndPlacements : Obligations.WheelWordsAndPlacements := by
  refine ⟨?words, ?placements⟩
  case words =>
    intro s slot eng t fo lo ab k lvl fa fb sa v c n hs w whl
    have second : ∀ o : Out, (s.wide fun _ => o) = o := State.wide_issues hs
    refine ⟨second _, fun hstop => ?stopped, fun hrun => ?running⟩
    case stopped =>
      have stopped := State.whlStopped_idle hs hstop
      exact ⟨stopped _, stopped _, stopped _, (second _).trans (if_neg (Bool.eq_false_iff.mp hstop))⟩
    case running =>
      have running := State.whlStopped_running hs hrun
      exact ⟨running _, running _, running _⟩
  case placements =>
    intro s hrun hok hstart s' c hrun' hat hgo hroom
    have room : ¬ c.full (Unit7.ofCode (c.wheel.slot c.wheel.at_).eng) = true := Bool.eq_false_iff.mp hroom
    refine ⟨fun e he => ?placed, fun cause tv he => ?stopped⟩
    all_goals
      refine (if_neg (State.wheelDue hrun hok hstart)).trans ((if_neg (Wheel.slotDue hrun' hat hgo)).trans ((if_neg room).trans ?_))
      rw [he]

end Sys2Proof.Machine
end

section
/-! PROOFS. Rings and tokens as SQ's words see them (06 R153 to R155, R162 to R164): O22 and O23. -/

namespace Sys2Proof.Machine

/-- R163: past its check that the ring is defined, a ring word goes on. -/
theorem ringDefined {g : Ring} (h : g.defd = true) (x o : Out) : (if !g.defd then x else o) = o := if_neg (by simp [h])

theorem ringUndefined {g : Ring} (h : g.defd = false) (x o : Out) : (if !g.defd then x else o) = x := if_pos (by simp [h])

/-- Settles O22: each word by its checks in their order, the ring's definition first. -/
theorem ringWordsMoveStages : Obligations.RingWordsMoveStages := by
  intro s sd sa ring prod cons cnt size base side full sel c g fill st free
  refine ⟨fun hs hrange => ?rdef, fun hdef hfree => ?taken, fun hdef hfree => ?refused, fun k hdef hstage howner => ?rrel, rfl,
    fun hundef => ⟨ringUndefined hundef _ _, ringUndefined hundef _ _⟩⟩
  case rdef => exact (State.wide_issues hs _).trans (if_pos hrange)
  case taken => exact (ringDefined hdef _ _).trans (if_pos hfree)
  case refused => exact (ringDefined hdef _ _).trans (if_neg (Bool.eq_false_iff.mp hfree))
  case rrel =>
    refine (ringDefined hdef _ _).trans ?_
    rw [hstage]
    exact if_pos howner

/-! R155: tokens pushed and taken -/

theorem execTokPush_room {s : State} {f : BitVec 3} (h : s.core.ctx.tok f.toNat - s.willPop f.toNat ≠ 8) :
    execTokPush f s = .next (s.push 1 (.token f)).retire := if_neg h

theorem execTokPush_full {s : State} {f : BitVec 3} (h : s.core.ctx.tok f.toNat - s.willPop f.toNat = 8) :
    execTokPush f s = s.wordFault causeTokenFull 0 := if_pos h

theorem execTokTry_some {s : State} {f : BitVec 3} (h : 0 < s.core.ctx.tok f.toNat) (sd : BitVec 5) :
    execTokTry sd f s = (s.ctx (·.onTok f.toNat (· - 1))).scalar 1 sd 1 := if_pos h

theorem execTokTry_none {s : State} {f : BitVec 3} (h : s.core.ctx.tok f.toNat = 0) (sd : BitVec 5) :
    execTokTry sd f s = s.scalar 1 sd 0 := if_neg (Nat.not_lt.mpr (Nat.le_zero.mpr h))

/-- Settles O23: `tok.push` by whether the FIFO stays full, `tok.try` by whether it holds a token. -/
theorem tokenWordsCountTokens : Obligations.TokenWordsCountTokens := by
  intro s sd f c n
  exact ⟨rfl, fun hroom => execTokPush_room hroom, fun hfull => execTokPush_full hfull, fun hsome => execTokTry_some hsome sd,
    fun hnone => execTokTry_none hnone sd⟩

end Sys2Proof.Machine
end

section
/-! PROOFS. Waits and signals (06 R172; 09 R234, R236): O24. -/

namespace Sys2Proof.Machine

/-! R172: `qdrain` that leaves the pending lists -/

theorem execQdrain_keeping {mask : BitVec 9} (h : mask.getLsbD 8 = false) (s : State) :
    execQdrain mask s
      = if s.core.ctx.drainedMask mask.toNat then .next s.retire else .next (s.holdOn ⟨.drain, none, [], 0, 0⟩) := by
  simp only [execQdrain, h, Bool.false_eq_true, if_false]

/-! R234: `waita` -/

/-- First met, with words that may be watched, it arms them. -/
theorem execWaita_arms {s : State} {sa : BitVec 5} {n : BitVec 2} (h : s.core.ctx.sq.wait = none)
    (hadm : ∀ a ∈ waitaAddrs (s.reg sa) n.toNat, admitsAll s.core.ctx.misc.part .remote a 8 = true) (sd : BitVec 5) (nz : BitVec 1) :
    execWaita sd sa nz n s = .next (({ s with core := { s.core with wrote := [] } } : State).holdOn
      ⟨.waita (nz == 1), s.limit (s.reg (sa + 1)), waitaAddrs (s.reg sa) n.toNat, 0, sd.toNat⟩) := by
  have hnone : (waitaAddrs (s.reg sa) n.toNat).find? (fun a => !admitsAll s.core.ctx.misc.part .remote a 8) = none :=
    List.find?_eq_none.mpr fun a ha => by simp [hadm a ha]
  simp only [execWaita, State.waiting_idle h, hnone]
  rfl

theorem State.waita_of_kind {s : State} {w : Wait} {b : Bool} (hw : s.core.ctx.sq.wait = some w) (hk : w.kind = .waita b) :
    s.waita = some (b, w) := by
  simp only [State.waita, hw, hk]

theorem execWaitaFire_fired {s : State} {b : Bool} {w : Wait} {j : Nat} (h : s.waita = some (b, w)) (hf : s.waitaFired b w.addrs = some j) :
    execWaitaFire s = .next (s.endWaita w j) := by
  simp only [execWaitaFire, h, hf]

theorem execWaitaExpiry_over {s : State} {b : Bool} {w : Wait} {d : Nat} (h : s.waita = some (b, w)) (hf : s.waitaFired b w.addrs = none)
    (hd : w.deadline = some d) (hle : d ≤ s.tickEnd) : execWaitaExpiry s = .next (s.endWaita w 4) := by
  simp only [execWaitaExpiry, h, hf, hd, if_pos hle]

/-! R236: signals -/

/-- A timed engine's signal that waits on no entry asks for the write of its flag. -/
theorem execFsigWrite_timed {s : State} {i : Nat} {x : Sig} (h : freedSig false s.core.ctx.sigs = some (i, x)) (htimed : x.gated = false) :
    execFsigWrite s = .next ((s.ctx fun c => { c with
      sigs := c.sigs.map fun y => if y.1 = i then (y.1, { y.2 with sent := true }) else y }).askFor none (.event .fsigWrite)
        (writeAccs s.core.cid (placed s.core.ctx.misc.part (8 * x.flag) (toBytes 8 x.value.toNat)))) := by
  simp only [execFsigWrite, h, htimed, Bool.false_eq_true, if_false]

theorem execFsig_free {s : State} {i : Nat} (h : s.core.ctx.freeSig = some i) (sa : BitVec 5) (eng : BitVec 3) (flag : BitVec 6) :
    let u := Unit7.ofCode eng
    let es := s.core.ctx.unfinished u
    let t := s.ctx fun c => { c with sigs := c.sigs ++ [(i, ⟨s.reg sa, flag.toNat, u == .cp0 || u == .cp1 || u == .nm, es, false⟩)] }
    execFsig sa eng flag s = .next (if es = [] then t.push 2 (.event .fsigWrite) else t).retire := by
  simp only [execFsig, h]

/-- Settles O24, each word and event by the one case of its definition that the hypotheses leave. -/
theorem waitsAndSignals : Obligations.WaitsAndSignals := by
  intro s sd sa nz n mask eng flag c
  refine ⟨fun hkeep hdone => ?drained, fun hkeep hleft => ?drains, fun hw hadm => ?arms, fun w b j d hw hk => ⟨?fires, ?expires⟩,
    fun i hfree => ?fsig, fun i x hfreed htimed => ?written⟩
  case drained => exact (execQdrain_keeping hkeep s).trans (if_pos hdone)
  case drains => exact (execQdrain_keeping hkeep s).trans (if_neg (Bool.eq_false_iff.mp hleft))
  case arms => exact execWaita_arms hw hadm sd nz
  case fires => exact execWaitaFire_fired (State.waita_of_kind hw hk)
  case expires => exact execWaitaExpiry_over (State.waita_of_kind hw hk)
  case fsig => exact execFsig_free hfree sa eng flag
  case written => exact execFsigWrite_timed hfreed htimed

end Sys2Proof.Machine
end

section
/-! PROOFS. Heads of LD, ST and MX that start or fault (06 R150, R165, R166; 08 R205 to R217): O26. -/

namespace Sys2Proof.Machine

/-! Checks: one that passes goes on, one that fails answers its fault -/

section
variable {b : Bool} (cause : BitVec 8) (tv : Word)

theorem need_bind_pass (h : b = true) (f : Unit → Chk α) : (need b cause tv >>= f) = f () := by subst h; rfl

theorem need_bind_fail (h : b = false) (f : Unit → Chk α) : (need b cause tv >>= f) = .error (cause, tv) := by subst h; rfl

theorem need_map_pass (h : b = true) (f : Unit → α) : (need b cause tv).map f = .ok (f ()) := by subst h; rfl

theorem need_map_fail (h : b = false) (f : Unit → α) : (need b cause tv).map f = .error (cause, tv) := by subst h; rfl

end

theorem ite_decide_iff {p a b : Prop} [Decidable p] [Decidable a] [Decidable b] :
    (if p then decide a else decide b) = true ↔ if p then a else b := by
  split <;> exact decide_eq_true_iff

/-! R198, R207, R216: the checks of entries that name an accumulator -/

section
variable {c : Ctx} {e : Entry} {ok : AccDesc → Bool}

theorem Ctx.accChecked_ok (hm : accMatches (c.acc (e.f 79 5 % 8)) e.strA = true) (hok : ok (c.acc (e.f 79 5 % 8)) = true) :
    c.accChecked e ok = .ok ({ e with desc := c.acc (e.f 79 5 % 8) }.sized e.strA.dataBytes) :=
  (need_bind_pass _ _ hm _).trans (need_bind_pass _ _ hok _)

theorem Ctx.accChecked_shape (hm : ¬ accMatches (c.acc (e.f 79 5 % 8)) e.strA = true) : c.accChecked e ok = .error (causeAccShape, 0) :=
  need_bind_fail _ _ (Bool.eq_false_iff.mpr hm) _

theorem Ctx.accChecked_range (hm : accMatches (c.acc (e.f 79 5 % 8)) e.strA = true) (hok : ok (c.acc (e.f 79 5 % 8)) = false) :
    c.accChecked e ok = .error (causeFieldRange, 0) :=
  (need_bind_pass _ _ hm _).trans (need_bind_fail _ _ hok _)

/-- R207: the accumulator has the shape and the kind that a product entry names. -/
def Ctx.productFits (c : Ctx) (e : Entry) (int : Bool) : Prop :=
  let d := c.acc (e.f 85 3)
  d.defd = true ∧ d.mcode = e.f 83 2 ∧ d.n = e.f 77 6 ∧ d.int = int

theorem Ctx.productFits_iff {int : Bool} : c.productFits e int ↔
    ((c.acc (e.f 85 3)).defd && (c.acc (e.f 85 3)).mcode == e.f 83 2 && (c.acc (e.f 85 3)).n == e.f 77 6
      && (c.acc (e.f 85 3)).int == int) = true := by
  simp [Ctx.productFits, and_assoc]

theorem Ctx.mxChecked_ok {int : Bool} (h : c.productFits e int) : c.mxChecked e int = .ok { e with desc := c.acc (e.f 85 3) } :=
  need_bind_pass _ _ (Ctx.productFits_iff.mp h) _

theorem Ctx.mxChecked_error {int : Bool} (h : ¬ c.productFits e int) : c.mxChecked e int = .error (causeAccShape, 0) :=
  need_bind_fail _ _ (Bool.eq_false_iff.mpr fun hb => h (Ctx.productFits_iff.mpr hb)) _

/-- R216: the checks of `mx.lsf`, in the order in which its row makes them. -/
def Ctx.lsfChecked (c : Ctx) (e : Entry) : Chk Entry := do
  let d := c.acc (e.f 85 3)
  need d.defd causeAccShape 0
  need (if e.f 84 1 = 0 then decide (d.elems / 8 ≤ (c.ring (e.f 81 3)).size) else decide (d.elems ≤ 2048)) causeAccShape 0
  need (e.f 84 1 == 0 || c.vregOk (e.f 76 5)) causePoolBound 0
  pure { e with desc := d }

theorem execMxLsf_eq (s : State) :
    execMxLsf s = s.judge .mx 0x24 (fun _ => true) fun e => s.mxStart e (s.core.ctx.lsfChecked e) := rfl

/-- R216: the accumulator is defined, and its plane fits where the entry sends it. -/
def Ctx.lsfFits (c : Ctx) (e : Entry) : Prop :=
  (c.acc (e.f 85 3)).defd = true ∧
    if e.f 84 1 = 0 then (c.acc (e.f 85 3)).elems / 8 ≤ (c.ring (e.f 81 3)).size else (c.acc (e.f 85 3)).elems ≤ 2048

theorem Ctx.lsfChecked_ok (h : c.lsfFits e) (hreg : e.f 84 1 = 0 ∨ c.vregOk (e.f 76 5) = true) :
    c.lsfChecked e = .ok { e with desc := c.acc (e.f 85 3) } :=
  (need_bind_pass _ _ h.1 _).trans ((need_bind_pass _ _ (ite_decide_iff.mpr h.2) _).trans (need_bind_pass _ _ (by simpa using hreg) _))

theorem Ctx.lsfChecked_shape (h : ¬ c.lsfFits e) : c.lsfChecked e = .error (causeAccShape, 0) := by
  by_cases hdef : (c.acc (e.f 85 3)).defd = true
  · have hsize := Bool.eq_false_iff.mpr fun hfits => h ⟨hdef, ite_decide_iff.mp hfits⟩
    exact (need_bind_pass _ _ hdef _).trans (need_bind_fail _ _ hsize _)
  · exact need_bind_fail _ _ (Bool.eq_false_iff.mpr hdef) _

theorem Ctx.lsfChecked_register (h : c.lsfFits e) (hvec : e.f 84 1 ≠ 0) (hreg : c.vregOk (e.f 76 5) = false) :
    c.lsfChecked e = .error (causePoolBound, 0) :=
  (need_bind_pass _ _ h.1 _).trans
    ((need_bind_pass _ _ (ite_decide_iff.mpr h.2) _).trans (need_bind_fail _ _ (by simp [hvec, hreg]) _))

end

/-! R150: the head that starts, through the checks of its row -/

section
variable {s : State} {u : Unit7} {e : Entry} {op : Nat} (hhead : s.core.ctx.head u = some e) (hop : e.op8 = op)
  (hv : s.core.ctx.verdict true e = .start)
include hhead hop hv

/-- It is started by its row, whose checks and start are `start`. -/
theorem State.judge_starts {start : Entry → State} {t : State} (hstart : start e = t) :
    s.judge u op (fun _ => true) start = .next t :=
  (State.judge_start (slots := fun _ => true) hhead hop hv start).trans (congrArg _ hstart)

end

/-- Settles O26: a head that may start does what the checks of its row answer, and one that may not what the verdict says. -/
theorem loadStoreAndMatrixHeadsStart : Obligations.LoadStoreAndMatrixHeadsStart := by
  refine ⟨fun s e => ⟨fun hhead hv => ?ld, fun hhead hv => ?st, fun hhead hop hv => ?qTok, fun i op u hrow hhead hop => ?unstarted⟩,
    fun s e hhead hv => ?mx⟩
  case ld =>
    have starts {check r : Chk (Entry × Nat)} (hc : check = r) : s.startChecked e check = s.startChecked e r := congrArg _ hc
    refine ⟨fun hop => ?strm, fun hop hreg => ?vec, fun hop hreg => ?vecOut, fun hop hm hfmt => ?acc, fun hop hm => ?accShape,
      fun hop hm hfmt => ?accFmt⟩
    case strm => exact State.judge_starts hhead hop hv rfl
    case vec => exact State.judge_starts hhead hop hv (starts (need_map_pass _ _ hreg _))
    case vecOut => exact State.judge_starts hhead hop hv (starts (need_map_fail _ _ hreg _))
    case acc => exact State.judge_starts hhead hop hv (starts (Ctx.accChecked_ok hm (by simpa using hfmt)))
    case accShape => exact State.judge_starts hhead hop hv (starts (Ctx.accChecked_shape hm))
    case accFmt => exact State.judge_starts hhead hop hv (starts (Ctx.accChecked_range hm (by simpa using hfmt)))
  case st =>
    have starts {check r : Chk (Entry × Nat)} (hc : check = r) : s.startChecked e check = s.startChecked e r := congrArg _ hc
    refine ⟨fun hop => ?strm, fun hop hreg => ?vec, fun hop hreg => ?vecOut, fun hop hrnd hm => ?acc, fun hop hrnd hm hnarrow => ?stochastic,
      fun hop hrnd hm hwide => ?accFmt, fun hop hm => ?accShape⟩
    case strm => exact State.judge_starts hhead hop hv rfl
    case vec => exact State.judge_starts hhead hop hv (starts (need_map_pass _ _ hreg _))
    case vecOut => exact State.judge_starts hhead hop hv (starts (need_map_fail _ _ hreg _))
    case acc =>
      refine State.judge_starts hhead hop hv ?_
      rw [Ctx.accChecked_ok hm (by simp [hrnd])]
      exact if_neg hrnd
    case stochastic =>
      refine State.judge_starts hhead hop hv ?_
      rw [Ctx.accChecked_ok hm (by simp [hnarrow])]
      exact if_pos hrnd
    case accFmt =>
      refine State.judge_starts hhead hop hv ?_
      rw [Ctx.accChecked_range hm (by simp [hrnd, hwide])]
    case accShape =>
      refine State.judge_starts hhead hop hv ?_
      rw [Ctx.accChecked_shape hm]
  case qTok => exact State.judge_starts hhead hop hv rfl
  case unstarted =>
    have judged : ∃ start, exec i s = s.judge u op (fun _ => true) start := by
      fin_cases hrow <;> exact ⟨_, rfl⟩
    obtain ⟨start, hjudge⟩ := judged
    exact ⟨fun hv => hjudge.trans (State.judge_timing (slots := fun _ => true) hhead hop hv start),
      fun hv => hjudge.trans (State.judge_wait (slots := fun _ => true) hhead hop hv start)⟩
  case mx =>
    have starts {check r : Chk Entry} (hc : check = r) : s.mxStart e check = s.mxStart e r := congrArg _ hc
    refine ⟨fun hop => ⟨fun hshape => ?mma, fun hshape => ?mmaOut⟩, fun hop => ⟨fun hshape => ?mmac, fun hshape => ?mmacOut⟩,
      fun hop => ⟨fun hshape => ?mmi, fun hshape => ?mmiOut⟩,
      fun hop => ⟨fun hfits => ?zero, fun hover => ?zeroOut⟩,
      fun hop => ⟨fun hdef hfits hreg => ?lsf, fun hshape => ?lsfShape, fun hdef hfits hvec hreg => ?lsfOut⟩,
      fun e' hc => ⟨fun hop => ?tov, fun hop => ?fromv⟩, fun cause tv hc => ⟨fun hop => ?tovOut, fun hop => ?fromvOut⟩⟩
    case mma | mmac | mmi => exact State.judge_starts hhead hop hv (starts (Ctx.mxChecked_ok hshape))
    case mmaOut | mmacOut | mmiOut => exact State.judge_starts hhead hop hv (starts (Ctx.mxChecked_error hshape))
    case zero => exact State.judge_starts hhead hop hv (starts (need_map_pass _ _ (decide_eq_true hfits) _))
    case zeroOut => exact State.judge_starts hhead hop hv (starts (need_map_fail _ _ (decide_eq_false (Nat.not_le.mpr hover)) _))
    case lsf => exact (execMxLsf_eq s).trans (State.judge_starts hhead hop hv (starts (Ctx.lsfChecked_ok ⟨hdef, hfits⟩ hreg)))
    case lsfShape => exact (execMxLsf_eq s).trans (State.judge_starts hhead hop hv (starts (Ctx.lsfChecked_shape hshape)))
    case lsfOut => exact (execMxLsf_eq s).trans (State.judge_starts hhead hop hv (starts (Ctx.lsfChecked_register ⟨hdef, hfits⟩ hvec hreg)))
    case tov | fromv | tovOut | fromvOut => exact State.judge_starts hhead hop hv (starts hc)

end Sys2Proof.Machine
end

section
/-! PROOFS. Copies that start, and copies that end (09 R224 to R232, R328): O27. -/

namespace Sys2Proof.Machine

/-! R225, R226: the start of a copy -/

/-- The entry with the bytes it moves. -/
def Entry.withBytes (e : Entry) (n : Nat) : Entry := { e with total := n }

section
variable {s : State} {e : Entry} {n : Nat} (hn : e.cpBytes (s.core.ctx.ring (e.f 80 3)).size = n)
include hn

theorem State.copyStart_gated (hg : (e.withBytes n).gatedMoves s.core.cid = true) :
    s.copyStart e = s.ctx (·.begin (e.withBytes n) (1 + (e.withBytes n).lag)) := by
  subst hn
  exact if_pos hg

variable (hg : (e.withBytes n).gatedMoves s.core.cid = false)
include hg

theorem State.copyStart_ungated : s.copyStart e = match ((e.withBytes n).farCores s.core.cid).findSome? s.farRefusal with
    | some cause => s.ctx (·.faultHead (e.withBytes n) cause 0)
    | none => s.ctx (·.begin (e.withBytes n) (chunks 64 n + (e.withBytes n).lag)) := by
  subst hn
  exact if_neg (Bool.eq_false_iff.mp hg)

theorem State.copyStart_timed (hfar : ∀ k ∈ (e.withBytes n).farCores s.core.cid, s.farRefusal k = none) :
    s.copyStart e = s.ctx (·.begin (e.withBytes n) (chunks 64 n + (e.withBytes n).lag)) := by
  rw [State.copyStart_ungated hn hg, List.findSome?_eq_none_iff.mpr hfar]

theorem State.copyStart_refused {cause : BitVec 8} (hfar : ((e.withBytes n).farCores s.core.cid).findSome? s.farRefusal = some cause) :
    s.copyStart e = s.ctx (·.faultHead (e.withBytes n) cause 0) := by
  rw [State.copyStart_ungated hn hg, hfar]

end

/-! R230, R231: the end of a copy, by the stage it has come to -/

/-- The copy looks again in the next cycle. -/
def State.copyAgain (s : State) (uid : Nat) : State := s.ctx (·.pushFor uid 1 (.event (.copyEnd uid)))

section
variable {s : State} {e : Entry}

/-- R227: the words of `cp.copym`'s destinations come first, when a gated copy has room for their acknowledgements. -/
theorem State.completions_copym (hop : e.op8 = 0x41) (h2 : e.stage = 2)
    (hroom : ¬ e.gatedMoves s.core.cid = true ∨ s.core.ctx.ackRoomFor e.rectangle.length = true) :
    s.completions e = s.copymWords e e.rectangle :=
  (if_pos ⟨hop, h2⟩).trans (if_neg (by rcases hroom with h | h <;> simp [h]))

theorem State.completions_copym_full (hop : e.op8 = 0x41) (h2 : e.stage = 2) (hg : e.gatedMoves s.core.cid = true)
    (hfull : s.core.ctx.ackRoomFor e.rectangle.length = false) : s.completions e = s.copyAgain e.uid :=
  (if_pos ⟨hop, h2⟩).trans (if_pos (by simp [hg, hfull]))

/-- R230: the copy's own completion word, whose write is counted where it goes to another core through the gate. -/
theorem State.completions_own (h : ¬ (e.op8 = 0x41 ∧ e.stage = 2))
    (hroom : e.cside = false ∨ ¬ e.gatedMoves s.core.cid = true ∨ s.core.ctx.ackRoom = true) :
    s.completions e = s.completionWrite e :=
  (if_neg h).trans (if_neg (by rcases hroom with h | h | h <;> simp [h]))

theorem State.completions_own_full (h : ¬ (e.op8 = 0x41 ∧ e.stage = 2)) (hc : e.cside = true) (hg : e.gatedMoves s.core.cid = true)
    (hfull : s.core.ctx.ackRoom = false) : s.completions e = s.copyAgain e.uid :=
  (if_neg h).trans (if_pos (by simp [hc, hg, hfull]))

end

section
variable {s : State} {uid : Nat} {e : Entry} (hfind : s.core.ctx.run.find? (fun x => x.uid = uid) = some e)
include hfind

theorem execCopyEnd_behind (hst : e.stage < 2) (hbehind : s.core.ctx.earlierCopy e = true) :
    execCopyEnd uid s = .next (s.copyAgain uid) := by
  simp only [execCopyEnd, hfind]
  exact (if_pos hst).trans (if_pos hbehind)

theorem execCopyEnd_settles (hst : e.stage < 2) (hfirst : s.core.ctx.earlierCopy e = false) :
    execCopyEnd uid s = .next ((s.ctx fun c => ((e.claims.flatMap Claim.settle).foldl (fun c f => c.pushFor uid 0 f) c).onRun uid
      fun e => { e with stage := 2 }).copyAgain uid) := by
  simp only [execCopyEnd, hfind]
  exact (if_pos hst).trans (if_neg (Bool.eq_false_iff.mp hfirst))

theorem execCopyEnd_written (hst : e.stage = 3) :
    execCopyEnd uid s = .next ((s.ctx (·.onRun uid fun e => { e with stage := 4 })).copyAgain uid) := by
  simp only [execCopyEnd, hfind]
  exact (if_neg (by omega)).trans (if_pos hst)

theorem execCopyEnd_noRoom (hst : e.stage = 2) (hfol : e.follows = true) (hfull : s.core.ctx.full .mx = true) :
    execCopyEnd uid s = .next (s.copyAgain uid) := by
  simp only [execCopyEnd, hfind]
  exact (if_neg (by omega)).trans ((if_neg (by omega)).trans (if_pos (by simp [hst, hfol, hfull])))

/-- R211: the follow-on placed, or its fault. -/
theorem execCopyEnd_follows (hst : e.stage = 2) (hfol : e.follows = true) (hroom : s.core.ctx.full .mx = false) :
    execCopyEnd uid s = match s.core.ctx.followOn e s.nextId with
      | .error (cause, tv) => .next (s.ctx (·.faultRun uid cause tv))
      | .ok m => .next (((s.enqueue m).ctx (·.onRun uid fun e => { e with stage := 4 })).completions { e with stage := 4 }) := by
  simp only [execCopyEnd, hfind]
  exact (if_neg (by omega)).trans ((if_neg (by omega)).trans ((if_neg (by simp [hroom])).trans (if_pos (by simp [hst, hfol]))))

theorem execCopyEnd_completes (hst : (e.stage = 2 ∧ e.follows = false) ∨ 4 ≤ e.stage) : execCopyEnd uid s = .next (s.completions e) := by
  have hstage : ¬ e.stage < 2 ∧ ¬ e.stage = 3 := by omega
  have hplain : (e.stage = 2 && e.follows) = false := by
    rcases hst with ⟨_, hfol⟩ | hlate
    · simp [hfol]
    · simp [show e.stage ≠ 2 by omega]
  simp only [execCopyEnd, hfind]
  exact (if_neg hstage.1).trans ((if_neg hstage.2).trans ((if_neg (by simp [hplain])).trans (if_neg (by simp [hplain]))))

end

/-- Settles O27: the starts by what `copyStart` does, the ends by the stage the copy has come to. -/
theorem copyHeadsStartAndCopiesEnd : Obligations.CopyHeadsStartAndCopiesEnd := by
  refine ⟨fun s e i op hrow hhead hop => ?starts, fun s uid e hfind => ?ends⟩
  case starts =>
    have judged : exec i s = s.judge s.unit op (fun _ => true) s.copyStart := by
      fin_cases hrow <;> rfl
    rw [judged]
    refine ⟨fun hv hg => ?gated, fun hv hg hfar => ?timed, fun cause hv hg hfar => ?refused, fun hv => ?timing, fun hv => ?waits⟩
    case gated => exact State.judge_starts hhead hop hv (State.copyStart_gated rfl hg)
    case timed => exact State.judge_starts hhead hop hv (State.copyStart_timed rfl hg hfar)
    case refused => exact State.judge_starts hhead hop hv (State.copyStart_refused rfl hg hfar)
    case timing => exact State.judge_timing (slots := fun _ => true) hhead hop hv _
    case waits => exact State.judge_wait (slots := fun _ => true) hhead hop hv _
  case ends =>
    have huid : e.uid = uid := by simpa using List.find?_some hfind
    have plain (h : (e.stage = 2 ∧ e.follows = false ∧ e.op8 ≠ 0x41) ∨ 4 ≤ e.stage) :
        (e.stage = 2 ∧ e.follows = false) ∨ 4 ≤ e.stage := h.imp_left fun ⟨hst, hfol, _⟩ => ⟨hst, hfol⟩
    have own (h : (e.stage = 2 ∧ e.follows = false ∧ e.op8 ≠ 0x41) ∨ 4 ≤ e.stage) :
        ¬ (e.op8 = 0x41 ∧ e.stage = 2) := by omega
    refine ⟨execCopyEnd_behind hfind, execCopyEnd_settles hfind, execCopyEnd_noRoom hfind, fun m hst hfol hroom hm => ?placed,
      fun cause tv hst hfol hroom hm => ?unplaced, fun hst hfol hop => ⟨fun hroom => ?words, fun hg hfull => ?wordsWait⟩,
      execCopyEnd_written hfind, fun hst => ⟨fun hroom => ?completes, fun hc hg hfull => ?completionWaits⟩, rfl⟩
    case placed => exact (execCopyEnd_follows hfind hst hfol hroom).trans (by rw [hm])
    case unplaced => exact (execCopyEnd_follows hfind hst hfol hroom).trans (by rw [hm])
    case words =>
      exact (execCopyEnd_completes hfind (.inl ⟨hst, hfol⟩)).trans (congrArg _ (State.completions_copym hop hst hroom))
    case wordsWait =>
      subst huid
      exact (execCopyEnd_completes hfind (.inl ⟨hst, hfol⟩)).trans (congrArg _ (State.completions_copym_full hop hst hg hfull))
    case completes =>
      exact (execCopyEnd_completes hfind (plain hst)).trans (congrArg _ (State.completions_own (own hst) hroom))
    case completionWaits =>
      subst huid
      exact (execCopyEnd_completes hfind (plain hst)).trans (congrArg _ (State.completions_own_full (own hst) hc hg hfull))

end Sys2Proof.Machine
end

section
/-! PROOFS. The placement of vector words (06 R145; 07 R175, R176, R192): O18. -/

namespace Sys2Proof.Machine

/-! R411: the check of an access writes nothing but the list of exempt granules -/

theorem Ctx.watchGranules_eq (c : Ctx) (pool word : Bool) (idx a : Nat) (gs : List Nat) :
    (c.watchGranules pool word idx a gs).1 = { c with exempt := (c.watchGranules pool word idx a gs).1.exempt } := by
  induction gs with
  | nil => rfl
  | cons g gs ih =>
    unfold Ctx.watchGranules
    dsimp only
    split
    · exact ih
    · split
      · cases word
        · exact ih
        · exact congrArg (fun x : Ctx => { x with exempt := x.exempt.erase (true, idx, granuleKey pool (256 * g)) }) ih
      · rfl

theorem Ctx.watch_eq (c : Ctx) (write pool word : Bool) (idx a n : Nat) :
    (c.watch write pool word idx a n).1 = { c with exempt := (c.watch write pool word idx a n).1.exempt } := by
  unfold Ctx.watch
  split
  · exact c.watchGranules_eq pool word idx a _
  · rfl

/-! R145, R176: the entry a vector word places -/

/-- The entry of the word `i` in VX's queue, with the scalar `v`. -/
def State.vxEntry (s : State) (i : Instr) (v : Word) : Entry :=
  { Entry.blank s.nextId .vx with img := BitVec.ofNat 128 (encode i), val1 := v, frm := s.core.ctx.regs.frm, placed := s.core.ctx.cyc }

theorem State.watched_vxEntry (s : State) (write : Bool) (a n : Nat) (i : Instr) (v : Word) :
    (s.watched write a n).vxEntry i v = s.vxEntry i v := by
  rw [State.watched, Ctx.watch_eq]
  rfl

theorem State.watched_full (s : State) (write : Bool) (a n : Nat) (u : Unit7) :
    (s.watched write a n).core.ctx.full u = s.core.ctx.full u := by
  rw [State.watched, Ctx.watch_eq]
  rfl

section
variable {s : State} (hroom : s.core.ctx.full .vx = false)
include hroom

theorem State.placeVx_room (i : Instr) (v : Word) : s.placeVx (encode i) v = .next (s.enqueue (s.vxEntry i v)).retire :=
  if_neg (Bool.eq_false_iff.mp hroom)

/-- R176: with registers that exist, the word is past its checks. -/
theorem State.placeVector_room {regs : List (BitVec 5)} (hregs : ∀ r ∈ regs, r.toNat < wbits s.core.ctx.misc.part 0 6) (i : Instr)
    (v : Word) : s.placeVector i regs v = .next (s.enqueue (s.vxEntry i v)).retire := by
  have hnone : regs.find? (fun r => decide (wbits s.core.ctx.misc.part 0 6 ≤ r.toNat)) = none :=
    List.find?_eq_none.mpr fun r hr => by simpa using hregs r hr
  exact (if_neg (Bool.eq_false_iff.mp hroom)).trans (by rw [hnone, State.placeVx_room hroom])

/-- R192: the checks of `vld` and `vst` in their order, the watchpoint last. -/
theorem State.placeVmem_clear {v sa k : BitVec 5} (write : Bool) (hreg : v.toNat < wbits s.core.ctx.misc.part 0 6)
    (halign : (vmemAddr s sa k).toNat % 16 = 0)
    (hadm : admitsAll s.core.ctx.misc.part (if write then .engineWrite else .engineRead) (vmemAddr s sa k).toNat 256 = true)
    (hclear : (s.core.ctx.watch write true true s.core.ctx.sq.pc.toNat (vmemAddr s sa k).toNat 256).2 = none) (i : Instr) :
    s.placeVmem i v sa k write
      = .next ((s.watched write (vmemAddr s sa k).toNat 256).enqueue (s.vxEntry i (vmemAddr s sa k))).retire := by
  refine (if_neg (Bool.eq_false_iff.mp hroom)).trans ((if_neg (Nat.not_le.mpr hreg)).trans ((if_neg (not_not.mpr halign)).trans
    ((if_neg (by simp [hadm])).trans ((State.watchWord_clear hclear _).trans ?_))))
  rw [State.placeVx_room ((s.watched_full write _ 256 .vx).trans hroom), State.watched_vxEntry]

end

/-- R176: the registers of a second operand exist, be it a register or a broadcast. -/
theorem lt_of_mem_vbRegs {n : Nat} {bs : BitVec 1} {vb : BitVec 5} (h : bs = 1 ∨ vb.toNat < n) : ∀ r ∈ vbRegs bs vb, r.toNat < n := by
  unfold vbRegs
  split
  next => simp
  next hb => simpa using h.resolve_left hb

/-- R191: so do those of `vpack`, which to bytes uses none. -/
theorem lt_of_mem_packRegs {n : Nat} {bs : BitVec 1} {vb : BitVec 5} (h : bs = 1 ∨ vb.toNat < n) (ty : BitVec 2) :
    ∀ r ∈ packRegs ty bs vb, r.toNat < n := by
  unfold packRegs
  split
  next => simp
  next => exact lt_of_mem_vbRegs h

/-- Settles O18: each word by the registers it names, all of which exist; `vld` and `vst` by the checks of their address. -/
theorem vectorWordsPlaceTheirEntry : Obligations.VectorWordsPlaceTheirEntry := by
  refine ⟨?registers, ?memory⟩
  case registers =>
    intro s vd va vb sb bs mask ty idle c vreg place three hroom hva hvd hvb
    have hdest : ∀ r ∈ [vd], r.toNat < vreg := List.forall_mem_singleton.mpr hvd
    have hsecond := lt_of_mem_vbRegs hvb
    have noRegister := State.placeVector_room hroom (List.forall_mem_nil _)
    have destOnly := State.placeVector_room hroom hdest
    have oneSource {r : BitVec 5} (hr : r.toNat < vreg) := State.placeVector_room hroom (List.forall_mem_cons.mpr ⟨hr, hdest⟩)
    have unary := oneSource hva
    have compare := State.placeVector_room hroom (List.forall_mem_cons.mpr ⟨hva, hsecond⟩)
    have binary := State.placeVector_room hroom (List.forall_mem_cons.mpr ⟨hva, List.forall_mem_append.mpr ⟨hsecond, hdest⟩⟩)
    have pack := State.placeVector_room hroom
      (List.forall_mem_cons.mpr ⟨hva, List.forall_mem_append.mpr ⟨lt_of_mem_packRegs hvb ty, hdest⟩⟩)
    have token (i : Instr) := State.placeVx_room hroom i 0
    exact ⟨binary _ _, binary _ _, binary _ _, binary _ _, binary _ _, binary _ _, binary _ _, binary _ _, binary _ _, binary _ _,
      binary _ _, binary _ _, binary _ _, binary _ _, binary _ _, pack _ _, binary _ _, fun _ _ => compare _ _,
      unary _ _, unary _ _, fun _ => unary _ _, unary _ _, unary _ _, unary _ _, unary _ _, unary _ _,
      fun _ => ⟨unary _ _, unary _ _⟩, unary _ _, unary _ _, fun _ => unary _ _, unary _ _, destOnly _ _,
      fun _ _ _ _ => noRegister _ _, fun _ => destOnly _ _, fun _ _ hv => ⟨oneSource hv _ _, oneSource hv _ _⟩,
      fun _ => ⟨token _, token _⟩⟩
  case memory =>
    intro s v sa k mask ty idle c a seen place hroom hreg halign
    exact ⟨fun hadm hclear => State.placeVmem_clear hroom false hreg halign hadm hclear _,
      fun hadm hclear => State.placeVmem_clear hroom true hreg halign hadm hclear _⟩

end Sys2Proof.Machine
end

section
/-! PROOFS. The canonical form of device memory: O60. What each operation does to it stands under Laws/Memory. -/

namespace Sys2Proof.Machine

/-- Settles O60: a step is `advanceStep`, which keeps the form whichever agent acts. -/
theorem stepsKeepDeviceMemoryCanonical : Obligations.StepsKeepDeviceMemoryCanonical :=
  fun s _ hs hstep => OutOk_of (State.advanceStep_memOk s hs) hstep

end Sys2Proof.Machine
end

section
/-! PROOFS. Walks and invalidations (10 R246 to R250): O43. -/

namespace Sys2Proof.Machine

/-- A die, listed or not, has the number it is looked up by. -/
@[simp] theorem State.die_num (s : State) (d : Nat) : (s.die d).num = d := by
  unfold State.die
  cases h : s.dies.find? (·.num = d) with
  | none => rfl
  | some x => simpa using List.find?_some h

theorem exec_translationWalk (s : State) (cid va : Nat) : exec (.translationWalk cid va) s = execTranslationWalk cid va s := rfl

/-! The cores a walk answers (R249) -/

/-- R249: the misses of a core that joined the walk of `m`; those still queued wait for a walk of their own. -/
def Core.joined (c : Core) (m : Miss) (queued : List Miss) : List Miss :=
  c.xmiss.filter fun x => x.same m && !queued.contains x

section
variable {c : Core} {m : Miss} {queued : List Miss}

theorem Core.any_joined (h : c.joined m queued ≠ []) : c.xmiss.any (fun x => x.same m && !queued.contains x) = true := by
  obtain ⟨x, hx⟩ := List.exists_mem_of_ne_nil _ h
  exact List.any_eq_true.mpr ⟨x, List.mem_filter.mp hx⟩

theorem Core.walked_unjoined (h : c.joined m queued = []) (r : Except XFault TlbEntry) : c.walked m queued r = c := by
  have hnone : c.xmiss.any (fun x => x.same m && !queued.contains x) = false :=
    List.any_eq_false.mpr (List.filter_eq_nil_iff.mp h)
  exact if_pos (by rw [hnone]; rfl)

theorem Core.walked_ok (h : c.joined m queued ≠ []) (e : TlbEntry) :
    c.walked m queued (.ok e) =
      { c with xmiss := c.xmiss.filter fun x => !(x.same m && !queued.contains x), tlb := fillXlate 64 c.tlb e } :=
  if_neg (by simp only [Core.any_joined h, Bool.not_true, Bool.false_eq_true, not_false_iff])

theorem Core.walked_error (h : c.joined m queued ≠ []) (f : XFault) :
    c.walked m queued (.error f) =
      { c with
        xmiss := c.xmiss.filter fun x => !(x.same m && !queued.contains x)
        xfail := c.xfail ++ [⟨m.asid, m.page, f.cause, f.level, f.entry, m.kind⟩] } :=
  if_neg (by simp only [Core.any_joined h, Bool.not_true, Bool.false_eq_true, not_false_iff])

/-- R249: a miss that joined a walk has its outcome, and waits no more. -/
theorem Core.joined_leave (e : TlbEntry) {x : Miss} (hx : x ∈ c.joined m queued) :
    x ∉ (c.walked m queued (.ok e)).xmiss := by
  rw [Core.walked_ok (List.ne_nil_of_mem hx)]
  intro hleft
  have hstays := (List.mem_filter.mp hleft).2
  rw [(List.mem_filter.mp hx).2] at hstays
  cases hstays

end

/-! What an invalidation meets (R250) -/

/-- R250: a translation stays unless it is of the address space named, or of any when none is, and the range meets its page. -/
def TlbEntry.stays (a : Option Nat) (lo hi : Nat) (e : TlbEntry) : Bool :=
  !((a == none || a == some e.asid) && decide (e.va < hi) && decide (lo < e.va + e.size))

theorem TlbEntry.stays_iff {a : Option Nat} {lo hi : Nat} {e : TlbEntry} :
    e.stays a lo hi = true ↔ ¬((a = none ∨ a = some e.asid) ∧ e.va < hi ∧ lo < e.va + e.size) := by
  simp only [TlbEntry.stays, Bool.not_eq_true', ← Bool.not_eq_true, Bool.and_eq_true, Bool.or_eq_true, beq_iff_eq, decide_eq_true_eq,
    and_assoc]

/-- R250: a core after an invalidation at a die. -/
def Core.invalidated (die : Nat) (a : Option Nat) (lo hi : Nat) (c : Core) : Core :=
  if c.cid / 128 = die then { c with tlb := c.tlb.filter (·.stays a lo hi) } else c

theorem Core.invalidated_cid (die : Nat) (a : Option Nat) (lo hi : Nat) (c : Core) : (c.invalidated die a lo hi).cid = c.cid := by
  unfold Core.invalidated
  split <;> rfl

theorem Core.invalidated_ctx (die : Nat) (a : Option Nat) (lo hi : Nat) (c : Core) : (c.invalidated die a lo hi).ctx = c.ctx := by
  unfold Core.invalidated
  split <;> rfl

theorem Core.mem_invalidated_tlb {die : Nat} {a : Option Nat} {lo hi : Nat} {c : Core} {e : TlbEntry} :
    e ∈ (c.invalidated die a lo hi).tlb ↔
      e ∈ c.tlb ∧ (c.cid / 128 = die → ¬((a = none ∨ a = some e.asid) ∧ e.va < hi ∧ lo < e.va + e.size)) := by
  unfold Core.invalidated
  split
  next hdie => simp only [List.mem_filter, TlbEntry.stays_iff, hdie, forall_const]
  next hdie => simp only [hdie, false_imp_iff, and_true]

/-- R250: a request translated through an entry that an invalidation takes, or whose address its range holds. -/
def Req.through (a : Option Nat) (lo hi : Nat) (gone : List TlbEntry) (r : Req) : Bool :=
  match r.onward with
  | some (_, _, va) => (a == none || a == some r.asid)
      && ((decide (lo ≤ va) && decide (va < hi)) || gone.any fun e => !e.stays a lo hi && e.covers r.asid va)
  | none => false

theorem Req.onward_of_through {a : Option Nat} {lo hi : Nat} {gone : List TlbEntry} {r : Req}
    (h : r.through a lo hi gone = true) : r.onward.isSome = true := by
  unfold Req.through at h
  split at h
  next hon => rw [hon]; rfl
  next => cases h

/-- R250: the requests of a die that an invalidation waits for. -/
def State.invalidationWaits (s : State) (die : Nat) (a : Option Nat) (lo hi : Nat) : List Nat :=
  (s.reqs.filter fun r =>
    r.cid / 128 == die && r.through a lo hi ((s.die die).xcache ++ (s.coresOf die).flatMap (·.tlb))).map (·.id)

theorem State.mem_invalidationWaits {s : State} {die : Nat} {a : Option Nat} {lo hi id : Nat}
    (h : id ∈ s.invalidationWaits die a lo hi) : ∃ r ∈ s.reqs, r.id = id ∧ r.onward.isSome = true ∧ r.cid / 128 = die := by
  obtain ⟨r, hr, hid⟩ := List.mem_map.mp h
  obtain ⟨hmem, hr⟩ := List.mem_filter.mp hr
  obtain ⟨hdie, hthrough⟩ := Bool.and_eq_true_iff.mp hr
  exact ⟨r, hmem, hid, Req.onward_of_through hthrough, beq_iff_eq.mp hdie⟩

/-- R250: a die after an invalidation that waits for the requests `waits`. -/
def Die.invalidated (a : Option Nat) (lo hi : Nat) (waits : List Nat) (d : Die) : Die :=
  { d with xcache := d.xcache.filter (·.stays a lo hi), invDone := waits == [], invWaits := waits }

/-- R250: what an invalidation leaves: its die, and each core. -/
theorem exec_tlbInvalidate (s : State) (die : Nat) (a : Option Nat) (lo hi : Nat) :
    exec (.tlbInvalidate die a lo hi) s =
      .next { s.onDie die (Die.invalidated a lo hi (s.invalidationWaits die a lo hi)) with
        core := s.core.invalidated die a lo hi, others := s.others.map (Core.invalidated die a lo hi) } := rfl

/-- Settles O43: a walk by its outcome, a miss without one by what the die's cache holds, an invalidation by what it leaves in the
die and in its cores. -/
theorem translationsFillAndInvalidate : Obligations.TranslationsFillAndInvalidate := by
  refine ⟨?walkEnds, ?noWalk, ?cores, ?invalidates⟩
  case walkEnds =>
    intro s cid va m
    dsimp only
    intro hm
    refine ⟨fun u e hwalk => ?leaf, fun u f hwalk => ?fault⟩
    all_goals
      rw [exec_translationWalk, execTranslationWalk]
      dsimp only
      rw [hm]
      dsimp only
      rw [hwalk]
  case noWalk =>
    intro s cid va
    dsimp only
    intro hnone
    refine ⟨fun hw => ?nothing, fun m rest e hw hcache => ?filled, fun m rest hw hcache => ?missed⟩
    all_goals
      rw [exec_translationWalk, execTranslationWalk]
      dsimp only
      rw [hnone]
      dsimp only
      rw [hw]
    all_goals
      dsimp only
      rw [hcache]
  case cores =>
    intro _ c m queued e f mine
    refine ⟨fun h => ⟨Core.walked_unjoined h _, Core.walked_unjoined h _⟩, fun h => ?_⟩
    exact ⟨by rw [Core.walked_ok h], by rw [Core.walked_error h], by rw [Core.walked_error h],
      fun x hx => Core.joined_leave e hx⟩
  case invalidates =>
    intro s die a lo hi
    refine ⟨_, exec_tlbInvalidate s die a lo hi, ?_⟩
    intro meets
    have hdie := State.die_onDie_same s die (Die.invalidated a lo hi (s.invalidationWaits die a lo hi)) (State.die_num s die)
    refine ⟨fun e => Core.mem_invalidated_tlb,
      fun k hk => ⟨_, List.mem_map_of_mem hk, Core.invalidated_cid .., fun e => Core.mem_invalidated_tlb⟩,
      fun e => ?cache, ?done, fun id hid => ?waits, rfl, rfl, Core.invalidated_ctx ..⟩
    case cache => exact hdie ▸ List.mem_filter.trans (and_congr_right fun _ => TlbEntry.stays_iff)
    case done => exact hdie ▸ rfl
    case waits => exact State.mem_invalidationWaits (hdie ▸ hid)

end Sys2Proof.Machine
end

section
/-! PROOFS. Requests at their home, in a core's inbound queue and back at their issuer (05 R142, R143; 10 R239, R240, R263; 13 R321):
O42. -/

namespace Sys2Proof.Machine

/-! Where a request is met (R263, R317, R327) -/

section
variable {s : State} {id : Nat} {r : Req} (hr : s.req id = some r)
include hr

theorem State.atHome_gone (h : s.lost r = true ∨ r.atHome = true) (peer : Req → State) (f : Req → Out) :
    s.atHome id peer f = .next s := by
  simp only [State.atHome, hr, Bool.or_eq_true, if_pos h]

variable (hlost : s.lost r = false) (hnew : r.atHome = false)
include hlost hnew

theorem State.atHome_abroad (h : r.abroad = true) (peer : Req → State) (f : Req → Out) : s.atHome id peer f = .next (peer r) := by
  simp only [State.atHome, hr, hlost, hnew, h, Bool.or_self, Bool.false_eq_true, if_false, if_true]

theorem State.atHome_here (h : r.abroad = false) (peer : Req → State) (f : Req → Out) : s.atHome id peer f = f r := by
  simp only [State.atHome, hr, hlost, hnew, h, Bool.or_self, Bool.false_eq_true, if_false]

end

/-! R143: an operation comes to a core -/

theorem State.arriveAt_room {s : State} {cid : Nat} (hroom : (s.coreOf cid).inbound.length < 32) (hmesh : (s.coreOf cid).meshed = [])
    (id : Nat) (r : Req) : s.arriveAt cid id r = s.enterInbound cid id r := if_pos ⟨hroom, hmesh⟩

theorem State.arriveAt_full {s : State} {cid : Nat} (h : 32 ≤ (s.coreOf cid).inbound.length ∨ (s.coreOf cid).meshed ≠ []) (id : Nat)
    (r : Req) : s.arriveAt cid id r = s.onCore cid fun c => { c with meshed := c.meshed ++ [id] } :=
  if_neg fun ⟨hroom, hmesh⟩ => h.elim (Nat.not_le.mpr hroom) (absurd hmesh)

/-! R143: the operation that waits first at a core -/

/-- R143: an operation refused: no bytes, and the cause. -/
def State.refuseRemote (s : State) (cid : Nat) (op : RemoteOp) (cause : BitVec 8) : Out :=
  .next (s.endRemote cid op.id cause (toBytes 8 0))

/-- R143: the operation asks its banks once. -/
def State.takeRemote (s : State) (cid : Nat) (op : RemoteOp) : State :=
  s.onCore cid fun c => { c with inbound := c.inbound.map fun (o : RemoteOp) => if o.id = op.id then { o with taken := true } else o }

section
variable {s : State} {cid : Nat} {op : RemoteOp} {r : Req}
  (hop : (s.coreOf cid).inbound.find? (fun op => !op.taken) = some op) (hr : s.req op.id = some r)
include hop hr

theorem execRemoteOperation_retired (h : s.retired cid = true) : execRemoteOperation cid s = s.refuseRemote cid op causePeerDead := by
  simp only [execRemoteOperation, hop, hr, h, if_true]
  rfl

variable (hret : s.retired cid = false)
include hret

theorem execRemoteOperation_shut (h : op.shut = true) : execRemoteOperation cid s = s.refuseRemote cid op causeRemoteGated := by
  simp only [execRemoteOperation, hop, hr, hret, h, Bool.false_eq_true, if_false, if_true]
  rfl

variable (hopen : op.shut = false)
include hopen

theorem execRemoteOperation_absent (h : (s.coreOf cid).ctxOf (s.opLaunch cid op) = none) :
    execRemoteOperation cid s = s.refuseRemote cid op
      (if s.saves.any fun x => x.cid == cid && x.ctx.lid == s.opLaunch cid op then causeRemoteGated else causePoolBound) := by
  simp only [execRemoteOperation, hop, hr, hret, hopen, h, Bool.false_eq_true, if_false]
  rfl

variable {x : Ctx} (hctx : (s.coreOf cid).ctxOf (s.opLaunch cid op) = some x)
include hctx

theorem execRemoteOperation_late (h : op.late = true) : execRemoteOperation cid s = s.refuseRemote cid op causeRemoteGated := by
  simp only [execRemoteOperation, hop, hr, hret, hopen, hctx, h, Bool.false_eq_true, if_false, if_true]
  rfl

variable (hlate : op.late = false)
include hlate

theorem execRemoteOperation_faulty (h : (remoteEffect (s.coreOf cid) x r.kind op.addr r).1 ≠ 0) :
    execRemoteOperation cid s = s.refuseRemote cid op (remoteEffect (s.coreOf cid) x r.kind op.addr r).1 := by
  simp only [execRemoteOperation, hop, hr, hret, hopen, hctx, hlate, Bool.false_eq_true, if_false, if_pos h]
  rfl

theorem execRemoteOperation_asks (h : (remoteEffect (s.coreOf cid) x r.kind op.addr r).1 = 0) :
    execRemoteOperation cid s = .next ((s.takeRemote cid op).askAt cid op.id (.remote op.id)
      ((readAccs cid (remoteCells x r)).map (·.arrived (s.takeRemote cid op).tick r.cid))) := by
  simp only [execRemoteOperation, hop, hr, hret, hopen, hctx, hlate, Bool.false_eq_true, if_false, if_neg (not_not.mpr h)]
  rfl

end

/-! An answer at the issuer (R142, R263, R267) -/

section
variable {s : State} {id : Nat} {r : Req} (hr : s.req id = some r)
include hr

theorem State.respond_absent (h : (s.coreOf r.cid).ctxOf r.lid = none) : s.respond id = s.responded id := by
  simp only [State.respond, hr, h]

theorem State.respond_silent {x : Ctx} (hctx : (s.coreOf r.cid).ctxOf r.lid = some x) (h : r.accesses x s.tick = []) :
    s.respond id = s.responded id := by
  simp only [State.respond, hr, hctx, if_pos h]

theorem State.respond_writes {x : Ctx} (hctx : (s.coreOf r.cid).ctxOf r.lid = some x) (h : r.accesses x s.tick ≠ []) :
    s.respond id = (s.onReq id fun r => { r with timed := false }).askAt r.cid id (.respond id) (r.accesses x s.tick) := by
  simp only [State.respond, hr, hctx, if_neg h]

theorem execRequestResponse_own (h : r.foreign = none) : execRequestResponse id s = .next (s.respond id) := by
  simp only [execRequestResponse, hr, h]

theorem execRequestResponse_foreign {f : Foreign} (h : r.foreign = some f) :
    execRequestResponse id s = .next ((s.dropReq id).leavesAnswer r f) := by
  simp only [execRequestResponse, hr, h]

/-! R321: the time-out -/

theorem execAckTimeout_untimed (h : r.timed = false) : execAckTimeout id s = .next s := by
  simp only [execAckTimeout, hr, h, Bool.not_false, if_true]

/-- R321: the request has failed, whether or not it has performed. -/
def State.timedOut (s : State) (id : Nat) : State := s.onReq id fun r => { r with cause := causeFabricError, data := [], status := 0 }

variable (htimed : r.timed = true)
include htimed

theorem execAckTimeout_bySite (h : r.bySite = true) :
    execAckTimeout id s = .next ((s.timedOut id).post (r.reply causeFabricError)) := by
  simp only [execAckTimeout, hr, htimed, h, Bool.not_true, Bool.false_eq_true, if_false, if_true]
  rfl

variable (hcore : r.bySite = false)
include hcore

theorem execAckTimeout_lock {p : Bool} {k : Nat} (h : r.kind = .acquire p k ∨ r.kind = .cancel) :
    execAckTimeout id s = .next ((s.timedOut id).post (r.reply causeFabricError)) := by
  rcases h with h | h <;> simp only [execAckTimeout, hr, htimed, hcore, h, Bool.not_true, Bool.false_eq_true, if_false] <;> rfl

theorem execAckTimeout_data (h : r.kind ∈ ([.read, .write] : List ReqKind)) :
    execAckTimeout id s = .next ((s.timedOut id).respond id) := by
  rcases List.mem_pair.mp h with h | h <;>
    simp only [execAckTimeout, hr, htimed, hcore, h, Bool.not_true, Bool.false_eq_true, if_false] <;> rfl

theorem execAckTimeout_pool {op n a : Nat} {v c : Word} {l : Nat} (h : r.kind = .pool op n a v c l) :
    execAckTimeout id s = .next ((s.timedOut id).respond id) := by
  simp only [execAckTimeout, hr, htimed, hcore, h, Bool.not_true, Bool.false_eq_true, if_false]
  rfl

end

/-! R263: what each kind of request does at its home of this module -/

section
variable {s : State} {id : Nat} {r : Req} (hr : s.req id = some r) (hlost : s.lost r = false) (hnew : r.atHome = false)
  (hhere : r.abroad = false)
include hr hlost hnew hhere

theorem execHomeRequest_pool {cid : Nat} (h : r.target = some cid) : execHomeRequest id s = .next (s.arriveAt cid id r) := by
  rw [execHomeRequest, State.atHome_here hr hlost hnew hhere, h]

theorem execHomeRequest_write (h : r.kind = .write) : execHomeRequest id s = .next (
    if s.fillFails r.pa r.pairs.length then (s.onSite (r.pa / 2 ^ 36) (·.touch r.pa false)).answerWith id causeMem [] 0
    else (s.sectorWrite ((r.pairs.zip r.data).map fun x => (x.1.1, x.2))).answerWith id 0 [] 0) := by
  rw [execHomeRequest, State.atHome_here hr hlost hnew hhere]
  simp only [Req.target, h]
  split <;> rfl

theorem execHomeRequest_read (h : r.kind = .read) {t : State} {got : Option (List Byte)}
    (hread : s.sectorRead (r.pairs.map (·.1)) = (t, got)) :
    execHomeRequest id s = .next (got.elim (t.answerWith id causeMem [] 0) (t.answerWith id 0 · 0)) := by
  rw [execHomeRequest, State.atHome_here hr hlost hnew hhere]
  simp only [Req.target, h, hread]
  cases got <;> rfl

end

/-- Settles O42: a request by where it is met and what it asks, an operation by the first refusal that it meets, an answer and a time-out
by whose they are. -/
theorem requestsArePerformedAtHome : Obligations.RequestsArePerformedAtHome := by
  refine ⟨?here, ?elsewhere, ?remote, ?issuer⟩
  case here =>
    intro s id r hr hlost hnew hhere does
    refine ⟨fun hk hfill => ?writes, fun hk hfill => ?writeFails, fun t bs hk hread => ?reads, fun t hk hread => ?readFails,
      fun cid htarget hroom hmesh => ?enters, fun cid htarget hfull => ?meshed⟩
    case writes => exact (execHomeRequest_write hr hlost hnew hhere hk).trans (congrArg _ (if_neg (Bool.eq_false_iff.mp hfill)))
    case writeFails => exact (execHomeRequest_write hr hlost hnew hhere hk).trans (congrArg _ (if_pos hfill))
    case reads | readFails => exact execHomeRequest_read hr hlost hnew hhere hk hread
    case enters => exact (execHomeRequest_pool hr hlost hnew hhere htarget).trans (congrArg _ (State.arriveAt_room hroom hmesh id r))
    case meshed => exact (execHomeRequest_pool hr hlost hnew hhere htarget).trans (congrArg _ (State.arriveAt_full hfull id r))
  case elsewhere =>
    intro s id r hr
    exact ⟨fun hgone => State.atHome_gone hr hgone _ _, fun hlost hnew habroad => State.atHome_abroad hr hlost hnew habroad _ _⟩
  case remote =>
    intro s cid op r k lid hop hr refuse
    refine ⟨fun hret => execRemoteOperation_retired hop hr hret, fun hret hshut => execRemoteOperation_shut hop hr hret hshut,
      fun hret hopen habsent => ⟨fun hsaved => ?saved, fun hunsaved => ?unsaved⟩,
      fun x hret hopen hctx => ⟨fun hlate => execRemoteOperation_late hop hr hret hopen hctx hlate,
        fun hlate hcause => execRemoteOperation_faulty hop hr hret hopen hctx hlate hcause,
        fun hlate hcause => execRemoteOperation_asks hop hr hret hopen hctx hlate hcause⟩⟩
    case saved => exact (execRemoteOperation_absent hop hr hret hopen habsent).trans (congrArg _ (if_pos hsaved))
    case unsaved => exact (execRemoteOperation_absent hop hr hret hopen habsent).trans (congrArg _ (if_neg (Bool.eq_false_iff.mp hunsaved)))
  case issuer =>
    intro s id r hr
    refine ⟨fun x hown hctx hacc => ?writes, fun x hown hctx hacc => ?silent, fun hown habsent => ?absent,
      fun f hforeign => execRequestResponse_foreign hr hforeign, fun huntimed => execAckTimeout_untimed hr huntimed,
      fun htimed hcore hk => execAckTimeout_data hr htimed hcore hk, fun p k htimed hcore hk => execAckTimeout_lock hr htimed hcore hk,
      fun op n a v c l htimed hcore hk => execAckTimeout_pool hr htimed hcore hk,
      fun htimed hsite => execAckTimeout_bySite hr htimed hsite⟩
    case writes => exact (execRequestResponse_own hr hown).trans (congrArg _ (State.respond_writes hr hctx hacc))
    case silent => exact (execRequestResponse_own hr hown).trans (congrArg _ (State.respond_silent hr hctx hacc))
    case absent => exact (execRequestResponse_own hr hown).trans (congrArg _ (State.respond_absent hr habsent))

end Sys2Proof.Machine
end

section
/-! PROOFS. Bindings: the descriptor that `bind` reads, what `rel` and `fence` wait for, an `acq` in each of its stages (11 R271 to R277):
O29. -/

namespace Sys2Proof.Machine

/-! A word that asks for an access and fails its first or its second check (R149, R273) -/

section
variable {s : State} {misaligned refused : Bool} (h : s.core.ctx.sq.wait = none) (x y : Out) (note : List Nat) (start : Unit → Out)
  (served : Wait → Out)
include h

theorem State.checkedHold_misaligned (ha : misaligned = true) :
    (if (s.waiting .served).isNone && misaligned then x else if (s.waiting .served).isNone && refused then y
      else s.servedHold note start served) = x := by
  simp only [ha, State.waiting_idle h, Option.isNone_none, Bool.and_self, if_true]

theorem State.checkedHold_refused (ha : misaligned = false) (hr : refused = true) :
    (if (s.waiting .served).isNone && misaligned then x else if (s.waiting .served).isNone && refused then y
      else s.servedHold note start served) = y := by
  simp only [ha, hr, State.waiting_idle h, Option.isNone_none, Bool.and_self, Bool.and_false, Bool.false_eq_true, if_false, if_true]

end

/-! R273: the checks of a descriptor that has been read -/

theorem descZeros_fails_iff {w0 w1 w2 w3 : Word} : (!descZeros w0 w1 w2 w3) = true ↔ ¬descZeros w0 w1 w2 w3 = true := by
  rw [Bool.not_eq_true', Bool.not_eq_true]

section
variable {b : Binding}

theorem Binding.pastBars_iff {n : Nat} : (b.barrier && decide (n ≤ b.object)) = true ↔ ¬(b.barrier = true → b.object < n) := by
  simp only [Bool.and_eq_true, decide_eq_true_eq, Classical.not_imp, Nat.not_lt]

theorem Binding.lockMisaligned_iff : (!b.barrier && b.object % 8 != 0) = true ↔ ¬(b.barrier = false → b.object % 8 = 0) := by
  simp only [Bool.and_eq_true, Bool.not_eq_true', bne_iff_ne, ne_eq, Classical.not_imp]

theorem Binding.farUnnamed_iff {ok : Bool} :
    (b.farPool && b.length != 0 && !ok) = true ↔ ¬(b.farPool = true → b.length ≠ 0 → ok = true) := by
  simp only [Bool.and_eq_true, Bool.not_eq_true', bne_iff_ne, ne_eq, Classical.not_imp, Bool.not_eq_true, and_assoc]

end

/-- A check that is made by its failure is passed where what it asks holds. -/
theorem ite_of_fails_iff {c p : Prop} [Decidable c] (hc : c ↔ ¬p) (hp : p) (x y : Out) : (if c then x else y) = y :=
  if_neg fun h => hc.mp h hp

/-! A lock's word translated (R275, R276) -/

section
variable {s t : State} {k : Nat} {wait : State → Out} {f : State → Nat → Nat → Out}

theorem State.lockHome_at {m pa : Nat} (h : s.translate permRWA (s.core.ctx.binding k).object 0 = (t, .at m pa)) :
    s.lockHome k wait f = f t m pa := by
  simp only [State.lockHome, h]

theorem State.lockHome_wait (h : s.translate permRWA (s.core.ctx.binding k).object 0 = (t, .wait)) : s.lockHome k wait f = wait t := by
  simp only [State.lockHome, h]

end

/-! Marks of a fencing word (R276, R277) -/

@[simp] theorem State.fencing_binding (s : State) (j : WaitKind) (on : Entry → Bool) (k : Nat) :
    (s.fencing j on).core.ctx.binding k = s.core.ctx.binding k := by
  unfold State.fencing
  split <;> rfl

theorem State.fencing_idle {s : State} (h : s.core.ctx.sq.wait = none) (j : WaitKind) (on : Entry → Bool) :
    (s.fencing j on).core.ctx.sq.wait = none := by
  unfold State.fencing
  split <;> exact h

/-! R276: what a slot's object is released by -/

/-- R276: the slot no longer holds its object. -/
def State.dropBinding (s : State) (k : Nat) : State := s.ctx (·.onBinding k fun b => { b with held := false })

section
variable {s : State} {k : Nat} {b : Binding} (hb : s.core.ctx.binding k = b) {w : Wait} {f : State → Out}
include hb

theorem State.releaseObject_barrier (hbar : b.barrier = true) (hpart : b.object < partBars s.core.ctx.misc.part)
    (hon : domEN (vat s.core.ctx.domain 0 b.object) = true) (hout : (s.core.ctx.bar b.object).out < 2) :
    s.releaseObject k w f = f ((s.arrive b.object).dropBinding k) := by
  subst hb
  exact (if_pos hbar).trans ((State.barChecked_ok hpart hon _).trans (if_pos hout))

theorem State.releaseObject_lock (hlock : b.barrier = false) (hroom : s.core.ctx.ackRoom = true) {t : State} {m pa : Nat}
    (ht : s.translate permRWA b.object 0 = (t, .at m pa)) :
    s.releaseObject k w f = f ((t.dispatch { t.core.ctx.blankReq t.core.cid (.release k) with
      module := m, pa := pa, va := b.object }).dropBinding k) := by
  subst hb
  simp only [State.releaseObject, hlock, hroom, Bool.not_true, Bool.false_eq_true, if_false, State.lockHome_at ht]
  rfl

end

/-- R276: `rel` of an empty slot, or of a lock not held. -/
theorem execRel_refused {s : State} {k : BitVec 3}
    (h : (s.core.ctx.binding k.toNat).valid = false ∨
      ((s.core.ctx.binding k.toNat).barrier = false ∧ (s.core.ctx.binding k.toNat).held = false)) (ovr : BitVec 1) (scope : BitVec 2) :
    execRel ovr scope k s = s.wordFault causeFieldRange (k.zeroExtend 64) :=
  if_pos (by simpa only [Bool.or_eq_true, Bool.and_eq_true, Bool.not_eq_true'] using h)

theorem Binding.releasable {b : Binding} (hv : b.valid = true) (hh : b.barrier = true ∨ b.held = true) :
    (!b.valid || (!b.barrier && !b.held)) = false := by
  rcases hh with hh | hh <;> simp [hv, hh]

/-- R276: `rel` first met, of a slot that it may release. -/
theorem execRel_first {s : State} {k : BitVec 3} {b : Binding} (hb : s.core.ctx.binding k.toNat = b) (hw : s.core.ctx.sq.wait = none)
    (hv : b.valid = true) (hh : b.barrier = true ∨ b.held = true) (ovr : BitVec 1) (scope : BitVec 2) :
    let r := s.fencing .rel Entry.fencable
    execRel ovr scope k s = if (r.allSent && r.core.ctx.acked (if ovr = 1 then scope.toNat else b.scope)) = true
      then r.releaseObject k.toNat ⟨.rel, none, [], 1, k.toNat⟩ fun s => .next s.retire
      else .next (r.holdOn ⟨.rel, none, [], 0, k.toNat⟩) := by
  subst hb
  refine (if_neg (Bool.eq_false_iff.mp (Binding.releasable hv hh))).trans ?_
  simp only [State.waiting_idle (State.fencing_idle hw _ _), Option.any_none, Bool.false_or]

/-! R275: `acq` -/

/-- R275: the wait of an `acq` of a lock, first met: a limit of 0 asks for a try. -/
def State.acqWait (s : State) (sa : BitVec 5) (k : Nat) : Wait :=
  ⟨.acqLock, s.limitOf sa, [k], acqUnsent, if sa ≠ 0 ∧ s.reg sa = 0 then 1 else 0⟩

section
variable {s : State} {k : BitVec 3} (hw : s.core.ctx.sq.wait = none)
include hw

theorem execAcq_refused (h : (s.core.ctx.binding k.toNat).valid = false ∨ (s.core.ctx.binding k.toNat).held = true) (sd sa : BitVec 5) :
    execAcq sd sa k s = s.wordFault causeFieldRange (k.zeroExtend 64) := by
  simp only [execAcq, State.waiting_idle hw]
  exact if_pos (by simpa only [Bool.or_eq_true, Bool.not_eq_true'] using h)

variable (hv : (s.core.ctx.binding k.toNat).valid = true) (hh : (s.core.ctx.binding k.toNat).held = false)
include hv hh

theorem execAcq_lock (hb : (s.core.ctx.binding k.toNat).barrier = false) (sd sa : BitVec 5) :
    execAcq sd sa k s = s.acqLockOn sd (s.acqWait sa k.toNat) := by
  simp only [execAcq, State.waiting_idle hw, hv, hh, hb, Bool.not_true, Bool.or_self, Bool.false_eq_true, if_false]
  rfl

theorem execAcq_barrier (hb : (s.core.ctx.binding k.toNat).barrier = true) (sd sa : BitVec 5) :
    execAcq sd sa k s = s.acqBarrierOn sd k.toNat
      ⟨.acqBarrier, s.limitOf sa, [k.toNat], 0, (s.core.ctx.binding k.toNat).object⟩ := by
  simp only [execAcq, State.waiting_idle hw, hv, hh, hb, Bool.not_true, Bool.or_self, Bool.false_eq_true, if_false, if_true]

end

/-- R275: an `acq` of a lock that has held goes on from its wait. -/
theorem execAcq_held {s : State} {v : Wait} (hw : s.core.ctx.sq.wait = some v) (hk : v.kind = .acqLock) (sd sa : BitVec 5) (k : BitVec 3) :
    execAcq sd sa k s = s.acqLockOn sd v := by
  simp only [execAcq, State.waiting_same hw hk]

/-- R275: the wait's value 1 marks a try, which does not park. -/
theorem tryValue_bne_one (p : Prop) [Decidable p] : ((if p then 1 else 0 : Nat) != 1) = !decide p := by
  by_cases h : p <;> simp [h]

/-- R275: the first sending of an acquire whose lock's home is known. -/
theorem State.acqSend_at {s t : State} {k m pa : Nat} (ht : s.translate permRWA (s.core.ctx.binding k).object 0 = (t, .at m pa))
    (sa : BitVec 5) :
    s.acqSend (s.acqWait sa k) = .next ((t.dispatch { t.core.ctx.blankReq t.core.cid
        (.acquire (!decide (sa ≠ 0 ∧ s.reg sa = 0)) k) with
      module := m, pa := pa, va := (t.core.ctx.binding k).object, counted := false }).holdOn
        { s.acqWait sa k with progress := acqSent, addrs := [k, t.nextId, m, pa] }) := by
  rw [← tryValue_bne_one]
  exact State.lockHome_at ht

/-- Settles O29: `bind` by the stage of its access and the first check that fails, `fence` and `rel` by whether all they wait for has
come, `acq` by the stage of its wait. -/
theorem bindAcquireReleaseAndFence : Obligations.BindAcquireReleaseAndFence := by
  refine ⟨?bind, ?fence, ?rel, ?acq⟩
  case bind =>
    intro s sa k d part
    refine ⟨fun hw ha => ?misaligned, fun hw ha hadm => ?outside, fun hw ha hadm => ?asks, fun a v hw => ?served⟩
    case misaligned => exact State.checkedHold_misaligned hw _ _ _ _ _ (decide_eq_true ha)
    case outside =>
      exact State.checkedHold_refused hw _ _ _ _ _ (decide_eq_false (not_not.mpr ha)) (congrArg not hadm)
    case asks => exact State.checkedHold_first _ _ _ hw (decide_eq_false (not_not.mpr ha)) (congrArg not hadm) _ _
    case served =>
      intro w b zeros bar lock far traps
      have served := State.checkedHold_served (misaligned := decide (d.toNat % 32 ≠ 0))
        (refused := !admitsAll part .scalarRead d.toNat 32) (s.wordFault causeMisalign d) (s.wordFault causePoolBound 0) [d.toNat] hw rfl
        Nat.one_ne_zero
      have passZeros (hz : zeros) := ite_of_fails_iff descZeros_fails_iff hz
      have passBar (hbar : bar) := ite_of_fails_iff Binding.pastBars_iff hbar
      have passLock (hlock : lock) := ite_of_fails_iff Binding.lockMisaligned_iff hlock
      have passFar (hfar : far) := ite_of_fails_iff Binding.farUnnamed_iff hfar
      refine ⟨fun hz hbar hlock hfar hfree => ?binds, fun hz => ?zeros, fun hz hbar => ?bar, fun hz hbar hlock => ?lock,
        fun hz hbar hlock hfar => ?far, fun hz hbar hlock hfar hheld => ?held⟩
      all_goals refine (served _ _).trans ?_
      case zeros => exact if_pos (descZeros_fails_iff.mpr hz)
      all_goals refine (passZeros hz _ _).trans ?_
      case bar => exact if_pos (Binding.pastBars_iff.mpr hbar)
      all_goals refine (passBar hbar _ _).trans ?_
      case lock => exact if_pos (Binding.lockMisaligned_iff.mpr hlock)
      all_goals refine (passLock hlock _ _).trans ?_
      case far => exact if_pos (Binding.farUnnamed_iff.mpr hfar)
      all_goals refine (passFar hfar _ _).trans ?_
      case held => exact if_pos hheld
      case binds => exact if_neg (Bool.eq_false_iff.mp hfree)
  case fence =>
    intro s scope f passed
    exact ⟨fun h => if_pos h, fun h => if_neg h⟩
  case rel =>
    intro s k ovr scope b r c passed drop hw
    have first (hv : b.valid = true) (hh : b.barrier = true ∨ b.held = true) := execRel_first rfl hw hv hh ovr scope
    have slot : r.core.ctx.binding k.toNat = b := State.fencing_binding ..
    refine ⟨fun hv => execRel_refused (.inl hv) ovr scope, fun hb hh => execRel_refused (.inr ⟨hb, hh⟩) ovr scope,
      fun hv hh hp => (first hv hh).trans (if_neg hp), fun hv hb hp hpart hon hout => ?barrier,
      fun t m pa hv hb hh hp hroom ht => ?lock⟩
    case barrier => exact (first hv (.inl hb)).trans ((if_pos hp).trans (State.releaseObject_barrier slot hb hpart hon hout))
    case lock => exact (first hv (.inr hh)).trans ((if_pos hp).trans (State.releaseObject_lock slot hb hroom ht))
  case acq =>
    intro s sd sa k b try_ lock
    refine ⟨fun t m pa hw hv hh hb ht => ?sends, fun t hw hv hh hb ht => ?walks, fun v hw hk hended => ?ends,
      fun v hw hk hopen hsent => ?holds, fun hw hv hh hb hrel => ?released, fun hw hv hh hb hrel hlimit => ?waits,
      fun hw h => execAcq_refused hw h sd sa⟩
    case sends => exact (execAcq_lock hw hv hh hb sd sa).trans (State.acqSend_at ht sa)
    case walks => exact (execAcq_lock hw hv hh hb sd sa).trans (State.lockHome_wait ht)
    case ends => exact (execAcq_held hw hk sd sa k).trans (if_pos hended)
    case holds => exact (execAcq_held hw hk sd sa k).trans ((if_neg hopen).trans (if_neg hsent))
    case released => exact (execAcq_barrier hw hv hh hb sd sa).trans (if_pos hrel)
    case waits =>
      refine (execAcq_barrier hw hv hh hb sd sa).trans ((if_neg (Nat.not_le.mpr hrel)).trans ?_)
      rw [hlimit]

end Sys2Proof.Machine
end

section
/-! PROOFS. Locks: the wait of an `acq` as its answers and its limit find it, and a lock's word at its home (11 R274 to R276; 10 R240):
O30. -/

namespace Sys2Proof.Machine

/-! Answers to an acquire (R275) -/

section
variable {s : State} {id code : Nat} {r : Req} (hr : s.req id = some r)
include hr

theorem execAcqAnswer_final (h : code ≠ lockPark) :
    execAcqAnswer id code s = .next ((s.dropReq id).onTaskCtx r.cid r.lid (·.acqAnswered id code s.tick)) := by
  simp only [execAcqAnswer, hr, h, false_and, if_false]
  rfl

theorem execAcqAnswer_parked (h : r.abroad = false) :
    execAcqAnswer id lockPark s
      = .next ((s.onReq id fun r => { r with timed := false }).onTaskCtx r.cid r.lid (·.acqAnswered id lockPark s.tick)) := by
  simp only [execAcqAnswer, hr, h, if_true, Bool.false_eq_true, and_false, if_false]
  rfl

end

/-- R275: a grant ends the wait, and the lock is held. -/
theorem Wait.answered_grant (w : Wait) (now : Nat) : w.answered lockGrant now = ({ w with progress := acqEnded, value := 0 }, true) := rfl

section
variable {c : Ctx} {w : Wait} {id : Nat} (hw : c.sq.wait = some w) (ha : w.awaits id = true) (now : Nat)
include hw ha

/-- R275: of the waits that may be for an answer the sequencer's own comes first. -/
theorem Ctx.find_awaiting :
    (c.sq.wait.toList ++ (c.aside.toList ++ c.frameAside.toList).filterMap (·.wait)).find? (·.awaits id) = some w := by
  rw [hw]
  exact List.find?_cons_of_pos ha

theorem Ctx.acqAnswered_grant_wait : (c.acqAnswered id lockGrant now).sq.wait = some { w with progress := acqEnded, value := 0 } := by
  simp only [Ctx.acqAnswered, Ctx.find_awaiting hw ha, Wait.answered_grant, if_true]
  simp only [Ctx.onBinding, Ctx.withSqWait, answeredWait, hw, Option.map_some, ha, if_true, Wait.answered_grant]

theorem Ctx.acqAnswered_grant_held (hslot : w.addrs.headD 0 < 8) :
    ((c.acqAnswered id lockGrant now).binding (w.addrs.headD 0)).held = true := by
  simp only [Ctx.acqAnswered, Ctx.find_awaiting hw ha, Wait.answered_grant, if_true]
  exact congrArg Binding.held (vat_vmod_same _ _ _ hslot)

end

/-! The time and the limit of an acquire (R275) -/

/-- The sequencer's hold replaced. -/
def State.withHold (s : State) (w : Wait) : State := s.sq fun q => { q with wait := some w }

section
variable {s : State} {w : Wait} (hw : s.core.ctx.sq.wait = some w) (hk : w.kind = .acqLock)
include hw hk

theorem execAcqBusyResend_due (hp : w.progress = acqWaits) (hv : w.value ≤ s.core.tick)
    (hlimit : w.deadline.all (s.core.tick < ·) = true) :
    execAcqBusyResend s = .next (s.withHold { w with progress := acqUnsent, value := 0 }) := by
  simp only [execAcqBusyResend, State.waiting_same hw hk]
  exact if_pos ⟨hp, hv, hlimit⟩

theorem execAcqBusyResend_early (h : w.progress ≠ acqWaits ∨ s.core.tick < w.value ∨ w.deadline.all (s.core.tick < ·) = false) :
    execAcqBusyResend s = .next s := by
  simp only [execAcqBusyResend, State.waiting_same hw hk]
  refine if_neg fun ⟨hp, hv, hlimit⟩ => ?_
  rcases h with h | h | h
  · exact h hp
  · exact Nat.not_le.mpr h hv
  · exact Bool.eq_false_iff.mp h hlimit

theorem execAcqLimitExpiry_unlimited (h : w.deadline = none) : execAcqLimitExpiry s = .next s := by
  simp only [execAcqLimitExpiry, State.waiting_same hw hk, h]

variable {d : Nat} (hd : w.deadline = some d)
include hd

theorem execAcqLimitExpiry_running (h : s.core.tick < d ∨ w.onHalted s.conn.halted = true) : execAcqLimitExpiry s = .next s := by
  simp only [execAcqLimitExpiry, State.waiting_same hw hk, hd]
  exact if_pos (by simpa only [Bool.or_eq_true, decide_eq_true_eq] using h)

variable (hover : d ≤ s.core.tick) (hruns : w.onHalted s.conn.halted = false)
include hover hruns

theorem execAcqLimitExpiry_over : execAcqLimitExpiry s =
    if w.progress = acqWaits ∨ (w.progress = acqUnsent ∧ 1 < w.addrs.length) then
      .next (s.withHold { w with progress := acqEnded, value := 0x100 })
    else if w.progress = acqSent ∨ w.progress = acqParked then
      .next ((s.dispatch { s.core.ctx.blankReq s.core.cid .cancel with
          module := w.addrs.getD 2 0, pa := w.addrs.getD 3 0, va := (s.core.ctx.binding (w.addrs.headD 0)).object
          counted := false, timed := false }).withHold { w with progress := acqCancelling, addrs := w.addrs ++ [s.nextId] })
    else .next s := by
  simp only [execAcqLimitExpiry, State.waiting_same hw hk, hd, decide_eq_false (Nat.not_lt.mpr hover), hruns, Bool.or_self,
    Bool.false_eq_true, if_false]
  rfl

end

/-! R275: an acquire is on its way, waits to be sent again, or is settled: one of the three -/

theorem acqSent_not_waiting {p n : Nat} (h : p = acqSent ∨ p = acqParked) : ¬(p = acqWaits ∨ (p = acqUnsent ∧ 1 < n)) := by
  unfold acqSent acqParked at h
  unfold acqWaits acqUnsent
  omega

theorem acqSettled_not_waiting {p n : Nat} (h : (p = acqUnsent ∧ n ≤ 1) ∨ p = acqCancelling ∨ p = acqEnded) :
    ¬(p = acqWaits ∨ (p = acqUnsent ∧ 1 < n)) := by
  unfold acqUnsent acqCancelling acqEnded at h
  unfold acqWaits acqUnsent
  omega

theorem acqSettled_not_sent {p n : Nat} (h : (p = acqUnsent ∧ n ≤ 1) ∨ p = acqCancelling ∨ p = acqEnded) :
    ¬(p = acqSent ∨ p = acqParked) := by
  unfold acqUnsent acqCancelling acqEnded at h
  unfold acqSent acqParked
  omega

/-! A lock's word at its home (R239, R240, R274) -/

section
variable {s : State} {r : Req} {refuse : State → BitVec 8 → Out} {f : State → Nat → Out}

theorem State.atLock_refused {cause : BitVec 8} (h : (s.lockPage r).2 = some cause) :
    s.atLock r refuse f = refuse (s.lockPage r).1 cause := by
  unfold State.atLock
  rcases hp : s.lockPage r with ⟨t, o⟩
  rw [hp] at h
  obtain rfl : o = some cause := h
  rfl

section
variable (hpage : (s.lockPage r).2 = none) {u : State}
include hpage

theorem State.atLock_permitted : s.atLock r refuse f = match (s.lockPage r).1.homeNat r.pa 8 with
    | (s, none) => refuse s causeMem
    | (s, some w) => f s w := by
  unfold State.atLock
  rcases hp : s.lockPage r with ⟨t, o⟩
  rw [hp] at hpage
  obtain rfl : o = none := hpage
  rfl

theorem State.atLock_unreadable (h : (s.lockPage r).1.homeNat r.pa 8 = (u, none)) : s.atLock r refuse f = refuse u causeMem := by
  rw [State.atLock_permitted hpage, h]

theorem State.atLock_word {w : Nat} (h : (s.lockPage r).1.homeNat r.pa 8 = (u, some w)) : s.atLock r refuse f = f u w := by
  rw [State.atLock_permitted hpage, h]

end

end

/-- R274: a free word is not the mark of a dead holder. -/
theorem zero_not_orphaned : ¬0 / 2 ^ 62 % 2 = 1 := by rw [Nat.zero_div]; decide

/-! R274: a cancel -/

/-- R274: the parked request that a cancel is for: its lock word's first of the same core. -/
def State.parkOf (s : State) (r : Req) : Option Park :=
  (s.site (r.pa / 2 ^ 36)).parks.find? fun p => p.pa == r.pa && p.module == s.issuer r && p.cid == r.cid

section
variable {s : State} {id : Nat} {r : Req} (hr : s.req id = some r) (hlost : s.lost r = false) (hnew : r.atHome = false)
  (hhere : r.abroad = false)
include hr hlost hnew hhere

theorem execLockCancelPacket_parked {p : Park} (h : s.parkOf r = some p) :
    execLockCancelPacket id s
      = .next ((s.onSite (r.pa / 2 ^ 36) fun t => { t with parks := t.parks.erase p }).lockAnswer id lockCancelled) := by
  unfold State.parkOf at h
  simp only [execLockCancelPacket, State.atHome_here hr hlost hnew hhere, h]

theorem execLockCancelPacket_absent (h : s.parkOf r = none) : execLockCancelPacket id s = .next s := by
  unfold State.parkOf at h
  simp only [execLockCancelPacket, State.atHome_here hr hlost hnew hhere, h]

end

/-- Settles O30: the wait by its stage and what reaches it, a packet at its home by the page, the sector and the word it finds there. -/
theorem locksAtBothEnds : Obligations.LocksAtBothEnds := by
  refine ⟨?wait, ?word, ?packet⟩
  case wait =>
    intro s w hw hk acqWith
    refine ⟨fun id code r hr hcode => execAcqAnswer_final hr hcode, fun id r hr hhere => execAcqAnswer_parked hr hhere,
      fun id ha hslot => ⟨Ctx.acqAnswered_grant_wait hw ha s.tick, Ctx.acqAnswered_grant_held hw ha s.tick hslot⟩,
      fun hp hv hlimit => execAcqBusyResend_due hw hk hp hv hlimit, fun h => execAcqBusyResend_early hw hk h,
      fun d hd hover hruns => ?limit, fun d hd h => execAcqLimitExpiry_running hw hk hd h,
      fun hd => execAcqLimitExpiry_unlimited hw hk hd⟩
    have expired := execAcqLimitExpiry_over hw hk hd hover hruns
    exact ⟨fun h => expired.trans (if_pos h), fun h => expired.trans ((if_neg (acqSent_not_waiting h)).trans (if_pos h)),
      fun h => expired.trans ((if_neg (acqSettled_not_waiting h)).trans (if_neg (acqSettled_not_sent h)))⟩
  case word =>
    intro s u id w r hr hlost hnew hhere own site t hpage hword
    refine ⟨fun hdead => ?dead, fun hlive hown => ?own, fun hfree htok hroom => ?granted, fun hfree htok hfull => ?tableFull,
      fun p k htaken hlive hother hkind => ⟨fun hp hroom => ?parked, fun hbusy => ?busy⟩, fun hother => ?notHeld,
      fun hown hnone => ?cleared, fun p hown hpark => ?handed⟩
    all_goals refine (State.atHome_here hr hlost hnew hhere _ _).trans ((State.atLock_word hpage hword).trans ?_)
    case dead => exact if_pos hdead
    case own => exact (if_neg hlive).trans (if_pos hown)
    case granted =>
      subst hfree
      exact (if_neg zero_not_orphaned).trans ((if_neg htok.symm).trans ((if_pos rfl).trans (if_pos hroom)))
    case tableFull =>
      subst hfree
      exact (if_neg zero_not_orphaned).trans ((if_neg htok.symm).trans ((if_pos rfl).trans (if_neg (Nat.not_lt.mpr hfull))))
    case parked =>
      refine (if_neg hlive).trans ((if_neg hother).trans ((if_neg htaken).trans ?_))
      rw [hkind]
      exact if_pos (Bool.and_eq_true_iff.mpr ⟨hp, decide_eq_true hroom⟩)
    case busy =>
      refine (if_neg hlive).trans ((if_neg hother).trans ((if_neg htaken).trans ?_))
      rw [hkind]
      refine if_neg fun h => ?_
      obtain ⟨hp, hroom⟩ := Bool.and_eq_true_iff.mp h
      exact hbusy.elim (fun hnot => Bool.eq_false_iff.mp hnot hp) (fun hfull => Nat.not_lt.mpr hfull (of_decide_eq_true hroom))
    case notHeld => exact if_pos hother
    case cleared =>
      refine (if_neg (not_not.mpr hown)).trans ?_
      rw [hnone]
    case handed =>
      refine (if_neg (not_not.mpr hown)).trans ?_
      rw [hpark]
  case packet =>
    intro s id r hr hlost hnew hhere site own mine
    have home := State.atHome_here hr hlost hnew hhere
    refine ⟨fun cause hrefused => ?page, fun u hpage hbad => ?sector,
      fun p hmine => execLockCancelPacket_parked hr hlost hnew hhere hmine,
      fun hmine => execLockCancelPacket_absent hr hlost hnew hhere hmine⟩
    case page => exact ⟨(home _ _).trans (State.atLock_refused hrefused), (home _ _).trans (State.atLock_refused hrefused)⟩
    case sector =>
      exact ⟨(home _ _).trans (State.atLock_unreadable hpage hbad), (home _ _).trans (State.atLock_unreadable hpage hbad)⟩

end Sys2Proof.Machine
end

section
/-! PROOFS. The words of barriers and of the counters, and `align` (12 R280, R284, R287, R292 to R294): O31. -/

namespace Sys2Proof.Machine

/-! Arrivals (R287, R292) -/

section
variable {s : State} {n : Nat}

theorem State.arriveWhenFree_free (h : (s.core.ctx.bar n).out < 2) (w : Wait) (f : State → Out) :
    s.arriveWhenFree n w f = f (s.arrive n) := if_pos h

theorem State.arriveWhenFree_released (h : 2 ≤ (s.core.ctx.bar n).out) (hrel : (s.core.ctx.bar n).released = true) (w : Wait)
    (f : State → Out) : s.arriveWhenFree n w f = f ((s.observe n).arrive n) := (if_neg (Nat.not_lt.mpr h)).trans (if_pos hrel)

theorem State.arriveWhenFree_blocked (h : 2 ≤ (s.core.ctx.bar n).out) (hrel : (s.core.ctx.bar n).released = false) (w : Wait)
    (f : State → Out) : s.arriveWhenFree n w f = .next (s.holdOn w) :=
  (if_neg (Nat.not_lt.mpr h)).trans (if_neg (Bool.eq_false_iff.mp hrel))

end

/-! The limit of a `barw` (R281, R293) -/

section
variable {s : State} {w : Wait} {d : Nat} (hw : s.core.ctx.sq.wait = some w) (hk : w.kind = .barw) (hd : w.deadline = some d)
include hw hk hd

theorem execBarwExpiry_limited : execBarwExpiry s =
    if d ≤ s.tickEnd ∧ s.suspended5 w.value = false then .next (s.endAfter w.progress 0x100) else .next s := by
  simp only [execBarwExpiry, State.waiting_same hw hk, hd, Bool.and_eq_true, decide_eq_true_eq, Bool.not_eq_true']

theorem execBarwExpiry_running (h : s.tickEnd < d ∨ s.suspended5 w.value = true) : execBarwExpiry s = .next s := by
  refine (execBarwExpiry_limited hw hk hd).trans (if_neg fun ⟨hover, hcounts⟩ => ?_)
  rcases h with h | h
  · exact Nat.not_le.mpr h hover
  · exact Bool.eq_false_iff.mp hcounts h

end

/-! `align` (R294) -/

section
variable {s : State} {n : BitVec 3} (hw : s.core.ctx.sq.wait = none) (sd sa : BitVec 5)
include hw

theorem execAlign_outside (h : partBars s.core.ctx.misc.part ≤ n.toNat) :
    execAlign sd sa n s = s.wordFault causePoolBound (BitVec.ofNat 64 n.toNat) := by
  simp only [execAlign, State.waiting_idle hw, State.barChecked_outside h]

variable (hpart : n.toNat < partBars s.core.ctx.misc.part)
include hpart

theorem execAlign_disabled (h : domEN (vat s.core.ctx.domain 0 n.toNat) = false) :
    execAlign sd sa n s = s.wordFault causeFieldRange (BitVec.ofNat 64 n.toNat) := by
  simp only [execAlign, State.waiting_idle hw, State.barChecked_disabled hpart h]

variable (hon : domEN (vat s.core.ctx.domain 0 n.toNat) = true)
include hon

theorem execAlign_level0 (h : domLevel (vat s.core.ctx.domain 0 n.toNat) = 0) :
    execAlign sd sa n s = s.wordFault causeFieldRange (BitVec.ofNat 64 n.toNat) := by
  simp only [execAlign, State.waiting_idle hw, State.barChecked_ok hpart hon, if_pos h, BitVec.ofNat_toNat]

theorem execAlign_first (h : domLevel (vat s.core.ctx.domain 0 n.toNat) ≠ 0) :
    execAlign sd sa n s = s.alignOn ⟨.align, none, [(s.reg sa).toNat, sd.toNat], 0, n.toNat⟩ := by
  simp only [execAlign, State.waiting_idle hw, State.barChecked_ok hpart hon, if_neg h]

end

theorem execAlign_held {s : State} {w : Wait} (hw : s.core.ctx.sq.wait = some w) (hk : w.kind = .align) (sd sa : BitVec 5) (n : BitVec 3) :
    execAlign sd sa n s = s.alignOn w := by
  simp only [execAlign, State.waiting_same hw hk]

section
variable {s : State} {w : Wait}

theorem State.alignOn_drained (h : w.progress = 0) (hdone : s.core.ctx.drainedMask 0xFF = true) :
    s.alignOn w = s.arriveWhenFree w.value w fun s => .next (s.holdOn { w with progress := 1 }) := (if_pos h).trans (if_pos hdone)

theorem State.alignOn_draining (h : w.progress = 0) (hleft : s.core.ctx.drainedMask 0xFF = false) :
    s.alignOn w = .next (s.holdOn w) := (if_pos h).trans (if_neg (Bool.eq_false_iff.mp hleft))

theorem State.alignOn_released (h : w.progress = 1) (hrel : (s.core.ctx.bar w.value).arr ≤ (s.core.ctx.bar w.value).rel) :
    s.alignOn w = .next ((s.observeAll w.value).holdOn { w with
      progress := 2
      deadline := if domLevel (vat s.core.ctx.domain 0 w.value) ≤ 2 then none
        else some ((s.core.ctx.bar w.value).tr + if domBand (vat s.core.ctx.domain 0 w.value) = 4 then 40 else 4) }) :=
  (if_neg (by simp [h])).trans (if_pos (by simp [h, hrel]))

end

/-! The restart of an `align` (R294) -/

/-- R294: the context as its restart cycle begins. -/
def Ctx.restarted (c : Ctx) (w : Wait) : Ctx :=
  let c := c.advance c.sq.pc.toNat
  { c with
    cyc := w.addrs.getD 0 0
    regs := c.regs.put (BitVec.ofNat 5 (w.addrs.getD 1 0)) (if w.progress = 3 then 1 else 0)
    queues := c.queues.each fun q => { q with freeAt := 0, headAt := 0 }
    mxV := 0 }

theorem execAlignRestart_due {s : State} {w : Wait} (h : s.alignDue = some w) : execAlignRestart s = .next (s.ctx (·.restarted w)) := by
  simp only [execAlignRestart, h]
  rfl

theorem execAlignRestart_early {s : State} (h : s.alignDue = none) : execAlignRestart s = .next s := by
  simp only [execAlignRestart, h]

theorem vat_each (v : Vector α n) (f : α → β) (d : α) {i : Nat} (h : i < n) (d' : β) : vat (v.each f) d' i = f (vat v d i) := by
  simp [vat, Vector.each, Array.getD, h]

/-- R294: no engine carries a time over. -/
theorem Ctx.restarted_queue (c : Ctx) (w : Wait) (u : Unit7) :
    (c.restarted w).queue u = { (c.advance c.sq.pc.toNat).queue u with freeAt := 0, headAt := 0 } :=
  vat_each _ _ _ u.num_lt _

/-- Settles O31: a barrier word by the check of its barrier and the phases that are open, `align` by the stage it has come to. -/
theorem barrierTimeAndAlignWords : Obligations.BarrierTimeAndAlignWords := by
  refine ⟨?bars, ?align⟩
  case bars =>
    intro s sd sa n b okd ans
    have checked (h : okd) (o : Out) : (s.barChecked n.toNat fun _ => o) = o := State.barChecked_ok h.1 h.2 _
    refine ⟨fun ok hfree => ?free, fun ok hfull hrel => ?released, fun ok hfull hrel => ?blocked, fun ok hnone => ?noneOpen,
      fun ok hopen hrel => ?taken, fun ok hopen hrel hw => ?waits, fun w d hw hk hd hover hcounts => ?expires,
      fun w d hw hk hd h => execBarwExpiry_running hw hk hd h, fun hpart => ?outside, fun hpart hoff => ?disabled⟩
    case free => exact (checked ok _).trans (State.arriveWhenFree_free hfree _ _)
    case released => exact (checked ok _).trans (State.arriveWhenFree_released hfull hrel _ _)
    case blocked => exact (checked ok _).trans (State.arriveWhenFree_blocked hfull hrel _ _)
    case noneOpen => exact ⟨(checked ok _).trans (if_pos hnone), (checked ok _).trans (if_pos hnone)⟩
    case taken =>
      have takes (x y z : Out) : (if b.out = 0 then x else if b.released then y else z) = y := (if_neg hopen).trans (if_pos hrel)
      exact ⟨(checked ok _).trans (takes _ _ _), (checked ok _).trans (takes _ _ _)⟩
    case waits =>
      have waits (x y z : Out) : (if b.out = 0 then x else if b.released then y else z) = z :=
        (if_neg hopen).trans (if_neg (Bool.eq_false_iff.mp hrel))
      refine ⟨(checked ok _).trans ((waits _ _ _).trans ?_), (checked ok _).trans (waits _ _ _)⟩
      rw [State.waiting_idle hw, Option.getD_none]
    case expires => exact (execBarwExpiry_limited hw hk hd).trans (if_pos ⟨hover, hcounts⟩)
    case outside =>
      have faults (o : Out) : (s.barChecked n.toNat fun _ => o) = s.wordFault causePoolBound (BitVec.ofNat 64 n.toNat) :=
        State.barChecked_outside hpart _
      exact ⟨faults _, faults _, faults _⟩
    case disabled =>
      have faults (o : Out) : (s.barChecked n.toNat fun _ => o) = s.wordFault causeFieldRange (BitVec.ofNat 64 n.toNat) :=
        State.barChecked_disabled hpart hoff _
      exact ⟨faults _, faults _, faults _⟩
  case align =>
    intro s sd sa n c okd w0
    have first (hw : c.sq.wait = none) (ok : okd) : exec (.align sd sa n) s = s.alignOn w0 := by
      obtain ⟨hpart, hon, hlevel⟩ := ok
      exact execAlign_first hw sd sa hpart hon hlevel
    refine ⟨fun ok hw hdone hfree => ?arrives, fun ok hw hleft => (first hw ok).trans (State.alignOn_draining rfl hleft),
      fun hw hpart => execAlign_outside hw sd sa hpart, fun hw hpart hbad => ?refused, fun w hw hk hp hrel => ?released,
      fun w hdue => ?restarts, execAlignRestart_early, rfl, rfl⟩
    case arrives =>
      exact (first hw ok).trans ((State.alignOn_drained rfl hdone).trans (State.arriveWhenFree_free hfree _ _))
    case refused =>
      cases hon : domEN (vat c.domain 0 n.toNat) with
      | false => exact execAlign_disabled hw sd sa hpart hon
      | true => exact execAlign_level0 hw sd sa hpart hon (hbad.resolve_left fun hoff => Bool.noConfusion (hon.symm.trans hoff))
    case released => exact (execAlign_held hw hk sd sa n).trans (State.alignOn_released hp hrel)
    case restarts =>
      refine ⟨_, execAlignRestart_due hdue, rfl, rfl, fun u => ?_, rfl, rfl, rfl⟩
      have hq := c.restarted_queue w u
      exact ⟨congrArg Queue.freeAt hq, congrArg Queue.headAt hq⟩

end Sys2Proof.Machine
end

section
/-! PROOFS. Reports, releases and excusals of barriers (12 R285 to R291; 14 R323): O32. -/

namespace Sys2Proof.Machine

/-! Reports (R286, R288, R323) -/

section
variable {s : State} {die seg : Nat} {g : Segment} (hg : (s.die die).seg seg = g) (par : Nat)
include hg

theorem execBarrierReport_unused (h : g.used = false) : execBarrierReport die seg par s = .next s := by
  simp only [execBarrierReport, hg, h, Bool.not_false, if_true]

theorem State.rootComplete_module (h : g.level ≠ 5) : s.rootComplete die seg par
    = (s.segsOf g.lid g.bar).foldl (fun s x => s.at (s.tick + 8 * g.depth + 2) (.barrierRelease x.1 x.2 par)) s := by
  subst hg
  exact if_neg h

theorem State.rootComplete_setRoot (h : g.level = 5) (hroot : s.setRoot = true) :
    s.rootComplete die seg par = s.at (s.tick + 1) (.level5BarrierReport s.conn.modnum (bar5 g.lid g.bar) par) := by
  subst hg
  exact (if_pos h).trans (if_pos hroot)

theorem State.rootComplete_away (h : g.level = 5) (hroot : s.setRoot = false) : s.rootComplete die seg par
    = s.toModule (((List.range 32).find? fun m => s.conn.members.getLsbD m).getD 0)
        (s.message 3 s.conn.modnum 0 (toBytes 8 (bar5 g.lid g.bar) ++ toBytes 1 par)) := by
  subst hg
  exact (if_pos h).trans (if_neg (Bool.eq_false_iff.mp hroot))

variable (hused : g.used = true)
include hused

theorem execBarrierReport_dormant (hroot : g.parent = none) (h : g.dormant = true) : execBarrierReport die seg par s = .next s := by
  simp only [execBarrierReport, hg, hused, hroot, h, Bool.not_true, Bool.false_eq_true, if_false, if_true]

theorem execBarrierReport_root (hroot : g.parent = none) (h : g.dormant = false) :
    execBarrierReport die seg par s = .next (s.rootComplete die seg par) := by
  simp only [execBarrierReport, hg, hused, hroot, h, Bool.not_true, Bool.false_eq_true, if_false]

variable {p : Nat} (hp : g.parent = some p)
include hp

theorem execBarrierReport_unserved (h : (s.die p).segOf g.lid g.bar = none) : execBarrierReport die seg par s = .next s := by
  simp only [execBarrierReport, hg, hused, hp, h, Bool.not_true, Bool.false_eq_true, if_false]

theorem execBarrierReport_kept {i : Nat} (h : (s.die p).segOf g.lid g.bar = some i) :
    let s' := s.onSeg p i fun x => { x with reports := x.reports ++ (par, die) :: (if g.dormant then [(2, die)] else []) }
    execBarrierReport die seg par s = .next ((s'.evaluate p i par s.tick (0, 0)).evaluate p i (1 - par) s.tick (0, 0)) := by
  simp only [execBarrierReport, hg, hused, hp, h, Bool.not_true, Bool.false_eq_true, if_false]
  rfl

end

/-! Releases (R288, R291) -/

/-- R288: the barrier of the focus core that a release at levels 0 to 2 is of. -/
def State.barReleased (s : State) (die seg : Nat) : Nat := if 64 ≤ seg then seg - 64 else ((s.die die).seg seg).bar

/-- R288: the focus core takes a release, and those after it wait. -/
def State.coreReleased (s : State) (n : Nat) (rest : List Release) (r : Release) : State :=
  (s.ctx fun c => (c.onBar n fun b => { b with due := rest }).takeRelease n r).traceHeads s.core.cid 4

section
variable {s : State} {die seg : Nat} (par : Nat) (hlocal : 64 ≤ seg ∨ ((s.die die).seg seg).level ≤ 2)
include hlocal

theorem execBarrierRelease_none (h : (s.core.ctx.bar (s.barReleased die seg)).due = []) :
    execBarrierRelease die seg par s = .next s := by
  refine (if_pos hlocal).trans ?_
  unfold State.barReleased at h
  simp only [h]

variable {n : Nat} (hn : s.barReleased die seg = n) {r : Release} {rest : List Release} (hdue : (s.core.ctx.bar n).due = r :: rest)
  {d : Word} (hd : vat s.core.ctx.domain 0 n = d)
include hn hdue hd

theorem execBarrierRelease_due : execBarrierRelease die seg par s =
    if r.left = 0 ∧ (domLevel d ≠ 0 ∨ s.core.ctx.drainedAll (domEMask d) = true) then
      .next (s.coreReleased n rest (if domLevel d = 0 then r
        else (s.myDie.seg (domSeg d)).releaseFor (s.core.ctx.bar n).rel (s.core.cid % 128) 0))
    else .next s := by
  refine (if_pos hlocal).trans ?_
  subst hn hd
  unfold State.barReleased at hdue
  simp only [hdue, Bool.and_eq_true, Bool.or_eq_true, decide_eq_true_eq, bne_iff_ne]
  rfl

/-- R288: at level 0 a release waits for the engines of its mask. -/
theorem execBarrierRelease_early (h : r.left ≠ 0 ∨ (domLevel d = 0 ∧ s.core.ctx.drainedAll (domEMask d) = false)) :
    execBarrierRelease die seg par s = .next s := by
  refine (execBarrierRelease_due par hlocal hn hdue hd).trans (if_neg fun ⟨hleft, hready⟩ => ?_)
  obtain hleft' | ⟨hlevel, hbusy⟩ := h
  · exact hleft' hleft
  · exact hready.elim (fun hlevel' => hlevel' hlevel) (Bool.eq_false_iff.mp hbusy)

variable (hleft : r.left = 0)
include hleft

theorem execBarrierRelease_drained (hlevel : domLevel d = 0) (hdone : s.core.ctx.drainedAll (domEMask d) = true) :
    execBarrierRelease die seg par s = .next (s.coreReleased n rest r) := by
  rw [execBarrierRelease_due par hlocal hn hdue hd, if_pos ⟨hleft, .inr hdone⟩, if_pos hlevel]

theorem execBarrierRelease_phase (hlevel : domLevel d ≠ 0) :
    execBarrierRelease die seg par s = .next (s.coreReleased n rest
      ((s.myDie.seg (domSeg d)).releaseFor (s.core.ctx.bar n).rel (s.core.cid % 128) 0)) := by
  rw [execBarrierRelease_due par hlocal hn hdue hd, if_pos ⟨hleft, .inl hlevel⟩, if_neg hlevel]

end

/-! Excusals (R290, R291) -/

/-- R290: an excusal of a core that no segment serves has no effect. -/
theorem State.excuse_unserved {s : State} {die core : Nat} {lid : Option Nat}
    (h : ((s.die die).segs.toList.all fun g => !(g.used && g.mask.getLsbD core && (lid == none || lid == some g.lid))) = true) :
    s.excuse die core lid = s := by
  have hmine : ((s.die die).segs.toList.zipIdx.filter fun g =>
      g.1.used && g.1.mask.getLsbD core && (lid == none || lid == some g.1.lid)) = [] := by
    refine List.filter_eq_nil_iff.mpr fun g hg => ?_
    exact Bool.eq_false_iff.mp (Bool.not_inj (List.all_eq_true.mp h g.1 (List.fst_mem_of_mem_zipIdx hg)))
  unfold State.excuse
  simp only [hmine, List.map_nil, List.foldl_nil]

/-! Level 5 (R288, R323) -/

/-- R288: a module's report of a level-5 barrier kept at the set root. -/
def State.reported (s : State) (m bar par : Nat) : State :=
  { s with conn := { s.conn with reports := s.conn.reports ++ [(m, bar, par)] } }

/-- R288: every module of the set that is not dead has reported, once one more report is kept. -/
def State.allReported (s : State) (m bar par : Nat) : Bool :=
  s.setRoot && ((List.range 32).filter fun m => s.conn.members.getLsbD m && !s.conn.dead.getLsbD m).all fun k =>
    (s.reported m bar par).conn.reports.contains (k, bar, par)

theorem State.reported_any (s : State) (m bar par : Nat) : (s.reported m bar par).conn.reports.any (fun r => r.2 == (bar, par)) = true := by
  simp [State.reported]

theorem execLevel5BarrierReport_kept {s : State} {m bar par : Nat} (h : ¬s.allReported m bar par = true) :
    execLevel5BarrierReport m bar par s = .next (s.reported m bar par) :=
  congrArg _ (if_neg fun hlast => h (Bool.and_eq_true_iff.mp hlast).1)

/-- Settles O32: a report by its segment, a parent's or a root's; a release by the level of its segment; an excusal by whom it serves; a
level-5 report by whether it is the last. -/
theorem barrierEventsClimbAndRelease : Obligations.BarrierEventsClimbAndRelease := by
  refine ⟨?reports, ?core, ?tree, ?excusal, ?level5⟩
  case reports =>
    intro s die seg par g
    have root (hused : g.used = true) (hroot : g.parent = none) (hlive : g.dormant = false) :=
      execBarrierReport_root (s := s) (die := die) (seg := seg) rfl par hused hroot hlive
    refine ⟨fun hunused => execBarrierReport_unused rfl par hunused, fun hused hroot hlive hlevel => ?module,
      fun hused hroot hlive hlevel hset => ?setRoot, fun hused hroot hlive hlevel haway => ?away,
      fun hused hroot hdormant => execBarrierReport_dormant rfl par hused hroot hdormant,
      fun p hused hp hnone => execBarrierReport_unserved rfl par hused hp hnone,
      fun p i hused hp hserves => execBarrierReport_kept rfl par hused hp hserves⟩
    case module => exact (root hused hroot hlive).trans (congrArg _ (State.rootComplete_module rfl par hlevel))
    case setRoot => exact (root hused hroot hlive).trans (congrArg _ (State.rootComplete_setRoot rfl par hlevel hset))
    case away => exact (root hused hroot hlive).trans (congrArg _ (State.rootComplete_away rfl par hlevel haway))
  case core =>
    intro s die seg par n r rest c d hn hlocal
    subst hn
    exact ⟨fun hnone => execBarrierRelease_none par hlocal hnone, fun hdue =>
      ⟨execBarrierRelease_drained par hlocal rfl hdue rfl, execBarrierRelease_phase par hlocal rfl hdue rfl,
        execBarrierRelease_early par hlocal rfl hdue rfl⟩⟩
  case tree =>
    intro s die seg par old segs u g cores taken noted hseg hlevel
    have above (x y : Out) : (if 64 ≤ seg ∨ old.level ≤ 2 then x else y) = y := if_neg (by omega)
    exact ⟨fun hused => (above _ _).trans (if_neg (Bool.eq_false_iff.mp (congrArg not hused))),
      fun hunused => (above _ _).trans (if_pos (congrArg not hunused))⟩
  case excusal =>
    intro s die core lid
    exact ⟨rfl, fun hnone => congrArg _ (State.excuse_unserved hnone)⟩
  case level5 =>
    intro s m bar par u live last
    refine ⟨fun hearly => execLevel5BarrierReport_kept hearly, fun hlast => ?_, fun root => rfl⟩
    exact congrArg Host.Outcome.next (if_pos (Bool.and_eq_true_iff.mpr ⟨hlast, s.reported_any m bar par⟩))

end Sys2Proof.Machine
end

section
/-! PROOFS. The words of a slice, and the handles they move (13 R298 to R304): O39. -/

namespace Sys2Proof.Machine

/-! Words that name no handle (R301, R302, R304) -/

section
variable {s : State}

/-- R302: the tick that `atstep` names. -/
def State.atstepTick (s : State) (r : BitVec 1) (n : BitVec 27) : Nat := s.slice.t0 + n.toNat + if r = 1 then s.slice.mark else 0

theorem execAtstep_ahead {r : BitVec 1} {n : BitVec 27} (h : s.tick < s.atstepTick r n) :
    execAtstep r n s = .next (s.onSlice fun q => { q.follow with next := s.atstepTick r n, mark := s.tick - q.t0 }) :=
  congrArg _ (if_neg (Nat.not_le.mpr h))

theorem execAtstep_passed {r : BitVec 1} {n : BitVec 27} (h : s.atstepTick r n ≤ s.tick) : execAtstep r n s = .next (s.seqStop 2) :=
  congrArg _ (if_pos h)

theorem execRpt_nested (h : s.slice.body.isSome = true) (b : BitVec 8) (c : BitVec 20) : execRpt b c s = .next (s.seqStop 6) :=
  congrArg _ (if_pos h)

section
variable (h : s.slice.body = none) (b : BitVec 8)
include h

theorem execRpt_skips : execRpt b 0 s
    = .next (s.onSlice fun q => { q with pc := q.pc + b.toNat + 2, next := s.tick + 1 }) :=
  congrArg _ ((if_neg (by simp [h])).trans (if_pos rfl))

theorem execRpt_enters {c : BitVec 20} (hc : c ≠ 0) : execRpt b c s = .next (s.onSlice fun q =>
    { q with pc := q.pc + 1, next := s.tick + 1, body := some (q.pc + 1, q.pc + b.toNat + 1, c.toNat) }) :=
  congrArg _ ((if_neg (by simp [h])).trans (if_neg hc))

end

theorem execSig_noCore {core : BitVec 7} (h : 99 < core.toNat) (flag : BitVec 6) (val : BitVec 15) :
    execSig core flag val s = .next (s.seqStop 5) := if_pos h

section
variable {core : BitVec 7} (h : core.toNat ≤ 99) (flag : BitVec 6) (val : BitVec 15)
include h

theorem execSig_flies (hlive : (s.coreOf (s.seqDie * 128 + core.toNat)).ctx.live = true)
    (hlid : (s.coreOf (s.seqDie * 128 + core.toNat)).ctx.lid = s.seqLid) (hopen : s.clusterShut (s.seqDie * 128 + core.toNat) = false) :
    execSig core flag val s = .next (s.fly (s.tick + 2) { CircuitUnit.blank s.seqDie 0 4 with
      bytes := toBytes 8 val.toNat, cid := s.seqDie * 128 + core.toNat, uid := s.seqLid, pos := flag.toNat }).seqNext :=
  (if_neg (Nat.not_lt.mpr h)).trans (if_neg (by simp [hlive, hlid, hopen]))

/-- R304: a signal for a core without the launch's task, or shut, is lost. -/
theorem execSig_lost (hgone : (s.coreOf (s.seqDie * 128 + core.toNat)).ctx.live = false ∨
      (s.coreOf (s.seqDie * 128 + core.toNat)).ctx.lid ≠ s.seqLid ∨ s.clusterShut (s.seqDie * 128 + core.toNat) = true) :
    execSig core flag val s = .next s.seqNext := by
  refine (if_neg (Nat.not_lt.mpr h)).trans (if_pos ?_)
  rcases hgone with hdead | hlid | hshut
  · simp [hdead]
  · simp [hlid]
  · simp [hshut]

end

end

/-! Words that name a handle: one the launch does not hold stops the slice (R301) -/

theorem Handle.up_iff {x : Handle} : x.up = true ↔ x.state = .settling ∨ x.state = .live := by
  simp [Handle.up]

section
variable {s : State} {h : BitVec 5}

theorem State.seqHandle_held (hheld : (s.handle s.seqDie h.toNat).heldBy s.seqLid = true) (f : Handle → State) :
    s.seqHandle h f = .next (f (s.handle s.seqDie h.toNat)) := congrArg _ (if_pos hheld)

theorem execRoute_noPath {alt : BitVec 2} (halt : 2 ≤ alt.toNat) (die : BitVec 9) (port fport : BitVec 3) (fh : BitVec 5) :
    execRoute h die port fport fh alt s = .next (s.seqStop 1) := if_pos halt

section
variable (hheld : ¬(s.handle s.seqDie h.toNat).heldBy s.seqLid = true)
include hheld

theorem State.seqHandle_notHeld (f : Handle → State) : s.seqHandle h f = .next (s.seqStop 4) := congrArg _ (if_neg hheld)

theorem execRoute_notHeld {alt : BitVec 2} (halt : alt.toNat < 2) (die : BitVec 9) (port fport : BitVec 3) (fh : BitVec 5) :
    execRoute h die port fport fh alt s = .next (s.seqStop 4) :=
  (if_neg (Nat.not_le.mpr halt)).trans (State.seqHandle_notHeld hheld _)

theorem execEst_notHeld : execEst h s = .next (s.seqStop 4) := State.seqHandle_notHeld hheld _

theorem execHold_notHeld (n : BitVec 23) : execHold h n s = .next (s.seqStop 4) := State.seqHandle_notHeld hheld _

theorem execTear_notHeld : execTear h s = .next (s.seqStop 4) := by
  rw [execTear, State.seqHandle_notHeld hheld]

end

variable (hheld : (s.handle s.seqDie h.toNat).heldBy s.seqLid = true)
include hheld

/-! R302 `route` -/

section
variable {die : BitVec 9} {alt : BitVec 2} (halt : alt.toNat < 2) (port fport : BitVec 3) (fh : BitVec 5)
include halt

theorem execRoute_lit (hlit : (s.handle s.seqDie h.toNat).state ≠ .dark) :
    execRoute h die port fport fh alt s = .next (s.seqStop 7) :=
  (if_neg (Nat.not_le.mpr halt)).trans ((State.seqHandle_held hheld _).trans (congrArg _ (if_pos hlit)))

variable (hdark : (s.handle s.seqDie h.toNat).state = .dark)
include hdark

theorem execRoute_nowhere (hdie : die.toNat = s.seqDie ∨ 400 ≤ die.toNat) :
    execRoute h die port fport fh alt s = .next (s.seqStop 8) :=
  (if_neg (Nat.not_le.mpr halt)).trans
    ((State.seqHandle_held hheld _).trans (congrArg _ ((if_neg (not_not.mpr hdark)).trans (if_pos hdie))))

theorem execRoute_routes (hother : die.toNat ≠ s.seqDie) (hdie : die.toNat < 400) :
    execRoute h die port fport fh alt s = .next (s.onHandle s.seqDie h.toNat fun x =>
      ({ x with route := some ⟨die.toNat, port.toNat, fport.toNat, fh.toNat, alt == 1⟩ } : Handle).see s.tick false).seqNext :=
  (if_neg (Nat.not_le.mpr halt)).trans ((State.seqHandle_held hheld _).trans
    (congrArg _ ((if_neg (not_not.mpr hdark)).trans (if_neg (not_or.mpr ⟨hother, Nat.not_le.mpr hdie⟩)))))

end

/-! R302, R303 `est` -/

theorem execEst_unrouted (hroute : (s.handle s.seqDie h.toNat).route = none) : execEst h s = .next (s.seqStop 3) := by
  simp only [execEst, State.seqHandle_held hheld, hroute]

theorem execEst_lit (hlit : (s.handle s.seqDie h.toNat).state ≠ .dark) : execEst h s = .next (s.seqStop 3) := by
  simp only [execEst, State.seqHandle_held hheld, if_pos hlit]
  cases (s.handle s.seqDie h.toNat).route <;> rfl

section
variable {r : Route} (hroute : (s.handle s.seqDie h.toNat).route = some r) (hdark : (s.handle s.seqDie h.toNat).state = .dark)
include hroute hdark

theorem execEst_settles (hon : s.svc.bisque = false) : execEst h s = .next (s.settle s.seqDie h.toNat r).seqNext := by
  simp only [execEst, State.seqHandle_held hheld, hroute, if_neg (not_not.mpr hdark), hon, Bool.false_eq_true, if_false]

/-- R300: while BISQUE is set the handle stays DARK. -/
theorem execEst_bisque (hoff : s.svc.bisque = true) : execEst h s = .next s.seqNext := by
  simp only [execEst, State.seqHandle_held hheld, hroute, if_neg (not_not.mpr hdark), hoff, if_true]

end

/-! R302, R303 `hold` -/

theorem execHold_down (hdown : (s.handle s.seqDie h.toNat).up = false) (n : BitVec 23) : execHold h n s = .next s.seqNext := by
  simp only [execHold, State.seqHandle_held hheld, hdown, Bool.not_false, if_true]

section
variable (hup : (s.handle s.seqDie h.toNat).up = true) (n : BitVec 23)
include hup

theorem execHold_met {d k : Nat} (hfar : s.peerOf s.seqDie h.toNat = some (d, k)) :
    execHold h n s = .next ((s.setHold s.seqDie h.toNat n.toNat).setHold d k n.toNat).seqNext := by
  simp only [execHold, State.seqHandle_held hheld, hup, Bool.not_true, Bool.false_eq_true, if_false, hfar]

theorem execHold_alone (hfar : s.peerOf s.seqDie h.toNat = none) :
    execHold h n s = .next (s.setHold s.seqDie h.toNat n.toNat).seqNext := by
  simp only [execHold, State.seqHandle_held hheld, hup, Bool.not_true, Bool.false_eq_true, if_false, hfar]

end

/-! R299, R302 `tear` -/

theorem execTear_dark (hdark : (s.handle s.seqDie h.toNat).state = .dark) : execTear h s = .next s.seqNext := by
  simp only [execTear, State.seqHandle_held hheld, hdark]

theorem execTear_faulted (hfaulted : (s.handle s.seqDie h.toNat).state = .faulted) :
    execTear h s = .next ((s.onHandle s.seqDie h.toNat (·.unfault s.tick)).darken s.seqDie h.toNat).seqNext := by
  simp only [execTear, State.seqHandle_held hheld, hfaulted]

section
variable (hup : (s.handle s.seqDie h.toNat).up = true)
include hup

theorem execTear_met {d k : Nat} (hfar : s.peerOf s.seqDie h.toNat = some (d, k)) :
    execTear h s = .next (if ((s.darken s.seqDie h.toNat).handle d k).up then (s.darken s.seqDie h.toNat).faultHandle d k 8 7 0x3FF
      else s.darken s.seqDie h.toNat).seqNext := by
  rcases Handle.up_iff.mp hup with hstate | hstate <;> simp only [execTear, State.seqHandle_held hheld, hstate, hfar]

theorem execTear_alone (hfar : s.peerOf s.seqDie h.toNat = none) : execTear h s = .next (s.darken s.seqDie h.toNat).seqNext := by
  rcases Handle.up_iff.mp hup with hstate | hstate <;> simp only [execTear, State.seqHandle_held hheld, hstate, hfar]

end

end

/-- Settles O39: a word without a handle by its own check, a word of a handle by whether the launch holds it and the state it finds. -/
theorem sequencerWordsAndHandles : Obligations.SequencerWordsAndHandles := by
  refine ⟨?words, ?handles⟩
  case words =>
    intro s b c n r core flag val q t cid
    refine ⟨rfl, rfl, execAtstep_ahead, execAtstep_passed, fun hbody hc => execRpt_enters hbody b hc, fun hbody hc => ?skips,
      fun hbody => execRpt_nested hbody b c, fun hcore => execSig_noCore hcore flag val,
      fun hcore hlive hlid hopen => execSig_flies hcore flag val hlive hlid hopen,
      fun hcore hgone => execSig_lost hcore flag val hgone, rfl⟩
    case skips =>
      subst hc
      exact execRpt_skips hbody b
  case handles =>
    intro s h fh die port fport alt n x held
    refine ⟨fun hh halt hdark hother hdie => execRoute_routes hh halt port fport fh hdark hother hdie,
      fun hh halt hlit => execRoute_lit hh halt port fport fh hlit,
      fun hh halt hdark hdie => execRoute_nowhere hh halt port fport fh hdark hdie,
      fun halt => execRoute_noPath halt die port fport fh,
      fun r hh hroute hdark hon => execEst_settles hh hroute hdark hon, fun r hh hroute hdark hoff => execEst_bisque hh hroute hdark hoff,
      fun hh hest => hest.elim (execEst_unrouted hh) (execEst_lit hh),
      fun d k hh hup hfar => execHold_met hh hup n hfar, fun hh hup hfar => execHold_alone hh hup n hfar,
      fun hh hdown => execHold_down hh hdown n,
      fun hh hdark => execTear_dark hh hdark, fun hh hfaulted => execTear_faulted hh hfaulted,
      fun d k hh hup hfar => ⟨fun hfarUp => ?farUp, fun hfarDown => ?farDown⟩, fun hh hup hfar => execTear_alone hh hup hfar,
      fun hh halt => ⟨execRoute_notHeld hh halt die port fport fh, execEst_notHeld hh, execHold_notHeld hh n, execTear_notHeld hh⟩⟩
    case farUp => exact (execTear_met hh hup hfar).trans (by rw [if_pos hfarUp])
    case farDown => exact (execTear_met hh hup hfar).trans (by rw [if_neg (Bool.eq_false_iff.mp hfarDown)])

end Sys2Proof.Machine
end

section
/-! PROOFS. What happens to circuits that settle, are held, fail and settle again, and the units in flight (13 R299, R303, R306 to R310): O40. -/

namespace Sys2Proof.Machine

/-! The end of settling (R299, R306) -/

section
variable {s : State} {die h : Nat}

theorem execCircuitSettleEnd_unsettled (hstate : (s.handle die h).state ≠ .settling) (g : Option Nat) :
    execCircuitSettleEnd die h g s = .next s := if_pos hstate

variable (hsettling : (s.handle die h).state = .settling)
include hsettling

section
variable (hearly : s.tick < (s.handle die h).estAt.getD 0 + circSettle)
include hearly

theorem execCircuitSettleEnd_early : execCircuitSettleEnd die h none s = .next s :=
  (if_neg (not_not.mpr hsettling)).trans (if_pos hearly)

theorem execCircuitSettleEnd_unused {g : Nat} (hg : (s.handle die h).lgroup.getLsbD g = false) :
    execCircuitSettleEnd die h (some g) s = .next s :=
  (if_neg (not_not.mpr hsettling)).trans ((if_pos hearly).trans (if_pos (congrArg not hg)))

/-- A group in use that will not lock is noted with the end's timer, and nothing else is. -/
theorem execCircuitSettleEnd_noted {g : Nat} (hg : (s.handle die h).lgroup.getLsbD g = true) :
    ∃ t, execCircuitSettleEnd die h (some g) s = .next t ∧ t = { s with timers := t.timers } ∧
      ∀ u, ((s.handle die h).estAt.getD 0 + circSettle, Instr.circuitSettleEnd die h u) ∈ s.timers →
        ((s.handle die h).estAt.getD 0 + circSettle, .circuitSettleEnd die h (lowestGroup u g)) ∈ t.timers := by
  refine ⟨_, (if_neg (not_not.mpr hsettling)).trans ((if_pos hearly).trans (if_neg (by simp [hg]))), rfl, fun u hu => ?_⟩
  exact List.mem_map.mpr ⟨_, hu, if_pos ⟨rfl, .inl rfl⟩⟩

end

section
variable (hdue : (s.handle die h).estAt.getD 0 + circSettle ≤ s.tick)
include hdue

theorem execCircuitSettleEnd_noPeer (hfar : ∀ p, s.peerOf die h = some p → (s.handle p.1 p.2).state ≠ .settling) (g : Option Nat) :
    execCircuitSettleEnd die h g s = .next (s.faultHandle die h 7 7 0x3FF) := by
  refine (if_neg (not_not.mpr hsettling)).trans ((if_neg (Nat.not_lt.mpr hdue)).trans ?_)
  cases hp : s.peerOf die h with
  | none => rfl
  | some p => exact if_pos (hfar p hp)

variable {d k : Nat} (hpeer : s.peerOf die h = some (d, k)) (hfar : (s.handle d k).state = .settling)
include hpeer hfar

theorem execCircuitSettleEnd_live : execCircuitSettleEnd die h none s
    = .next ((s.onHandle die h (·.move s.tick .live)).onHandle d k (·.move s.tick .live)) := by
  refine (if_neg (not_not.mpr hsettling)).trans ((if_neg (Nat.not_lt.mpr hdue)).trans ?_)
  rw [hpeer]
  exact if_neg (not_not.mpr hfar)

theorem execCircuitSettleEnd_unlocked (g : Nat) : execCircuitSettleEnd die h (some g) s
    = .next ((s.faultHandle die h 1 g 0x3FF).faultHandle d k 1 g 0x3FF) := by
  refine (if_neg (not_not.mpr hsettling)).trans ((if_neg (Nat.not_lt.mpr hdue)).trans ?_)
  rw [hpeer]
  exact if_neg (not_not.mpr hfar)

end

end

/-! The end of a hold (R303) -/

section
variable {s : State} {die h : Nat}

theorem execHoldEnd_other (hx : (s.handle die h).up = false ∨ (s.handle die h).holdEnd ≠ some s.tick) :
    execHoldEnd die h s = .next s := by
  refine if_neg ?_
  rcases hx with hdown | hlater
  · simp [hdown]
  · simp [hlater]

variable (hup : (s.handle die h).up = true) (hend : (s.handle die h).holdEnd = some s.tick)
include hup hend

theorem execHoldEnd_met {d k : Nat} (hpeer : s.peerOf die h = some (d, k)) : execHoldEnd die h s
    = .next (if (s.handle d k).up then (s.darken die h).darken d k else s.darken die h) := by
  refine (if_pos (by simp [hup, hend])).trans ?_
  rw [hpeer]

theorem execHoldEnd_alone (hpeer : s.peerOf die h = none) : execHoldEnd die h s = .next (s.darken die h) := by
  refine (if_pos (by simp [hup, hend])).trans ?_
  rw [hpeer]

end

/-! Light, lock or a switch region lost (R299, R306) -/

/-- R306: the regions of a circuit's path, which its initiating end commands. -/
def State.circuitRegions (s : State) (die h : Nat) : List Nat :=
  (s.handle die h).path die ++ ((s.peerOf die h).map fun p => (s.handle p.1 p.2).path p.1).getD []

/-- R306: the loss concerns the circuit: a region of its path, or light or lock on a group in use. -/
def State.circuitLoses (s : State) (die h code lgrp region : Nat) : Prop :=
  (code = 4 ∧ region ∈ s.circuitRegions die h) ∨ ((code = 2 ∨ code = 3) ∧ (s.handle die h).lgroup.getLsbD lgrp = true)

section
variable {s : State} {die h code lgrp region : Nat}

theorem State.circuitRegions_met {d k : Nat} (hpeer : s.peerOf die h = some (d, k)) :
    s.circuitRegions die h = (s.handle die h).path die ++ (s.handle d k).path d := by
  simp [State.circuitRegions, hpeer]

/-- The model's test of the loss. -/
theorem State.circuitLoses_iff : ((s.handle die h).state == .live && ((code == 4 && (s.circuitRegions die h).contains region)
      || ((code == 2 || code == 3) && (s.handle die h).lgroup.getLsbD lgrp))) = true
    ↔ (s.handle die h).state = .live ∧ s.circuitLoses die h code lgrp region := by
  simp [State.circuitLoses]

theorem execCircuitFault_unless (hx : ¬((s.handle die h).state = .live ∧ s.circuitLoses die h code lgrp region)) :
    execCircuitFault die h code lgrp region s = .next s :=
  if_pos (congrArg not (Bool.eq_false_iff.mpr (mt State.circuitLoses_iff.mp hx)))

theorem execCircuitFault_met (hlive : (s.handle die h).state = .live) (hloses : s.circuitLoses die h code lgrp region) {d k g r : Nat}
    (hpeer : s.peerOf die h = some (d, k)) (hg : (if code = 4 then 7 else lgrp) = g) (hr : (if code = 4 then region else 0x3FF) = r) :
    execCircuitFault die h code lgrp region s = .next (if ((s.faultHandle die h code g r).handle d k).state = .live
      then (s.faultHandle die h code g r).faultHandle d k code g r else s.faultHandle die h code g r) := by
  subst hg hr
  refine (if_neg (Bool.eq_false_iff.mp (congrArg not (State.circuitLoses_iff.mpr ⟨hlive, hloses⟩)))).trans ?_
  rw [hpeer]

end

/-! Re-establishment (R307) -/

section
variable {s : State} {die h d k : Nat} (hpeer : s.peerOf die h = some (d, k))
include hpeer

theorem execCircuitReestablish_leaves (hx : d ≤ die ∨ (s.handle die h).repairable s.tick = false ∨
      (s.handle d k).repairable s.tick = false ∨ s.svc.bisque = true) : execCircuitReestablish die h s = .next s := by
  unfold execCircuitReestablish
  rw [hpeer]
  refine if_pos ?_
  rcases hx with hnear | hx | hy | hoff
  · simp [Nat.not_lt.mpr hnear]
  · simp [hx]
  · simp [hy]
  · simp [hoff]

theorem execCircuitReestablish_settles (hinit : die < d) (hx : (s.handle die h).repairable s.tick = true)
    (hy : (s.handle d k).repairable s.tick = true) (hon : s.svc.bisque = false) {t : State}
    (ht : (s.onHandle die h Handle.repaired).onHandle d k Handle.repaired = t) {r q : Route}
    (hr : (t.handle die h).route = some r) (hq : (t.handle d k).route = some q) :
    execCircuitReestablish die h s = .next ((t.settle die h r).settle d k q) := by
  subst ht
  unfold execCircuitReestablish
  rw [hpeer]
  refine (if_neg (by simp [hinit, hx, hy, hon])).trans ?_
  simp only [hr, hq]

end

/-! What the landing buffer gives its windows takes no time (R310) -/

theorem State.onHandle_tick (s : State) (die h : Nat) (f : Handle → Handle) : (s.onHandle die h f).tick = s.tick := rfl

theorem State.onCore_tick (s : State) (cid : Nat) (f : Core → Core) : (s.onCore cid f).tick = s.tick := by
  unfold State.onCore
  split <;> rfl

theorem State.placeBytes_tick (s : State) (die h cid : Nat) (e : Entry) (bs : List Byte) : (s.placeBytes die h cid e bs).tick = s.tick := by
  unfold State.placeBytes
  dsimp only
  split <;> exact State.onCore_tick _ cid _

theorem State.fillWindows_tick (s : State) (die h n : Nat) (bs : List Byte) : (s.fillWindows die h n bs).1.tick = s.tick := by
  induction n generalizing s bs with
  | zero => rfl
  | succ n ih =>
    unfold State.fillWindows
    split
    · rfl
    · split
      · rfl
      · split
        · exact ih _ bs
        · exact (ih _ _).trans (s.placeBytes_tick die h _ _ _)

theorem State.feed_tick (s : State) (die h n left : Nat) : (s.feed die h n left).tick = s.tick := by
  induction n generalizing s left with
  | zero => rfl
  | succ n ih =>
    unfold State.feed
    dsimp only
    split
    case h_1 => exact (ih _ left).trans (State.onCore_tick _ _ _)
    case h_2 =>
      split
      · rfl
      · exact (ih _ _).trans (s.fillWindows_tick die h 5 _)
    case h_3 => rfl

/-! Units in flight (R304, R309, R310) -/

/-- The units without the one that has been looked at. -/
def State.withoutUnit (s : State) (id : Nat) : State := { s with units := s.units.filter (·.id ≠ id) }

section
variable {s : State} {u : CircuitUnit} (hu : s.units.find? (fun v => v.id = u.id) = some u)
include hu

theorem execCircuitUnitLanding_delivers (hst : u.stage = 0) :
    execCircuitUnitLanding u.id s = .next ((s.withoutUnit u.id).deliver u.die u.h u.bytes) := by
  simp only [execCircuitUnitLanding, hu]
  exact if_pos hst

theorem execCircuitUnitLanding_feeds (hst : u.stage = 3) : execCircuitUnitLanding u.id s = .next
    ((((s.withoutUnit u.id).feed u.die u.h 1024 448).onHandle u.die u.h fun x => { x with feeding := false }).startFeed
      u.die u.h (s.tick + 1)) := by
  simp only [execCircuitUnitLanding, hu, State.onHandle_tick, State.feed_tick]
  exact (if_neg (by omega)).trans (if_pos hst)

theorem execCircuitUnitLanding_due (hst : u.stage = 1 ∨ u.stage = 4) : execCircuitUnitLanding u.id s = .next (s.unitDue u) := by
  simp only [execCircuitUnitLanding, hu]
  exact (if_neg (by omega)).trans ((if_neg (by omega)).trans (if_pos hst))

theorem execCircuitUnitLanding_performs (hst : u.stage = 2 ∨ 4 < u.stage) : execCircuitUnitLanding u.id s = .next (s.unitPerform u) := by
  simp only [execCircuitUnitLanding, hu]
  exact (if_neg (by omega)).trans ((if_neg (by omega)).trans (if_neg (by omega)))

end

/-- Settles O40: each event by the states of the two ends, and a unit by its stage. -/
theorem circuitEventsMoveBothEnds : Obligations.CircuitEventsMoveBothEnds := by
  intro s die h x due repaired
  refine ⟨fun d k hpeer => ?met, fun hsettling hdue hfar => execCircuitSettleEnd_noPeer hsettling hdue hfar, fun hsettling hearly => ?early,
    fun hstate => execCircuitSettleEnd_unsettled hstate, execHoldEnd_other, execHoldEnd_alone, fun code lgrp region hx => ?kept,
    fun u hu => ?unit⟩
  case met =>
    intro y
    refine ⟨fun hsettling hdue hfar => ⟨execCircuitSettleEnd_live hsettling hdue hpeer hfar,
        execCircuitSettleEnd_unlocked hsettling hdue hpeer hfar⟩,
      fun hup hend => execHoldEnd_met hup hend hpeer,
      fun code lgrp region hlive => ⟨fun hcode hregion => ?region, fun hcode hregion => ?offPath, fun hcode hgroup => ?group⟩,
      fun r q hinit hx hy hon hr hq => execCircuitReestablish_settles hpeer hinit hx hy hon rfl hr hq,
      execCircuitReestablish_leaves hpeer⟩
    case region =>
      subst hcode
      have hlost := State.circuitRegions_met hpeer ▸ hregion
      exact execCircuitFault_met hlive (.inl ⟨rfl, hlost⟩) hpeer rfl rfl
    case offPath =>
      subst hcode
      refine execCircuitFault_unless fun ⟨_, hloses⟩ => ?_
      rcases hloses with ⟨_, hon⟩ | ⟨hother, _⟩
      · exact hregion (State.circuitRegions_met hpeer ▸ hon)
      · omega
    case group =>
      have hnot : code ≠ 4 := by omega
      exact execCircuitFault_met hlive (.inr ⟨hcode, hgroup⟩) hpeer (if_neg hnot) (if_neg hnot)
  case early =>
    exact ⟨execCircuitSettleEnd_early hsettling hearly, fun g => execCircuitSettleEnd_unused hsettling hearly,
      fun g => execCircuitSettleEnd_noted hsettling hearly⟩
  case kept =>
    refine execCircuitFault_unless fun ⟨hlive, hloses⟩ => ?_
    rcases hx with hstate | ⟨hcode, hgroup⟩
    · exact hstate hlive
    · rcases hloses with ⟨hcode', _⟩ | ⟨_, hused⟩
      · exact hcode hcode'
      · exact Bool.eq_false_iff.mp hgroup hused
  case unit =>
    exact ⟨execCircuitUnitLanding_delivers hu, execCircuitUnitLanding_due hu, execCircuitUnitLanding_feeds hu,
      execCircuitUnitLanding_performs hu⟩

end Sys2Proof.Machine
end

section
/-! PROOFS. A window on a handle that its launch does not hold (13 R308; 17 R377): O41, whose third clause says of the captured entry what
the model does not. -/

namespace Sys2Proof.Machine

/-- R308: the entry that faults is the one whose bytes have been counted. -/
theorem execCpCbind_notHeld {s : State} {e : Entry} (hhead : s.core.ctx.head s.unit = some e) (hop : e.op8 = 0x51)
    (hv : s.core.ctx.verdict true e = .start) (hother : s.holdsHandle e.handle = false) :
    execCpCbind s = .next (s.ctx (·.faultHead (e.withBytes (e.cpBytes 0)) causeCircuitDark 0)) := by
  have hrefused : (!s.holdsHandle (e.withBytes (e.cpBytes 0)).handle) = true := congrArg not hother
  exact (State.judge_start hhead hop (by simpa [hother] using hv) _).trans (congrArg _ (if_pos hrefused))

/-- R377: a head that faults is recorded with the bytes it carries. -/
theorem Ctx.faultHead_last (c : Ctx) (e : Entry) (cause : BitVec 8) (tv : Word) :
    (c.faultHead e cause tv).faults.getLast?.map (·.total) = some e.total := by
  simp [Ctx.faultHead]

/-- A fault recorded with one entry is that of another only where their bytes agree. -/
theorem Ctx.faultHead_total {c : Ctx} {x y : Entry} {cause : BitVec 8} {tv : Word} (h : c.faultHead x cause tv = c.faultHead y cause tv) :
    x.total = y.total := by
  have hlast := congrArg (fun c : Ctx => c.faults.getLast?.map (·.total)) h
  simpa only [Ctx.faultHead_last, Option.some.injEq] using hlast

/-- A gated `cp.cbind` of h9, placed in CP0, whose block is 64 bytes of the pool. -/
def Entry.window64 : Entry := { Entry.blank 7 .cp0 with
  img := BitVec.ofNat 128 (0x51 * 2 ^ 120 + 2 ^ 119 + 9 * 2 ^ 47), strB := ⟨vput (vput Stream.zero.w 1 (BitVec.ofNat 64 (2 ^ 10))) 2 64⟩ }

/-- The machine after reset, with a task whose copy engine has that entry at its head: its launch holds no handle. -/
def State.windowOfNone : State := { State.reset with
  unit := .cp0
  core := { State.reset.core with ctx :=
    (({ Ctx.zero with live := true, lid := 1, cyc := 10 } : Ctx).onQueue .cp0 fun q => { q with wait := [Entry.window64] }) } }

/-- Refutes O41: a `cp.cbind` of 64 bytes on a handle that its launch does not hold faults with its 64 bytes counted, where the statement has
the entry as it stood in its queue, with none. -/
theorem not_circuitPortsAndReads : ¬ Obligations.CircuitPortsAndReads := by
  intro hall
  obtain ⟨-, -, hclause, -⟩ := hall State.windowOfNone 0 0 0 Entry.window64
  have hhead : State.windowOfNone.core.ctx.head State.windowOfNone.unit = some Entry.window64 := by decide
  have hop : Entry.window64.op8 = 0x51 := by decide
  have hv : State.windowOfNone.core.ctx.verdict true Entry.window64 = .start := by decide
  have hother : State.windowOfNone.holdsHandle Entry.window64.handle = false := by decide
  have hsaid := hclause hhead hop hv hother
  have hdoes := execCpCbind_notHeld hhead hop hv hother
  have hsame := Host.Outcome.next.inj (hdoes.symm.trans hsaid)
  have htotal := Ctx.faultHead_total (congrArg (fun s : State => s.core.ctx) hsame)
  exact absurd htotal (by decide)

end Sys2Proof.Machine
end

section
/-! PROOFS. Commit groups: the stages of a `cgcommit` or `cgabort`, and the packets of a group at its sites and back at its core (14 R330
to R337): O33. -/

namespace Sys2Proof.Machine

/-! `cgopen`: what it refuses (R334) -/

/-- R334: the group is in use. -/
theorem Group.underway_iff {g : Group} : (g.state = .opened ∨ g.state = .committing ∨ g.state = .aborting) ↔
    ¬(g.state ≠ .opened ∧ g.state ≠ .committing ∧ g.state ≠ .aborting) := by
  simp only [ne_eq, not_and_or, not_not]

/-- R334: the mask has bits above 31, is empty, or names a module that is no member. -/
theorem noMembers_iff {m : Word} {members : BitVec 32} :
    (wbits m 32 32 ≠ 0 || m == 0 || (m.truncate 32 &&& ~~~members) != 0) = true ↔
      ¬(wbits m 32 32 = 0 ∧ m ≠ 0 ∧ (m.truncate 32 &&& ~~~members) = 0) := by
  simp only [Bool.or_eq_true, decide_eq_true_eq, beq_iff_eq, bne_iff_ne, ne_eq, not_and_or, not_not, or_assoc]

/-! The start of `cgcommit` and `cgabort` (R335) -/

section
variable {s : State} {g : Nat} (hw : s.core.ctx.sq.wait = none) (sd : BitVec 5)
include hw

theorem State.groupWord_notOpen (h : (s.groupOf g).state ≠ .opened) (commit : Bool) :
    s.groupWord sd g commit = s.wordFault causeFieldRange (BitVec.ofNat 64 g) := by
  simp only [State.groupWord, State.waiting_idle hw, if_pos h]

variable (hopen : (s.groupOf g).state = .opened)
include hopen

theorem State.groupWord_noObject (hb : (s.core.ctx.binding (s.groupOf g).slot).barrier = false)
    (hh : (s.core.ctx.binding (s.groupOf g).slot).held = false) :
    s.groupWord sd g true = s.wordFault causeFieldRange (BitVec.ofNat 64 (s.groupOf g).slot) := by
  simp only [State.groupWord, State.waiting_idle hw, hopen, hb, hh, ne_eq, not_true_eq_false, if_false, Bool.not_false, Bool.and_self,
    if_true]

theorem State.groupWord_starts {commit : Bool} (hobj : commit = true → (s.core.ctx.binding (s.groupOf g).slot).barrier = true ∨
      (s.core.ctx.binding (s.groupOf g).slot).held = true) :
    s.groupWord sd g commit
      = (s.fencing .commit fun e => e.eng == .cp0 || e.eng == .cp1).groupOn sd g commit ⟨.commit, none, [], 0, 0⟩ := by
  have hpass : (commit && !(s.core.ctx.binding (s.groupOf g).slot).barrier && !(s.core.ctx.binding (s.groupOf g).slot).held) = false := by
    cases commit
    · rfl
    · rcases hobj rfl with h | h <;> simp [h]
  simp only [State.groupWord, State.waiting_idle hw, hopen, hpass, ne_eq, not_true_eq_false, if_false, Bool.false_eq_true]

end

theorem State.groupWord_waits {s : State} {w : Wait} (hw : s.core.ctx.sq.wait = some w) (hk : w.kind = .commit) (sd : BitVec 5) (g : Nat)
    (commit : Bool) : s.groupWord sd g commit = s.groupOn sd g commit w := by
  simp only [State.groupWord, State.waiting_same hw hk]

/-! The word in progress, by its stage (R335) -/

section
variable {s : State} {g : Nat} {w : Wait} (hp : w.progress = 0) (sd : BitVec 5)
include hp

theorem State.groupOn_unsent (h : s.allSent = false ∨ (s.groupOf g).out ≠ 0) (commit : Bool) :
    s.groupOn sd g commit w = .next (s.holdOn w) := by
  have hwait : (!s.allSent || (s.groupOf g).out != 0) = true := by simpa using h
  simp [State.groupOn, hp, hwait]

variable (hsent : s.allSent = true) (hout : (s.groupOf g).out = 0)
include hsent hout

theorem State.groupOn_commits (hcause : (s.groupOf g).cause = 0) : s.groupOn sd g true w = s.groupPublish sd g w := by
  simp [State.groupOn, hp, hsent, hout, hcause]

theorem State.groupOn_aborts {commit : Bool} (h : commit = true → (s.groupOf g).cause ≠ 0) :
    s.groupOn sd g commit w = (s.sendPackets g false).groupAnswers sd g false
      { w with progress := 2, value := if commit then causeCommitAborted.toNat else 0 } := by
  have hrefused : (commit && (s.groupOf g).cause == 0) = false := by simpa using h
  simp only [State.groupOn, hp, hsent, hout, hrefused, OfNat.zero_ne_ofNat, zero_ne_one, if_false, Bool.not_true, bne_self_eq_false,
    Bool.or_self, Bool.false_eq_true]

end

/-- R335: a word whose packets have been sent looks at the sites' answers. -/
theorem State.groupOn_answers {w : Wait} (hp : w.progress = 1 ∨ w.progress = 2) (s : State) (sd : BitVec 5) (g : Nat) (commit : Bool) :
    s.groupOn sd g commit w = s.groupAnswers sd g (decide (w.progress = 1)) w := by
  rcases hp with hp | hp <;> simp [State.groupOn, hp]

/-! The counters and the sites' answers (R335) -/

section
variable {s : State} {g : Nat} (sd : BitVec 5) (w : Wait)

theorem State.groupPublish_unacked (h : s.core.ctx.acked (s.core.ctx.binding (s.groupOf g).slot).scope = false) :
    s.groupPublish sd g w = .next (s.holdOn { w with progress := 4 }) := if_neg (Bool.eq_false_iff.mp h)

theorem State.groupPublish_sends (h : s.core.ctx.acked (s.core.ctx.binding (s.groupOf g).slot).scope = true) :
    s.groupPublish sd g w = (s.sendPackets g true).groupAnswers sd g true { w with progress := 1 } := if_pos h

theorem State.groupAnswers_missing (h : (s.groupOf g).answered = false) (publish : Bool) :
    s.groupAnswers sd g publish w = .next (s.holdOn w) := if_pos (congrArg not h)

/-- R335: a group whose packets have been answered. -/
def Group.settled (x : Group) (publish : Bool) : Group := { x with state := if publish then .committed else .aborted }

/-- R335: the group once its word's packets have been answered. -/
def State.settleGroup (s : State) (g : Nat) (publish : Bool) : State := s.ctx (·.onGroup g (·.settled publish))

theorem State.settleGroup_slot (hg : g < 8) (publish : Bool) : ((s.settleGroup g publish).groupOf g).slot = (s.groupOf g).slot :=
  (congrArg Group.slot (vat_vmod_same s.core.ctx.groups .zero (·.settled publish) hg)).trans rfl

/-- R335: what the word's result is: of a commit that was published what the sites have answered, else what is known since the abort. -/
def State.groupValue (s : State) (g : Nat) (publish : Bool) (w : Wait) : Nat := if publish then (s.groupOf g).result.toNat else w.value

variable (ha : (s.groupOf g).answered = true) {publish : Bool}
include ha

/-- R335: an abort with no object to release ends. -/
theorem State.groupAnswers_ends (hp : publish = false) (hh : (s.core.ctx.binding (s.groupOf g).slot).held = false)
    (hb : (s.core.ctx.binding (s.groupOf g).slot).barrier = false) :
    s.groupAnswers sd g publish w = .next ((s.settleGroup g publish).endHold sd (BitVec.ofNat 64 (s.groupValue g publish w))) := by
  have hnone : (publish || (s.core.ctx.binding (s.groupOf g).slot).held || (s.core.ctx.binding (s.groupOf g).slot).barrier) = false := by
    simp only [hp, hh, hb, Bool.or_self]
  exact (if_neg (by simp [ha])).trans (if_neg (Bool.eq_false_iff.mp hnone))

/-- R335: a word with an object to release releases it, and ends. -/
theorem State.groupAnswers_releases (h : publish = true ∨ (s.core.ctx.binding (s.groupOf g).slot).held = true ∨
      (s.core.ctx.binding (s.groupOf g).slot).barrier = true) (hg : g < 8) :
    s.groupAnswers sd g publish w = (s.settleGroup g publish).releaseObject (s.groupOf g).slot
      { w with progress := 3, value := s.groupValue g publish w }
      fun t => .next (t.endHold sd (BitVec.ofNat 64 (s.groupValue g publish w))) := by
  have hobj : (publish || (s.core.ctx.binding (s.groupOf g).slot).held || (s.core.ctx.binding (s.groupOf g).slot).barrier) = true := by
    simpa only [Bool.or_eq_true, or_assoc] using h
  rw [← State.settleGroup_slot hg publish]
  exact (if_neg (by simp [ha])).trans (if_pos hobj)

end

/-! A group's packets at a site of this module, and its answers (R331, R332, R335) -/

section
variable {s : State} {id : Nat} {r : Req} (hr : s.req id = some r)
include hr

theorem execCommitAnswer_packet {group : Nat} {publish : Bool} (hk : r.kind = .commit group publish) :
    execCommitAnswer id s = .next ((s.dropReq id).onIssuer r (·.onGroup group (·.packetAnswer r (s.dropReq id).tick))) := by
  simp only [execCommitAnswer, hr, hk]

theorem execCommitAnswer_put {group : Nat} {gen : BitVec 16} (hk : r.kind = .gput group gen) {u : Nat} (hu : r.uid = some u) :
    execCommitAnswer id s = .next (((s.dropReq id).onIssuer r fun c =>
      (c.onGroup group (·.putAnswer r)).onEntry u (·.settled { r with cause := 0 })).ctrlAborts r.cid r.lid) := by
  simp only [execCommitAnswer, hr, hk, hu]

variable (hlost : s.lost r = false) (hnew : r.atHome = false) (hhere : r.abroad = false)
include hlost hnew hhere

/-- R331: a put at its site of this module. -/
theorem execCommitHold_put {group : Nat} {gen : BitVec 16} (hk : r.kind = .gput group gen) :
    let site := r.pa / 2 ^ 36
    let s' := s.onSite site fun t =>
      { t with held := t.held.filter fun h => !h.tagged (s.issuer r) r.cid group || h.gen == gen }
    execCommitHold id s = if 32768 ≤ (s'.site site).held.length then .next (s'.answerWith id causeCommitOverflow [] 0)
      else .next ((s'.onSite site fun t => { t with held := t.held ++
        [⟨s'.issuer r, r.cid, group, gen, s'.conn.epoch, r.pa, (r.pairs.map (·.1)).zip r.data⟩] }).answerWith id 0 [] 0) := by
  rw [execCommitHold, State.atHome_here hr hlost hnew hhere]
  simp only [hk]

end

/-- Settles O33: the words by the group's state, then by the stage of their wait; a packet by its kind. -/
theorem commitGroupsHoldAndPublish : Obligations.CommitGroupsHoldAndPublish := by
  refine ⟨?word, ?site, ?answer⟩
  case word =>
    intro s sd sa k cg g m idle members
    refine ⟨fun hidle hvalid hm => ?opens, fun hbusy => if_pos (Group.underway_iff.mpr hbusy), fun hidle hvalid => ?empty,
      fun hidle hvalid hm => ?mask, rfl, fun hw hshut => ?shut, fun hw hopen => ?starts, fun w hw hk hp => ?waits⟩
    case opens =>
      exact (ite_of_fails_iff Group.underway_iff hidle _ _).trans
        ((if_neg (by simp [hvalid])).trans (ite_of_fails_iff noMembers_iff hm _ _))
    case empty => exact (ite_of_fails_iff Group.underway_iff hidle _ _).trans (if_pos (congrArg not hvalid))
    case mask =>
      exact (ite_of_fails_iff Group.underway_iff hidle _ _).trans ((if_neg (by simp [hvalid])).trans (if_pos (noMembers_iff.mpr hm)))
    case shut => exact ⟨State.groupWord_notOpen hw sd hshut true, State.groupWord_notOpen hw sd hshut false⟩
    case starts =>
      intro b f x w
      have commits (hobj : b.barrier = true ∨ b.held = true) := State.groupWord_starts hw sd hopen fun _ : true = true => hobj
      have aborts := State.groupWord_starts (commit := false) hw sd hopen nofun
      refine ⟨State.groupWord_noObject hw sd hopen, fun h => ⟨?_, fun hobj => ?_⟩, fun hsent hout hopenSites => ⟨?_, fun hobj hcause => ?_⟩,
        fun hobj hsent hout hcause => ⟨fun hacked => ?_, fun hacked hopenSites => ?_⟩⟩
      · exact aborts.trans (State.groupOn_unsent rfl sd h false)
      · exact (commits hobj).trans (State.groupOn_unsent rfl sd h true)
      · refine aborts.trans ((State.groupOn_aborts (commit := false) rfl sd hsent hout nofun).trans ?_)
        exact State.groupAnswers_missing sd _ hopenSites false
      · refine (commits hobj).trans ((State.groupOn_aborts (commit := true) rfl sd hsent hout fun _ => hcause).trans ?_)
        exact State.groupAnswers_missing sd _ hopenSites false
      · refine (commits hobj).trans ((State.groupOn_commits rfl sd hsent hout hcause).trans ?_)
        exact State.groupPublish_unacked sd _ hacked
      · refine (commits hobj).trans ((State.groupOn_commits rfl sd hsent hout hcause).trans ?_)
        exact (State.groupPublish_sends sd _ hacked).trans (State.groupAnswers_missing sd _ hopenSites true)
    case waits =>
      intro u b v drop both
      have hu : u = s.settleGroup cg.toNat (decide (w.progress = 1)) := by
        simp only [State.settleGroup, Group.settled, decide_eq_true_eq, u]
      have hv : v = s.groupValue cg.toNat (decide (w.progress = 1)) w := by simp only [State.groupValue, decide_eq_true_eq, v, g]
      have bothWords {t : State} (h : s.groupAnswers sd cg.toNat (decide (w.progress = 1)) w = .next t) : both t :=
        have word (commit : Bool) : s.groupWord sd cg.toNat commit = .next t :=
          (State.groupWord_waits hw hk sd _ commit).trans ((State.groupOn_answers hp s sd _ commit).trans h)
        ⟨word true, word false⟩
      refine ⟨fun ha => bothWords (State.groupAnswers_missing sd w ha _), fun ha h2 hh hb => bothWords ?_,
        fun ha hobj hb hroom t m pa ht => bothWords ?_, fun ha hb hpart hon hout => bothWords ?_⟩
      · rw [hu, hv]
        exact State.groupAnswers_ends sd w ha (by simp [h2]) hh hb
      · refine (State.groupAnswers_releases sd w ha (by simpa using hobj.imp_right .inl) cg.isLt).trans ?_
        rw [← hu, ← hv]
        exact State.releaseObject_lock rfl hb hroom ht
      · refine (State.groupAnswers_releases sd w ha (.inr (.inr hb)) cg.isLt).trans ?_
        rw [← hu, ← hv]
        exact State.releaseObject_barrier rfl hb hpart hon hout
  case site =>
    intro s id r hr hlost hnew hhere site names dropped
    have home := State.atHome_here hr hlost hnew hhere s.peerAnswer
    refine ⟨home _, home _, fun group gen hk => ?_⟩
    have put := execCommitHold_put hr hlost hnew hhere hk
    exact ⟨fun hroom => put.trans (if_neg (Nat.not_le.mpr hroom)), fun hfull => put.trans (if_pos hfull)⟩
  case answer =>
    intro s id group r hr
    exact ⟨fun publish hk => execCommitAnswer_packet hr hk, fun gen u hk hu => execCommitAnswer_put hr hk hu⟩

end Sys2Proof.Machine
end

section
/-! PROOFS. Links and connected sets: a flit where nothing is forwarded and nothing waits for credit, slots sent on, lanes, beats and
silence, deaths, and the formation of a set (10 R241; 14 R315 to R326): O44. -/

namespace Sys2Proof.Machine

/-! Link ends by number -/

@[simp] theorem State.link_num (s : State) (n : Nat) : (s.link n).num = n := by
  unfold State.link
  cases h : s.links.find? (·.num = n) with
  | none => rfl
  | some e => simpa using List.find?_some h

theorem eq_or_mem_of_mem_putLink {l : List LinkEnd} {c x : LinkEnd} (h : x ∈ putLink l c) : x = c ∨ x ∈ l := by
  induction l with
  | nil => exact .inl (List.mem_singleton.mp h)
  | cons y r ih =>
    unfold putLink at h
    split at h
    · exact (List.mem_cons.mp h).imp_right (List.mem_cons_of_mem _)
    · split at h
      · exact List.mem_cons.mp h
      · rcases List.mem_cons.mp h with h | h
        · exact .inr (h ▸ List.mem_cons_self)
        · exact (ih h).imp_right (List.mem_cons_of_mem _)

/-! Where no slot is being forwarded (R320) -/

section
variable {s : State} (hquiet : s.links.all (fun x => x.outgoing == []) = true)
include hquiet

theorem State.outgoing_of_quiet {e : LinkEnd} (h : e ∈ s.links) : e.outgoing = [] := beq_iff_eq.mp (List.all_eq_true.mp hquiet e h)

theorem State.link_outgoing_of_quiet (n : Nat) : (s.link n).outgoing = [] := by
  unfold State.link
  cases h : s.links.find? (·.num = n) with
  | none => rfl
  | some e => exact State.outgoing_of_quiet hquiet (List.mem_of_find?_eq_some h)

theorem State.onLink_quiet (n : Nat) {f : LinkEnd → LinkEnd} (hf : (f (s.link n)).outgoing = (s.link n).outgoing) :
    (s.onLink n f).links.all (fun x => x.outgoing == []) = true := by
  refine List.all_eq_true.mpr fun e he => beq_iff_eq.mpr ?_
  rcases eq_or_mem_of_mem_putLink he with rfl | he
  · exact hf.trans (State.link_outgoing_of_quiet hquiet n)
  · exact State.outgoing_of_quiet hquiet he

/-- With nothing to forward, what is done for each end that forwards a slot is done for none. -/
theorem State.foldl_links_quiet {step : State → LinkEnd → State} (h : ∀ t e, e.outgoing = [] → step t e = t) :
    s.links.foldl step s = s :=
  (List.foldl_ext _ (fun t _ => t) s fun t e he => h t e (State.outgoing_of_quiet hquiet he)).trans (List.foldl_fixed _)

theorem State.sendForwards_quiet (inLink : Nat) (seq : BitVec 12) (bad : Bool) : s.sendForwards inLink seq bad = s :=
  State.foldl_links_quiet hquiet fun t e he => if_pos (by simp [he])

theorem State.goodForwards_quiet (inLink : Nat) (flit : BitVec 2048) : s.goodForwards inLink flit = s :=
  State.foldl_links_quiet hquiet fun t e he => if_pos (by simp [he])

end

/-! A flit that arrives (R319) -/

/-- R319: what a flit in sequence that has checked leaves at the end it arrives at. -/
def LinkEnd.taken (e : LinkEnd) (flit : BitVec 2048) : LinkEnd := { e with
  rxSeq := e.rxSeq + 1, retries := 0, resend := false, acked := BitVec.ofNat 12 (flitField flit 40 12 + 1)
  credits := e.credits + flitField flit 24 12, owed := if flitField flit 36 4 = 2 then e.owed else e.owed + 1, wire := [] }

/-- R319: the failures in a row of the flit awaited, with this one. -/
def LinkEnd.failures (e : LinkEnd) (flit : BitVec 2048) : Nat := if flitOk flit = true then e.retries else e.retries + 1

section
variable {s : State} {link : Nat} {flit : BitVec 2048}

theorem execFlitReceive_failed (h : (s.link link).failed = true) : execFlitReceive link flit s = .next s := if_pos h

variable (hlive : (s.link link).failed = false)
include hlive

theorem execFlitReceive_good (h : flitOk flit = true ∧ flitField flit 52 12 = (s.link link).rxSeq.toNat) :
    execFlitReceive link flit s = .next (s.goodFlitIn link flit) := by
  obtain ⟨hok, hseq⟩ := h
  simp [execFlitReceive, hlive, hok, hseq]

theorem execFlitReceive_bad (h : ¬(flitOk flit = true ∧ flitField flit 52 12 = (s.link link).rxSeq.toNat)) :
    execFlitReceive link flit s = .next (s.badFlit link flit (!flitOk flit)) := by
  cases hok : flitOk flit with
  | false => simp [execFlitReceive, hlive, hok]
  | true =>
    have hseq : flitField flit 52 12 ≠ (s.link link).rxSeq.toNat := fun hseq => h ⟨hok, hseq⟩
    simp [execFlitReceive, hlive, hok, hseq]

end

section
variable {s : State} (hquiet : s.links.all (fun x => x.outgoing == []) = true) (link : Nat) (flit : BitVec 2048)
include hquiet

/-- R319, R320: a flit that is not taken, where nothing is forwarded. -/
theorem State.badFlit_quiet : s.badFlit link flit (!flitOk flit) =
    let t := s.onLink link fun e => { e with retries := (s.link link).failures flit }
    if 8 < (s.link link).failures flit then t.failLink link
    else if !flitOk flit || !(s.link link).resend then t.askReplay link else t := by
  have hcount : (if (!flitOk flit) = true then (s.link link).retries + 1 else (s.link link).retries) = (s.link link).failures flit := by
    cases hok : flitOk flit <;> simp [LinkEnd.failures, hok]
  have hquiet' := State.onLink_quiet hquiet link (f := fun e => { e with retries := (s.link link).failures flit }) rfl
  simp only [State.badFlit, hcount, State.sendForwards_quiet hquiet']

/-- R319: a flit that is taken, where nothing is forwarded and nothing waits for credit. -/
theorem State.goodFlitIn_quiet (hwaiting : (s.link link).waiting = [])
    (hacks : flitField flit 36 4 ≠ 2 ∨ BitVec.ofNat 12 (flitField flit 40 12 + 1) = (s.link link).txSeq) :
    s.goodFlitIn link flit =
      let t := s.onLink link (·.taken flit)
      if flitField flit 36 4 = 3 then t.managed link flit
      else if 2 * meshLinks ≤ link ∧ !((s.link link).peer.any fun m => s.conn.dead.getLsbD m) then t.flitArrives link flit
      else t := by
  have hend : (s.onLink link (·.taken flit)).link link = (s.link link).taken flit :=
    State.link_onLink_same s link (·.taken flit) (State.link_num s link)
  have hquiet' := State.onLink_quiet hquiet link (f := (·.taken flit)) rfl
  have hreplay : ¬(flitField flit 36 4 = 2 ∧ BitVec.ofNat 12 (flitField flit 40 12 + 1) ≠ (s.link link).txSeq) := fun ⟨h, hne⟩ =>
    hacks.elim (absurd h) hne
  have hforwards : ((s.onLink link (·.taken flit)).sendForwards link (BitVec.ofNat 12 (flitField flit 52 12)) false).goodForwards link flit
      = s.onLink link (·.taken flit) := by
    rw [State.sendForwards_quiet hquiet', State.goodForwards_quiet hquiet']
  unfold LinkEnd.taken at hend hforwards
  simp only [State.goodFlitIn, hforwards, hend, hreplay, hwaiting, true_or, if_true, if_false, State.onLink_conn, LinkEnd.taken]

end

/-! Slots, lanes, beats and silence (R320 to R324) -/

theorem slotForward_fails_iff {s : State} {link out : Nat} {head : BitVec 64} {slot : BitVec 480} :
    (!headOk head || !slotOk slot || decide (endPos link ≠ endPos out) || link == out || !s.usable link || !s.usable out) = true ↔
      ¬(headOk head = true ∧ slotOk slot = true ∧ endPos link = endPos out ∧ link ≠ out ∧ s.usable link = true ∧ s.usable out = true) := by
  simp only [Bool.or_eq_true, Bool.not_eq_true', decide_eq_true_eq, beq_iff_eq, ne_eq, not_and_or, not_not, or_assoc, Bool.not_eq_true]

section
variable {s : State} {link : Nat}

theorem execLaneShed_kept (h : (s.link link).failed = true ∨ (s.link link).acked ≠ (s.link link).txSeq ∨ (s.link link).lanes = 0) :
    execLaneShed link s = .next s :=
  if_pos (by simpa [or_assoc] using h)

theorem execLaneShed_sheds (hlive : (s.link link).failed = false) (hacked : (s.link link).acked = (s.link link).txSeq)
    (hlanes : (s.link link).lanes ≠ 0) :
    execLaneShed link s = .next (if (s.link link).lanes < 33
      then (s.onLink link fun e => { e with lanes := e.lanes - 1 }).failLink link
      else s.onLink link fun e => { e with lanes := e.lanes - 1 }) := by
  have hhalf : 2 * ((s.link link).lanes - 1) < 64 ↔ (s.link link).lanes < 33 := by omega
  refine (if_neg (by simp [hlive, hacked, hlanes])).trans ?_
  simp only [hhalf]

end

theorem linkSilent_iff {e : LinkEnd} {now : Nat} :
    (!e.failed && decide (e.heard + 10000 ≤ now)) = true ↔ e.failed = false ∧ e.heard + 10000 ≤ now := by
  simp only [Bool.and_eq_true, Bool.not_eq_true', decide_eq_true_eq]

/-! Deaths (R324, R325) -/

/-- R324: another module of the set, which is not known to be dead. -/
def State.living (s : State) (m : Nat) : Prop :=
  m < 32 ∧ m ≠ s.conn.modnum ∧ s.conn.dead.getLsbD m = false ∧ s.conn.members.getLsbD m = true

/-- R324: a module that is not halted has been silent for 10,000 ticks. -/
def State.silent (s : State) (m : Nat) : Prop := s.conn.halted.getLsbD m = false ∧ s.conn.heard.read 0 m + 10000 ≤ s.tick

theorem notice_ignored_iff {s : State} {m epoch : Nat} :
    (epoch ≠ s.conn.epoch ∨ 32 ≤ m ∨ m = s.conn.modnum ∨ s.conn.dead.getLsbD m = true ∨ (!s.conn.members.getLsbD m) = true) ↔
      ¬s.living m ∨ epoch ≠ s.conn.epoch := by
  simp only [State.living, not_and_or, Nat.not_lt, ne_eq, not_not, Bool.not_eq_false, Bool.not_eq_true, Bool.not_eq_true']
  exact or_comm

theorem silence_ignored_iff {s : State} {m : Nat} :
    (32 ≤ m ∨ m = s.conn.modnum ∨ s.conn.dead.getLsbD m = true ∨ s.conn.halted.getLsbD m = true ∨ (!s.conn.members.getLsbD m) = true ∨
      s.tick < s.conn.heard.read 0 m + 10000) ↔ ¬s.living m ∨ ¬s.silent m := by
  simp only [State.living, State.silent, not_and_or, Nat.not_lt, Nat.not_le, ne_eq, not_not, Bool.not_eq_false, Bool.not_eq_true,
    Bool.not_eq_true', or_assoc]
  tauto

/-! Forming a set (R315, R318) -/

theorem setForm_stale_iff {c : SetState} {epoch : Nat} {offset : Int} {agree : Bool} :
    (!c.busy || epoch != c.lastEpoch || offset != c.measured || agree == c.disagrees) = true ↔
      (c.busy = false ∨ epoch ≠ c.lastEpoch ∨ offset ≠ c.measured ∨ agree = c.disagrees) := by
  simp only [Bool.or_eq_true, Bool.not_eq_true', bne_iff_ne, beq_iff_eq, or_assoc]

/-- R315: what has been heard is still as it was when the formation was looked at. -/
theorem setForm_current {c : SetState} (hbusy : c.busy = true) {agree : Bool} (h : c.disagrees = !agree) :
    (!c.busy || c.lastEpoch != c.lastEpoch || c.measured != c.measured || agree == c.disagrees) = false := by
  cases agree <;> simp [hbusy, h]

/-- Settles O44: a flit by whether its link has failed and whether it is the one awaited, each other event by the one test of its
condition. -/
theorem linksAndSetsFollowTheirEvents : Obligations.LinksAndSetsFollowTheirEvents := by
  refine ⟨?flit, ?link, ?death, ?set⟩
  case flit =>
    intro s link flit e fmt ack good took n bad
    refine ⟨execFlitReceive_failed, fun hlive hquiet hwaiting => ⟨fun hgood hacks => ?taken, fun hbad hfailures => ?fails,
      fun hbad hfew hasks => ?asks, fun hbad hfew hok hasked => ?dropped⟩⟩
    case taken =>
      have arrives := (execFlitReceive_good hlive hgood).trans (congrArg _ (State.goodFlitIn_quiet hquiet link flit hwaiting hacks))
      refine ⟨fun hmanage => ?_, fun hdata hmesh => ?_, fun hdata hport hpeer => ?_, fun hdata hpeer => ?_⟩
      · exact arrives.trans (congrArg _ (if_pos hmanage))
      · exact arrives.trans (congrArg _ ((if_neg hdata).trans (if_neg fun h => Nat.not_le.mpr hmesh h.1)))
      · exact arrives.trans (congrArg _ ((if_neg hdata).trans (if_pos ⟨hport, congrArg not hpeer⟩)))
      · exact arrives.trans (congrArg _ ((if_neg hdata).trans (if_neg fun h => Bool.eq_false_iff.mp (congrArg not hpeer) h.2)))
    all_goals refine (execFlitReceive_bad hlive hbad).trans (congrArg _ ((State.badFlit_quiet hquiet link flit).trans ?_))
    case fails => exact if_pos hfailures
    case asks => exact (if_neg (Nat.not_lt.mpr hfew)).trans (if_pos (by simpa using hasks))
    case dropped => exact (if_neg (Nat.not_lt.mpr hfew)).trans (if_neg (by simpa [hok] using hasked))
  case link =>
    intro s link out idx head slot e on shed
    refine ⟨fun hon => ite_of_fails_iff slotForward_fails_iff hon _ _, fun hoff => if_pos (slotForward_fails_iff.mpr hoff),
      fun hlive hacked hlanes => ?sheds, fun hlive hacked hlanes hfew => ?fails, execLaneShed_kept, fun husable => ?beats,
      fun hshut => if_pos (congrArg not hshut), fun hlive hsilent => ?silent, fun hheard => ?heard⟩
    case sheds => exact (execLaneShed_sheds hlive hacked (Nat.ne_zero_of_lt hlanes)).trans (congrArg _ (if_neg (Nat.not_lt.mpr hlanes)))
    case fails => exact (execLaneShed_sheds hlive hacked hlanes).trans (congrArg _ (if_pos hfew))
    case beats => exact if_neg (Bool.eq_false_iff.mp (congrArg not husable))
    case silent => exact if_pos (linkSilent_iff.mpr ⟨hlive, hsilent⟩)
    case heard =>
      refine if_neg fun h => ?_
      obtain ⟨hlive, hsilent⟩ := linkSilent_iff.mp h
      exact hheard.elim (Bool.eq_false_iff.mp hlive) (Nat.not_lt.mpr hsilent)
  case death =>
    intro s m known silent
    refine ⟨fun hknown => ?told, fun epoch h => ?notTold, fun hknown hsilent => ?silent, fun h => ?heard⟩
    case told => exact if_neg fun h => (notice_ignored_iff.mp h).elim (absurd hknown) (absurd rfl)
    case notTold => exact if_pos (notice_ignored_iff.mpr h)
    case silent => exact if_neg fun h => (silence_ignored_iff.mp h).elim (absurd hknown) (absurd hsilent)
    case heard => exact if_pos (silence_ignored_iff.mpr h)
  case set =>
    intro s c ended others last formed
    refine ⟨fun hbusy hagree hcomplete => ?forms, fun hbusy hdis => ?disagrees, fun hbusy hagree hmissing => ?waits,
      fun epoch offset agree h => if_pos (setForm_stale_iff.mpr h), fun hbusy => if_neg (Bool.eq_false_iff.mp (congrArg not hbusy)),
      fun hidle => if_pos (congrArg not hidle), fun hbusy hlate => if_pos ⟨hbusy, hlate⟩, fun h => ?early⟩
    case forms =>
      refine (if_neg (Bool.eq_false_iff.mp (setForm_current (agree := true) hbusy hagree))).trans ?_
      exact (if_neg Bool.false_ne_true).trans (if_neg (Bool.eq_false_iff.mp (congrArg not hcomplete)))
    case disagrees => exact (if_neg (Bool.eq_false_iff.mp (setForm_current (agree := false) hbusy hdis))).trans (if_pos rfl)
    case waits =>
      refine (if_neg (Bool.eq_false_iff.mp (setForm_current (agree := true) hbusy hagree))).trans ?_
      exact (if_neg Bool.false_ne_true).trans (if_pos (congrArg not hmissing))
    case early =>
      refine if_neg fun ⟨hbusy, hlate⟩ => ?_
      exact h.elim (fun hidle => Bool.eq_false_iff.mp hidle hbusy) (Nat.not_lt.mpr hlate)

end Sys2Proof.Machine
end

section
/-! PROOFS. The conservation monitors' words and the address filter (15 R347 to R350; 19 R412): O34. -/

namespace Sys2Proof.Machine

section
variable {s : State} {sa : BitVec 5} {k : BitVec 2}

theorem execMonset_checked (h : s.core.ctx.nomFault (s.reg sa) = none) :
    execMonset sa k s = .next (s.push 1 (.monSet k (s.reg sa))).retire := by
  simp only [execMonset, h]

theorem execMonset_refused {cause : BitVec 8} (h : s.core.ctx.nomFault (s.reg sa) = some cause) :
    execMonset sa k s = s.wordFault cause (s.reg sa) := by
  simp only [execMonset, h]

theorem execMonref_checked (href : refOk (s.reg sa) = true) (hbound : boundOk (s.reg (sa + 1)) = true) :
    execMonref sa k s = .next (s.push 1 (.monRef k (s.reg sa) (s.reg (sa + 1)))).retire :=
  (if_neg (Bool.eq_false_iff.mp (congrArg not href))).trans (if_neg (Bool.eq_false_iff.mp (congrArg not hbound)))

theorem execMonref_refused (href : refOk (s.reg sa) = false) : execMonref sa k s = s.wordFault causeFieldRange (s.reg sa) :=
  if_pos (congrArg not href)

end

/-- R412: the granule that an insertion takes in a cycle of its hold. -/
def State.insertGranule (s : State) (space : BitVec 1) (w : Wait) : State :=
  s.push 1 (.wfilt false (granuleBits (granuleKey (space == 1) (w.value + 256 * w.progress))))

theorem State.insertGranule_first (s : State) (space : BitVec 1) (a : Nat) :
    s.insertGranule space ⟨.wfilt, none, [], 0, a⟩ = s.push 1 (.wfilt false (granuleBits (granuleKey (space == 1) a))) := by
  rw [State.insertGranule, Nat.mul_zero, Nat.add_zero]

section
variable {s : State} {sa : BitVec 5} {n : BitVec 8} {space : BitVec 1} {w : Wait}
  (hw : (s.waiting .wfilt).getD ⟨.wfilt, none, [], 0, (s.reg sa).toNat⟩ = w)
include hw

theorem execWfiltIns_ends (h : w.progress = n.toNat) : execWfiltIns sa n space s = .next (s.insertGranule space w).retire := by
  subst hw
  exact if_pos h

theorem execWfiltIns_goesOn (h : w.progress ≠ n.toNat) :
    execWfiltIns sa n space s = .next ((s.insertGranule space w).holdOn { w with progress := w.progress + 1 }) := by
  subst hw
  exact if_neg h

end

/-- Settles O34: the monitor words by what their checks answer, an insertion by whether the granule it takes is its last. -/
theorem monitorAndFilterWords : Obligations.MonitorAndFilterWords := by
  intro s sd sa k part clr space n v
  refine ⟨execMonset_checked, fun _ => execMonset_refused, execMonref_checked, execMonref_refused, rfl, rfl, rfl, rfl,
    fun hidle => ?begins, fun j x hheld => ?goesOn⟩
  case begins =>
    have hw := congrArg (·.getD ⟨.wfilt, none, [], 0, v.toNat⟩) (State.waiting_idle (k := .wfilt) hidle)
    have hfirst := s.insertGranule_first space v.toNat
    refine ⟨fun hlast => ?_, fun hmore => ?_⟩
    · rw [← hfirst]
      exact execWfiltIns_ends hw (congrArg BitVec.toNat hlast).symm
    · rw [← hfirst]
      exact execWfiltIns_goesOn hw fun h => hmore (BitVec.eq_of_toNat_eq h.symm)
  case goesOn =>
    have hw := congrArg (·.getD ⟨.wfilt, none, [], 0, v.toNat⟩) (State.waiting_same hheld rfl)
    exact ⟨execWfiltIns_ends hw, execWfiltIns_goesOn hw⟩

end Sys2Proof.Machine
end

section
/-! PROOFS. What a trap keeps of the core it strikes: what a trace record leaves, what firmware's accesses leave, and what a task's end by
fault leaves (17 R377, R386, R388; 19 R413). -/

namespace Sys2Proof.Machine

/-! A trace record of the focus core (R413) -/

theorem State.onCore_focus (s : State) (f : Core → Core) : s.onCore s.core.cid f = { s with core := f s.core } := if_pos rfl

/-- R413: a record goes to the die's FIFO, or is counted as lost in the core's debug registers. -/
theorem State.traceOn_frame (s : State) (kind : Nat) (a b : Word) :
    let t := s.traceOn s.core.cid kind a b
    t.core.cid = s.core.cid ∧ t.core.ctx = s.core.ctx ∧ t.core.pool = s.core.pool ∧ t.others = s.others ∧ t.mem = s.mem := by
  unfold State.traceOn
  dsimp only
  split
  · exact ⟨rfl, rfl, rfl, rfl, rfl⟩
  · rw [State.onCore_focus]
    exact ⟨rfl, rfl, rfl, rfl, rfl⟩

/-! Firmware's accesses leave the cores (R239, R246, R371, R424) -/

@[simp] theorem State.sectorRead_core (s : State) (pas : List Nat) : (s.sectorRead pas).1.core = s.core := by
  unfold State.sectorRead
  split
  · rfl
  · split
    · rfl
    · dsimp only
      split <;> rfl

@[simp] theorem State.homeNat_core (s : State) (pa n : Nat) : (s.homeNat pa n).1.core = s.core := s.sectorRead_core _

theorem State.walkFrom_core (asid va kind : Nat) (sys : Bool) (l : List (Nat × Nat × Nat × Nat)) (s : State) (t : Nat) :
    (State.walkFrom asid va kind sys l s t).1.core = s.core := by
  induction l generalizing s t with
  | nil => rfl
  | cons x r ih =>
    obtain ⟨lvl, lo, n, page⟩ := x
    unfold State.walkFrom
    dsimp only
    have hread := s.homeNat_core (t + 8 * (va / 2 ^ lo % 2 ^ n)) 8
    split
    · rfl
    · split
      · next h => rwa [h] at hread
      · next h =>
        rw [h] at hread
        split
        · exact hread
        · exact (ih _ _).trans hread
        · exact hread

@[simp] theorem State.walk_core (s : State) (root asid va kind : Nat) (sys : Bool) : (s.walk root asid va kind sys).1.core = s.core := by
  unfold State.walk
  split
  · rfl
  · exact State.walkFrom_core _ _ _ _ _ _ _

@[simp] theorem State.vaWrite_core (s : State) (asid va : Nat) (bs : List Byte) : (s.vaWrite asid va bs).core = s.core := by
  refine List.foldlRecOn (motive := fun t : State => t.core = s.core) _ _ rfl fun t ht p _ => ?_
  have hwalk := (t.walk_core (t.tableRoot asid) asid (va + p.1) permW true).trans ht
  split
  · next h =>
    rw [h] at hwalk
    split
    · exact hwalk
    · exact (State.sectorWrite_core _ _).trans hwalk
  · next h => rwa [h] at hwalk

@[simp] theorem State.recordWrite_core (s : State) (l : Launch) (off : Nat) (bs : List Byte) : (s.recordWrite l off bs).core = s.core :=
  s.vaWrite_core _ _ _

@[simp] theorem State.mapWrite_core (s : State) (cid state : Nat) (l : Launch) : (s.mapWrite cid state l).core = s.core :=
  s.sectorWrite_core _

/-! The launch controller's aborts (R338) -/

/-- What the launch controller's aborts leave of a core: its number, its pool, and its context but for groups and counts of requests. -/
def Core.unaborted (k : Core) : Nat × Cells Byte × Ctx :=
  (k.cid, k.pool, { k.ctx with ackc := Vector.replicate 4 0, groups := Vector.replicate 8 .zero })

theorem Core.cid_of_unaborted {k j : Core} (h : k.unaborted = j.unaborted) : k.cid = j.cid := congrArg Prod.fst h
theorem Core.pool_of_unaborted {k j : Core} (h : k.unaborted = j.unaborted) : k.pool = j.pool := congrArg (·.2.1) h
theorem Core.live_of_unaborted {k j : Core} (h : k.unaborted = j.unaborted) : k.ctx.live = j.ctx.live := congrArg (·.2.2.live) h
theorem Core.trap_of_unaborted {k j : Core} (h : k.unaborted = j.unaborted) : k.ctx.trap = j.ctx.trap := congrArg (·.2.2.trap) h
theorem Core.replay_of_unaborted {k j : Core} (h : k.unaborted = j.unaborted) : k.ctx.replay = j.ctx.replay := congrArg (·.2.2.replay) h
theorem Core.regs_of_unaborted {k j : Core} (h : k.unaborted = j.unaborted) : k.ctx.regs = j.ctx.regs := congrArg (·.2.2.regs) h

theorem Core.onCtx_unaborted (k : Core) (lid : Nat) {f : Ctx → Ctx}
    (h : ∀ c, f c = { c with ackc := (f c).ackc, groups := (f c).groups }) :
    (k.onCtx lid f).unaborted = k.unaborted := by
  unfold Core.onCtx
  split
  · unfold Core.unaborted
    dsimp only
    rw [h k.ctx]
  · split
    · split <;> rfl
    · rfl

theorem State.onCore_onCtx_unaborted {s : State} {cid : Nat} (hc : s.core.cid = cid) (lid : Nat) {f : Ctx → Ctx}
    (h : ∀ c, f c = { c with ackc := (f c).ackc, groups := (f c).groups }) :
    (s.onCore cid fun k => k.onCtx lid f).core.unaborted = s.core.unaborted := by
  rw [State.onCore, if_pos hc]
  exact s.core.onCtx_unaborted lid h

@[simp] theorem State.carry_core (s : State) (link : Nat) : (s.carry link).core = s.core := by
  unfold State.carry
  dsimp only
  split
  · rfl
  · exact List.foldlRecOn (motive := fun t : State => t.core = s.core) _ _ rfl fun _ ht _ _ => ht

@[simp] theorem State.leaves_core (s : State) (r : Req) : (s.leaves r).core = s.core := by
  unfold State.leaves
  split
  · dsimp only
    unfold State.sendFlit
    split
    · rfl
    · exact State.carry_core _ _
  · rfl

/-- R338: an abort packet is a request of the focus core's own. -/
theorem State.sendReq_unaborted (s : State) (r : Req) (hr : r.cid = s.core.cid) :
    (s.sendReq r).core.unaborted = s.core.unaborted := by
  unfold State.sendReq
  extract_lets r' s0 sent routed left timed
  have hrouted : routed.core = s.core := by
    unfold routed
    split <;> rfl
  have hleft : left.core = s.core := by
    unfold left
    split
    · exact hrouted
    · exact (routed.leaves_core r').trans hrouted
  have htimed : timed.core = s.core := by
    unfold timed
    split <;> exact hleft
  split
  · rfl
  · split
    · refine (State.onCore_onCtx_unaborted ((congrArg Core.cid htimed).trans hr.symm) _ ?_).trans (congrArg Core.unaborted htimed)
      exact fun _ => rfl
    · exact congrArg Core.unaborted htimed

theorem State.ctrlAborts_unaborted (s : State) (lid : Nat) : (s.ctrlAborts s.core.cid lid).core.unaborted = s.core.unaborted := by
  unfold State.ctrlAborts
  split
  · rfl
  · next c _ =>
    refine List.foldlRecOn (motive := fun t : State => t.core.unaborted = s.core.unaborted) _ _ rfl fun t ht x _ => ?_
    have hsent : (x.1.sites.foldl (fun u st => u.sendReq (c.groupPacket s.core.cid x.2 false st)) t).core.unaborted = s.core.unaborted :=
      List.foldlRecOn (motive := fun u : State => u.core.unaborted = s.core.unaborted) _ _ ht fun u hu _ _ =>
        (u.sendReq_unaborted _ (Core.cid_of_unaborted hu).symm).trans hu
    refine (State.onCore_onCtx_unaborted (Core.cid_of_unaborted hsent) lid ?_).trans hsent
    exact fun _ => rfl

/-! A task's end by fault (R386, R388) -/

/-- R386: the task is no longer live; its completion entry and its groups aside, its core is as its frame was captured. -/
theorem State.faultEnd_unaborted (s : State) :
    s.faultEnd.core.unaborted = ({ s.core with ctx := { s.core.ctx with live := false } } : Core).unaborted := by
  unfold State.faultEnd
  extract_lets ended c bs task written
  have hwritten : written.core = ended.core := by
    unfold written
    split
    · exact (State.mapWrite_core _ _ _ _).trans (State.recordWrite_core _ _ _ _)
    · rfl
  exact (written.ctrlAborts_unaborted c.lid).trans ((congrArg Core.unaborted hwritten).trans rfl)

end Sys2Proof.Machine
end

section
/-! PROOFS. Traps: what taking one saves and where the handler begins, faults of a word, the words that work on traps, and the return
(17 R373 to R385; 19 R406, R409): O35, O36, O37 and O38. -/

namespace Sys2Proof.Machine

/-! Taking a trap (R377) -/

section
variable (s : State) (tc tv : Word) (pc : BitVec 13) (target : Option (BitVec 13)) (wait : Option Wait)

/-- R377: the context of the core whose frame a trap has captured. -/
def Ctx.trapped (c : Ctx) (tc tv : Word) (pc : BitVec 13) (target : Option (BitVec 13)) (wait : Option Wait) : Ctx :=
  { c.capture wait with
    trap := { c.trap with cause := tc, val := tv, pc := tpcWord pc target, cyc := c.cyc, idleRem := c.sq.idle, reissue := wait.isSome }
    sq := { c.sq with delay := false, target := none, second := false, idle := 0, wait := none, overrun := false, idleEnd := none } }

/-- R377: the frame is captured in the context; the rest of the machine, a trace record aside, is left alone. -/
theorem State.trapFrame_frame :
    let t := s.trapFrame tc tv pc target wait
    t.core.cid = s.core.cid ∧ t.core.ctx = s.core.ctx.trapped tc tv pc target wait ∧ t.core.pool = s.core.pool ∧
      t.others = s.others ∧ t.mem = s.mem := by
  obtain ⟨hcid, hctx, hpool, hothers, hmem⟩ := s.traceOn_frame (if wbits tc 0 8 = 0x28 then 3 else 0) tc tv
  exact ⟨hcid, congrArg (fun c : Ctx => c.trapped tc tv pc target wait) hctx, hpool, hothers, hmem⟩

/-- R377: TVEC enables a handler and none runs. -/
def TrapRegs.enters (t : TrapRegs) : Prop := wbits t.vec 63 1 = 1 ∧ t.inh = false

theorem TrapRegs.enters_iff (t : TrapRegs) : (wbits t.vec 63 1 == 1 && !t.inh) = true ↔ t.enters := by
  simp [TrapRegs.enters]

/-- R377: the context in which a handler begins. -/
def Ctx.handling (c : Ctx) (vec : Word) : Ctx :=
  { c with trap := { c.trap with inh := true }, sq := { c.sq with pc := BitVec.ofNat 13 (wbits vec 0 13), pause := 8 } }

/-- R377, R408: the cycle ends with the trap; `ended` says that the task has. -/
def State.trapTaken (s : State) (ended : Bool) : State :=
  { s with phase := .issue, judged := [], core := { s.core with dbg := s.core.dbg.trapEnds ended } }

theorem State.takeTrap_enters (h : s.core.ctx.trap.enters) : s.takeTrap tc tv pc target wait =
    ((s.trapFrame tc tv pc target wait).ctx (·.handling s.core.ctx.trap.vec)).trapTaken false := by
  unfold State.takeTrap
  simp only [(TrapRegs.enters_iff _).mpr h, if_true]
  rfl

theorem State.takeTrap_faults (h : ¬s.core.ctx.trap.enters) : s.takeTrap tc tv pc target wait =
    (s.trapFrame tc tv pc target wait).faultEnd.trapTaken true := by
  unfold State.takeTrap
  simp only [Bool.eq_false_iff.mpr (mt (TrapRegs.enters_iff _).mp h)]
  rfl

/-- R377: where a handler begins; the pool, the other cores and memory are left alone. -/
theorem State.takeTrap_handling (h : s.core.ctx.trap.enters) :
    let t := s.takeTrap tc tv pc target wait
    t.core.ctx = (s.core.ctx.trapped tc tv pc target wait).handling s.core.ctx.trap.vec ∧ t.core.pool = s.core.pool ∧
      t.others = s.others ∧ t.mem = s.mem := by
  obtain ⟨-, hctx, hpool, hothers, hmem⟩ := s.trapFrame_frame tc tv pc target wait
  rw [State.takeTrap_enters _ _ _ _ _ _ h]
  generalize s.trapFrame tc tv pc target wait = f at hctx hpool hothers hmem
  exact ⟨congrArg (Ctx.handling · s.core.ctx.trap.vec) hctx, hpool, hothers, hmem⟩

/-- R377, R386: a trap that no handler takes leaves the captured frame, the task no longer live. -/
theorem State.takeTrap_ending (h : ¬s.core.ctx.trap.enters) :
    let t := s.takeTrap tc tv pc target wait
    t.core.ctx.live = false ∧ t.core.ctx.trap = (s.core.ctx.trapped tc tv pc target wait).trap ∧
      t.core.ctx.replay = s.core.ctx.captured ∧ t.core.ctx.regs = s.core.ctx.regs ∧ t.core.pool = s.core.pool := by
  obtain ⟨-, hctx, hpool, -, -⟩ := s.trapFrame_frame tc tv pc target wait
  rw [State.takeTrap_faults _ _ _ _ _ _ h]
  generalize s.trapFrame tc tv pc target wait = f at hctx hpool
  have hend := f.faultEnd_unaborted
  exact ⟨Core.live_of_unaborted hend, (Core.trap_of_unaborted hend).trans (congrArg Ctx.trap hctx :),
    (Core.replay_of_unaborted hend).trans (congrArg Ctx.replay hctx :), (Core.regs_of_unaborted hend).trans (congrArg Ctx.regs hctx :),
    (Core.pool_of_unaborted hend).trans hpool⟩

/-- R375, R377: whether a handler takes the trap or not, cause, value and resume point stand in the trap CSRs. -/
theorem State.takeTrap_csrs :
    (s.takeTrap tc tv pc target wait).core.ctx.trap.cause = tc ∧ (s.takeTrap tc tv pc target wait).core.ctx.trap.val = tv ∧
      (s.takeTrap tc tv pc target wait).core.ctx.trap.pc = tpcWord pc target := by
  by_cases h : s.core.ctx.trap.enters
  · rw [(s.takeTrap_handling tc tv pc target wait h).1]
    exact ⟨rfl, rfl, rfl⟩
  · rw [(s.takeTrap_ending tc tv pc target wait h).2.1]
    exact ⟨rfl, rfl, rfl⟩

end

/-- Settles O35: a handler begins in the captured context; without one the task's end by fault leaves the captured frame. -/
theorem takingATrapSavesAndEnters : Obligations.TakingATrapSavesAndEnters := by
  intro s tc tv pc target wait c t d
  refine ⟨fun h => ?handler, fun h => ?fault, rfl⟩
  case handler =>
    obtain ⟨hd, hpool, hothers, hmem⟩ := s.takeTrap_handling tc tv pc target wait h
    rw [show d = _ from hd, hpool, hothers, hmem]
    refine ⟨rfl, rfl, rfl, rfl, rfl, rfl, rfl, fun u => ?queue, fun a ha => ?aside, ?frame⟩
    case queue => exact congrArg Queue.wait (vat_replicate 7 Queue.empty u.num)
    case aside =>
      obtain rfl := Option.some.inj ha
      exact ⟨rfl, rfl, rfl⟩
    case frame => exact ⟨rfl, rfl, rfl, rfl, rfl, rfl, rfl, rfl, rfl, rfl, rfl, rfl, rfl, rfl, rfl, rfl, rfl, rfl⟩
  case fault =>
    obtain ⟨hlive, htrap, hreplay, hregs, hpool⟩ := s.takeTrap_ending tc tv pc target wait h
    rw [show d.trap = _ from htrap]
    exact ⟨hlive, rfl, rfl, rfl, hreplay, hregs, hpool⟩

/-! Faults of a word (R373, R375) -/

/-- R375: TCAUSE of a fault of the issuing word: UNIT 8, RQI 0x1F, no flag. -/
theorem toNat_tcause_word (cause : BitVec 8) : (tcause false false 0x1F 8 cause).toNat = 0x1F * 2 ^ 16 + 8 * 2 ^ 8 + cause.toNat := by
  have := cause.isLt
  simp [tcause]
  omega

/-- Settles O36: by what taking a trap leaves in the trap CSRs. -/
theorem wordFaultsTrapAtTheirWord : Obligations.WordFaultsTrapAtTheirWord := by
  intro s cause tv
  obtain ⟨hcause, hval, hpc⟩ := s.takeTrap_csrs (tcause false false 0x1F 8 cause) tv s.core.ctx.sq.pc s.core.ctx.sq.target none
  exact ⟨_, rfl, (congrArg BitVec.toNat hcause).trans (toNat_tcause_word cause), hval, hpc, rfl⟩

/-! The words that work on traps (R383, R384, R409) -/

section
variable {s : State} {i : BitVec 5}

theorem execRqrd_entry {e : Entry} (h : s.core.ctx.replay[i.toNat]? = some e) (sd w : BitVec 5) :
    execRqrd sd i w s = .next (s.push 1 (.sreg sd (s.core.ctx.replayWord e w.toNat))).retire := by
  unfold execRqrd
  dsimp only
  rw [h]
  rfl

theorem execRqrd_beyond (h : s.core.ctx.replay[i.toNat]? = none) (sd w : BitVec 5) :
    execRqrd sd i w s = .next (s.push 1 (.sreg sd 0)).retire := by
  unfold execRqrd
  dsimp only
  rw [h]
  rfl

end

section
variable {s : State}

/-- R385: `rett` in progress `n`: 0 until the handler's work is done, then the cycles held. -/
def State.rettHold (s : State) (n : Nat) : Out := .next (s.holdOn ⟨.rett, none, [], n, 0⟩)

theorem execRett_outside (hidle : s.core.ctx.sq.wait = none) (h : s.core.ctx.trap.inh = false) :
    execRett s = s.wordFault causeFieldRange 0 := by
  unfold execRett
  rw [State.waiting_idle hidle]
  exact if_pos (congrArg not h)

/-- R148, R385: the first cycle discards the amendments that the handler has left, and looks at what its work leaves. -/
theorem execRett_first (hidle : s.core.ctx.sq.wait = none) (h : s.core.ctx.trap.inh = true) :
    let t := s.ctx fun c => { c with amends := Vector.replicate 6 [] }
    execRett s = if t.core.ctx.drainedMask 0xFF ∧ t.core.ctx.settledWords then t.rettHold 1 else t.rettHold 0 := by
  intro t
  unfold execRett
  rw [State.waiting_idle hidle]
  exact if_neg (Bool.eq_false_iff.mp (congrArg not h))

section
variable {w : Wait} (hw : s.core.ctx.sq.wait = some w) (hk : w.kind = .rett)
include hw hk

theorem execRett_holds (hlo : 0 < w.progress) (hhi : w.progress < 8) : execRett s = s.rettHold (w.progress + 1) := by
  unfold execRett
  rw [State.waiting_same hw hk]
  exact (if_neg (Nat.not_le.mpr hhi)).trans (if_pos hlo)

theorem execRett_resumes (h : 8 ≤ w.progress) : execRett s = .next s.resume := by
  unfold execRett
  rw [State.waiting_same hw hk]
  exact if_pos h

end

end

/-- Settles O37: each word by the one test of its condition, `rett` by the hold it is in. -/
theorem trapWordsRaiseReadAndReturn : Obligations.TrapWordsRaiseReadAndReturn := by
  intro s sd sa i w code k c hold clear
  refine ⟨fun hcode => if_neg (Bool.eq_false_iff.mp (congrArg not hcode)), fun hcode => if_pos (congrArg not hcode),
    fun e he => execRqrd_entry he sd w, fun he => execRqrd_beyond he sd w, rfl, execRett_outside, fun hidle hinh hdone => ?drained,
    fun hidle hinh hbusy => ?draining, fun n v hheld => ⟨?holds, ?resumes⟩, fun hoff => ?traps, fun hon => if_pos hon⟩
  case drained => exact (execRett_first hidle hinh).trans (if_pos (Bool.and_eq_true_iff.mp hdone))
  case draining => exact (execRett_first hidle hinh).trans (if_neg (mt Bool.and_eq_true_iff.mpr (Bool.eq_false_iff.mp hbusy)))
  case holds => exact execRett_holds hheld rfl
  case resumes => exact execRett_resumes hheld rfl
  case traps => exact if_neg (Bool.eq_false_iff.mp hoff)

/-! The return (R385) -/

/-- R378: with no fault to report, what has been put back stands. -/
theorem State.faultTrap_none {s : State} (hfaults : s.core.ctx.faults = []) (hwheel : s.core.ctx.wheel.faulted = false) :
    s.faultTrap = s := by
  unfold State.faultTrap
  dsimp only
  rw [hfaults, hwheel]
  rfl

/-- R385: the task's context before what was set aside is restored: CYC, the resume point with its pending branch, and IDLEREM. -/
def Ctx.resumed (c : Ctx) : Ctx :=
  let bpend := wbits c.trap.pc 31 1 == 1
  { c with
    cyc := c.trap.cyc, replay := [], aside := none, trap := { c.trap with inh := false }
    sq := { c.sq with
      pc := BitVec.ofNat 13 (wbits c.trap.pc 0 13), delay := bpend, second := false, pause := 0, idle := c.trap.idleRem, wait := none
      target := if bpend then some (BitVec.ofNat 13 (wbits c.trap.pc 16 13)) else none } }

/-- R385: with nothing to replay and no fault, the return restores the resume point and what was set aside. -/
theorem State.resume_plain {s : State} {a : Aside} (hreplay : s.core.ctx.replay = []) (haside : s.core.ctx.aside = some a)
    (hfaults : s.core.ctx.faults = []) : s.resume = s.ctx fun c => c.resumed.restore a := by
  unfold State.resume
  dsimp only
  rw [hreplay, haside]
  exact State.faultTrap_none hfaults rfl

/-- Settles O38: by the resumed context, and whether a branch was pending. -/
theorem resumingRestoresTheResumePoint : Obligations.ResumingRestoresTheResumePoint := by
  intro s a hreplay haside hfaults t d pending
  have hs := State.resume_plain hreplay haside hfaults
  have hd : d = s.core.ctx.resumed.restore a := congrArg (·.core.ctx) hs
  rw [hd, hs]
  refine ⟨rfl, rfl, rfl, rfl, rfl, rfl, fun hp => ?pending, fun hp => ?plain, rfl, rfl, rfl, rfl, rfl, rfl, rfl⟩
  case pending => exact ⟨beq_iff_eq.mpr hp, if_pos (beq_iff_eq.mpr hp)⟩
  case plain => exact ⟨beq_eq_false_iff_ne.mpr hp, if_neg (mt beq_iff_eq.mp hp)⟩

end Sys2Proof.Machine
end

section
/-! PROOFS. Launches: records submitted, launches admitted and started, `kend`, and the word `launch` with its answer (16 R355 to R370):
O45. -/

namespace Sys2Proof.Machine

/-! Submission (R355 to R357) -/

/-- R356, R357: a launch as it joins the launches: its id, its shape and its tasks, none of which has started. -/
def State.submitted (s : State) (l : Launch) : Launch :=
  { l with
    lid := l.anchor * 2 ^ 23 + (s.die l.anchor).seqNo, die := l.anchor
    shape := ((s.imageOf l).bind fun i => i.shapeFor l.rows l.cols).getD 0
    tasks := (s.regionCores l).map fun x => ⟨x.1, x.2, .notStarted, none⟩ }

/-- R357, R358: the launches with one more, its header written and every launch that waits tried. -/
def State.join (s : State) (l : Launch) : State :=
  let v := s.onDie l.anchor fun d => { d with seqNo := ((s.die l.anchor).seqNo + 1) % 2 ^ 23 }
  (({ v with launches := v.launches ++ [s.submitted l] } : State).headerWrite (s.submitted l) 0 0).poke

section
variable {s u : State} {asid va cls : Nat} {job : Option Nat} {graph : Option (Nat × Nat)} {bs : List Byte}

theorem State.submit_unread (h : s.vaAccess asid va 512 = (u, none)) : s.submit asid va cls job graph = (u, .error 8) := by
  simp only [State.submit, h]

variable (h : s.vaAccess asid va 512 = (u, some bs))
include h

theorem State.submit_refused {reason : Nat} (hr : u.refusal (launchOfRecord bs asid cls job graph u.tick) = some reason) :
    s.submit asid va cls job graph = (u.headerWrite (launchOfRecord bs asid cls job graph u.tick) 3 reason, .error reason) := by
  simp only [State.submit, h, hr]

theorem State.submit_joins (hr : u.refusal (launchOfRecord bs asid cls job graph u.tick) = none) :
    (s.submit asid va cls job graph).1 = u.join (launchOfRecord bs asid cls job graph u.tick) := by
  simp only [State.submit, h, hr]
  rfl

end

section
variable {s : State} {asid va cls die : Nat}

/-- R355, R357: the record's origin, where it can be read, lies on another die. -/
def State.anchoredElsewhere (s : State) (asid va die : Nat) : Bool :=
  (s.vaNat asid (va + 8) 4).any fun w =>
    decide (w % 2 ^ 16 < 200) && decide (w / 2 ^ 16 < 200) && cidAt (w % 2 ^ 16) (w / 2 ^ 16) / 128 != die

theorem execLaunchSubmit_elsewhere (h : s.anchoredElsewhere asid va die = true) : execLaunchSubmit asid va cls die s = .next s := if_pos h

theorem execLaunchSubmit_here (h : s.anchoredElsewhere asid va die = false) :
    execLaunchSubmit asid va cls die s = .next (s.submit asid va cls none none).1 :=
  if_neg (Bool.eq_false_iff.mp h)

end

/-! Admission (R358, R359) -/

section
variable {s : State} {lid : Nat} {l : Launch} {i : Image}

/-- R358: handles, cores and segments are free for a launch, and none is ahead that it would hold up. -/
def State.mayBeSeated (s : State) (l : Launch) (i : Image) (lid : Nat) : Bool :=
  (i.handles.all fun x => (s.handle x.1 x.2).owner == none || (s.handle x.1 x.2).owner == some lid) && s.coresReady l
    && s.segsFit (s.segmentPlan l i) && s.noneAhead l i

variable (hl : s.launchOf lid = some l) (hi : s.imageOf l = some i)
include hl hi

theorem execLaunchAdmit_waiting (h : l.admitted = false) :
    execLaunchAdmit lid s = if s.mayBeSeated l i lid then .next (s.seatLaunch l i) else .next (s.retryAdmit lid) := by
  simp only [execLaunchAdmit, hl, hi, h]
  rfl

theorem execLaunchAdmit_seated (h : l.admitted = true) (h0 : l.t0 = 0) :
    execLaunchAdmit lid s = if s.allResident l then .next (s.startTasks l) else .next s := by
  simp only [execLaunchAdmit, hl, hi, h, h0]
  rfl

/-- R364: a launch that has started and has no task out has nothing to wait for. -/
theorem execLaunchAdmit_started (h : l.admitted = true) (h0 : l.t0 ≠ 0) (hout : (s.saves.filter fun x => x.ctx.lid == lid) = []) :
    execLaunchAdmit lid s = .next s := by
  simp [execLaunchAdmit, hl, hi, h, h0, hout]

end

/-! A task's start (R359) -/

section
variable {s : State} {lid cid : Nat} {l : Launch}

theorem execTaskStart_starts (hl : s.launchOf lid = some l) (hheld : (s.coreOf cid).ctx.held = true)
    (hlid : (s.coreOf cid).ctx.lid = lid) (hlive : (s.coreOf cid).ctx.live = false)
    (htask : (l.tasks.any fun t => t.cid == cid && t.state == .notStarted) = true) :
    let t := ((s.syncClock cid false).onCore cid fun k => { k with ctx := { k.ctx with live := true } }).onTask lid cid fun t =>
      { t with state := .running }
    execTaskStart lid cid s = .next (if (t.coreOf cid).atBkcyc then (t.focus cid).stopHere 1 else t) :=
  if_pos (by simp [hheld, hlid, hlive, hl, htask])

end

/-! The end of a task (R370) -/

section
variable {s : State} {sa : BitVec 5}

/-- R370: the engines are drained and no request is out. -/
def Ctx.quiet (c : Ctx) : Prop := (c.drainedMask 0xFF && c.ackc.toList.all (· == 0)) = true

theorem execKend_first (hidle : s.core.ctx.sq.wait = none) :
    execKend sa s = s.kendOn ⟨.kend, none, [], 0, (s.reg sa).toNat⟩ := by
  rw [execKend, State.waiting_idle hidle]
  rfl

theorem State.kendOn_busy (h : ¬s.core.ctx.quiet) (exit : Nat) :
    s.kendOn ⟨.kend, none, [], 0, exit⟩ = .next (s.holdOn ⟨.kend, none, [], 0, exit⟩) := by
  unfold State.kendOn
  exact (if_pos rfl).trans (if_neg h)

theorem State.kendOn_quiet (h : s.core.ctx.quiet) (exit : Word) :
    let t := (s.ctx (·.abortOpen)).ctrlAborts s.core.cid s.core.ctx.lid
    s.kendOn ⟨.kend, none, [], 0, exit.toNat⟩ =
      if t.core.ctx.aborting then .next (t.holdOn ⟨.kend, none, [], 1, exit.toNat⟩) else .next (t.endTask exit) := by
  unfold State.kendOn
  refine (if_pos rfl).trans ((if_pos h).trans ?_)
  dsimp only
  rw [BitVec.ofNat_toNat, BitVec.setWidth_eq]

end

/-! The word `launch` (R369) -/

section
variable {s : State} {sa : BitVec 5} {addr : BitVec 15} (hsecond : s.core.ctx.sq.second = true)
include hsecond

theorem execLaunch_outside (h : admitsAll s.core.ctx.misc.part .remote (16 * addr.toNat) 16 = false) :
    execLaunch sa addr s = s.wordFault causePoolBound (BitVec.ofNat 64 (16 * addr.toNat)) :=
  (State.wide_issues hsecond _).trans (if_pos (congrArg not h))

/-- R369: there is room for one more request. -/
def State.launchRoom (s : State) : Prop := s.core.outstanding Ctx.launches < 8 ∧ s.core.ctx.ackRoom = true

omit hsecond in
theorem State.launchRoom_iff : (8 ≤ s.core.outstanding Ctx.launches ∨ (!s.core.ctx.ackRoom) = true) ↔ ¬s.launchRoom := by
  rw [State.launchRoom, not_and_or, Nat.not_lt, Bool.not_eq_true, Bool.not_eq_true']

variable (hidle : s.core.ctx.sq.wait = none) (hfits : admitsAll s.core.ctx.misc.part .remote (16 * addr.toNat) 16 = true)
include hidle hfits

theorem execLaunch_full (h : ¬s.launchRoom) : execLaunch sa addr s = .next (s.holdOn ⟨.full, none, [], 0, (s.reg sa).toNat⟩) := by
  refine (State.wide_issues hsecond _).trans ((if_neg (Bool.eq_false_iff.mp (congrArg not hfits))).trans ?_)
  rw [State.waiting_idle hidle]
  exact if_pos (State.launchRoom_iff.mpr h)

theorem execLaunch_sends (h : s.launchRoom) {l : Launch} (hl : s.launchOf s.core.ctx.lid = some l) :
    let t := s.ctx fun c => { c with launches := c.launches + 1 }
    execLaunch sa addr s = .next (t.sendReq { t.core.ctx.blankReq t.core.cid (.launch (s.reg sa).toNat (16 * addr.toNat)) with
      module := t.conn.modnum, scope := 1, job := l.job }).retireWide := by
  intro t
  have hjob : t.launchOf s.core.ctx.lid = some l := hl
  refine (State.wide_issues hsecond _).trans ((if_neg (Bool.eq_false_iff.mp (congrArg not hfits))).trans ?_)
  rw [State.waiting_idle hidle]
  refine (if_neg (not_not.mpr h ∘ State.launchRoom_iff.mp)).trans ?_
  dsimp only
  rw [hjob]
  rfl

end

section
variable {s : State} {id va a : Nat} {r : Req} {l : Launch} (hr : s.req id = some r) (hk : r.kind = .launch va a)
  (hl : s.launchOf r.lid = some l) (hg : l.graph = none)
include hr hk hl hg

theorem execLaunchRequestAccept_answers :
    execLaunchRequestAccept id s = .next ((s.submit r.asid va l.cls (some l.job) none).1.launchReply id
      (s.submit r.asid va l.cls (some l.job) none).2) := by
  simp only [execLaunchRequestAccept, hr, hk, hl, hg]

end

/-- Settles O45: a record by whether it can be read and what it is refused for, a launch by what it waits for, the words by the one test
of their condition. -/
theorem launchesAreSubmittedSeatedAndEnded : Obligations.LaunchesAreSubmittedSeatedAndEnded := by
  refine ⟨?submit, ?admission, ?start, ?kend, ?launch, ?accept⟩
  case submit =>
    intro s asid va cls die elsewhere
    refine ⟨execLaunchSubmit_elsewhere, fun u hhere hu => ?unread,
      fun u bs hhere hu => ⟨fun reason hr => ?refused, fun hr => ?joins⟩⟩
    all_goals refine (execLaunchSubmit_here hhere).trans (congrArg _ ?_)
    case unread => exact congrArg Prod.fst (State.submit_unread hu)
    case refused => exact congrArg Prod.fst (State.submit_refused hu hr)
    case joins => exact State.submit_joins hu hr
  case admission =>
    intro s lid l i hl hi ready
    refine ⟨fun hout hready => ?seats, fun hout hready => ?retries, fun hin h0 hres => ?starts, fun hin h0 hres => ?waits,
      execLaunchAdmit_started hl hi⟩
    case seats => exact (execLaunchAdmit_waiting hl hi hout).trans (if_pos hready)
    case retries => exact (execLaunchAdmit_waiting hl hi hout).trans (if_neg (Bool.eq_false_iff.mp hready))
    case starts => exact (execLaunchAdmit_seated hl hi hin h0).trans (if_pos hres)
    case waits => exact (execLaunchAdmit_seated hl hi hin h0).trans (if_neg (Bool.eq_false_iff.mp hres))
  case start =>
    intro s lid cid l hl k t hheld hlid hlive htask
    have hstart := execTaskStart_starts hl hheld hlid hlive htask
    exact ⟨fun hrun => hstart.trans (congrArg _ (if_neg (Bool.eq_false_iff.mp hrun))),
      fun hstop => hstart.trans (congrArg _ (if_pos hstop))⟩
  case kend =>
    intro s sa hidle c quiet t
    refine ⟨fun hquiet hdone => ?ends, fun hquiet hleft => ?aborts,
      fun hbusy => (execKend_first hidle).trans (State.kendOn_busy hbusy _)⟩
    all_goals refine (execKend_first hidle).trans ((State.kendOn_quiet hquiet _).trans ?_)
    case ends => exact if_neg (Bool.eq_false_iff.mp hdone)
    case aborts => exact if_pos hleft
  case launch =>
    intro s sa addr c room hsecond hidle
    exact ⟨execLaunch_outside hsecond, fun l hfits hroom hl => execLaunch_sends hsecond hidle hfits hroom hl,
      execLaunch_full hsecond hidle⟩
  case accept =>
    intro s id va a r l hr hk hl hg
    have answers := execLaunchRequestAccept_answers hr hk hl hg
    refine ⟨fun u lid hu => ?given, fun u reason hu => ?refused⟩
    all_goals
      rw [hu] at answers
      exact answers

end Sys2Proof.Machine
end

section
/-! PROOFS. Launches: swaps, full pre-emption, equivalence points, budgets, the close of a launch, and migration (16 R361 to R372;
13 R297): O46. -/

namespace Sys2Proof.Machine

/-! Swaps and full pre-emption (R362, R363) -/

section
variable {s : State} {cid : Nat}

/-- R362, R363: a core that may not swap now: a swap runs, or it is stopped. -/
def Core.busy (k : Core) : Prop := k.swap ≠ 0 ∨ k.dbg.stopped = true

theorem execSaggerSwap_alone (h : (s.coreOf cid).bank = none) : execSaggerSwap cid s = .next s := by
  simp only [execSaggerSwap, h]

section
variable {b : Ctx} (hb : (s.coreOf cid).bank = some b)
include hb

theorem execSaggerSwap_swaps (h : ¬(s.coreOf cid).busy) : execSaggerSwap cid s = .next (s.beginSwap cid b) := by
  unfold execSaggerSwap
  dsimp only
  rw [hb]
  exact if_neg h

theorem execSaggerSwap_waits (h : (s.coreOf cid).busy) : execSaggerSwap cid s = .next (s.at (s.tick + 1) (.saggerSwap cid)) := by
  unfold execSaggerSwap
  dsimp only
  rw [hb]
  exact if_pos h

end

/-- R363: the spill engine's accesses of a chunk are still to be served. -/
def Core.spilling (k : Core) (cid : Nat) : Bool := k.jobs.any fun j => j.what == .event (.fullPreemption cid)

theorem execFullPreemption_spilling (h : (s.coreOf cid).spilling cid = true) : execFullPreemption cid s = .next s := if_pos h

variable (hjobs : (s.coreOf cid).spilling cid = false)
include hjobs

theorem execFullPreemption_goesOn {lid : Option Nat} {n : Nat} (h : (s.coreOf cid).spill = some (lid, n)) :
    execFullPreemption cid s = .next (s.spillOn cid lid n) := by
  refine (if_neg (Bool.eq_false_iff.mp hjobs)).trans ?_
  rw [h]

variable (hspill : (s.coreOf cid).spill = none)
include hspill

theorem execFullPreemption_busy (h : (s.coreOf cid).busy) :
    execFullPreemption cid s = .next (s.at (s.tick + 1) (.fullPreemption cid)) := by
  refine (if_neg (Bool.eq_false_iff.mp hjobs)).trans ?_
  rw [hspill]
  exact if_pos h

variable (hfree : ¬(s.coreOf cid).busy)
include hfree

theorem execFullPreemption_drains (hdrain : (s.coreOf cid).drain = true) {b : Ctx} (hb : (s.coreOf cid).bank = some b) :
    execFullPreemption cid s = if s.quietVictim cid b.lid
      then .next (s.spillAsk cid none 0 (readAccs cid (spillCells b.misc.part 0)))
      else .next (s.at (s.tick + 1) (.fullPreemption cid)) := by
  refine (if_neg (Bool.eq_false_iff.mp hjobs)).trans ?_
  rw [hspill]
  refine (if_neg hfree).trans ((if_pos hdrain).trans ?_)
  rw [hb]

variable (hdrain : (s.coreOf cid).drain = false)
include hdrain

theorem execFullPreemption_takesIn (hlive : (s.coreOf cid).ctx.live = false) (h : (s.coreOf cid).free = true) :
    execFullPreemption cid s = .next (s.afterSpill cid) := by
  refine (if_neg (Bool.eq_false_iff.mp hjobs)).trans ?_
  rw [hspill]
  refine (if_neg hfree).trans ((if_neg (Bool.eq_false_iff.mp hdrain)).trans ((if_neg ?_).trans (if_pos h)))
  simp [hlive]

theorem execFullPreemption_victim (hlive : (s.coreOf cid).ctx.live = true) (hbank : (s.coreOf cid).bank = none) :
    execFullPreemption cid s = if s.holdsNoCircuit (s.coreOf cid).ctx.lid then .next (s.beginSwap cid Ctx.zero)
      else .next (s.at (s.tick + 1) (.fullPreemption cid)) := by
  refine (if_neg (Bool.eq_false_iff.mp hjobs)).trans ?_
  rw [hspill]
  refine (if_neg hfree).trans ((if_neg (Bool.eq_false_iff.mp hdrain)).trans (if_pos ?_))
  simp [hlive, hbank]

end

/-! Equivalence points (R365) -/

section
variable {s : State} {cid : Nat} {l : Launch}

/-- R365: the core may swap its task out once it stops, and is told to. -/
structure State.MayStop (s : State) (cid : Nat) (l : Launch) : Prop where
  launch : s.launchOf (s.coreOf cid).ctx.lid = some l
  live : (s.coreOf cid).ctx.live = true
  swap : (s.coreOf cid).swap = 0
  running : (s.coreOf cid).dbg.stopped = false
  alone : (s.coreOf cid).bank = none
  told : (s.coreOf cid).equiv = true ∨ l.stoppable = true

theorem State.MayStop.passes (h : s.MayStop cid l) : ¬(!(s.coreOf cid).ctx.live || (s.coreOf cid).swap != 0 ||
    (s.coreOf cid).dbg.stopped || (s.coreOf cid).bank.isSome || !((s.coreOf cid).equiv || l.stoppable)) = true := by
  rw [h.live, h.swap, h.running, h.alone, Bool.or_eq_true_iff.mpr h.told]
  exact Bool.false_ne_true

theorem execEquivalenceStop_circuits (h : s.MayStop cid l) (hlit : s.holdsNoCircuit l.lid = false) :
    execEquivalenceStop cid s = .next (s.onCore cid fun k => { k with equiv := true }) := by
  unfold execEquivalenceStop
  dsimp only
  rw [h.launch]
  exact (if_neg h.passes).trans (if_pos (congrArg not hlit))

variable (h : s.MayStop cid l) (hdark : s.holdsNoCircuit l.lid = true)
include h hdark

theorem execEquivalenceStop_notYet (hp : s.atPoint cid = none) :
    execEquivalenceStop cid s = .next (s.onCore cid fun k => { k with equiv := true }) := by
  unfold execEquivalenceStop
  dsimp only
  rw [h.launch]
  refine (if_neg h.passes).trans ((if_neg (Bool.eq_false_iff.mp (congrArg not hdark))).trans ?_)
  rw [hp]

theorem execEquivalenceStop_stops {e : Nat} (hp : s.atPoint cid = some e) :
    execEquivalenceStop cid s = .next (((s.onTask l.lid cid fun t => { t with point := some e }).beginSwap cid Ctx.zero).onCore cid
      fun k => { k with equiv := false }) := by
  unfold execEquivalenceStop
  dsimp only
  rw [h.launch]
  refine (if_neg h.passes).trans ((if_neg (Bool.eq_false_iff.mp (congrArg not hdark))).trans ?_)
  rw [hp]

end

/-! Budgets (R361) -/

/-- R361: a launch after a debit. -/
def Launch.debited (l : Launch) (cones : Nat) : Launch := { l with remain := l.remain - cones }

/-- R361: a launch whose budget has run out: the budget starts again and the class drops. -/
def Launch.exhausted (l : Launch) (cones tick : Nat) : Launch := { l.debited cones with
  remain := l.budget, cls := min 3 (l.cls + 1), drops := l.drops + 1, raised := if l.cls < 3 then some tick else l.raised }

/-- R360, R361: every context of a launch shows its class and what remains. -/
def State.tellBudget (s : State) (lid : Nat) (l : Launch) : State :=
  s.onContexts lid fun c => { c with misc := { c.misc with linfo := l.info, energy := l.energy } }

section
variable {s : State} {lid cones : Nat} {l : Launch} (hl : s.launchOf lid = some l) (hb : l.budget ≠ 0)
include hl hb

theorem execBudgetDebit_remains (h : (l.debited cones).remain ≠ 0) : execBudgetDebit lid cones s =
    .next (((s.onLaunch lid fun _ => l.debited cones).tellBudget lid (l.debited cones)).armDebit (l.debited cones)) := by
  have hout : ¬l.remain - cones = 0 := h
  simp only [execBudgetDebit, hl, if_neg hb, hout, false_and, if_false]
  rfl

theorem execBudgetDebit_exhausts (h : (l.debited cones).remain = 0) :
    let m := l.exhausted cones s.tick
    let t := ((s.onLaunch lid fun _ => m).headerWrite m (if m.t0 = 0 then 0 else 1) 0).tellBudget lid m
    execBudgetDebit lid cones s = .next ((if l.cls < 3 then t.pokeNext else t).armDebit m) := by
  have hout : l.remain - cones = 0 := h
  simp only [execBudgetDebit, hl, if_neg hb, hout, true_and, if_true, decide_eq_true_eq]
  rfl

end

/-! The close of a launch (R372) -/

section
variable {s : State} {lid : Nat} {l : Launch}

/-- R285, R296: a launch's handles torn, its segments free. -/
def State.freed (s : State) (lid : Nat) : State := (s.freeCircuits lid).freeSegments lid

/-- R338: a group of one of the launch's tasks is still aborted by the controller. -/
def State.stillAborting (t : State) (lid : Nat) (l : Launch) : Bool := l.tasks.any fun x => ((t.coreOf x.cid).ctxOf lid).any (·.aborting)

/-- R371, R372: die words and header written, the launch and its slices gone. -/
def State.forgotten (t : State) (lid : Nat) (l : Launch) : State :=
  let told := (t.recordWrite l (taskOffset (l.rows * l.cols)) (l.dies.flatMap fun d => t.dieEntry lid d)).headerWrite l 2 0
  { told with
    launches := told.launches.filter fun x => x.lid != lid
    dies := told.dies.map fun (d : Die) => { d with seqs := d.seqs.filter fun q => q.lid != lid } }

/-- R372: the cores of a launch released. -/
def State.released (t : State) (l : Launch) : State := l.tasks.foldl (fun s t => s.releaseCore l t.cid) t

variable (hl : s.launchOf lid = some l)
include hl

theorem execLaunchClose_running (h : l.over = false) : execLaunchClose lid s = .next s := by
  unfold execLaunchClose
  rw [hl]
  exact if_pos (congrArg not h)

variable (hover : l.over = true)
include hover

theorem execLaunchClose_aborting (h : (s.freed lid).stillAborting lid l = true) :
    execLaunchClose lid s = .next ((s.freed lid).at ((s.freed lid).tick + 1) (.launchClose lid)) := by
  unfold execLaunchClose
  rw [hl]
  exact (if_neg (Bool.eq_false_iff.mp (congrArg not hover))).trans (if_pos h)

theorem execLaunchClose_alone (h : (s.freed lid).stillAborting lid l = false) (hg : l.graph = none) :
    execLaunchClose lid s = .next (((s.freed lid).forgotten lid l).released l).poke := by
  unfold execLaunchClose
  rw [hl]
  refine (if_neg (Bool.eq_false_iff.mp (congrArg not hover))).trans ((if_neg (Bool.eq_false_iff.mp h)).trans ?_)
  dsimp only
  rw [hg]
  rfl

theorem execLaunchClose_node (h : (s.freed lid).stillAborting lid l = false) {g n : Nat} (hg : l.graph = some (g, n)) :
    execLaunchClose lid s = .next ((((s.freed lid).forgotten lid l).released l).post (.graphNodeComplete g n)).poke := by
  unfold execLaunchClose
  rw [hl]
  refine (if_neg (Bool.eq_false_iff.mp (congrArg not hover))).trans ((if_neg (Bool.eq_false_iff.mp h)).trans ?_)
  dsimp only
  rw [hg]
  rfl

end

/-! Migration (R366) -/

section
variable {s : State} {lid shape point : Nat} {l : Launch} {i : Image}

/-- R366: every task of the launch is swapped out. -/
def State.allOut (s : State) (lid : Nat) (l : Launch) : Bool :=
  l.tasks.all fun t => s.saves.any fun x => x.cid == t.cid && x.ctx.lid == lid

/-- R366: every task of the launch has stopped at one point. -/
def Launch.allAt (l : Launch) (point : Nat) : Bool := l.tasks.all fun t => t.point == some point

/-- R366: the extent of a shape of an image, the launch's own where the image names none. -/
def Image.extentOf (i : Image) (l : Launch) (shape : Nat) : Nat × Nat :=
  ((i.shapes[shape]?).map fun x => if i.shaped then (x.1, x.2.1) else (l.rows, l.cols)).getD (0, 0)

theorem Image.extentOf_shaped (hshaped : i.shaped = true) {rows cols : Nat} {ws : List (BitVec 32)}
    (hshape : i.shapes[shape]? = some (rows, cols, ws)) : i.extentOf l shape = (rows, cols) := by
  rw [Image.extentOf, hshape]
  exact if_pos hshaped

/-- R366: the origin that the controller picks for an extent, the launch's own where the pick does not fit. -/
def State.pickedOrigin (s : State) (l : Launch) (rows cols : Nat) : Nat × Nat :=
  let pick := Config.regionPick s.nextId l.col0 l.row0
  if pick.1 + cols ≤ 200 ∧ pick.2 + rows ≤ 200 then pick else (l.col0, l.row0)

theorem State.pickedOrigin_fits {rows cols : Nat} (hcol : l.col0 + cols ≤ 200) (hrow : l.row0 + rows ≤ 200) :
    (s.pickedOrigin l rows cols).1 + cols ≤ 200 ∧ (s.pickedOrigin l rows cols).2 + rows ≤ 200 := by
  unfold State.pickedOrigin
  dsimp only
  split
  · assumption
  · exact ⟨hcol, hrow⟩

/-- R366: the machine with a launch's segments free and its saved contexts gone. -/
def State.unseated (s : State) (lid : Nat) : State :=
  { s.freeSegments lid with saves := s.saves.filter fun x => x.ctx.lid != lid }

/-- R366: a launch on another shape and origin, to be seated again and resumed at a point. -/
def Launch.reseated (m : Launch) (shape rows cols col row point : Nat) (tasks : List Task) (carry : List (Nat × Word)) : Launch :=
  { m with rows := rows, cols := cols, shape := shape, col0 := col, row0 := row, admitted := false, t0 := 0, tasks := tasks
           resumeAt := some point, carry := carry }

/-- R366: the tasks of a launch at another shape and origin, none started. -/
def State.tasksAt (s : State) (l : Launch) (shape rows cols col row : Nat) : List Task :=
  (s.regionCores { l with rows := rows, cols := cols, shape := shape, col0 := col, row0 := row }).map
    fun x => ⟨x.1, x.2, .notStarted, none⟩

/-- R366: the launch moved, the registers that the point names carried from its first task. -/
def State.migrated (s : State) (l : Launch) (i : Image) (lid shape point rows cols col row : Nat) : State :=
  let tasks := (s.unseated lid).tasksAt l shape rows cols col row
  (s.unseated lid).onLaunch lid fun m => m.reseated shape rows cols col row point tasks (s.carried l i point)

/-- R366: what is carried depends on the launch by its id alone. -/
theorem State.carried_congr {m : Launch} (h : m.lid = l.lid) (i : Image) (e : Nat) : s.carried m i e = s.carried l i e := by
  unfold State.carried
  rw [h]

theorem State.lid_of_launchOf (h : s.launchOf lid = some l) : l.lid = lid := by simpa using List.find?_some h

theorem State.onLaunch_congr {f g : Launch → Launch} (h : ∀ m, m.lid = lid → f m = g m) : s.onLaunch lid f = s.onLaunch lid g := by
  have hmap : (s.launches.map fun l => if l.lid = lid then f l else l) = s.launches.map fun l => if l.lid = lid then g l else l :=
    List.map_congr_left fun m _ => by
      split
      · next hm => exact h m hm
      · rfl
  exact congrArg (fun ls => { s with launches := ls }) hmap

variable (hl : s.launchOf lid = some l)
include hl

/-- R366: the launch that moves is the one whose registers are carried. -/
theorem State.migrated_carries (rows cols col row : Nat) : s.migrated l i lid shape point rows cols col row =
    let tasks := (s.unseated lid).tasksAt l shape rows cols col row
    (s.unseated lid).onLaunch lid fun m => m.reseated shape rows cols col row point tasks (s.carried m i point) :=
  State.onLaunch_congr fun m hm => by rw [State.carried_congr (hm.trans (State.lid_of_launchOf hl).symm)]

variable (hi : s.imageOf l = some i)
include hi

theorem execMigrationResume_notOut (h : s.allOut lid l = false) : execMigrationResume lid shape point s = .next s := by
  unfold execMigrationResume
  rw [hl]
  dsimp only
  rw [hi]
  exact if_pos (congrArg not h)

variable (hout : s.allOut lid l = true)
include hout

/-- R366: the launch moves to a shape that has the point and fits where it is put; otherwise it runs on where its shape is its own. -/
theorem execMigrationResume_out :
    let e := i.extentOf l shape
    let o := s.pickedOrigin l e.1 e.2
    execMigrationResume lid shape point s =
      if l.allAt point && i.pointAt point shape != 0x1FFF && decide (0 < e.1 * e.2) && decide (o.1 + e.2 ≤ 200)
          && decide (o.2 + e.1 ≤ 200) then .next (s.migrated l i lid shape point e.1 e.2 o.1 o.2).poke
      else if shape = l.shape then
        .next ((s.onLaunch lid fun l => { l with tasks := l.tasks.map fun t => { t with point := none } }).poke)
      else .next s := by
  unfold execMigrationResume
  rw [hl]
  dsimp only
  rw [hi]
  exact if_neg (Bool.eq_false_iff.mp (congrArg not hout))

theorem execMigrationResume_own (h : l.allAt point = false) : execMigrationResume lid l.shape point s =
    .next ((s.onLaunch lid fun l => { l with tasks := l.tasks.map fun t => { t with point := none } }).poke) := by
  refine (execMigrationResume_out hl hi hout).trans ((if_neg ?_).trans (if_pos rfl))
  simp only [h, Bool.false_and, Bool.false_eq_true, not_false_eq_true]

theorem execMigrationResume_migrates (hsame : l.allAt point = true) {rows cols : Nat} (hext : i.extentOf l shape = (rows, cols))
    (hpoint : i.pointAt point shape ≠ 0x1FFF) (harea : 0 < rows * cols)
    (hcol : (s.pickedOrigin l rows cols).1 + cols ≤ 200) (hrow : (s.pickedOrigin l rows cols).2 + rows ≤ 200) :
    execMigrationResume lid shape point s = .next (s.migrated l i lid shape point rows cols (s.pickedOrigin l rows cols).1
      (s.pickedOrigin l rows cols).2).poke := by
  refine (execMigrationResume_out hl hi hout).trans ?_
  rw [hext]
  refine if_pos ?_
  simp only [hsame, bne_iff_ne.mpr hpoint, harea, hcol, hrow, decide_true, Bool.and_self]

end

/-- Settles O46: swaps and pre-emption by what the core is doing, a debit by what remains, a close by what is left to abort, a migration
by where its tasks stopped. -/
theorem launchesArePreemptedDebitedAndClosed : Obligations.LaunchesArePreemptedDebitedAndClosed := by
  refine ⟨?swap, ?point, ?budget, ?close, ?migrate⟩
  case swap =>
    intro s cid k busy
    refine ⟨fun b hb => execSaggerSwap_swaps hb, fun b hb => execSaggerSwap_waits hb, execSaggerSwap_alone, execFullPreemption_spilling,
      fun hjobs => ⟨fun lid n => execFullPreemption_goesOn hjobs, execFullPreemption_busy hjobs, fun b hs hf hd hb hq => ?quiet,
        fun b hs hf hd hb hq => ?unquiet, execFullPreemption_takesIn hjobs, fun hs hf hd hlive hb hdark => ?out,
        fun hs hf hd hlive hb hlit => ?lit⟩⟩
    case quiet => exact (execFullPreemption_drains hjobs hs hf hd hb).trans (if_pos hq)
    case unquiet => exact (execFullPreemption_drains hjobs hs hf hd hb).trans (if_neg (Bool.eq_false_iff.mp hq))
    case out => exact (execFullPreemption_victim hjobs hs hf hd hlive hb).trans (if_pos hdark)
    case lit => exact (execFullPreemption_victim hjobs hs hf hd hlive hb).trans (if_neg (Bool.eq_false_iff.mp hlit))
  case point =>
    intro s cid l k marked hl hlive hswap hrun halone htold
    have h : s.MayStop cid l := ⟨hl, hlive, hswap, hrun, halone, htold⟩
    exact ⟨execEquivalenceStop_circuits h, execEquivalenceStop_notYet h, fun e hdark => execEquivalenceStop_stops h hdark⟩
  case budget =>
    intro s lid cones l hl hb m dropped told out
    refine ⟨execBudgetDebit_remains hl hb, fun h hlow => ?drops, fun h hhigh => ?last⟩
    case drops => exact (execBudgetDebit_exhausts hl hb h).trans (by rw [if_pos hlow]; rfl)
    case last => exact (execBudgetDebit_exhausts hl hb h).trans (by rw [if_neg (Nat.not_lt.mpr hhigh)]; rfl)
  case close =>
    intro s lid l hl t aborting told gone
    exact ⟨execLaunchClose_aborting hl, execLaunchClose_alone hl, fun g n hover hdone => execLaunchClose_node hl hover hdone,
      execLaunchClose_running hl⟩
  case migrate =>
    intro s lid shape point l i hl hi out same
    refine ⟨fun hout => ?notOut, fun hout happart => ?own,
      fun rows cols ws hout hsame hshaped hshape hpoint harea hcol hrow => ?migrates⟩
    case notOut => exact execMigrationResume_notOut hl hi (Bool.eq_false_iff.mpr hout)
    case own => exact execMigrationResume_own hl hi hout (Bool.eq_false_iff.mpr happart)
    case migrates =>
      obtain ⟨hfitCol, hfitRow⟩ := s.pickedOrigin_fits hcol hrow
      have moves := execMigrationResume_migrates hl hi hout hsame (Image.extentOf_shaped hshaped hshape) hpoint harea hfitCol hfitRow
      rw [State.migrated_carries hl] at moves
      exact ⟨_, _, hfitCol, hfitRow, moves⟩

end Sys2Proof.Machine
end

section
/-! PROOFS. Kernel graphs: a node of each kind that is ready, a copy piece by piece, and a node that completes (16 R367, R368): O47. -/

namespace Sys2Proof.Machine

section
variable {s : State} {gid n : Nat} {w : List Nat} {g : Graph}

/-! Nodes that read no word of their own: barrier and end -/

theorem execGraphBarrierNode_completes (hn : s.firstNode 2 false = some (gid, n, w)) :
    execGraphBarrierNode s = .next (s.completeNode gid n (nodeSuccs w)) := by
  simp only [execGraphBarrierNode, hn]

theorem execGraphEndNode_ends (hn : s.firstNode 5 false = some (gid, n, w)) : execGraphEndNode s = .next (s.endGraph gid 0) := by
  simp only [execGraphEndNode, hn]

variable (hg : s.graphOf gid = some g)
include hg

theorem State.endGraph_writes (word : Nat) : s.endGraph gid word =
    { s.vaWrite g.asid g.done (toBytes 8 (2 ^ 63 + word)) with graphs := s.graphs.filter (·.gid != gid) } := by
  simp only [State.endGraph, hg]

/-! Kernel nodes -/

section
variable (hn : s.firstNode 0 false = some (gid, n, w)) {t : State}
include hn

theorem execGraphKernelNode_runs {lid : Nat} (h : s.submit g.asid (w.getD 2 0) 0 none (some (gid, n)) = (t, .ok lid)) :
    execGraphKernelNode s = .next (t.onNode gid n (·.begin none)) := by
  simp only [execGraphKernelNode, hn, hg, Option.map_some, Option.getD_some, h]

theorem execGraphKernelNode_refused {reason : Nat}
    (h : s.submit g.asid (w.getD 2 0) 0 none (some (gid, n)) = (t, .error reason)) :
    execGraphKernelNode s = .next (t.refuseNode gid n reason) := by
  simp only [execGraphKernelNode, hn, hg, Option.map_some, Option.getD_some, h]

end

/-! Nodes that read a word: conditions and loops -/

section
variable (hn : s.firstNode 3 false = some (gid, n, w))
include hn

theorem execGraphCondNode_takes {v : Nat} (h : s.vaNat g.asid (w.getD 2 0) 8 = some v) :
    execGraphCondNode s = .next ((s.vaTouched g.asid (w.getD 2 0) 8).completeNode gid n
      ([nodeSucc w (if v = 0 then 1 else 0)].filter (· != 0xFFFF))) := by
  simp only [execGraphCondNode, hn, hg, Option.map_some, Option.getD_some, h]

theorem execGraphCondNode_unread (h : s.vaNat g.asid (w.getD 2 0) 8 = none) :
    execGraphCondNode s = .next ((s.vaTouched g.asid (w.getD 2 0) 8).refuseNode gid n 8) := by
  simp only [execGraphCondNode, hn, hg, Option.map_some, Option.getD_some, h]

end

section
variable (hn : s.firstNode 4 false = some (gid, n, w))
include hn

theorem execGraphLoopNode_iterates {k : Nat} (h : s.vaNat g.asid (w.getD 2 0) 8 = some (k + 1)) :
    execGraphLoopNode s
      = .next (((s.vaTouched g.asid (w.getD 2 0) 8).onNode gid n (·.begin (some (k + 1)))).iterate gid w) := by
  simp only [execGraphLoopNode, hn, hg, Option.map_some, Option.getD_some, h]

theorem execGraphLoopNode_skips (h : s.vaNat g.asid (w.getD 2 0) 8 = some 0) :
    execGraphLoopNode s = .next ((s.vaTouched g.asid (w.getD 2 0) 8).completeNode gid n (nodeSuccs w)) := by
  simp only [execGraphLoopNode, hn, hg, Option.map_some, Option.getD_some, h]

theorem execGraphLoopNode_unread (h : s.vaNat g.asid (w.getD 2 0) 8 = none) :
    execGraphLoopNode s = .next ((s.vaTouched g.asid (w.getD 2 0) 8).refuseNode gid n 8) := by
  simp only [execGraphLoopNode, hn, hg, Option.map_some, Option.getD_some, h]

end

/-! Copies -/

/-- R368: how many bytes of a copy node have been copied. -/
def Graph.copied (g : Graph) (n : Nat) : Nat := (g.node n).left.getD 0

/-- R368: the bytes of a copy node's next piece, within one sector on each side. -/
def Graph.pieceLen (g : Graph) (n : Nat) (w : List Nat) : Nat :=
  min (w.getD 4 0 - g.copied n) (min (128 - (w.getD 2 0 + g.copied n) % 128) (128 - (w.getD 3 0 + g.copied n) % 128))

/-- R368: the next piece of a copy node read, with what its reading touches. -/
def State.pieceRead (s : State) (g : Graph) (n : Nat) (w : List Nat) : State × Option (List Byte) :=
  s.vaAccess g.asid (w.getD 2 0 + g.copied n) (g.pieceLen n w)

/-- R368: where a copy node's next piece goes, as the state after its reading translates it. -/
def State.pieceTarget (u : State) (g : Graph) (n : Nat) (w : List Nat) : Except XFault TlbEntry :=
  (u.walk (u.tableRoot g.asid) g.asid (w.getD 3 0 + g.copied n) permW true).2

section
variable (hn : s.firstNode 1 true = some (gid, n, w))
include hn

theorem execGraphCopyNode_unread (h : (s.pieceRead g n w).2 = none) :
    execGraphCopyNode s = .next ((s.pieceRead g n w).1.refuseNode gid n 8) := by
  unfold State.pieceRead Graph.pieceLen Graph.copied at h ⊢
  simp only [execGraphCopyNode, hn, hg, h]

theorem execGraphCopyNode_unplaced {f : XFault} (h : (s.pieceRead g n w).1.pieceTarget g n w = .error f) :
    execGraphCopyNode s = .next ((s.pieceRead g n w).1.refuseNode gid n 8) := by
  cases hread : (s.pieceRead g n w).2 with
  | none => exact execGraphCopyNode_unread hg hn hread
  | some bs =>
    unfold State.pieceTarget State.pieceRead Graph.pieceLen Graph.copied at h
    unfold State.pieceRead Graph.pieceLen Graph.copied at hread ⊢
    simp only [execGraphCopyNode, hn, hg, hread, h]

theorem execGraphCopyNode_copies {bs : List Byte} {e : TlbEntry} (hread : (s.pieceRead g n w).2 = some bs)
    (hplace : (s.pieceRead g n w).1.pieceTarget g n w = .ok e) :
    let v := (s.pieceRead g n w).1.vaWrite g.asid (w.getD 3 0 + g.copied n) bs
    let x := v.onNode gid n (·.begin (some (g.copied n + g.pieceLen n w)))
    execGraphCopyNode s = if g.copied n + g.pieceLen n w = w.getD 4 0
      then .next ((v.onNode gid n (·.begin none)).completeNode gid n (nodeSuccs w))
      else .next (x.fresh.at (x.tick + 1 + Config.homeDelay x.nextId) .graphCopyNode) := by
  unfold State.pieceTarget State.pieceRead Graph.pieceLen Graph.copied at hplace
  unfold State.pieceRead Graph.pieceLen Graph.copied at hread ⊢
  simp only [execGraphCopyNode, hn, hg, hread, hplace]

end

/-! The end of a node -/

theorem execGraphNodeComplete_eq : execGraphNodeComplete gid n s =
    if (g.node n).running then .next (s.completeNode gid n (((s.nodeWords g n).map nodeSuccs).getD [])) else .next s := by
  simp only [execGraphNodeComplete, hg]

end

/-- Settles O47: each kind of node by what its word or its record reads as; a copy by whether the piece is the last. -/
theorem graphNodesRun : Obligations.GraphNodesRun := by
  refine ⟨?runs, ?none⟩
  case runs =>
    intro s gid n w g hg touched word
    refine ⟨fun t lid hn => execGraphKernelNode_runs hg hn, fun t reason hn => execGraphKernelNode_refused hg hn,
      execGraphBarrierNode_completes,
      fun v hn => execGraphCondNode_takes hg hn, execGraphCondNode_unread hg, fun k hn => execGraphLoopNode_iterates hg hn,
      execGraphLoopNode_skips hg, execGraphLoopNode_unread hg, fun hn => ?ends, fun hn => ⟨fun bs e hread hplace => ⟨fun hlast => ?last,
        fun hmore => ?more⟩, execGraphCopyNode_unread hg hn, fun f => execGraphCopyNode_unplaced hg hn⟩, fun hrun => ?completes,
      fun hidle => ?idle⟩
    case ends => exact (execGraphEndNode_ends hn).trans (congrArg _ (State.endGraph_writes hg 0))
    case last => exact (execGraphCopyNode_copies hg hn hread hplace).trans (if_pos hlast)
    case more => exact (execGraphCopyNode_copies hg hn hread hplace).trans (if_neg hmore)
    case completes => exact (execGraphNodeComplete_eq hg).trans (if_pos hrun)
    case idle => exact (execGraphNodeComplete_eq hg).trans (if_neg (Bool.eq_false_iff.mp hidle))
  case none =>
    intro s
    refine ⟨fun h => ?_, fun h => ?_, fun h => ?_, fun h => ?_, fun h => ?_, fun h => ?_⟩
    · exact show execGraphKernelNode s = .next s by rw [execGraphKernelNode, h]
    · exact show execGraphCopyNode s = .next s by rw [execGraphCopyNode, h]
    · exact show execGraphBarrierNode s = .next s by rw [execGraphBarrierNode, h]
    · exact show execGraphCondNode s = .next s by rw [execGraphCondNode, h]
    · exact show execGraphLoopNode s = .next s by rw [execGraphLoopNode, h]
    · exact show execGraphEndNode s = .next s by rw [execGraphEndNode, h]

end Sys2Proof.Machine
end

section
/-! PROOFS. Power: the words `pbr` and `pack`, the manager's evaluation, clocks, fabric energy, cluster gating, and margins (18 R390 to
R402): O48. -/

namespace Sys2Proof.Machine

/-! The words (R396, R397) -/

section
variable {s : State} {sd : BitVec 5}

theorem execPack_acks (h : levelSeen s.myDie s.core.tick = 2) (hack : s.myDie.acked = false) :
    execPack sd s = .next ((((s.onDie s.myDie.num fun d => { d with acked := true, ackAt := s.core.tick }).at (s.core.tick + 20000)
      (.demandEpisodeExpiry s.myDie.num)).push 1 (.sreg sd 1)).retire) :=
  if_pos ⟨h, congrArg not hack⟩

theorem execPack_late (h : levelSeen s.myDie s.core.tick ≠ 2 ∨ s.myDie.acked = true) :
    execPack sd s = .next (s.push 1 (.sreg sd 0)).retire :=
  if_neg fun ⟨hlevel, hack⟩ => h.elim (absurd hlevel) fun ht => Bool.eq_false_iff.mp (congrArg not ht) hack

end

/-! The manager (R390 to R394) -/

section
variable {s : State} {die mw : Nat}

theorem execPowerEvaluation_stays (h : (s.die die).levelAfter mw = (s.die die).level) :
    execPowerEvaluation die mw s = .next (s.onDie die fun d => { d with skip := d.skipAfter s.tick }) :=
  if_pos h

section
variable (h : (s.die die).levelAfter mw ≠ (s.die die).level)
include h

theorem execPowerEvaluation_demands (h2 : (s.die die).levelAfter mw = 2) : execPowerEvaluation die mw s =
    .next ((s.onDie die fun d => (d.rise 2 s.tick).beginEpisode s.tick).at (s.tick + 10000) (.demandEpisodeExpiry die)) := by
  refine (if_neg h).trans ((if_pos h2).trans ?_)
  rw [h2]

theorem execPowerEvaluation_relents (h2 : (s.die die).levelAfter mw ≠ 2) (hwas : (s.die die).level = 2) :
    execPowerEvaluation die mw s
      = .next (s.onDie die fun d => (d.rise ((s.die die).levelAfter mw) s.tick).endEpisode s.tick) :=
  (if_neg h).trans ((if_neg h2).trans (if_pos hwas))

theorem execPowerEvaluation_moves (h2 : (s.die die).levelAfter mw ≠ 2) (hwas : (s.die die).level ≠ 2) :
    execPowerEvaluation die mw s = .next (s.onDie die fun d => d.rise ((s.die die).levelAfter mw) s.tick) :=
  (if_neg h).trans ((if_neg h2).trans (if_neg hwas))

end

section
variable {t : Nat} (h : (s.die die).forceAt = some t)
include h

theorem execDemandEpisodeExpiry_forces (ht : t ≤ s.tick) : execDemandEpisodeExpiry die s =
    .next (s.onDie die fun d => { d with forced := some (s.tick, d.skip), skip := 4, skips := d.skips + 1 }) := by
  unfold execDemandEpisodeExpiry
  rw [h]
  exact if_pos ht

theorem execDemandEpisodeExpiry_early (ht : s.tick < t) : execDemandEpisodeExpiry die s = .next s := by
  unfold execDemandEpisodeExpiry
  rw [h]
  exact if_neg (Nat.not_le.mpr ht)

end

end

/-! Cluster gating (R399 to R401) -/

section
variable {s : State} {die c : Nat}

/-- R399, R400: gating of the cluster has begun and it is not awake again. -/
def Cluster.away (k : Cluster) : Prop := k.clkoff = true ∨ k.gating = true ∨ k.retained = true

theorem Cluster.not_away {k : Cluster} (hclk : k.clkoff = false) (hgating : k.gating = false) (hret : k.retained = false) : ¬k.away := by
  simp [Cluster.away, hclk, hgating, hret]

/-- R399: a core of the cluster holds a task or a swapped-out context. -/
def State.clusterHolds (s : State) (die c : Nat) : Bool := (s.clusterCores die c).any fun x => x.ctx.held || x.bank.isSome

theorem execClusterClosing_away (h : (s.cluster die c).away) (value : Bool) : execClusterClosing die c value s = .next s := if_pos h

section
variable (h : ¬(s.cluster die c).away)
include h

theorem execClusterClosing_clears : execClusterClosing die c false s
    = .next (s.onCluster die c fun k => { k with closing := false, drained := false }) :=
  (if_neg h).trans (if_pos rfl)

theorem execClusterClosing_checks (hclosing : (s.cluster die c).closing = true) :
    execClusterClosing die c true s = .next (s.drainCheck die c) :=
  (if_neg h).trans ((if_neg Bool.false_ne_true).trans (if_pos hclosing))

theorem execClusterClosing_holds (hopen : (s.cluster die c).closing = false) (hheld : s.clusterHolds die c = true) :
    execClusterClosing die c true s = .next s :=
  (if_neg h).trans ((if_neg Bool.false_ne_true).trans ((if_neg (Bool.eq_false_iff.mp hopen)).trans (if_pos hheld)))

theorem execClusterClosing_closes (hopen : (s.cluster die c).closing = false) (hfree : s.clusterHolds die c = false) :
    execClusterClosing die c true s = .next ((s.onCluster die c fun k =>
      { k with closing := true, closedAt := s.tick, drained := false }).at (s.tick + 1) (.clusterClosing die c true)) :=
  (if_neg h).trans ((if_neg Bool.false_ne_true).trans ((if_neg (Bool.eq_false_iff.mp hopen)).trans
    (if_neg (Bool.eq_false_iff.mp hfree))))

end

/-- R399, R400: a cluster that has closed and drained, and is not gated yet. -/
def Cluster.mayGate (k : Cluster) : Prop := k.closing = true ∧ k.drained = true ∧ k.gating = false ∧ k.retained = false

theorem Cluster.mayGate_iff {k : Cluster} :
    (k.closing = true ∧ k.drained = true ∧ (!k.gating) = true ∧ (!k.retained) = true) ↔ k.mayGate := by
  simp only [Cluster.mayGate, Bool.not_eq_true']

theorem Cluster.not_mayGate_iff {k : Cluster} :
    (k.closing = false ∨ k.drained = false ∨ k.gating = true ∨ k.retained = true) ↔ ¬k.mayGate := by
  simp only [Cluster.mayGate, not_and_or, Bool.not_eq_true, Bool.not_eq_false]

theorem execClusterGate_gates (h : (s.cluster die c).mayGate) : execClusterGate die c s
    = .next ((s.onCluster die c fun k => { k with gating := true }).at (s.tick + 100) (.clusterGateProgress die c)) :=
  if_pos (Cluster.mayGate_iff.mpr h)

theorem execClusterGate_kept (h : ¬(s.cluster die c).mayGate) : execClusterGate die c s = .next s := if_neg (mt Cluster.mayGate_iff.mp h)

theorem execClusterGateProgress_idle (h : (s.cluster die c).gating = false) : execClusterGateProgress die c s = .next s :=
  if_pos (congrArg not h)

/-- R400: a cluster whose rail is off: what is not retained is lost. -/
def State.railOff (s : State) (die c : Nat) : State :=
  ((s.clusterCores die c).foldl (fun s x => s.onCore x.cid Core.loseLogic) s).onCluster die c fun k =>
    { k with railoff := true, gating := false }

section
variable (h : (s.cluster die c).gating = true)
include h

theorem execClusterGateProgress_retains (hret : (s.cluster die c).retained = false) : execClusterGateProgress die c s
    = .next ((s.onCluster die c fun k => { k with retained := true }).at (s.tick + 10) (.clusterGateProgress die c)) :=
  (if_neg (Bool.eq_false_iff.mp (congrArg not h))).trans (if_pos (congrArg not hret))

variable (hret : (s.cluster die c).retained = true)
include hret

theorem execClusterGateProgress_stops (hclk : (s.cluster die c).clkoff = false) : execClusterGateProgress die c s
    = .next ((s.onCluster die c fun k => { k with clkoff := true }).at (s.tick + 500) (.clusterGateProgress die c)) :=
  (if_neg (Bool.eq_false_iff.mp (congrArg not h))).trans
    ((if_neg (Bool.eq_false_iff.mp (congrArg not hret))).trans (if_pos (congrArg not hclk)))

theorem execClusterGateProgress_darkens (hclk : (s.cluster die c).clkoff = true) : execClusterGateProgress die c s
    = .next (if (s.cluster die c).waking then (s.railOff die c).startWake die c else s.railOff die c) :=
  (if_neg (Bool.eq_false_iff.mp (congrArg not h))).trans
    ((if_neg (Bool.eq_false_iff.mp (congrArg not hret))).trans (if_neg (Bool.eq_false_iff.mp (congrArg not hclk))))

end

/-- R401: a wake has something to do: none runs, and the cluster is gated or being gated. -/
theorem State.wake_skips
    (h : (s.cluster die c).waking = true ∨ ((s.cluster die c).gating = false ∧ (s.cluster die c).railoff = false)) :
    s.wake die c = s :=
  if_pos (by simpa using h)

section
variable (h : (s.cluster die c).waking = false)
include h

theorem State.wake_starts (hrail : (s.cluster die c).railoff = true) :
    s.wake die c = (s.onCluster die c fun k => { k with waking := true }).at (s.tick + 1500) (.clusterWakeProgress die c) :=
  (if_neg (by simp [h, hrail])).trans (if_pos hrail)

theorem State.wake_noted (hrail : (s.cluster die c).railoff = false) (hgating : (s.cluster die c).gating = true) :
    s.wake die c = s.onCluster die c fun k => { k with waking := true } :=
  (if_neg (by simp [h, hgating])).trans (if_neg (Bool.eq_false_iff.mp hrail))

end

theorem execClusterWakeProgress_idle (h : (s.cluster die c).waking = false ∨ (s.cluster die c).gating = true) :
    execClusterWakeProgress die c s = .next s :=
  if_pos (h.imp_left (congrArg not ·))

section
variable (h : (s.cluster die c).waking = true) (hgating : (s.cluster die c).gating = false)
include h hgating

theorem Cluster.wakes : ¬((!(s.cluster die c).waking) = true ∨ (s.cluster die c).gating = true) := by simp [h, hgating]

theorem execClusterWakeProgress_rail (hrail : (s.cluster die c).railoff = true) : execClusterWakeProgress die c s
    = .next ((s.onCluster die c fun k => { k with railoff := false }).at (s.tick + 100) (.clusterWakeProgress die c)) :=
  (if_neg (Cluster.wakes h hgating)).trans (if_pos hrail)

variable (hrail : (s.cluster die c).railoff = false)
include hrail

theorem execClusterWakeProgress_clock (hclk : (s.cluster die c).clkoff = true) : execClusterWakeProgress die c s
    = .next ((s.onCluster die c fun k => { k with clkoff := false }).at (s.tick + 400) (.clusterWakeProgress die c)) :=
  (if_neg (Cluster.wakes h hgating)).trans ((if_neg (Bool.eq_false_iff.mp hrail)).trans (if_pos hclk))

theorem execClusterWakeProgress_awake (hclk : (s.cluster die c).clkoff = false) : execClusterWakeProgress die c s
    = .next ((s.onCluster die c fun k => { k with retained := false, closing := false, drained := false, waking := false }).poke) :=
  (if_neg (Cluster.wakes h hgating)).trans
    ((if_neg (Bool.eq_false_iff.mp hrail)).trans (if_neg (Bool.eq_false_iff.mp hclk)))

end

end

/-! Margins (R402) -/

/-- R402: a new plan published. -/
def State.replanned (s : State) (die fmax vg hours : Nat) : State :=
  s.onDie die fun d => { d with margin := BitVec.ofNat 64 (fmax * 2 ^ 52 + vg % 2 ^ 12 * 2 ^ 24 + hours % 2 ^ 24) }

/-- R402, R453: every core of a die that is not retired asked to be. -/
def State.retireDie (s : State) (die : Nat) : State :=
  ((List.range 100).filter fun i => !s.retired (die * 128 + i)).foldl (fun s i => s.post (.coreRetire (die * 128 + i))) s

section
variable {s : State} {die fmax vg hours : Nat} (hmax : fmax ≤ 2000)
include hmax

theorem execMarginReplan_retires (h : fmax < 800) :
    execMarginReplan die fmax vg hours s = .next ((s.replanned die fmax vg hours).retireDie die) := by
  unfold execMarginReplan
  rw [Nat.min_eq_left hmax]
  exact if_pos h

variable (hlow : 800 ≤ fmax)
include hlow

theorem execMarginReplan_within (h : ((s.replanned die fmax vg hours).die die).fmhz ≤ fmax) :
    execMarginReplan die fmax vg hours s = .next (s.replanned die fmax vg hours) := by
  unfold execMarginReplan
  rw [Nat.min_eq_left hmax]
  exact (if_neg (Nat.not_lt.mpr hlow)).trans (if_neg (Nat.not_lt.mpr h))

variable (h : fmax < ((s.replanned die fmax vg hours).die die).fmhz)
include h

theorem execMarginReplan_first (ht : ((s.replanned die fmax vg hours).die die).changedAt = none) :
    execMarginReplan die fmax vg hours s
      = .next ((s.replanned die fmax vg hours).post (.frequencyChange die (fmax / 50 * 50))) := by
  unfold State.replanned at h ht ⊢
  unfold execMarginReplan
  rw [Nat.min_eq_left hmax]
  refine (if_neg (Nat.not_lt.mpr hlow)).trans ((if_pos h).trans (congrArg _ ?_))
  rw [ht]

theorem execMarginReplan_later {t : Nat} (ht : ((s.replanned die fmax vg hours).die die).changedAt = some t) :
    execMarginReplan die fmax vg hours s = .next (if (s.replanned die fmax vg hours).tick < t + 10000
      then (s.replanned die fmax vg hours).at (t + 10000) (.frequencyChange die (fmax / 50 * 50))
      else (s.replanned die fmax vg hours).post (.frequencyChange die (fmax / 50 * 50))) := by
  unfold State.replanned at h ht ⊢
  unfold execMarginReplan
  rw [Nat.min_eq_left hmax]
  refine (if_neg (Nat.not_lt.mpr hlow)).trans ((if_pos h).trans (congrArg _ ?_))
  rw [ht]

end

/-- Settles O48: the words and the manager by the level, a cluster by the step of its gating or waking, a plan by its FMAX and the last
change. -/
theorem powerWordsAndEvents : Obligations.PowerWordsAndEvents := by
  refine ⟨?words, ?manager, ?fabric, ?cluster, ?margin⟩
  case words =>
    intro s pd lvl sd me seen
    refine ⟨fun hpd h0 h3 => if_neg ?_, fun h => if_pos h, execPack_acks, execPack_late⟩
    exact not_or.mpr ⟨hpd, not_or.mpr ⟨h0, h3⟩⟩
  case manager =>
    intro s die mw d after
    exact ⟨execPowerEvaluation_stays, execPowerEvaluation_demands, execPowerEvaluation_relents, execPowerEvaluation_moves,
      fun t => execDemandEpisodeExpiry_forces, fun t => execDemandEpisodeExpiry_early, rfl, rfl, fun mhz hok => if_pos hok,
      fun mhz hno => if_neg (Bool.eq_false_iff.mp hno)⟩
  case fabric =>
    intro s mw total shares shared listed marked
    exact ⟨fun hfew => if_pos hfew, fun hmuch => if_neg (Nat.not_le.mpr hmuch)⟩
  case cluster =>
    intro s die c k
    refine ⟨fun hclk hg hr hopen => ?closes, fun hclk hg hr => ?checks, fun hclk hg hr => ?clears,
      fun hclosing hdrained hg hr => execClusterGate_gates ⟨hclosing, hdrained, hg, hr⟩,
      fun h => execClusterGate_kept (Cluster.not_mayGate_iff.mp h), execClusterGateProgress_retains, execClusterGateProgress_stops,
      execClusterClosing_away, fun hclk hg hr hopen => ?holds, execClusterGateProgress_darkens, execClusterGateProgress_idle,
      fun h => congrArg _ (State.wake_skips h), execClusterWakeProgress_idle, fun h hrail => congrArg _ (State.wake_starts h hrail),
      fun h hrail hg => congrArg _ (State.wake_noted h hrail hg), execClusterWakeProgress_rail, execClusterWakeProgress_clock,
      execClusterWakeProgress_awake⟩
    case closes => exact execClusterClosing_closes (Cluster.not_away hclk hg hr) hopen
    case checks => exact execClusterClosing_checks (Cluster.not_away hclk hg hr)
    case clears => exact execClusterClosing_clears (Cluster.not_away hclk hg hr)
    case holds => exact execClusterClosing_holds (Cluster.not_away hclk hg hr) hopen
  case margin =>
    intro s die fmax vg hours hmax s' d lower
    refine ⟨execMarginReplan_retires hmax, execMarginReplan_first hmax, fun t hlow hover ht hlate => ?due,
      fun t hlow hover ht hsoon => ?waits, execMarginReplan_within hmax⟩
    case due => exact (execMarginReplan_later hmax hlow hover ht).trans (congrArg _ (if_neg (Nat.not_lt.mpr hlate)))
    case waits => exact (execMarginReplan_later hmax hlow hover ht).trans (congrArg _ (if_pos hsoon))

end Sys2Proof.Machine
end

section
/-! PROOFS. Debug: stops, resumption and steps, machine checks, and the retirement of a core (19 R403 to R414; 17 R389; 20 R422; 23 R453):
O49. -/

namespace Sys2Proof.Machine

/-! Stops, resumption and steps (R404 to R408) -/

section
variable {s : State} {cid : Nat}

/-- R405: the other cores of a core's die that have a property. -/
def State.dieMates (s : State) (cid : Nat) (p : Core → Bool) : List Nat :=
  ((s.core :: s.others).filter fun k => k.cid / 128 == cid / 128 && k.cid != cid && p k).map (·.cid)

theorem execDebugStopreq_alone (h : (s.coreOf cid).dbg.zone = false) : execDebugStopreq cid s = .next (s.askStop cid) := by
  unfold execDebugStopreq
  dsimp only
  rw [if_neg (Bool.eq_false_iff.mp h)]
  rfl

theorem execDebugStopreq_zone (h : (s.coreOf cid).dbg.zone = true) : execDebugStopreq cid s =
    .next ((s.dieMates cid (·.clocked)).foldl (fun s p => s.stopCore p 4) (s.askStop cid)) := by
  unfold execDebugStopreq
  dsimp only
  rw [if_pos h]
  rfl

theorem State.resumeCore_stopped (h : (s.coreOf cid).dbg.stopped = true) :
    s.resumeCore cid = (((s.focus cid).syncClock cid true).unfreeze).haltEnds :=
  if_neg (Bool.eq_false_iff.mp (congrArg not h))

theorem State.resumeCore_running (h : (s.coreOf cid).dbg.stopped = false) : s.resumeCore cid = s := if_pos (congrArg not h)

/-- R408: a core as its step begins: what is in flight is told apart from what the word will start. -/
def Core.stepFrom (mark : Nat) (k : Core) : Core := { k with
  ctx := { k.ctx with pend := k.ctx.pend.map fun p => if p.uid = none then { p with uid := some mark } else p }
  dbg := { k.dbg with stepping := true, stepIssued := false, stepPc := k.ctx.sq.pc, stepCyc := 0, stepMark := mark + 1 } }

theorem State.beginStep_stopped (h : (s.coreOf cid).dbg.stopped = true) :
    s.beginStep cid = (s.resumeCore cid).fresh.onCore cid (Core.stepFrom (s.resumeCore cid).nextId) :=
  if_neg (Bool.eq_false_iff.mp (congrArg not h))

theorem State.beginStep_running (h : (s.coreOf cid).dbg.stopped = false) : s.beginStep cid = s := if_pos (congrArg not h)

theorem execDebugStep_alone (h : (s.coreOf cid).dbg.zone = false) : execDebugStep cid s = .next (s.beginStep cid) := by
  unfold execDebugStep
  dsimp only
  rw [if_neg (Bool.eq_false_iff.mp h)]
  rfl

theorem execDebugStep_zone (h : (s.coreOf cid).dbg.zone = true) : execDebugStep cid s =
    .next ((s.dieMates cid (·.dbg.stopped) ++ [cid]).foldl (fun s c => s.beginStep c) s) := by
  unfold execDebugStep
  dsimp only
  rw [if_pos h]
  rfl

end

/-! Retirement (R453) -/

/-- R453: the tasks of a core end by fault, the one in the sagger's bank too. -/
def State.bothEnded (s : State) (cid : Nat) : State :=
  let one := (s.focus cid).checkEnd
  if one.core.bank.isSome then (one.exchange.checkEnd).exchange else one

/-- R453: the core stands in the map of retired cores. -/
def State.listed (s : State) (cid : Nat) : State := { s with fuses := { s.fuses with cores := s.fuses.cores ++ [coreBit cid] } }

/-- R261, R274, R291: the core is excused from its barriers, and the locks and groups it held are looked at again. -/
def State.buried (s : State) (cid : Nat) : State :=
  (s.excuse (cid / 128) (cid % 128) none).buryHolders fun w => w == s.conn.modnum * 2 ^ 16 + cid

/-- R453: the contexts on the focus core that belong to a task. -/
def State.heldHere (s : State) : List Ctx := (s.core.ctx :: s.core.bank.toList).filter (·.held)

/-- R453: the completion entries of tasks whose core is retired. -/
def State.entriesRetired (s : State) (cid : Nat) (held : List Ctx) : State := held.foldl (fun s c => s.entryRetired cid c) s

/-- R453: the launches of the tasks that the core held are looked at again. -/
def State.reviewLaunches (s : State) (held : List Ctx) : State := held.foldl (fun s c => s.post (.launchClose c.lid)) s

/-- R424, R453: the map entry of a retired core, with the launch whose task it held. -/
def State.mapRetired (s : State) (cid : Nat) : State :=
  match s.launchOf s.core.ctx.lid with
  | some l => if s.core.ctx.held then s.mapWrite cid 4 l else s.mapPut cid 0 4 0
  | none => s.mapPut cid 0 4 0

section
variable {s : State} {cid : Nat}

theorem State.mapRetired_launch {l : Launch} (hl : s.launchOf s.core.ctx.lid = some l) (hheld : s.core.ctx.held = true) :
    s.mapRetired cid = s.mapWrite cid 4 l := by
  unfold State.mapRetired
  rw [hl]
  exact if_pos hheld

theorem State.mapRetired_vacant (h : s.launchOf s.core.ctx.lid = none ∨ s.core.ctx.held = false) :
    s.mapRetired cid = s.mapPut cid 0 4 0 := by
  unfold State.mapRetired
  split
  · next l hl =>
    have hfree : s.core.ctx.held = false := h.resolve_left (hl ▸ Option.some_ne_none l)
    exact if_neg (Bool.eq_false_iff.mp hfree)
  · rfl

theorem execCoreRetire_again (h : s.retired cid = true) : execCoreRetire cid s = .next s := if_pos h

/-- R453: the steps of a retirement: the tasks end, the core enters the map and is buried, entries and map entry follow, and the launches
are looked at again. -/
theorem execCoreRetire_retires {both buried told : State} (h : s.retired cid = false) (hboth : s.bothEnded cid = both)
    (hburied : (both.listed cid).buried cid = buried) (htold : buried.entriesRetired cid buried.heldHere = told) :
    execCoreRetire cid s = .next ((told.mapRetired cid).reviewLaunches buried.heldHere) := by
  unfold execCoreRetire
  rw [if_neg (Bool.eq_false_iff.mp h)]
  extract_lets one ended fuses listed out held entries
  have hended : ended = both := hboth
  clear_value ended
  subst hended
  have hout : out = buried := hburied
  clear_value out
  subst hout
  have hentries : entries = told := htold
  clear_value entries
  subst hentries
  rfl

end

/-- Settles O49: a stop, a resumption or a step by whether the core is stopped and in a zone, a retirement by what the core held. -/
theorem debugEventsStopAndGoOn : Obligations.DebugEventsStopAndGoOn := by
  refine ⟨?debug, ?retire⟩
  case debug =>
    intro s cid k alone asked
    refine ⟨execDebugStopreq_alone, fun hzone => execDebugStopreq_zone (Bool.not_eq_false _ ▸ hzone), fun hstop => ?resumes,
      fun hrun => congrArg _ (State.resumeCore_running hrun), fun halone hstop => ?steps, fun halone hrun => ?kept,
      fun hzone => execDebugStep_zone (Bool.not_eq_false _ ▸ hzone), fun hat => congrArg _ (if_pos hat),
      fun hat => congrArg _ (if_neg (Bool.eq_false_iff.mp hat)), rfl, rfl, rfl, fun hdead => ?logged, fun hlive => rfl⟩
    case resumes => exact congrArg _ (State.resumeCore_stopped hstop)
    case steps => exact (execDebugStep_alone halone).trans (congrArg _ (State.beginStep_stopped hstop))
    case kept => exact (execDebugStep_alone halone).trans (congrArg _ (State.beginStep_running hrun))
    case logged => exact congrArg _ (if_pos (congrArg not hdead))
  case retire =>
    intro s cid
    extract_lets one both fuses listed excused buried held told
    have hboth : s.bothEnded cid = both := rfl
    clear_value both
    have hburied : (both.listed cid).buried cid = buried := rfl
    clear_value buried
    have htold : buried.entriesRetired cid buried.heldHere = told := rfl
    clear_value told
    have retires (h : s.retired cid = false) := execCoreRetire_retires h hboth hburied htold
    refine ⟨execCoreRetire_again, fun l h hl hheld => ?launch, fun h hvacant => ?vacant⟩
    case launch => exact (retires h).trans (by rw [State.mapRetired_launch hl hheld]; rfl)
    case vacant => exact (retires h).trans (by rw [State.mapRetired_vacant hvacant]; rfl)

end Sys2Proof.Machine
end
